-- ==== Sys2Proof/Word.lean ====
section
/-! DEFINITION. Word.lean: the plain number types of the model. A register's contents, a message field and an
address are natural numbers kept below the width the spec gives them by the operation that writes them
(`Machine/Bits.lean`); a die, which is also a Halyard port (R18), is one of sixteen. -/

namespace Sys2Proof

/-- A die index, which is also the Halyard port number of its link (R18, R37). -/
abbrev Die := Fin 16

/-- A byte of an octet string. -/
abbrev Octet := Nat

/-- The data of a 256-bit granule (R30, R31) as one number, bit 0 least significant. -/
abbrev GranuleData := Nat

end Sys2Proof
end

