-- ==== Sys2Proof/Syntax.lean ====
section
/-! DEFINITION. Syntax.lean: the commands the tray takes (one constructor for each row of spec/opcode_table.json) and the
messages, writers and answers they carry. -/

namespace Sys2Proof

/-- The roles of R17, the least privileged last. -/
inductive Role where
  | fleet | operator | host
deriving DecidableEq, Repr

/-- Who makes an access (R474): its world (`secure`) and its role. -/
structure Writer where
  secure : Bool
  role : Role
deriving DecidableEq, Repr

/-- Which part an access or an event belongs to: Vager, or the Staris of a die (R499). -/
inductive Part where
  | vager
  | staris (d : Die)
deriving DecidableEq, Repr

/-- The dataset of an IEEE 1588-2019 Announce message that the best master clock algorithm compares (R47, R50). -/
structure PtpDataset where
  priority1 : Nat
  clockClass : Nat
  accuracy : Nat
  variance : Nat
  priority2 : Nat
  identity : Nat
  stepsRemoved : Nat
deriving DecidableEq, Repr

/-- What every PTP message names (R47): its domain, its transport as 0x2102:03 codes it, the clock identity it comes from, its
sequenceId and its logMessageInterval. -/
structure PtpHeader where
  domain : Nat
  transport : Nat
  identity : Nat
  seqId : Nat
  log : Int
deriving DecidableEq, Repr

/-- A PTP message as the management port takes it (R47, R48). Times are nanoseconds of the sender's timescale, corrections units of
2^-16 ns. A Pdelay_Resp gives the time its request was received. -/
inductive PtpMessage where
  | announce (h : PtpHeader) (ds : PtpDataset)
  | sync (h : PtpHeader) (twoStep : Bool) (origin : Nat) (correction : Int)
  | followUp (h : PtpHeader) (origin : Nat) (correction : Int)
  | delayReq (h : PtpHeader)
  | delayResp (h : PtpHeader) (received : Nat) (correction : Int)
  | pdelayReq (h : PtpHeader)
  | pdelayResp (h : PtpHeader) (twoStep : Bool) (received : Nat) (correction : Int)
  | pdelayFollowUp (h : PtpHeader) (origin : Nat) (correction : Int)
  | other
deriving DecidableEq, Repr

/-- A descriptor event at the command-descriptor tap: the fields of R572 but EV, which the command's row gives. -/
structure CdtWord where
  base : Nat
  bytes : Nat
  tag : Nat
  step : Nat
  epoch : Nat
  ectx : Nat
  slot : Nat
  opcode : Nat
  priv : Bool
  sec : Bool
  dseq : Nat
deriving DecidableEq, Repr

/-- A converter result (R93 to R95): a sensor's value already in the units of its object, or a rail's two 12-bit codes. -/
inductive ConverterSample where
  | thermal (n : Fin 64) (value : Int)
  | optical (n : Fin 32) (value : Int)
  | rail (r : Fin 16) (volts : Nat) (amps : Nat)
  | check (channel : Nat) (code : Nat)
deriving DecidableEq, Repr

/-- The kinds of margining pass (R98). -/
inductive MarginKind where
  | voltage | timing | optical
deriving DecidableEq, Repr

/-- A trace word at a source's boundary (R574). -/
structure TrcWord where
  addr : Nat
  aux : Nat
  opc : Nat
  sec : Bool
  priv : Bool
deriving DecidableEq, Repr

/-- One entry of a Sheet request (R508): the object and node it names, LEN, the segment word's OFFSET, and the data. -/
structure SheetEntry where
  index : Nat
  sub : Nat
  node : Nat
  len : Nat
  offset : Nat
  data : List Nat
deriving DecidableEq, Repr

/-- A Sheet request (R507): its VERSION, OP, TID, STOP and RESEND, whether LENGTH and COUNT agree with the content, and
its entries. -/
structure SheetReq where
  version : Nat
  op : Nat
  tid : Nat
  stop : Bool
  resend : Bool
  sound : Bool
  entries : List SheetEntry
deriving DecidableEq, Repr

/-- One entry of a Sheet response (R508, R510). -/
structure RespEntry where
  index : Nat
  sub : Nat
  node : Nat
  status : Nat
  staged : Bool
  last : Bool
  data : List Nat
  /-- one bit for each 32-byte granule of the data, set where it is poisoned (R513) -/
  poison : Nat
deriving DecidableEq, Repr

/-- A Sheet response (R507). -/
structure SheetResp where
  op : Nat
  tid : Nat
  mstatus : Nat
  entries : List RespEntry
deriving DecidableEq, Repr

/-- An RS(544,514) codeword as it arrives: the 10-bit symbols of each physical lane 0 to 8 in order, and where the decoder fails, the
lane that holds most of its symbols in error, if one holds more than any other (R154, R185). -/
structure LaneWord where
  lanes : List (List Nat)
  worst : Option Nat
deriving DecidableEq, Repr

/-- What has arrived at a receiver by the time of its next flit (R154, R471, R600): the codewords that have come since the flit
before, first one first; how many symbols of the PRBS on the spare lane were in error; and whether the edge FIFO overran and the
flit is lost. -/
structure FlitIn where
  words : List LaneWord
  prbs : Nat
  overrun : Bool
deriving DecidableEq, Repr

/-- An error in HBM (R33, R450): its pseudo-channel, its row, the 4 KiB pages that the row touches, and the bits in error among the
288 of the granule's codeword. -/
structure HbmError where
  channel : Nat
  row : Nat
  pages : List Nat
  flips : Nat
deriving DecidableEq, Repr

/-- An error that a read of a part's memories met, where the command of that read has no operand for it: a granule of an SRAM bank,
corrected or not (R446), or a granule of HBM. -/
inductive MemError where
  | sram (bank : Nat) (uncorrectable : Bool)
  | hbm (granule : Nat) (e : HbmError)
deriving DecidableEq, Repr

/-- What Identify returned (R363): a controller's MDTS in bytes, 0 for no limit, or a namespace's LBA size and metadata size. -/
inductive NvmeIdentify where
  | controller (mdts : Nat)
  | nspace (lba metadata : Nat)
deriving DecidableEq, Repr

/-- How the memories answered one granule of a DMA transfer (R433, R435, R439): what a source outside HBM delivered, whether
the read or the write was refused, and an error that HBM met. -/
structure DmaAccess where
  data : Nat
  poison : Bool
  readRefused : Bool
  writeRefused : Bool
  error : Option HbmError
deriving DecidableEq, Repr

/-- A message of the pod tree (R213): the fabric port and the IPv6 address it came from, its TYPE, which is the one that its command
names or a reserved one, the other fields of the header granule, and the body. -/
structure TreeMsg where
  port : Fin 2
  address : Nat
  type : Nat
  round : Nat
  epoch : Nat
  bseq : Nat
  missing : Nat
  cover : Nat
  src : Nat
  group : Nat
  standing : Bool
  body : List Nat
deriving DecidableEq, Repr

/-- A host aperture of the dictionary (R524, R526): Vager's BAR 0 and BAR 2, and the halves of a Staris window. -/
inductive Aperture where
  | bar0
  | bar2
  | low (d : Die)
  | high (d : Die)
deriving DecidableEq, Repr

/-- A finished DTLS handshake (R489 to R492): whether it kept to R490 and the peer's signatures verify; the trust anchors
to which the peer's certificate chains in at most four certificates; the validity period of the chain in seconds, the
certificate's serial number, and the digest of its key. A management session names the local address it came to (0
link-local, 1 MGMT_IPV6, 2 MGMT_IPV4); a tree or Stay association names the tray expected and the tray in the subject. -/
structure Handshake where
  sound : Bool
  anchors : List (Fin 8)
  notBefore : Nat
  notAfter : Nat
  serial : Nat
  key : List Nat
  address : Nat
  peer : Option Nat
  subject : Nat
deriving DecidableEq, Repr


/-- The commands the tray takes, one constructor for each row of spec/opcode_table.json. Where a command is a write of a
register, `w` is the access it comes by: its world and its role (R474, R475). -/
inductive Instr where
  /-- COUNTER_WRAP (R44). The Lanyard nanosecond field wraps after 2^32 ns, and Vager increments the wrap word of its hardware extended time. -/
  | counterWrap (p : Part)
  /-- INCREMENT_WRITE (R41). A write of the Staris INCREMENT object is refused outside MANUAL or outside the permitted range, and is otherwise applied as the new increment. -/
  | incrementWrite (d : Die) (w : Writer) (value : Nat)
  /-- MODE_WRITE (R603). A write of MODE moves a Staris from UNSET to MANUAL, or from MANUAL back to UNSET, keeping the counter and increment. -/
  | modeWrite (d : Die) (w : Writer) (value : Nat)
  /-- STEP_WRITE (R43). A write of the Staris STEP object adds a signed step to the nanosecond field in MANUAL, and is otherwise ignored and counted. -/
  | stepWrite (d : Die) (w : Writer) (value : Nat)
  /-- TW_EXCHANGE_PERIOD (R55). At each exchange period Vager sends every port one DOWN time word with its LOCK, HOLDOVER, INC and any step. -/
  | twExchangePeriod
  /-- DOWN_WORD_RX (R603). A Staris accepts a DOWN word, applies LOCK before STEP and INC, makes at most one time-state transition and answers with an UP word. -/
  | downWordRx (d : Die) (word : Nat) (poison : Bool)
  /-- UP_WORD_RX (R57). Vager takes an UP word, computes delay and offset from four timestamps, and feeds the port filter and servo. -/
  | upWordRx (p : Die) (word : Nat) (poison : Bool)
  /-- STARIS_HOLDOVER_TIMEOUT (R603). No DOWN word is accepted for HOLDOVER_TIMEOUT, and a Staris in ACQUIRING or LOCKED enters HOLDOVER at the holdover increment. -/
  | starisHoldoverTimeout (d : Die)
  /-- PTP_MESSAGE_RX (R47). Vager takes a PTP message on the management port, runs the port state machine and servo, and advances its time state. -/
  | ptpMessageRx (m : PtpMessage)
  /-- ANNOUNCE_TIMEOUT (R52). No Announce arrives from the current grandmaster within announceReceiptTimeout intervals, and Vager enters HOLDOVER. -/
  | announceTimeout
  /-- SYNC_TIMEOUT (R52). No Sync arrives from the current grandmaster within four sync intervals, and Vager enters HOLDOVER. -/
  | syncTimeout
  /-- PTP_EVENT_TX (R64). The management PHY transmits a PTP event message and places its transmit timestamp in the 64-entry queue. -/
  | ptpEventTx (seqId : Nat) (msgType : Nat) (domain : Nat)
  /-- TSQ_POP (R64). A write of 1 to TSQ_POP removes the head entry of the transmit timestamp queue. -/
  | tsqPop (w : Writer)
  /-- TSQ_OVERFLOW_CLEAR (R65). A write of 1 clears the transmit timestamp overflow count. -/
  | tsqOverflowClear (w : Writer)
  /-- SOURCE_WRITE (R51). A write of SOURCE selects PTP, PTP with 1PPS, 1PPS only or none, moving Vager to FREE_RUN or ACQUIRING as the source qualifies. -/
  | sourceWrite (w : Writer) (value : Nat)
  /-- SECONDS_SET_WRITE (R53). A write of SECONDS_SET is refused unless the source is 2 or 3, the time state permits a step and no epoch is open, and otherwise schedules a step. -/
  | secondsSetWrite (w : Writer) (seconds : Nat)
  /-- SECONDS_SET_STEP (R53). At the next whole second Vager steps its extended time to SECONDS_SET seconds and sends every port a step. -/
  | secondsSetStep
  /-- PPS_IN_EDGE (R68). A rising edge at 1PPS in is timestamped, and with source 1 or 2 aligns the extended time to a whole second or is rejected. -/
  | ppsInEdge
  /-- PPS_OUT_EDGE (R67). At each whole second plus PPS_OUT_OFFSET Vager drives a pulse at 1PPS out when enabled in its time state. -/
  | ppsOutEdge
  /-- PLL_LOSS_OF_LOCK (R599). The time-island PLL loses lock, the part enters FAULT, and Staris disarms its comparators and stream start. -/
  | pllLossOfLock (p : Part)
  /-- PLL_RELOCK (R603). The time-island PLL relocks and the part leaves FAULT for UNSET with the counter running from 0. -/
  | pllRelock (p : Part)
  /-- CMP_ARM (R70). A write of 1 to CMP_ARM arms or re-arms a comparator, or refuses the arm and sets REFUSED. -/
  | cmpArm (d : Die) (n : Fin 32) (w : Writer)
  /-- CMP_DISARM (R70). A write of 0 to CMP_ARM disarms a comparator. -/
  | cmpDisarm (d : Die) (n : Fin 32) (w : Writer)
  /-- COMPARATOR_FIRE (R69). The counter reaches or passes an armed target, the comparator fires, starts its action and disarms or re-arms one period later. -/
  | comparatorFire (d : Die) (n : Fin 32)
  /-- EVENT_EDGE (R77). An edge on an event input is handshaken towards the counters, the trace trigger, WEDGE waits and energy activity. -/
  | eventEdge (d : Die) (input : Fin 4096) (high : Bool) (merged : Bool)
  /-- POLARITY_WRITE (R77). A write of EVT_POLARITY changes input polarity without an edge, rejudges levels and restarts the stale window. -/
  | polarityWrite (d : Die) (w : Writer) (polarity : List Nat)
  /-- STALE_SCAN (R80). The scanner visits each input and sets stuck flags for inputs held active beyond the stale window. -/
  | staleScan (d : Die) (held : List Nat)
  /-- EVT_FLAGS_CLEAR (R80). A write of EVT_FLAGS_CLEAR clears the sticky stuck and overrun flags of the inputs named. -/
  | evtFlagsClear (d : Die) (w : Writer) (mask : List Nat)
  /-- DESCRIPTOR_START (R573). The die presents a START descriptor event, and Staris updates the slot's context and acknowledges with the Shroud SELECT. -/
  | descriptorStart (d : Die) (c : CdtWord)
  /-- DESCRIPTOR_DONE (R573). The die presents a DONE descriptor event once the descriptor's last write is visible. -/
  | descriptorDone (d : Die) (c : CdtWord)
  /-- DESCRIPTOR_ABANDON (R572). The die presents an ABANDON descriptor event for a descriptor ended by a domain reset. -/
  | descriptorAbandon (d : Die) (c : CdtWord)
  /-- CNT_CONFIG_WRITE (R86). A write of a counter's configuration is refused to a non-secure writer for a global counter, and may disable non-secure streams. -/
  | cntConfigWrite (d : Die) (w : Writer) (n : Fin 65536) (value : Nat)
  /-- CNT_CLEAR (R87). A write of 1 clears a counter's COUNT and WRAPPED together, subject to the global-counter rule. -/
  | cntClear (d : Die) (w : Writer) (n : Fin 65536)
  /-- FREEZE (R89). A freeze action latches all counters into the snapshot bank, or is skipped or overwrites when the bank is HELD. -/
  | freeze (d : Die)
  /-- SNAP_RELEASE (R90). A write of SNAP_RELEASE returns the snapshot bank to EMPTY. -/
  | snapRelease (d : Die) (w : Writer)
  /-- CONVERTER_RESULT (R95). A converter result crosses into the core, is scaled, updates means and raises thermal or optical internal sources. -/
  | converterResult (d : Die) (r : ConverterSample)
  /-- RAIL_CONVERTER_REPHASE (R94). Action 1 with ARG 0 to 3 re-phases a rail converter so that its next sample falls on the firing tick. -/
  | railConverterRephase (d : Die) (c : Fin 4)
  /-- CONVERTER_SEQUENCE_START (R94). Action 1 with ARG 4 to 7 starts that converter's channel sequence, or is ignored and counted while it runs. -/
  | converterSequenceStart (d : Die) (c : Fin 4)
  /-- SEQUENCE_PERIOD_RESTART (R94). A converter sequence with a non-zero period restarts itself when the period expires. -/
  | sequencePeriodRestart (d : Die) (c : Fin 4)
  /-- DROOP_TRIP (R96). A droop comparator trips, raising its internal source, setting its sticky flag and recording the time. -/
  | droopTrip (d : Die) (n : Fin 128)
  /-- CANARY_FAIL (R97). A canary path misses its capture at the alarm code, raising its internal source and setting its flag. -/
  | canaryFail (d : Die) (n : Fin 256)
  /-- CANARY_CODE_WRITE (R97). A write of CANARY_CODE sets the alarm codes and clears the sticky canary failure flags. -/
  | canaryCodeWrite (d : Die) (w : Writer) (codes : List Nat)
  /-- MARGIN_PASS_START (R98). A margining period expires and a new voltage, timing or optical margining pass begins. -/
  | marginPassStart (d : Die) (k : MarginKind)
  /-- MARGIN_DWELL_END (R98). A voltage-margining dwell ends and the binary search of the borrowed droop comparator advances or stores the margin. -/
  | marginDwellEnd (d : Die) (r : Fin 16) (tripped : Bool)
  /-- MARGIN_TIMING_PROBE_DONE (R98). A timing-margin probe of 64 launches completes and the canary binary search advances or stores the margin. -/
  | marginTimingProbeDone (d : Die) (n : Fin 256) (passed : Bool)
  /-- STREAM_START_ARM (R103). A write of STREAM_START_ARM arms the comparator-style start of periodic stream sampling. -/
  | streamStartArm (d : Die) (w : Writer) (value : Bool)
  /-- STREAM_START_REACHED (R103). The counter reaches the stream start target and periodic sampling begins. -/
  | streamStartReached (d : Die)
  /-- STREAM_PERIODIC_SAMPLE (R103). A stream's scheduled instant arrives and Staris takes a 16-byte sample record and queues it for Halyard. -/
  | streamPeriodicSample (d : Die) (n : Fin 65536)
  /-- STREAM_ENABLE_WRITE (R102). A write of STREAM_ENABLE enables or disables a stream, refused beyond 4,096 fast streams or for a global counter from non-secure. -/
  | streamEnableWrite (d : Die) (w : Writer) (n : Fin 65536) (value : Bool)
  /-- STREAM_SCHEDULE_WRITE (R103). A write of a stream's PERIOD or PHASE reschedules its next sample to keep pod-wide alignment. -/
  | streamScheduleWrite (d : Die) (w : Writer) (n : Fin 65536) (period : Nat) (phase : Nat)
  /-- STREAM_SOURCE_WRITE (R101). A write of a stream's source word sets KIND and INDEX and rebases delta values. -/
  | streamSourceWrite (d : Die) (w : Writer) (n : Fin 65536) (value : Nat)
  /-- DUMP_ARM (R106). A write of DUMP_ARM arms a dump slot, refused for a non-secure DUMP_EPOCH of 0. -/
  | dumpArm (d : Die) (w : Writer) (n : Fin 16) (value : Bool)
  /-- DUMP_TRIGGER (R106). Action 6 opens a comparator-mode dump slot to match the next completing descriptor. -/
  | dumpTrigger (d : Die) (n : Fin 16)
  /-- DUMP_COPY_END (R107). The dump copy ends, the trailer is sent with TORN, TRUNCATED, HELD or ABORTED, and the slot disarms. `data` is the range as the scratchpad sampling port returned it, and `refused` counts the granules written to die memory before one that the memory refuses. -/
  | dumpCopyEnd (d : Die) (n : Fin 16) (data : List (Nat × Bool)) (refused : Option Nat)
  /-- DUMP_HOLD_EXPIRY (R108). DUMP_HOLD_MAX passes and Staris drops the dump hold whether or not the copy has finished. -/
  | dumpHoldExpiry (d : Die) (n : Fin 16)
  /-- CLEAT_PROGRAM_WRITE (R114). A write of a sequencer's program memory, refused while it is RUNNING or WAITING. -/
  | cleatProgramWrite (d : Die) (w : Writer) (q : Fin 8) (program : List Nat)
  /-- CLEAT_START (R113). A write of 1 to CLEAT_CONTROL starts an IDLE sequencer at PC 0 or resumes a HALTED one, refused in other states. -/
  | cleatStart (d : Die) (w : Writer) (q : Fin 8)
  /-- CLEAT_STOP (R113). A write of 2 to CLEAT_CONTROL stops a sequencer to IDLE and clears its pending signals. -/
  | cleatStop (d : Die) (w : Writer) (q : Fin 8)
  /-- HALT (R111). The sequencer stops in HALTED. -/
  | halt (d : Die) (q : Fin 8)
  /-- NOP (R111). The sequencer does nothing and advances. -/
  | nop (d : Die) (q : Fin 8)
  /-- RESERVED_OPCODE (R111). A reserved opcode puts the sequencer in FAULT with code 1. -/
  | reservedOpcode (d : Die) (q : Fin 8)
  /-- LDI (R111). XA takes the immediate. -/
  | ldi (d : Die) (q : Fin 8)
  /-- ADDI (R111). XA takes XA plus the immediate modulo 2^32. -/
  | addi (d : Die) (q : Fin 8)
  /-- MOV (R111). XA takes XB. -/
  | mov (d : Die) (q : Fin 8)
  /-- RDTIME (R111). XA takes the counter nanoseconds. -/
  | rdtime (d : Die) (q : Fin 8)
  /-- RDCNT (R111). XA takes the low 32 bits of a counter, with fault 2 on a global counter from sequencers 0 to 3. -/
  | rdcnt (d : Die) (q : Fin 8)
  /-- WTIME (R112). The sequencer waits until the counter reaches or passes XA under the modular rule. -/
  | wtime (d : Die) (q : Fin 8)
  /-- WEDGE (R111). The sequencer waits for the next active edge of a source or event of an internal source, with optional timeout. -/
  | wedge (d : Die) (q : Fin 8)
  /-- WCNT (R111). The sequencer waits until a counter reaches XA modularly, with fault 2 on a global counter from sequencers 0 to 3. -/
  | wcnt (d : Die) (q : Fin 8)
  /-- WSIG (R111). The sequencer waits for a pending signal and consumes one. -/
  | wsig (d : Die) (q : Fin 8)
  /-- WAIT_CONDITION_MET (R112). A waiting sequencer's condition holds, the wait ends with the timeout flag clear and execution resumes. -/
  | waitConditionMet (d : Die) (q : Fin 8)
  /-- WAIT_TIMEOUT (R112). The counter reaches XB before the wait's condition, the wait ends and the timeout flag is set. -/
  | waitTimeout (d : Die) (q : Fin 8)
  /-- JMP (R111). The sequencer jumps to ARG[7:0]. -/
  | jmp (d : Die) (q : Fin 8)
  /-- JNZ (R111). The sequencer jumps if XA is not zero. -/
  | jnz (d : Die) (q : Fin 8)
  /-- DJNZ (R111). XA is decremented and the sequencer jumps if it is not zero. -/
  | djnz (d : Die) (q : Fin 8)
  /-- JTO (R111). The sequencer jumps if the last wait ended by timeout. -/
  | jto (d : Die) (q : Fin 8)
  /-- JLT (R111). The sequencer jumps if XA is modularly below XB. -/
  | jlt (d : Die) (q : Fin 8)
  /-- ACT (R111). The sequencer starts a time-comparator action with ARG under its world's rules, or faults on a bad or forbidden action. -/
  | act (d : Die) (q : Fin 8)
  /-- SETCMP (R111). The sequencer disarms a comparator of its world, sets its target to XA and arms it. -/
  | setcmp (d : Die) (q : Fin 8)
  /-- SAMPLE (R111). The sequencer takes a triggered sample of a stream. -/
  | sample (d : Die) (q : Fin 8)
  /-- EMIT (R111). The sequencer sends XA on a KIND 8 stream, with fault 3 on any other KIND. -/
  | emit (d : Die) (q : Fin 8)
  /-- SIGNAL (R111). The sequencer adds one pending signal to another sequencer, losing it at 255. -/
  | signal (d : Die) (q : Fin 8)
  /-- EVENT (R111). The sequencer writes an event recorder entry with a code and XA and raises its internal source. -/
  | event (d : Die) (q : Fin 8)
  /-- CLEAT_SIGNAL_ACTION (R71). Action 7 adds a pending signal to the named sequencer. -/
  | cleatSignalAction (d : Die) (q : Fin 8)
  /-- TRACE_WORD (R118). A source presents a trace word, and Staris builds packets and offers them to the staging queue. `cycles` counts the strobes of the source since its last word, or since a SYNC of it that has come in between (R121). -/
  | traceWord (d : Die) (src : Fin 256) (cycles : Nat) (t : TrcWord)
  /-- CYCLE_IDLE_LIMIT (R121). A source reaches 2^32 cycles without a packet and emits a SYNC of REASON 5. -/
  | cycleIdleLimit (d : Die) (src : Fin 256)
  /-- TSTAMP_INTERVAL (R125). In Sprit-compatible mode Staris emits a TSTAMP packet every TSTAMP_INTERVAL. -/
  | tstampInterval (d : Die)
  /-- SOURCE_LP_ENTRY (R146). A traced source enters low power and emits any pending ATOMS and an LP_ENTRY. `cycles` is as in TRACE_WORD. -/
  | sourceLpEntry (d : Die) (src : Fin 256) (cycles : Nat)
  /-- SOURCE_LP_EXIT (R147). A source leaves low power and its first packet is a SYNC of REASON 3. -/
  | sourceLpExit (d : Die) (src : Fin 256)
  /-- SOURCE_RESET (R148). The die resets a source's domain and Staris emits a GAP of REASON 3. -/
  | sourceReset (d : Die) (src : Fin 256)
  /-- SOURCE_RESET_EXIT (R148). A source leaves reset and its first packet is a SYNC of REASON 6. -/
  | sourceResetExit (d : Die) (src : Fin 256)
  /-- TRACE_CONFIG_START (R127). A start by CFG_CONTROL, action 4 or ACT moves a configuration to WAIT or ACTIVE, refused while FROZEN, FULL or powered off. -/
  | traceConfigStart (d : Die) (w : Option Writer) (c : Fin 4)
  /-- TRACE_CONFIG_STOP (R127). A stop by CFG_CONTROL, action 5 or ACT returns a configuration to IDLE. -/
  | traceConfigStop (d : Die) (w : Option Writer) (c : Fin 4)
  /-- PENNANT_MODE_WRITE (R126). A write of PENNANT_MODE selects native or Sprit-compatible mode, refused unless every configuration is IDLE. -/
  | pennantModeWrite (d : Die) (w : Writer) (value : Nat)
  /-- SINK_SELECT_WRITE (R136). A write of SINK_SELECT chooses the trace sink, refused unless the unit is IDLE or FROZEN. -/
  | sinkSelectWrite (d : Die) (w : Writer) (value : Nat)
  /-- SINK_RESET (R145). A write of SINK_RESET clears pointer, wrap, trigger state and sink fault and returns the unit to IDLE. -/
  | sinkReset (d : Die) (w : Writer)
  /-- SINK_GRANULE_WRITE (R137). A granule leaves the staging queue into the sink, advancing the write pointer and the post-trigger count. -/
  | sinkGranuleWrite (d : Die)
  /-- TRIG_ARM (R140). A write of TRIG_ARM arms or disarms the trace trigger unit. -/
  | trigArm (d : Die) (w : Writer) (value : Bool)
  /-- TRIG_FORCE (R140). A write of 1 to TRIG_FORCE triggers the trace by software. -/
  | trigForce (d : Die) (w : Writer)
  /-- TRACE_GRANULE_RX (R139). Vager writes a trace granule from a port into that port's slice, and tells Staris to enter FULL when a non-wrapping slice fills. -/
  | traceGranuleRx (p : Die) (g : Nat) (poison : Bool)
  /-- TRACE_FREEZE_NOTICE_RX (R142). Vager receives a freeze notice on the trace channel and sets SLICE_FROZEN. -/
  | traceFreezeNoticeRx (p : Die)
  /-- TRACE_CTL_RX (R139). A Staris receives TRACE_CTL from Vager and enters FULL. -/
  | traceCtlRx (d : Die)
  /-- SLICE_CONFIG_WRITE (R152). A write of a slice's offset or size, refused when it breaks placement or the port's trace is running on sink 2. -/
  | sliceConfigWrite (p : Die) (w : Writer) (offset : Nat) (bytes : Nat)
  /-- SLICE_RESET (R152). A write of SLICE_RESET clears a slice's pointer, wrap and frozen flags. -/
  | sliceReset (p : Die) (w : Writer)
  /-- SIGNAL_DETECT (R181). Seven or more lanes detect signal while PORT_ENABLE is 1, and the link goes from DOWN to TRAINING. -/
  | signalDetect (v : Bool) (p : Die)
  /-- LANE_TRAINING_DONE (R182). Equalisation, deskew and FEC lock complete, lanes are assigned active, spare or retired, and the link enters PAIRING. -/
  | laneTrainingDone (v : Bool) (p : Die) (good : Nat)
  /-- TRAINING_ATTEMPT_FAIL (R181). Fewer than seven lanes train within the attempt, and after RETRAIN_LIMIT attempts the link enters FAILED. -/
  | trainingAttemptFail (v : Bool) (p : Die)
  /-- FEC_LOCK_LOSS (R181). FEC lock is lost in PAIRING and the link returns to TRAINING. -/
  | fecLockLoss (v : Bool) (p : Die)
  /-- LINK_CTL_INIT_RX (R182). A LINK_CTL INIT advertises the peer's receive buffers and resets codeword counters and SEQ. -/
  | linkCtlInitRx (v : Bool) (p : Die) (item : Nat)
  /-- LINK_CTL_INIT_ACK_RX (R182). A LINK_CTL INIT_ACK completes the credit exchange of link-up. -/
  | linkCtlInitAckRx (v : Bool) (p : Die) (item : Nat)
  /-- PAIR_HELLO_RX (R183). Vager compares the PAIR_HELLO identity digest with the stored one, setting PAIR_STATUS and checking out-of-service records. -/
  | pairHelloRx (p : Die) (item : Nat) (digest : List Nat)
  /-- LANE_SWAP_RX (R186). A Staris takes LANE_SWAP, answers LANE_ACK and schedules the swap at codeword CW, or ignores a passed CW. -/
  | laneSwapRx (p : Die) (item : Nat)
  /-- LANE_DROP_RX (R187). A Staris takes LANE_DROP and schedules seven-lane running at codeword CW. -/
  | laneDropRx (p : Die) (item : Nat)
  /-- LANE_ACK_RX (R186). Vager receives LANE_ACK for a pending lane change or cancel. -/
  | laneAckRx (p : Die) (item : Nat)
  /-- LANE_REPORT_RX (R185). Vager takes the per-lane corrected-symbol counts and raises lane error events above LANE_SYMBOL_LIMIT. -/
  | laneReportRx (p : Die) (item : Nat)
  /-- RETRAIN_REQ_RX (R181). A RETRAIN_REQ sends the link to RETRAIN. -/
  | retrainReqRx (v : Bool) (p : Die)
  /-- LANE_CANCEL_RX (R186). A Staris drops a pending lane change whose CW its count has not reached and answers LANE_ACK. -/
  | laneCancelRx (p : Die) (item : Nat)
  /-- LINK_CTL_ABANDON (R184). A LINK_CTL item unanswered for 100 µs is abandoned. -/
  | linkCtlAbandon (v : Bool) (p : Die)
  /-- LANE_CANCEL_TIMEOUT (R186). A LANE_CANCEL unanswered for 100 µs makes Vager send RETRAIN_REQ. -/
  | laneCancelTimeout (p : Die)
  /-- LANE_ACK_DEADLINE (R186). LANE_ACK has not arrived 1,024 codewords before CW, so Vager does not switch and sends LANE_CANCEL. -/
  | laneAckDeadline (p : Die)
  /-- LANE_SWITCH (R186). At codeword CW a direction switches the spare into the retired lane's place. -/
  | laneSwitch (v : Bool) (p : Die)
  /-- LANE_DROP_SWITCH (R187). At codeword CW both ends distribute over seven lanes and hold new DATA flits while re-deskewing. -/
  | laneDropSwitch (v : Bool) (p : Die)
  /-- DESKEW_HOLD_END (R187). The deskew hold after a lane drop ends and the link enters UP_7 with DEGRADED set. -/
  | deskewHoldEnd (v : Bool) (p : Die)
  /-- LANE_WINDOW_END (R185). A LANE_WINDOW ends and Staris sends its per-lane corrected-symbol counts in LANE_REPORT. -/
  | laneWindowEnd (v : Bool) (p : Die)
  /-- FLIT_TRANSMIT (R176). At each flit time the transmitter sends a DATA, LINK_CTL or NULL flit, filling slots by time word first and weighted round-robin. -/
  | flitTransmit (v : Bool) (p : Die)
  /-- FLIT_RX (R163). A receiver decodes a flit, takes credits and ACKs, and delivers it or sets NAK for replay. -/
  | flitRx (v : Bool) (p : Die) (f : FlitIn)
  /-- REPLAY_TIMEOUT (R165). The oldest unacknowledged flit has waited 20 µs and the transmitter replays from it. -/
  | replayTimeout (v : Bool) (p : Die)
  /-- RETRAIN_TIMEOUT (R181). A retrain that does not return to UP or UP_7 within 2 ms sends the link to TRAINING or FAILED. -/
  | retrainTimeout (v : Bool) (p : Die)
  /-- LANE_SIGNAL_LOSS (R601). An active lane loses signal, the link retrains and retires the lane, or goes FAILED on two lanes or in UP_7. -/
  | laneSignalLoss (v : Bool) (p : Die) (detect : Nat)
  /-- FAILED_SILENCE_TIMEOUT (R181). A Staris end in FAILED detects no signal on any lane for 1 ms and goes to DOWN. -/
  | failedSilenceTimeout (d : Die)
  /-- PORT_ENABLE_WRITE (R181). A write of PORT_ENABLE 0 takes the port to DOWN in any state and silences it; 1 lets it train. -/
  | portEnableWrite (p : Die) (w : Writer) (value : Bool)
  /-- LANE_CLEAR (R188). A write of LANE_CLEAR returns a port's retired lanes to service at the next link-up. -/
  | laneClear (p : Die) (w : Writer)
  /-- PAIR_ACCEPT (R183). A write of PAIR_ACCEPT stores the new identity digest and ends the withholding of R487. -/
  | pairAccept (p : Die) (w : Writer)
  /-- CONTROL_MERGE_RELEASE (R179). Vager releases the head control message once no counted port can send an earlier one, and delivers it to its consumer. -/
  | controlMergeRelease
  /-- MERGE_STALL_EXPIRY (R180). A port's TX_MARK has not advanced within MERGE_STALL and it stops counting in the merge. -/
  | mergeStallExpiry (p : Die)
  /-- STREAM_RECORD_INTAKE (R191). Vager applies a stream sample record to the stream state, builders and the reduction round of its context. `data` is a granule of two records (R168); `errors` are those that reads of builder states in HBM met, by builder. -/
  | streamRecordIntake (p : Die) (data : Nat) (poison : Bool) (errors : List (Nat × HbmError))
  /-- TRAY_PARTIAL_CLOSE (R207). A round's own tray partial closes when complete or at its deadline and is merged or sent to the parent. -/
  | trayPartialClose (x : Fin 64) (g : Fin 16) (round : Nat)
  /-- MERGED_ROUND_CLOSE (R209). This Vager's merged partial closes when complete or at its deadline and is folded and sent up or held as the result. -/
  | mergedRoundClose (x : Fin 64) (g : Fin 16) (round : Nat)
  /-- PARTIAL_RX (R214). A parent acknowledges a child's PARTIAL and merges the first copy for each child, group and round. -/
  | partialRx (m : TreeMsg)
  /-- PART_ACK_RX (R214). A child receives PART_ACK and stops resending that PARTIAL. -/
  | partAckRx (m : TreeMsg)
  /-- BCAST_RX (R223). A Vager applies a broadcast in BSEQ order, forwards it to its children and holds ahead-of-order ones. -/
  | bcastRx (m : TreeMsg)
  /-- BACK_RX (R224). A Vager gathers a child's BACK and sends its own BACK once every live child has answered. -/
  | backRx (m : TreeMsg)
  /-- HEARTBEAT_RX (R216). A HEARTBEAT from a neighbour renews its liveness. -/
  | heartbeatRx (m : TreeMsg)
  /-- ADOPT_RX (R227). A fallback parent takes an orphan into an EMPTY child slot or adoption slot and answers ADOPT_ACK, or answers ADOPT_NAK. -/
  | adoptRx (m : TreeMsg)
  /-- ADOPT_ACK_RX (R217). An orphaned Vager is adopted, enters ADOPTED and resends unacknowledged PARTIALs. -/
  | adoptAckRx (m : TreeMsg)
  /-- ADOPT_NAK_RX (R217). An orphaned Vager is refused and enters ISOLATED. -/
  | adoptNakRx (m : TreeMsg)
  /-- TREE_HEARTBEAT_PERIOD (R216). Each TREE_HEARTBEAT a Vager sends heartbeats and resends unacknowledged PARTIAL, BCAST and ADOPT messages. -/
  | treeHeartbeatPeriod
  /-- NEIGHBOUR_DEAD (R216). Nothing has arrived from a neighbour for the dead count, so a child slot goes DEAD or this Vager is orphaned or isolated. -/
  | neighbourDead (tray : Nat)
  /-- TREE_ADOPT_WAIT_EXPIRY (R227). TREE_ADOPT_WAIT ends at a fallback awaiting adoptees, or at an orphan still ORPHANED, which becomes ISOLATED. `slot` is the dead child's slot at a fallback, an adoption slot a as 64 + a, or none at an orphan. -/
  | treeAdoptWaitExpiry (slot : Option (Fin 96))
  /-- TREE_COMMIT (R217). A write of TREE_COMMIT applies the tree plan, returns child slots to LIVE or EMPTY and frees adoption slots. -/
  | treeCommit (w : Writer)
  /-- BCAST_SUBMIT (R223). Fleet software submits a broadcast at the root, which takes a BSEQ or is refused. -/
  | bcastSubmit (w : Writer) (header : Nat) (body : List Nat)
  /-- CONTEXT_OPEN_TIME (R218). A PENDING context reaches its APPLY_TIME and becomes OPEN, applying epoch-keyed staged groups. -/
  | contextOpenTime (x : Fin 64)
  /-- CONTEXT_CLOSE_TIME (R218). An OPEN context reaches the APPLY_TIME of its EPOCH_CLOSE and becomes DRAINING. -/
  | contextCloseTime (x : Fin 64)
  /-- DRAIN_LIMIT_EXPIRY (R218). A DRAINING context reaches CLOSE_TIME plus DRAIN_LIMIT and is freed. -/
  | drainLimitExpiry (x : Fin 64)
  /-- CTX_FREE (R218). A write of CTX_FREE forces a context to FREE and discards its rounds. -/
  | ctxFree (w : Writer) (x : Fin 64)
  /-- STREAM_CLEAR (R234). A write of STREAM_CLEAR clears the selected stream's counts and hot flags. -/
  | streamClear (w : Writer)
  /-- PLAN_BYTES_WRITE (R232). A write of PLAN_BYTES completes a rig plan load and starts its SHA-256 digest. -/
  | planBytesWrite (w : Writer) (j : Fin 4) (bytes : Nat)
  /-- PLAN_DIGEST_DONE (R232). The plan digest is computed and the slot becomes VALID. -/
  | planDigestDone
  /-- BUILDER_SWEEP (R247). The sweep visits each enabled builder, updating AGE outputs and applying AGE_LIMIT. `error` is one of the builder's state in HBM. -/
  | builderSweep (n : Nat) (error : Option HbmError)
  /-- BLD_CONFIG_WRITE (R248). A write of a builder's configuration clears its state and is refused for order, owner, fanout, unbound row or bad operator. -/
  | bldConfigWrite (w : Writer) (config : List Nat)
  /-- BLD_RESET (R242). A write of BLD_RESET clears the selected builder's state. -/
  | bldReset (w : Writer)
  /-- ENT_DESC_WRITE (R236). A write of an entity descriptor binds a row, refused while an enabled builder names it. -/
  | entDescWrite (w : Writer) (value : Nat)
  /-- ENT_CLEAR (R240). A write of ENT_CLEAR writes the whole row as NaN and clears its poison. -/
  | entClear (w : Writer)
  /-- REF_VALUE_WRITE (R250). A write of a reference register's value, allowed when no group feeds it, clears its NaN flag. -/
  | refValueWrite (w : Writer) (value : Int)
  /-- SK_WINDOW_WRITE (R249). A write of a sketch slot's window clears the slot. -/
  | skWindowWrite (w : Writer) (value : Nat)
  /-- PASS_START (R258). A model's periodic pass start arrives and its rows are queued as work items to the groups holding it. -/
  | passStart (m : Fin 64)
  /-- WORK_ITEM_DONE (R259). A lane finishes evaluating one row through every tree of a model. `bank` is the cache bank in which the row met an error, with whether it was uncorrectable, `errors` are those of the row's granules in HBM, by granule, and `node` is the image reference of a node that met an error, with whether it was uncorrectable. -/
  | workItemDone (m : Fin 64) (row : Nat) (lane : Fin 17) (cacheHit : Bool) (bank : Option (Fin 64 × Bool)) (errors : List (Nat × HbmError)) (node : Option (Nat × Bool))
  /-- LANE_PROBE_DONE (R274). A lane finishes its built-in probe set, raising an error event on mismatch and re-running failed items. -/
  | laneProbeDone (g : Fin 4) (lane : Fin 17) (ok : Bool)
  /-- PROBE_INTERVAL_EXPIRY (R274). An idle lane's PROBE_INTERVAL expires and it starts its probe set. -/
  | probeIntervalExpiry (g : Fin 4) (lane : Fin 17)
  /-- PASS_RELEASE (R260). A pass whose items and end-of-pass probes are done is released, writing scores and applying the alarm rule. -/
  | passRelease (m : Fin 64)
  /-- MODEL_LOAD (R265). A write of 1 to MDL_COMMAND starts validating and loading the staged image into the placed groups. -/
  | modelLoad (w : Writer) (m : Fin 64)
  /-- MODEL_LOAD_DONE (R266). The load completes as LOADED, or is refused with the first failing code. -/
  | modelLoadDone (m : Fin 64)
  /-- MODEL_UNLOAD (R268). A write of 2 to MDL_COMMAND unloads a model, freeing it after its last started pass. -/
  | modelUnload (w : Writer) (m : Fin 64)
  /-- BLOCK_SPARE_FILL_DONE (R276). A spare stage block finishes filling from the relocated image and waiting passes resume. -/
  | blockSpareFillDone (g : Fin 4) (block : Nat)
  /-- EGRESS_BLOCK (R281). Staris verifies a block's CRC-64 at the egress tap and returns GOOD, BAD or POISON. `data` lists the block's granules, `poison` says that one of them is poisoned, and `late` is the die's LATE flag. -/
  | egressBlock (d : Die) (header : Nat) (data : List Nat) (poison : Bool) (late : Bool)
  /-- SIDEBAND_BLOCK (R286). Staris fingerprints or hashes a sideband block, updates its combine and returns a verdict and any digest. -/
  | sidebandBlock (d : Die) (header : Nat) (attached : Nat) (data : List Nat) (poison : Bool) (late : Bool)
  /-- POISON_CONSUME_REPORT (R301). The die reports a poisoned read and Staris charges it to the slot's epoch and reports POISON_CONSUMED. -/
  | poisonConsumeReport (d : Die) (slot : Nat) (tag : Nat) (step : Nat)
  /-- COMBINE_TIMEOUT (R298). A combine stays open beyond COMB_TIMEOUT and is abandoned with NONE. -/
  | combineTimeout (d : Die) (comb : Nat)
  /-- COALESCE_WINDOW_END (R304). A digest event window ends and one report carries the last event and the count of the window. -/
  | coalesceWindowEnd (d : Die) (code : Nat)
  /-- KEY_EPOCH_WRITE (R294). A write of KEY_EPOCH sets a key slot's epoch, refused unless EMPTY, for epoch 0 or a duplicate. -/
  | keyEpochWrite (d : Die) (w : Writer) (k : Fin 4) (value : Nat)
  /-- KEY_VALUE_WRITE (R292). A write of KEY_VALUE in EPOCH_SET loads the key, derives the fingerprint points and makes the slot LOADED. -/
  | keyValueWrite (d : Die) (w : Writer) (k : Fin 4) (value : List Nat)
  /-- KEY_CLEAR (R294). A write of KEY_CLEAR empties a key slot and abandons its open combines. -/
  | keyClear (d : Die) (w : Writer) (k : Fin 4)
  /-- SAMPLE_NOTICE (R315). The die posts a sample notice and Staris reads, classifies and sends the sample on the tensor-tap channel. `entry` is the ring entry as the scratchpad sampling port returns it. -/
  | sampleNotice (d : Die) (sid offset bytes : Nat) (entry : List (Nat × Bool))
  /-- SAMPLE_SKIP (R315). The die posts a skip for a selection and Staris sends a NOTICE with its code. -/
  | sampleSkip (d : Die) (sid code : Nat)
  /-- RECOMPUTE_ANSWER (R333). The die returns E or declines, and Staris sends a recompute message or RECOMPUTE_DECLINED notice. `result` is the ROLE 6 section as it is read from the entry. -/
  | recomputeAnswer (d : Die) (sid : Nat) (declined : Bool) (result : List (Nat × Bool))
  /-- POISON_REQUEST_ANSWER (R334). The die reports whether blocks were resident and Staris sends POISON_DONE or POISON_ABSENT. -/
  | poisonRequestAnswer (d : Die) (resident : Bool)
  /-- VERDICT_COMMAND (R331). Staris receives CMD 0x51 VERDICT and releases the sample's ring entry to the die. -/
  | verdictCommand (d : Die) (granule : Nat)
  /-- RECOMPUTE_COMMAND (R333). Staris receives CMD 0x52 and asks the die to recompute the held entry avoiding SLOT. -/
  | recomputeCommand (d : Die) (granule : Nat)
  /-- POISON_REQ_COMMAND (R334). Staris receives CMD 0x53 and presents the poison request to the die. -/
  | poisonReqCommand (d : Die) (granule : Nat)
  /-- SHROUD_SAMPLE_RX (R339). Vager takes a sample into the Shroud pool and queues it for a cluster, or skips it as OVERLOAD, DISABLED or FORMAT. -/
  | shroudSampleRx (p : Die) (msg : List (Nat × Bool))
  /-- SHROUD_RECOMPUTE_RX (R333). Vager takes a recompute E and continues arbitration at the majority step. -/
  | shroudRecomputeRx (p : Die) (msg : List (Nat × Bool))
  /-- SHROUD_NOTICE_RX (R328). Vager takes a skip or recompute-declined notice and settles the SID's verdict or arbitration. -/
  | shroudNoticeRx (p : Die) (granule : Nat)
  /-- CLUSTER_RUN_DONE (R326). A cluster finishes computing a sample and its result is compared with D, starting arbitration on a difference. `wrong` is the elements a faulty cluster gives in place of the profile's. -/
  | clusterRunDone (c : Fin 18) (wrong : Option (List Nat))
  /-- ARBITRATION_REVERIFY_DONE (R332). Step 1 re-verification of the check values completes, giving INPUT_BAD or a second-cluster run. -/
  | arbitrationReverifyDone (p : Die) (sid : Nat)
  /-- RECOMPUTE_TIMEOUT (R332). No recompute arrives within RECOMPUTE_TIMEOUT and the verdict is SUSPECT. -/
  | recomputeTimeout (p : Die) (sid : Nat)
  /-- KAT_DUE (R336). A cluster reaches KAT_SAMPLES or KAT_TIME and starts its known-answer self-test. -/
  | katDue (c : Fin 18)
  /-- KAT_DONE (R337). A self-test ends; a pass clears held verdicts, a failure retires the cluster and voids its results. -/
  | katDone (c : Fin 18) (pass : Bool)
  /-- VERDICT_RELEASE (R330). A verdict whose clusters have passed later self-tests is released with record, VERDICT command, MSI-X and reports. -/
  | verdictRelease (p : Die) (sid : Nat)
  /-- PROF_DATA_WRITE (R324). A write of a profile is validated and the slot becomes VALID or REFUSED. -/
  | profDataWrite (w : Writer) (j : Fin 16) (data : List Nat)
  /-- PROF_CLEAR (R324). A write of PROF_CLEAR empties a profile slot, refused as BUSY while it holds a sample. -/
  | profClear (w : Writer) (j : Fin 16)
  /-- HELD_PIN_WRITE (R339). A write of HELD_PIN pins or unpins a sample in the pool, refusing a 17th pin. -/
  | heldPinWrite (w : Writer) (value : Bool)
  /-- REPLAY_GO (R340). A write of REPLAY_GO starts a replay of a sample image on a chosen cluster. -/
  | replayGo (w : Writer)
  /-- REPLAY_DONE (R340). A replay finishes with MATCH, INCONCLUSIVE or DIFFER. `wrong` is as in CLUSTER_RUN_DONE. -/
  | replayDone (wrong : Option (List Nat))
  /-- CUT_ARM_WRITE (R349). A write of CUT_ARM arms a cut on Vager and sends CUT_ARM commands, or is refused with a code. `arm` is the value of R348 as one number. -/
  | cutArmWrite (w : Writer) (arm : Nat)
  /-- CUT_ARM_COMMAND (R351). A Staris receives CUT_ARM, enters ARMED and presents CUT_ARMED with STEP to the die. `head` is the BODY field of the COMMAND (R350). -/
  | cutArmCommand (d : Die) (head : Nat)
  /-- CUT_CANCEL_COMMAND (R352). A Staris receives CUT_CANCEL and ends the cut with code CANCEL. -/
  | cutCancelCommand (d : Die)
  /-- CUT_READY (R351). The die asserts CUT_READY with its step and Staris begins absorption or aborts on a step mismatch. -/
  | cutReady (d : Die) (step : Nat)
  /-- READY_TIMEOUT (R352). No CUT_READY arrives within READY_WAIT and the cut ends with code READY_TIMEOUT. -/
  | readyTimeout (d : Die)
  /-- ABSORPTION_COMPLETE (R354). The last chunk granule has been read, Staris asserts CUT_RELEASE, sends END and returns to IDLE. `data` is the granules of each chunk, in slot order, as they were read. -/
  | absorptionComplete (d : Die) (data : List (List (Nat × Bool)))
  /-- STAY_CHUNK_RX (R355). Vager writes an absorbed chunk into its slot and starts its SHA-256 digest. `spoilt` says that the header granule is poisoned. -/
  | stayChunkRx (p : Die) (header : Nat) (spoilt : Bool) (data : List (Nat × Bool))
  /-- CHUNK_DIGEST_DONE (R355). A chunk's digest completes, and with every END in the cut enters EXCHANGING and sends DIGESTS lists. `errors` are those that the reads of the chunk met, by granule. -/
  | chunkDigestDone (slot : Nat) (errors : List (Nat × HbmError))
  /-- STAY_END_RX (R357). Vager takes a Staris END, moving toward EXCHANGING or to DISCARDED on a code. -/
  | stayEndRx (p : Die) (granule : Nat)
  /-- DIGESTS_RX (R358). Vager takes a peer's DIGESTS segment and, with every list complete, decides chunk owners and enters DRAINING. -/
  | digestsRx (header : Nat) (body : List Nat)
  /-- EXCHANGE_WAIT_EXPIRY (R359). EXCHANGE_WAIT ends with lists missing, silent peers count as holding nothing and the tray enters DRAINING. -/
  | exchangeWaitExpiry
  /-- NVME_CAPSULE_RESP_RX (R364). A Write completion makes chunks durable, advancing the manifest, PREPARED or the commit record. -/
  | nvmeCapsuleRespRx (t : Fin 8) (cid : Nat) (ok : Bool)
  /-- NVME_R2T_RX (R363). An R2T from a target makes Vager send H2CData for the Write. `errors` are those that the reads of the data met, by granule of the data. -/
  | nvmeR2tRx (t : Fin 8) (cid ttag offset length : Nat) (errors : List (Nat × HbmError))
  /-- NVME_ICRESP_RX (R363). An ICResp completes connection set-up with a target. for the connection of queue `q`, the admin queue 0: the digests that the controller accepts and the most bytes it takes in one H2CData, 0 for no limit. -/
  | nvmeIcrespRx (t : Fin 8) (q : Fin 9) (hdgst ddgst : Bool) (most : Nat)
  /-- NVME_C2H_DATA_RX (R363). C2HData of an Identify returns the target's LBA format. -/
  | nvmeC2hDataRx (t : Fin 8) (id : NvmeIdentify)
  /-- NVME_TERM_REQ_RX (R363). A C2HTermReq ends a target connection. -/
  | nvmeTermReqRx (t : Fin 8)
  /-- NVME_WRITE_RETRY (R364). A failed Write's back-off expires and the Write is retried. -/
  | nvmeWriteRetry (t : Fin 8) (cid : Nat)
  /-- HOST_ACK_WRITE (R365). A write of HOST_ACK makes host-ring records durable and frees ring space. -/
  | hostAckWrite (w : Writer) (value : Nat)
  /-- PREP_RESEND_PERIOD (R369). Each PREP_RESEND a tray resends PREPARED, the coordinator resends COMMIT, and HANDOFFs are resent. -/
  | prepResendPeriod
  /-- HANDOFF_RX (R374). A holder takes ownership of a chunk with HANDOFF_ACK if its copy is good, otherwise answers HANDOFF_NAK. -/
  | handoffRx (header : Nat) (body : List Nat)
  /-- HANDOFF_ACK_RX (R374). An owner learns that a holder took its poisoned chunk. -/
  | handoffAckRx (header : Nat)
  /-- HANDOFF_NAK_RX (R374). An owner tries the next holder, or sends UNUSABLE with code 8 when none is left. -/
  | handoffNakRx (header : Nat)
  /-- PREPARED_RX (R369). The coordinator records a position's manifest digest and writes the commit record when every position is held. -/
  | preparedRx (header : Nat) (digest : Nat)
  /-- UNUSABLE_RX (R369). The coordinator sends ABORT to every tray and marks itself aborted. -/
  | unusableRx (header : Nat)
  /-- COMMIT_RX (R369). A tray in PREPARED or COMMITTED becomes COMMITTED, updates LAST_* and SHADOW_CUT and answers COMMIT_ACK. -/
  | commitRx (header : Nat) (digest : Nat)
  /-- COMMIT_ACK_RX (R369). The coordinator stops resending COMMIT to that tray. -/
  | commitAckRx (header : Nat)
  /-- ABORT_RX (R357). A tray's cut goes to ABANDONED with code COORD_ABORT. -/
  | abortRx (header : Nat)
  /-- COMMIT_WAIT_EXPIRY (R371). No PREPARED has arrived for COMMIT_WAIT, and the coordinator records and reports the lowest missing position. -/
  | commitWaitExpiry
  /-- COORD_TRAY_WRITE (R371). A write of COORD_TRAY redirects PREPARED to a new coordinator, which collects afresh. -/
  | coordTrayWrite (w : Writer) (value : Nat)
  /-- PREP_INJECT (R370). A write of PREP_INJECT gives the coordinator a position's manifest digest read back from storage. -/
  | prepInject (w : Writer) (pos : Nat) (digest : List Nat)
  /-- CUT_ABANDON (R357). A write of CUT_ABANDON sends the cut to ABANDONED and cancels it on each Staris still arming or absorbing. -/
  | cutAbandon (w : Writer)
  /-- STAY_BYTES_WRITE (R384). A write of STAY_BYTES resizes the Stay region and CHUNK_SLOTS, refused in busy states or beyond 572 GB. -/
  | stayBytesWrite (w : Writer) (value : Nat)
  /-- RST_PROPOSE (R377). A write of RST_PROPOSE chooses each die's source and checks the shadow or awaits the host's record and manifest. `proposal` is the value of R375 as one number. -/
  | rstPropose (w : Writer) (proposal : Nat)
  /-- RST_LOADED (R377). A write of RST_LOADED checks the host's commit record, manifest and shape, reaching READY or REFUSED. -/
  | rstLoaded (w : Writer)
  /-- RST_LOADED_TIMEOUT (R379). RST_LOADED has not been written within 600 s and the restore is REFUSED with NOT_COMMITTED. -/
  | rstLoadedTimeout
  /-- RST_CONFIRM (R378). A write of RST_CONFIRM starts FILLING or PUSHING, or refuses as MIXED. -/
  | rstConfirm (w : Writer) (cut : Nat)
  /-- RST_FILLED (R380). A write of RST_FILLED starts the hash of a host-filled slot. -/
  | rstFilled (w : Writer) (value : Nat)
  /-- FILL_VERIFY_DONE (R380). A filled slot's hash is compared with the manifest, counting a mismatch, and PUSHING begins when all verify. -/
  | fillVerifyDone (slot : Nat)
  /-- STAY_APERTURE_WRITE (R524). A host write to the Stay aperture is accepted in FILLING as a whole aligned granule, otherwise dropped and counted. -/
  | stayApertureWrite (w : Writer) (offset bytes data : Nat)
  /-- RESTORE_BEGIN_COMMAND (R381). A Staris receives RESTORE_BEGIN, enters RESTORING and asserts the restore hold. `head` is the BODY field of the COMMAND (R350). -/
  | restoreBeginCommand (d : Die) (head : Nat)
  /-- RESTORE_CANCEL_COMMAND (R381). A Staris receives RESTORE_CANCEL and ends RESTORING at once. -/
  | restoreCancelCommand (d : Die)
  /-- RESTORE_CHUNK_RX (R381). A Staris writes a restored chunk into its region by DMA, or refuses a chunk that disagrees with its table. -/
  | restoreChunkRx (d : Die) (header : Nat) (data : List (Nat × Bool))
  /-- RESTORE_MARKER_RX (R381). A Staris receives the restore marker, answers END 0x66, drops the hold and returns to IDLE. -/
  | restoreMarkerRx (d : Die) (granule : Nat)
  /-- RESTORE_END_RX (R376). Vager takes a die's restore END, reaching DONE when every die has answered. -/
  | restoreEndRx (p : Die) (granule : Nat)
  /-- ENERGY_SLICE_BOUNDARY (R389). A 10 µs slice ends, its rail energy is split and pooled, and pending operations and records take effect. `missing` names a rail once for each sample of the slice whose result did not arrive (R387). -/
  | energySliceBoundary (d : Die) (missing : List (Fin 16))
  /-- REQUEST_OPEN (R392). An OPEN by REQ_COMMAND or energy mark opens a request on a context at the next boundary, or is refused with a code. There is no writer where it comes as an energy mark. -/
  | requestOpen (d : Die) (w : Option Writer) (ctx reqId epoch : Nat)
  /-- REQUEST_CLOSE (R392). A CLOSE by REQ_COMMAND or energy mark closes a context's request at the next boundary with a final record. There is no writer where it comes as an energy mark. -/
  | requestClose (d : Die) (w : Option Writer) (ctx reqId epoch : Nat)
  /-- TOTALS_CLEAR (R407). A write of TOTALS_CLEAR clears the energy totals together at the next slice boundary. -/
  | totalsClear (d : Die) (w : Writer)
  /-- BATCH_ACK (R406). A write of BATCH_ACK frees every held batch up to the BSN. -/
  | batchAck (w : Writer) (bsn : Nat)
  /-- FRAME_ENQUEUE (R410). A producer places a frame in its class queue, waiting while the queue is full. an IP packet of `len` bytes for the address `dst`; `q` is the port of LINK traffic. -/
  | frameEnqueue (kind : Fin 6) (q : Fin 2) (dst len : Nat)
  /-- FRAME_TX_DONE (R412). A frame ends or the port is idle and the port starts the head frame of the highest eligible class. -/
  | frameTxDone (q : Fin 2)
  /-- GATE_ENTRY_END (R414). A gate control list entry ends and the next entry's gate states take effect. -/
  | gateEntryEnd (q : Fin 2)
  /-- ANCHOR_INSTANT (R417). An anchor instant restarts a STEP list at entry 0 and clears ANCHOR_FREE. -/
  | anchorInstant (q : Fin 2)
  /-- ANCHOR_LOSS_EXPIRY (R418). ANCHOR_LOSS passes without an anchor and the list restarts running in TIME mode. -/
  | anchorLossExpiry (q : Fin 2)
  /-- CHANGE_SCHEDULE (R420). A write of 1 to CHANGE_CONTROL checks the administrative list and schedules a takeover, or refuses with a code. -/
  | changeSchedule (w : Writer) (q : Fin 2)
  /-- CHANGE_CANCEL (R420). A write of 2 to CHANGE_CONTROL cancels a pending takeover. -/
  | changeCancel (w : Writer) (q : Fin 2)
  /-- GATE_TAKEOVER (R421). At CHANGE_TIME the operational list, mode, anchor and GATE_ENABLE take the administrative values. -/
  | gateTakeover (q : Fin 2)
  /-- CLASS_MAP_WRITE (R422). A write of CLASS_MAP is refused when an operational list would starve LINK or TREE_CTL. -/
  | classMapWrite (w : Writer) (map : List Nat)
  /-- CBS_CONFIG_WRITE (R424). A write of shaper settings is checked and takes effect at the end of the frame in transmission, resetting credit. `field` is the sub-index less 1: enable, slope, high and low limit, reset. -/
  | cbsConfigWrite (w : Writer) (q : Fin 2) (c : Fin 8) (field : Fin 5) (value : Int)
  /-- FABRIC_LINK_UP (R424). A fabric port enters link-up and each class's credit is reset. -/
  | fabricLinkUp (q : Fin 2)
  /-- SHADOW_DESC_WRITE (R437). A write of SHADOW_DESC loads the shadow set, refused while SHADOW_VALID is 1. `desc` is the descriptor of R431 as one number. -/
  | shadowDescWrite (p : Part) (n : Fin 16) (w : Writer) (desc : Nat)
  /-- DMA_ARM (R437). CONTROL 1 sets SHADOW_VALID, and an IDLE channel takes the shadow at once. -/
  | dmaArm (p : Part) (n : Fin 16) (w : Writer)
  /-- DMA_CANCEL (R437). CONTROL 2 clears SHADOW_VALID without a completion. -/
  | dmaCancel (p : Part) (n : Fin 16) (w : Writer)
  /-- DMA_ABORT (R437). CONTROL 3 stops the active transfer after its granules in flight, completing ABORTED. -/
  | dmaAbort (p : Part) (n : Fin 16) (w : Writer)
  /-- DMA_CLEAR (R437). CONTROL 4 leaves HALTED and takes the shadow if valid. -/
  | dmaClear (p : Part) (n : Fin 16) (w : Writer)
  /-- DMA_RESET (R437). CONTROL 5 stops the channel, clears SHADOW_VALID and goes to IDLE. -/
  | dmaReset (p : Part) (n : Fin 16) (w : Writer)
  /-- DMA_TRANSFER_START (R439). A descriptor enters the active set and is checked before any byte moves, halting on ALIGN, DESC, SPACE or COUNT. -/
  | dmaTransferStart (p : Part) (n : Fin 16)
  /-- DMA_ACCESS_DONE (R439). A granule read or write completes, moving poison or halting the channel on RANGE, ACCESS or BUS. -/
  | dmaAccessDone (p : Part) (n : Fin 16) (a : DmaAccess)
  /-- DMA_TRANSFER_END (R441). A transfer ends; the channel writes its record, increments CSO, sends MSI-X and hands over to the shadow. `recordOk` says that the memory takes the completion record. -/
  | dmaTransferEnd (p : Part) (n : Fin 16) (recordOk : Bool)
  /-- DMA_CHANNEL_CLAIM (R430). An internal unit claims a channel after any running transfer ends, preempting a valid shadow. -/
  | dmaChannelClaim (p : Part) (n : Fin 16)
  /-- DMA_CHANNEL_RELEASE (R429). An internal unit releases its channel and the channel returns to IDLE. -/
  | dmaChannelRelease (p : Part) (n : Fin 16)
  /-- CLASSIFIER_LEAK (R447). Every 3.6 s of uptime the classifier subtracts LEAK from every unit level. `errors` are those met since the leak before that no other command named. -/
  | classifierLeak (p : Part) (errors : List MemError)
  /-- HBM_ROW_REPAIR_DONE (R450). A post-package repair of an HBM row completes, its granules are written back and waiting accesses resume. -/
  | hbmRowRepairDone
  /-- WATCHDOG_ASSERT (R457). The die asserts a domain's watchdog line and the domain hangs. -/
  | watchdogAssert (d : Die) (dom : Fin 16)
  /-- HANG_WINDOW_EXPIRY (R457). A domain's outstanding descriptors see no completion for DOM_HANG_WINDOW and the domain hangs. -/
  | hangWindowExpiry (d : Die) (dom : Fin 16)
  /-- DOM_HANG_COMMAND (R457). DOM_COMMAND 1 declares a domain hung. -/
  | domHangCommand (d : Die) (w : Writer) (dom : Fin 16)
  /-- DOM_RESET_COMMAND (R458). DOM_COMMAND 2 resets a domain from RUNNING, WAIT_COMMAND or FAILED. -/
  | domResetCommand (d : Die) (w : Writer) (dom : Fin 16)
  /-- DOM_SAMPLE_COMMAND (R458). DOM_COMMAND 3 moves a domain in WAIT_COMMAND to SAMPLING. -/
  | domSampleCommand (d : Die) (w : Writer) (dom : Fin 16)
  /-- HANG_COMMAND (R457). A Staris receives COMMAND 0x70 from Vager and declares the domain hung. -/
  | hangCommand (d : Die) (dom : Fin 16)
  /-- OUT_OF_SERVICE_COMMAND (R467). A Staris receives COMMAND 0x71 and puts itself out of service again. -/
  | outOfServiceCommand (d : Die)
  /-- HANG_SAMPLE_SENT (R463). The scratchpad sample's last granule is sent or the link drops, SAMPLED is reported and the domain resets. `data` is what the scratchpad sampling port returned before the end. -/
  | hangSampleSent (d : Die) (dom : Fin 16) (data : List (Nat × Bool))
  /-- RESET_HOLD_EXPIRY (R459). RESET_HOLD passes and Staris releases the domain's reset line to await the die's answer. -/
  | resetHoldExpiry (d : Die) (dom : Fin 16)
  /-- RESET_DONE (R459). The die answers that a domain reset is done, stating what it kept, and the domain returns to RUNNING. -/
  | resetDone (d : Die) (dom : Fin 16) (kept : Nat)
  /-- RESET_ACK_TIMEOUT (R458). No reset answer arrives within RESET_ACK_WAIT and the domain enters FAILED. -/
  | resetAckTimeout (d : Die) (dom : Fin 16)
  /-- RETURN_TO_SERVICE (R466). A fleet write clears the reset history, releases every line and returns every domain to RUNNING. -/
  | returnToService (d : Die) (w : Writer)
  /-- PORT_OOS_CLEAR (R467). A write clears a port's out-of-service record and sends RETURN_TO_SERVICE. -/
  | portOosClear (w : Writer) (p : Die)
  /-- HANG_SAMPLE_RX (R464). Vager holds a port's scratchpad sample, or discards it while one is held. -/
  | hangSampleRx (p : Die) (msg : List (Nat × Bool))
  /-- HANG_SAMPLE_RELEASE (R464). A write releases a port's held hang sample. -/
  | hangSampleRelease (w : Writer) (p : Die)
  /-- INST_CLEAR (R473). A write sets an unit's level to 0, keeping any retirement. -/
  | instClear (w : Writer)
  /-- SOFT_RESET (R468). A write of SOFT_RESET resets Staris, keeping and clearing state as R469 lists. -/
  | softReset (d : Die) (w : Writer)
  /-- WARM_RESET (R468). A write of WARM_RESET resets Vager, keeping and clearing state as R469 lists. -/
  | warmReset (w : Writer)
  /-- PERST_ASSERT (R468). PERST# is asserted and Vager takes a warm reset. -/
  | perstAssert
  /-- PERST_DEASSERT (R551). PERST# is deasserted and Vager's PCIe function begins answering configuration requests. -/
  | perstDeassert
  /-- PCIE_FLR (R468). A Function Level Reset resets Vager's PCIe function and aborts host-space DMA channels. -/
  | pcieFlr
  /-- PCIE_POWER_STATE_CHANGE (R561). The host moves the function between D0 and D3hot, stopping MSI-X and host DMA in D3hot. -/
  | pciePowerStateChange (state : Nat)
  /-- VAGER_POWER_ON (R550). PWRGOOD rises and Vager runs its boot sequence from ROM through HBM initialisation to READY. `spares` is the spare rows that each HBM stack reports (R446, R450), and `foreign` says that the serial NOR came from another Vager (R488). -/
  | vagerPowerOn (spares : List Nat) (foreign : Bool)
  /-- PWRGOOD_FALL (R598). PWRGOOD falls and Vager completes NOR work and programs its orderly-end mark. -/
  | pwrgoodFall
  /-- STARIS_RESET_RELEASE (R554). The die releases the Staris reset and Staris initialises SRAM, locks its PLL and starts Halyard training. -/
  | starisResetRelease (d : Die)
  /-- AUTH_NS_PRIV_WRITE (R480). A write grants, renews or withdraws non-secure privileged trace, subject to DEBUG_FUSE. -/
  | authNsPrivWrite (d : Die) (w : Writer) (value : Bool)
  /-- AUTH_SECURE_WRITE (R480). A write grants, renews or withdraws secure trace, subject to DEBUG_FUSE. -/
  | authSecureWrite (d : Die) (w : Writer) (value : Bool)
  /-- AUTH_EXPIRY (R480). A trace grant's AUTH_DURATION expires and it is withdrawn with a GAP. `sec` says that the secure grant expires. -/
  | authExpiry (d : Die) (sec : Bool)
  /-- DBG_GRANT_WRITE (R481). A write opens or closes Vager's debug access port, subject to DEBUG_FUSE. -/
  | dbgGrantWrite (w : Writer) (value : Bool)
  /-- DBG_EXPIRY (R481). DBG_DURATION expires and the debug port closes. -/
  | dbgExpiry
  /-- LK_OFFER_WRITE (R484). A Staris takes Vager's LK_OFFER, makes an ephemeral key, computes Z and signs LK_ANSWER. There is no writer where Vager makes the access itself. -/
  | lkOfferWrite (d : Die) (w : Option Writer) (offer : List Nat)
  /-- LINK_KEY_ESTABLISHED (R486). Vager verifies LK_ANSWER, both ends derive K_link and the link passes from PAIRING to UP or UP_7. `failed` is the step of R484 that failed, if one did. -/
  | linkKeyEstablished (p : Die) (failed : Option Nat)
  /-- LINK_KEY_RETRY (R485). After a link-key failure the retry interval expires and key establishment is tried again. -/
  | linkKeyRetry (p : Die)
  /-- DTLS_HANDSHAKE (R489). A management session handshake is validated against the trust anchors and takes their role and world. -/
  | dtlsHandshake (h : Handshake)
  /-- SESSION_IDLE_EXPIRY (R494). A management session idle for SESSION_IDLE is closed. -/
  | sessionIdleExpiry (session : Nat)
  /-- TA_BYTES_WRITE (R489). A write of TA_BYTES validates a trust anchor. `valid` says that the certificate is one an anchor may hold. -/
  | taBytesWrite (w : Writer) (a : Fin 8) (value : Nat) (valid : Bool)
  /-- OP_CERT_BYTES_WRITE (R493). A write of OP_CERT_BYTES validates the operational certificate against the operational key. `matching` says that its key is the operational key. -/
  | opCertBytesWrite (w : Writer) (value : Nat) (matching : Bool) (expired : Bool)
  /-- SPDM_REQUEST (R495). Vager answers an SPDM request received over PCIe Data Object Exchange. -/
  | spdmRequest (request : List Nat)
  /-- SHEET_READ (R509). A Sheet READ returns each entry's value with its status. -/
  | sheetRead (session : Nat) (r : SheetReq)
  /-- SHEET_WRITE (R504). A Sheet WRITE applies each entry whole in order, staging RWE objects. -/
  | sheetWrite (session : Nat) (r : SheetReq)
  /-- SHEET_STAGE (R597). A STAGE request forms one staged group per named node, or none where an entry fails. -/
  | sheetStage (session : Nat) (r : SheetReq)
  /-- SHEET_STAGE_CANCEL (R509). A STAGE_CANCEL cancels a pending group. -/
  | sheetStageCancel (session : Nat) (r : SheetReq)
  /-- SHEET_SEG_READ (R511). A SEG_READ returns a byte range of an OCTETS or STRING object. -/
  | sheetSegRead (session : Nat) (r : SheetReq)
  /-- SHEET_SEG_WRITE (R511). A SEG_WRITE writes a byte range of an OCTETS or STRING object. -/
  | sheetSegWrite (session : Nat) (r : SheetReq)
  /-- SHEET_SUBSCRIBE (R522). A SUBSCRIBE registers or ends the session's notifications for the kinds in its mask. -/
  | sheetSubscribe (session : Nat) (r : SheetReq)
  /-- SHEET_SPDM (R523). An SPDM request carried in a Sheet message is answered under R495. -/
  | sheetSpdm (session : Nat) (r : SheetReq)
  /-- SHEET_ECHO (R509). An ECHO returns the same entries with status 0. -/
  | sheetEcho (session : Nat) (r : SheetReq)
  /-- STAGED_GROUP_APPLY (R514). A staged group reaches its instant, rechecks its entries and applies all or none. -/
  | stagedGroupApply (p : Part) (group : Nat)
  /-- STAGE_EPOCH_EXPIRY (R516). An epoch-keyed group still pending after STAGE_EPOCH_LIFE expires. -/
  | stageEpochExpiry (group : Nat)
  /-- STAGED_GROUP_FORWARD (R520). One second before its instant Vager forwards a Staris group as KIND 3. -/
  | stagedGroupForward (group : Nat)
  /-- DICT_REQ_RX (R519). A Staris carries out a DICT_REQ's entries under its PWORLD and PROLE and answers one DICT_RESP. `w` is what PWORLD and PROLE say (R519). -/
  | dictReqRx (d : Die) (w : Writer) (r : SheetReq)
  /-- PROXY_TIMEOUT (R520). Entries unanswered after PROXY_TIMEOUT receive TIMEOUT. -/
  | proxyTimeout (p : Die)
  /-- MB_GO (R525). A write of MB_GO submits the mailbox request, and completion raises MB_SEQ and MSI-X. `sec` says that the die marks the access secure (R474), and `vector` is what MB_VECTOR holds. -/
  | mbGo (a : Aperture) (sec : Bool) (vector : Nat) (r : SheetReq)
  /-- MGMT_COMMIT (R529). A write of MGMT_COMMIT applies and stores the management network objects. -/
  | mgmtCommit (w : Writer) (value : Bool)
  /-- CN_KICK (R531). The firmware writes CN_KICK and restarts the supervisor's watchdog period. -/
  | cnKick (w : Writer)
  /-- CN_WATCHDOG_EXPIRY (R531). A watchdog period passes without a kick and the supervisor enters RESTARTING or WARM. -/
  | cnWatchdogExpiry
  /-- CN_CORE_FAULT (R531). The Crow's Nest core faults and the supervisor enters RESTARTING or WARM. -/
  | cnCoreFault
  /-- CN_RESTART_DELAY_END (R531). Ten microseconds after RESTARTING the supervisor returns to BOOT. -/
  | cnRestartDelayEnd
  /-- CN_BOOT_VERIFY_DONE (R531). The boot ROM verifies a slot and starts it as RUNNING, or enters RECOVERY. Whether the image in each Crow's Nest slot passes the checks of R545. -/
  | cnBootVerifyDone (slot0 slot1 : Bool)
  /-- CN_SENSOR_SAMPLE (R533). Every 1 ms Crow's Nest samples its thermal sensors and rails and writes a THERMAL record on crossing THERMAL_WARN. -/
  | cnSensorSample (thermal : List Int) (rails : List Nat)
  /-- RECORD_NOR_WRITE_DONE (R538). A recorder record is programmed into NOR and the next queued record is taken. -/
  | recordNorWriteDone
  /-- NOR_SECTOR_ERASE_DONE (R534). The erase of the next recorder sector completes, losing its oldest records. -/
  | norSectorEraseDone
  /-- REC_FREEZE (R541). A write of 1 to REC_FREEZE stops records being taken from the holding queue. -/
  | recFreeze (w : Writer)
  /-- REC_THAW (R541). A write of 0 to REC_FREEZE thaws the recorder and drains its queue. -/
  | recThaw (w : Writer)
  /-- REC_FREEZE_LIMIT_EXPIRY (R541). REC_FREEZE_LIMIT passes and the recorder thaws. -/
  | recFreezeLimitExpiry
  /-- REC_CLEAR (R542). A write of REC_CLEAR erases every ring sector, refused while frozen. `serial` is the serial number of the clearing session's certificate. -/
  | recClear (w : Writer) (serial : Nat)
  /-- REC_CLEAR_DONE (R542). The ring erase completes and a CLEARED record is written. -/
  | recClearDone
  /-- OP_HOUR_BOUNDARY (R536). An operating hour ends and Vager stores OP_HOURS in NOR. -/
  | opHourBoundary
  /-- FW_STAGE_BYTES_WRITE (R545). A write of FW_STAGE_BYTES starts checking a staged firmware image. -/
  | fwStageBytesWrite (w : Writer) (value : Nat)
  /-- FW_STAGE_CHECK_DONE (R545). Image checks complete and the image is written into the inactive slot, or refused with an error. `signed` says that SIG verifies, and `written` that the NOR takes the image. -/
  | fwStageCheckDone (signed : Bool) (written : Bool)
  /-- MAINT_STOP_WRITE (R546). A write of MAINT_STOP declares a maintenance stop, refused unless contexts are FREE and Stay is idle. -/
  | maintStopWrite (w : Writer) (value : Bool)
  /-- FW_ACTIVATE_CROWS_NEST (R546). FW_ACTIVATE of KIND 1 in a maintenance stop makes the staged slot active and warm-resets Vager. -/
  | fwActivateCrowsNest (w : Writer)
  /-- FW_ACTIVATE_STARIS (R546). FW_ACTIVATE of KIND 2 in a maintenance stop soft-resets each Staris and loads the new image. -/
  | fwActivateStaris (w : Writer)
  /-- FW_CONFIRM (R547). A write of FW_CONFIRM ends the trial of the active image and may raise FW_MIN_SVN. -/
  | fwConfirm (w : Writer)
  /-- FW_TRIAL_EXPIRY (R547). FW_TRIAL passes unconfirmed and the next restart falls back to the other slot. -/
  | fwTrialExpiry
  /-- POWER_REVISIT (R559). Every 10 µs each part revisits and moves each power domain toward its target state. `busy` is the ns of the last 1 ms that the Shroud clusters of R560 were busy, summed, and `hbmIdle` the ns since the last access of each HBM stack. -/
  | powerRevisit (p : Part) (busy : Nat) (hbmIdle : List Nat)
  /-- DOMAIN_WAKE_DONE (R558). A domain completes its wake and waiting demands proceed. -/
  | domainWakeDone (p : Part) (domain : Fin 32)
  /-- WAKE_WRITE (R562). A write of WAKE sets a function's domains ON and holds them for WAKE_HOLD. -/
  | wakeWrite (p : Part) (w : Writer) (f : Fin 3)
  /-- WAKE_HOLD_EXPIRY (R562). WAKE_HOLD ends and the function's domains return to tolerance-driven states. -/
  | wakeHoldExpiry (p : Part) (f : Fin 3)
  /-- REGISTER_WRITE (R504). A write of any object without a row of its own is checked for world, role, access, length and range and applied whole. -/
  | registerWrite (p : Part) (w : Writer) (index sub : Nat) (data : List Nat)
  /-- RETRAIN_DONE (R181). A retrain with the same lanes completes within 2 ms and the link returns from RETRAIN to UP or UP_7, keeping replay, SEQ and credit state. -/
  | retrainDone (v : Bool) (p : Die)
  /-- SPARE_CORE_REMAP (R579). The die sends a remap on SCM, and Staris treats a remapped trace source as a source reset while a remapped slot keeps its context entry. -/
  | spareCoreRemap (d : Die) (source : Fin 256) (slot : Fin 256) (kind : Fin 4)
  /-- SESSION_CLOSE (R522). A management session is closed by its peer, ending its notification registration and freeing its place under MAX_SESSIONS. -/
  | sessionClose (session : Nat)
  /-- MGMT_LINK_CHANGE (R49). The management port's link goes down or comes up, changing MGMT_LINK and restarting the PTP port, at which a pending STACK_OWNER takes effect. `link` is the new value of MGMT_LINK. -/
  | mgmtLinkChange (link : Fin 3)
deriving DecidableEq, Repr

end Sys2Proof
end

