-- ==== Sys2Proof/Decode.lean ====
section
/-! DEFINITION. Decode.lean: the command that a word spells by the bits of spec/opcode_table.json. No row of the table gives bits: the
commands come over buses, links and pins, so no word spells one. -/

namespace Sys2Proof

/-- The command that a word of the table's bits spells: none, for no row of the table gives its bits. -/
def decodeTableWord (_nbits _w : Nat) : Option Instr := none

end Sys2Proof
end

