-- ==== Sys2Proof/Config.lean ====
section
/-! DEFINITION. Config.lean: what the spec leaves open. Each constant has no body, so nothing can be proved of its value: a
statement about the machine holds whatever it is. -/

namespace Sys2Proof

/-- The `n`th value the spec leaves open, as a number. Log entry 3. -/
opaque Config.freeNat : Nat → Nat

/-- The `n`th value the spec leaves open, as an integer. Log entry 3. -/
opaque Config.freeInt : Nat → Int

/-- The payload of a NaN whose bits the spec does not give (R326): by what makes it, 0 an invalid operation and 1 a NaN
scale. A function, so that every cluster makes the same one. Log entry 35. -/
opaque Config.freeNan : Nat → Nat

/-- How the AUTH record of R537 codes the kind of a grant (R482): 0 non-secure privileged trace, 1 secure trace, 2 the debug access
port. Log entry 3. -/
opaque Config.grantKind : Nat → Nat

/-- The TAG of a record in Vager's NOR (R535): the first eight bytes of an HMAC under a key that no one reads, by the record without
it. Log entry 3. -/
opaque Config.recordTag : Nat → Nat

/-- What R496 measures of the part itself: 0 the digest of the boot ROM, 1 the fuse revision. Log entry 3. -/
opaque Config.partConstant : Nat → Nat

/-- The digest of measurement 6 over the partition, whose encoding R496 does not give, by the partition's values. Log entry 3. -/
opaque Config.partitionDigest : List Nat → Nat

/-- The DMTF type of a measurement block (R496), by its index. Log entry 3. -/
opaque Config.measurementType : Nat → Nat

/-- The bytes that DTLS 1.3 adds to a datagram: its record header and tag, which no rule lays out (R212, R366, R490). Log entry 162. -/
opaque Config.dtlsOverhead : Nat

/-- The IPv6 address of a tray that no object of this Vager gives (R369). Log entry 163. -/
opaque Config.trayAddress : Nat → Nat

/-- The sum and the NaN that a second half with this node word meets where no first half comes before it (R255), which the pseudocode
leaves unset. Log entry 55. -/
opaque Config.strayHalf : Nat → Int × Bool

/-- The host identifier that Vager gives in an NVMe over Fabrics Connect (R363), by byte. Log entry 102. -/
opaque Config.nvmeHost : Nat → Nat

end Sys2Proof
end

