-- ==== Sys2Proof/Machine/Bits.lean ====
section
/-! DEFINITION. Machine/Bits.lean: bit fields (R7), little-endian bytes (R10), two's complement (R501), the modular
rule of the Lanyard counter (R69) and its signed reading (R46). -/

namespace Sys2Proof.Machine

/-- The field [hi:lo] of `x` (R7). -/
def bits (x hi lo : Nat) : Nat := x / 2 ^ lo % 2 ^ (hi + 1 - lo)

/-- Bit `i` of `x` is 1. -/
def bitAt (x i : Nat) : Bool := x / 2 ^ i % 2 == 1

/-- The value `v` cut to `w` bits and placed at bit `lo`. -/
def fld (lo w v : Nat) : Nat := v % 2 ^ w * 2 ^ lo

/-- `x` with its field of `w` bits at `lo` replaced by `v`. -/
def setFld (x lo w v : Nat) : Nat := x / 2 ^ (lo + w) * 2 ^ (lo + w) + fld lo w v + x % 2 ^ lo

/-- `x` with bit `i` set to `b`. -/
def setBit (x i : Nat) (b : Bool) : Nat := setFld x i 1 b.toNat

/-- `x` placed in a sorted list before the first element that it does not come after. -/
def sortInsert {α : Type} (le : α → α → Bool) (x : α) : List α → List α
  | [] => [x]
  | y :: t => if le x y then x :: y :: t else y :: sortInsert le x t

/-- A list in the order of `le`; equal elements keep their order. -/
def sortBy {α : Type} (le : α → α → Bool) : List α → List α
  | [] => []
  | x :: t => sortInsert le x (sortBy le t)

/-- `b` as a BOOL object holds it (R501). -/
def ofBool (b : Bool) : Nat := b.toNat

/-- `x` read as a two's complement number of `w` bits (R501). -/
def toSigned (w x : Nat) : Int := if x % 2 ^ w < 2 ^ (w - 1) then (x % 2 ^ w : Nat) else (x % 2 ^ w : Nat) - (2 ^ w : Nat)

/-- `i` as a two's complement number of `w` bits (R501). -/
def ofSigned (w : Nat) (i : Int) : Nat := (i % (2 ^ w : Nat)).toNat

/-- `a` minus `b` modulo `2^w`. -/
def subMod (w a b : Nat) : Nat := (a % 2 ^ w + 2 ^ w - b % 2 ^ w) % 2 ^ w

/-- The modular rule of R69: `now` has reached or passed `target`. -/
def reached (now target : Nat) : Bool := subMod 32 now target < 2 ^ 31

/-- `a` less `b` modulo 2^32, read as a signed 32-bit number (R46, R179). -/
def signedDiff32 (a b : Nat) : Int := toSigned 32 (subMod 32 a b)

/-- The least significant `n` bytes of `x`, byte 0 first (R10). -/
def toBytes : Nat → Nat → List Nat
  | 0, _ => []
  | n + 1, x => x % 256 :: toBytes n (x / 256)

/-- The number whose bytes are listed, byte 0 least significant (R10). -/
def ofBytes : List Nat → Nat
  | [] => 0
  | b :: bs => b % 256 + 256 * ofBytes bs

/-- `a` added to `b` in a counter that saturates at `2^w - 1`. -/
def satAdd (w a b : Nat) : Nat := min (a + b) (2 ^ w - 1)

/-- The number of granules of 32 bytes that `n` bytes fill. -/
def granulesOf (n : Nat) : Nat := (n + 31) / 32

/-- How many bits of `x` below `n` are 1. -/
def popCount : Nat → Nat → Nat
  | 0, _ => 0
  | n + 1, x => x % 2 + popCount n (x / 2)

end Sys2Proof.Machine
end

