-- ==== Sys2Proof/Machine/Sha.lean ====
section
/-! DEFINITION. Machine/Sha.lean: SHA-256, which R232, R264 and later rules name, SHA-384 and HMAC-SHA-384, by FIPS 180-4 and
FIPS 198-1 (log entry 33), on lists of bytes, byte 0 first. -/

namespace Sys2Proof.Machine

/-- A word rotated right. -/
def rotr (n x : Nat) : Nat := x / 2 ^ n + x % 2 ^ n * 2 ^ (32 - n)

/-- The round constants of FIPS 180-4. -/
def shaK : List Nat :=
  [0x428A2F98, 0x71374491, 0xB5C0FBCF, 0xE9B5DBA5, 0x3956C25B, 0x59F111F1, 0x923F82A4, 0xAB1C5ED5] ++
  [0xD807AA98, 0x12835B01, 0x243185BE, 0x550C7DC3, 0x72BE5D74, 0x80DEB1FE, 0x9BDC06A7, 0xC19BF174] ++
  [0xE49B69C1, 0xEFBE4786, 0x0FC19DC6, 0x240CA1CC, 0x2DE92C6F, 0x4A7484AA, 0x5CB0A9DC, 0x76F988DA] ++
  [0x983E5152, 0xA831C66D, 0xB00327C8, 0xBF597FC7, 0xC6E00BF3, 0xD5A79147, 0x06CA6351, 0x14292967] ++
  [0x27B70A85, 0x2E1B2138, 0x4D2C6DFC, 0x53380D13, 0x650A7354, 0x766A0ABB, 0x81C2C92E, 0x92722C85] ++
  [0xA2BFE8A1, 0xA81A664B, 0xC24B8B70, 0xC76C51A3, 0xD192E819, 0xD6990624, 0xF40E3585, 0x106AA070] ++
  [0x19A4C116, 0x1E376C08, 0x2748774C, 0x34B0BCB5, 0x391C0CB3, 0x4ED8AA4A, 0x5B9CCA4F, 0x682E6FF3] ++
  [0x748F82EE, 0x78A5636F, 0x84C87814, 0x8CC70208, 0x90BEFFFA, 0xA4506CEB, 0xBEF9A3F7, 0xC67178F2]

/-- The initial hash value of FIPS 180-4. -/
def shaInit : List Nat := [0x6A09E667, 0xBB67AE85, 0x3C6EF372, 0xA54FF53A, 0x510E527F, 0x9B05688C, 0x1F83D9AB, 0x5BE0CD19]

/-- The number whose bytes are listed, byte 0 most significant. -/
def ofBytesBE (bs : List Nat) : Nat := bs.foldl (fun x b => x * 256 + b % 256) 0

/-- The `n` bytes of `x`, most significant first. -/
def toBytesBE (n x : Nat) : List Nat := (toBytes n x).reverse

/-- The message padded to whole blocks of 64 bytes. -/
def shaPad (bs : List Nat) : List Nat :=
  let n := bs.length
  bs ++ [0x80] ++ List.replicate ((119 - n % 64) % 64) 0 ++ toBytesBE 8 (8 * n)

/-- The message schedule, newest word first, extended by `n` words. -/
def shaSchedule : Nat → List Nat → List Nat
  | 0, w => w
  | n + 1, w =>
    let a := w.getD 14 0
    let b := w.getD 1 0
    let s0 := Nat.xor (Nat.xor (rotr 7 a) (rotr 18 a)) (a / 2 ^ 3)
    let s1 := Nat.xor (Nat.xor (rotr 17 b) (rotr 19 b)) (b / 2 ^ 10)
    shaSchedule n ((w.getD 15 0 + s0 + w.getD 6 0 + s1) % 2 ^ 32 :: w)

/-- The eight working variables of a round. -/
structure ShaVars where
  a : Nat
  b : Nat
  c : Nat
  d : Nat
  e : Nat
  f : Nat
  g : Nat
  h : Nat
deriving DecidableEq, Repr

/-- One round. -/
def shaRound (v : ShaVars) (kw : Nat × Nat) : ShaVars :=
  let s1 := Nat.xor (Nat.xor (rotr 6 v.e) (rotr 11 v.e)) (rotr 25 v.e)
  let ch := Nat.xor (Nat.land v.e v.f) (Nat.land (2 ^ 32 - 1 - v.e) v.g)
  let t1 := v.h + s1 + ch + kw.1 + kw.2
  let s0 := Nat.xor (Nat.xor (rotr 2 v.a) (rotr 13 v.a)) (rotr 22 v.a)
  let mj := Nat.xor (Nat.xor (Nat.land v.a v.b) (Nat.land v.a v.c)) (Nat.land v.b v.c)
  { a := (t1 + s0 + mj) % 2 ^ 32, b := v.a, c := v.b, d := v.c, e := (v.d + t1) % 2 ^ 32, f := v.e, g := v.f, h := v.g }

/-- One block of 64 bytes joins the hash value. -/
def shaBlock (hs : List Nat) (block : List Nat) : List Nat :=
  let w := (List.range 16).map fun i => ofBytesBE ((block.drop (4 * i)).take 4)
  let ws := (shaSchedule 48 w.reverse).reverse
  let x := fun i => hs.getD i 0
  let v := (shaK.zip ws).foldl shaRound
    { a := x 0, b := x 1, c := x 2, d := x 3, e := x 4, f := x 5, g := x 6, h := x 7 }
  [(x 0 + v.a) % 2 ^ 32, (x 1 + v.b) % 2 ^ 32, (x 2 + v.c) % 2 ^ 32, (x 3 + v.d) % 2 ^ 32,
   (x 4 + v.e) % 2 ^ 32, (x 5 + v.f) % 2 ^ 32, (x 6 + v.g) % 2 ^ 32, (x 7 + v.h) % 2 ^ 32]

/-- The blocks of a padded message, `n` of them. -/
def shaBlocks : Nat → List Nat → List Nat → List Nat
  | 0, hs, _ => hs
  | n + 1, hs, bs => shaBlocks n (shaBlock hs (bs.take 64)) (bs.drop 64)

/-- The SHA-256 digest of a string of bytes. -/
def sha256 (bs : List Nat) : List Nat :=
  let p := shaPad bs
  (shaBlocks (p.length / 64) shaInit p).flatMap (toBytesBE 4)

/-! ### SHA-384 -/

/-- A 64-bit word rotated right. -/
def rotr64 (n x : Nat) : Nat := x / 2 ^ n + x % 2 ^ n * 2 ^ (64 - n)

/-- The round constants of SHA-384. -/
def sha384K : List Nat :=
  [0x428A2F98D728AE22, 0x7137449123EF65CD, 0xB5C0FBCFEC4D3B2F, 0xE9B5DBA58189DBBC, 0x3956C25BF348B538] ++
  [0x59F111F1B605D019, 0x923F82A4AF194F9B, 0xAB1C5ED5DA6D8118, 0xD807AA98A3030242, 0x12835B0145706FBE] ++
  [0x243185BE4EE4B28C, 0x550C7DC3D5FFB4E2, 0x72BE5D74F27B896F, 0x80DEB1FE3B1696B1, 0x9BDC06A725C71235] ++
  [0xC19BF174CF692694, 0xE49B69C19EF14AD2, 0xEFBE4786384F25E3, 0x0FC19DC68B8CD5B5, 0x240CA1CC77AC9C65] ++
  [0x2DE92C6F592B0275, 0x4A7484AA6EA6E483, 0x5CB0A9DCBD41FBD4, 0x76F988DA831153B5, 0x983E5152EE66DFAB] ++
  [0xA831C66D2DB43210, 0xB00327C898FB213F, 0xBF597FC7BEEF0EE4, 0xC6E00BF33DA88FC2, 0xD5A79147930AA725] ++
  [0x06CA6351E003826F, 0x142929670A0E6E70, 0x27B70A8546D22FFC, 0x2E1B21385C26C926, 0x4D2C6DFC5AC42AED] ++
  [0x53380D139D95B3DF, 0x650A73548BAF63DE, 0x766A0ABB3C77B2A8, 0x81C2C92E47EDAEE6, 0x92722C851482353B] ++
  [0xA2BFE8A14CF10364, 0xA81A664BBC423001, 0xC24B8B70D0F89791, 0xC76C51A30654BE30, 0xD192E819D6EF5218] ++
  [0xD69906245565A910, 0xF40E35855771202A, 0x106AA07032BBD1B8, 0x19A4C116B8D2D0C8, 0x1E376C085141AB53] ++
  [0x2748774CDF8EEB99, 0x34B0BCB5E19B48A8, 0x391C0CB3C5C95A63, 0x4ED8AA4AE3418ACB, 0x5B9CCA4F7763E373] ++
  [0x682E6FF3D6B2B8A3, 0x748F82EE5DEFB2FC, 0x78A5636F43172F60, 0x84C87814A1F0AB72, 0x8CC702081A6439EC] ++
  [0x90BEFFFA23631E28, 0xA4506CEBDE82BDE9, 0xBEF9A3F7B2C67915, 0xC67178F2E372532B, 0xCA273ECEEA26619C] ++
  [0xD186B8C721C0C207, 0xEADA7DD6CDE0EB1E, 0xF57D4F7FEE6ED178, 0x06F067AA72176FBA, 0x0A637DC5A2C898A6] ++
  [0x113F9804BEF90DAE, 0x1B710B35131C471B, 0x28DB77F523047D84, 0x32CAAB7B40C72493, 0x3C9EBE0A15C9BEBC] ++
  [0x431D67C49C100D4C, 0x4CC5D4BECB3E42B6, 0x597F299CFC657E2A, 0x5FCB6FAB3AD6FAEC, 0x6C44198C4A475817]

/-- The initial hash value of SHA-384. -/
def sha384Init : List Nat :=
  [0xCBBB9D5DC1059ED8, 0x629A292A367CD507, 0x9159015A3070DD17, 0x152FECD8F70E5939] ++
  [0x67332667FFC00B31, 0x8EB44A8768581511, 0xDB0C2E0D64F98FA7, 0x47B5481DBEFA4FA4]

/-- The message padded to whole blocks of 128 bytes. -/
def sha384Pad (bs : List Nat) : List Nat :=
  let n := bs.length
  bs ++ [0x80] ++ List.replicate ((239 - n % 128) % 128) 0 ++ toBytesBE 16 (8 * n)

/-- The message schedule, newest word first, extended by `n` words. -/
def sha384Schedule : Nat → List Nat → List Nat
  | 0, w => w
  | n + 1, w =>
    let a := w.getD 14 0
    let b := w.getD 1 0
    let s0 := Nat.xor (Nat.xor (rotr64 1 a) (rotr64 8 a)) (a / 2 ^ 7)
    let s1 := Nat.xor (Nat.xor (rotr64 19 b) (rotr64 61 b)) (b / 2 ^ 6)
    sha384Schedule n ((w.getD 15 0 + s0 + w.getD 6 0 + s1) % 2 ^ 64 :: w)

/-- One round of SHA-384. -/
def sha384Round (v : ShaVars) (kw : Nat × Nat) : ShaVars :=
  let s1 := Nat.xor (Nat.xor (rotr64 14 v.e) (rotr64 18 v.e)) (rotr64 41 v.e)
  let ch := Nat.xor (Nat.land v.e v.f) (Nat.land (2 ^ 64 - 1 - v.e) v.g)
  let t1 := v.h + s1 + ch + kw.1 + kw.2
  let s0 := Nat.xor (Nat.xor (rotr64 28 v.a) (rotr64 34 v.a)) (rotr64 39 v.a)
  let mj := Nat.xor (Nat.xor (Nat.land v.a v.b) (Nat.land v.a v.c)) (Nat.land v.b v.c)
  { a := (t1 + s0 + mj) % 2 ^ 64, b := v.a, c := v.b, d := v.c, e := (v.d + t1) % 2 ^ 64, f := v.e, g := v.f, h := v.g }

/-- One block of 128 bytes joins the hash value. -/
def sha384Block (hs : List Nat) (block : List Nat) : List Nat :=
  let w := (List.range 16).map fun i => ofBytesBE ((block.drop (8 * i)).take 8)
  let ws := (sha384Schedule 64 w.reverse).reverse
  let x := fun i => hs.getD i 0
  let v := (sha384K.zip ws).foldl sha384Round
    { a := x 0, b := x 1, c := x 2, d := x 3, e := x 4, f := x 5, g := x 6, h := x 7 }
  [(x 0 + v.a) % 2 ^ 64, (x 1 + v.b) % 2 ^ 64, (x 2 + v.c) % 2 ^ 64, (x 3 + v.d) % 2 ^ 64,
   (x 4 + v.e) % 2 ^ 64, (x 5 + v.f) % 2 ^ 64, (x 6 + v.g) % 2 ^ 64, (x 7 + v.h) % 2 ^ 64]

/-- The blocks of a padded message, `n` of them. -/
def sha384Blocks : Nat → List Nat → List Nat → List Nat
  | 0, hs, _ => hs
  | n + 1, hs, bs => sha384Blocks n (sha384Block hs (bs.take 128)) (bs.drop 128)

/-- The SHA-384 digest of a string of bytes. -/
def sha384 (bs : List Nat) : List Nat :=
  let p := sha384Pad bs
  ((sha384Blocks (p.length / 128) sha384Init p).flatMap (toBytesBE 8)).take 48

/-- HMAC-SHA-384 (FIPS 198-1). -/
def hmac384 (key msg : List Nat) : List Nat :=
  let k := if 128 < key.length then sha384 key else key
  let k := k ++ List.replicate (128 - k.length) 0
  sha384 ((k.map fun b => Nat.xor b 0x5C) ++ sha384 ((k.map fun b => Nat.xor b 0x36) ++ msg))

end Sys2Proof.Machine
end

