-- ==== Sys2Proof/Machine/Objects.lean ====
section
/-! DEFINITION. Machine/Objects.lean: the keys of the object dictionary: index times 256 plus sub-index (R15), one name
for each object of the spec's object tables, the name of the table followed by its index. -/

namespace Sys2Proof.Machine.O

/-- 0x2000:01, Staris (R75). -/
abbrev LANYARD_NOW_2000 : Nat := 0x200001
/-- 0x2000:02, Staris (R75). -/
abbrev LANYARD_NS_2000 : Nat := 0x200002
/-- 0x2001:01, Staris (R75). -/
abbrev INCREMENT_2001 : Nat := 0x200101
/-- 0x2001:02, Staris (R75). -/
abbrev MODE_2001 : Nat := 0x200102
/-- 0x2002:01, Staris (R75). -/
abbrev TIME_STATE_2002 : Nat := 0x200201
/-- 0x2002:02, Staris (R75). -/
abbrev UPSTREAM_HOLDOVER_2002 : Nat := 0x200202
/-- 0x2002:03, Staris (R75). -/
abbrev HOLDOVER_ENTRIES_2002 : Nat := 0x200203
/-- 0x2002:04, Staris (R75). -/
abbrev TW_ACCEPTED_2002 : Nat := 0x200204
/-- 0x2002:05, Staris (R75). -/
abbrev STEPS_APPLIED_2002 : Nat := 0x200205
/-- 0x2002:06, Staris (R75). -/
abbrev TW_DISCARDED_2002 : Nat := 0x200206
/-- 0x2002:07, Staris (R75). -/
abbrev ACTIONS_LOST_2002 : Nat := 0x200207
/-- 0x2003:01, Staris (R75). -/
abbrev STEP_2003 : Nat := 0x200301
/-- 0x2003:02, Staris (R75). -/
abbrev HOLDOVER_TIMEOUT_2003 : Nat := 0x200302
/-- 0x2010+n:01, Staris (R75). -/
abbrev CMP_TARGET_2010 (n : Nat) : Nat := 0x201001 + 256 * n
/-- 0x2010+n:02, Staris (R75). -/
abbrev CMP_PERIOD_2010 (n : Nat) : Nat := 0x201002 + 256 * n
/-- 0x2010+n:03, Staris (R75). -/
abbrev CMP_ACTION_2010 (n : Nat) : Nat := 0x201003 + 256 * n
/-- 0x2010+n:04, Staris (R75). -/
abbrev CMP_ARG_2010 (n : Nat) : Nat := 0x201004 + 256 * n
/-- 0x2010+n:05, Staris (R75). -/
abbrev CMP_ARM_2010 (n : Nat) : Nat := 0x201005 + 256 * n
/-- 0x2010+n:06, Staris (R75). -/
abbrev CMP_STATUS_2010 (n : Nat) : Nat := 0x201006 + 256 * n
/-- 0x2010+n:07, Staris (R75). -/
abbrev CMP_FIRE_TIME_2010 (n : Nat) : Nat := 0x201007 + 256 * n
/-- 0x2100:01, Vager (R76). -/
abbrev VAGER_NOW_2100 : Nat := 0x210001
/-- 0x2100:02, Vager (R76). -/
abbrev EXTENDED_NOW_2100 : Nat := 0x210002
/-- 0x2100:03, Vager (R76). -/
abbrev WRAP_WORD_2100 : Nat := 0x210003
/-- 0x2100:04, Vager (R76). -/
abbrev SECONDS_SET_2100 : Nat := 0x210004
/-- 0x2101:01, Vager (R76). -/
abbrev TIME_STATE_2101 : Nat := 0x210101
/-- 0x2101:02, Vager (R76). -/
abbrev SOURCE_2101 : Nat := 0x210102
/-- 0x2101:03, Vager (R76). -/
abbrev HOLDOVER_SINCE_2101 : Nat := 0x210103
/-- 0x2101:04, Vager (R76). -/
abbrev GM_IDENTITY_2101 : Nat := 0x210104
/-- 0x2101:05, Vager (R76). -/
abbrev OFFSET_FROM_MASTER_2101 : Nat := 0x210105
/-- 0x2101:06, Vager (R76). -/
abbrev MEAN_PATH_DELAY_2101 : Nat := 0x210106
/-- 0x2101:07, Vager (R76). -/
abbrev STEPS_APPLIED_2101 : Nat := 0x210107
/-- 0x2101:08, Vager (R76). -/
abbrev GM_CHANGES_2101 : Nat := 0x210108
/-- 0x2102:01, Vager (R76). -/
abbrev DOMAIN_2102 : Nat := 0x210201
/-- 0x2102:02, Vager (R76). -/
abbrev PROFILE_2102 : Nat := 0x210202
/-- 0x2102:03, Vager (R76). -/
abbrev TRANSPORT_2102 : Nat := 0x210203
/-- 0x2102:04, Vager (R76). -/
abbrev LOG_SYNC_INTERVAL_2102 : Nat := 0x210204
/-- 0x2102:05, Vager (R76). -/
abbrev LOG_MIN_DELAY_REQ_2102 : Nat := 0x210205
/-- 0x2102:06, Vager (R76). -/
abbrev ANNOUNCE_TIMEOUT_2102 : Nat := 0x210206
/-- 0x2102:07, Vager (R76). -/
abbrev PRIORITY1_2102 : Nat := 0x210207
/-- 0x2102:08, Vager (R76). -/
abbrev PRIORITY2_2102 : Nat := 0x210208
/-- 0x2102:09, Vager (R76). -/
abbrev CLOCK_CLASS_2102 : Nat := 0x210209
/-- 0x2102:0A, Vager (R76). -/
abbrev SLAVE_ONLY_2102 : Nat := 0x21020A
/-- 0x2102:0B, Vager (R76). -/
abbrev STACK_OWNER_2102 : Nat := 0x21020B
/-- 0x2103:01, Vager (R76). -/
abbrev STEP_THRESHOLD_2103 : Nat := 0x210301
/-- 0x2103:02, Vager (R76). -/
abbrev MAX_SLEW_2103 : Nat := 0x210302
/-- 0x2103:03, Vager (R76). -/
abbrev LOCK_THRESHOLD_2103 : Nat := 0x210303
/-- 0x2103:04, Vager (R76). -/
abbrev LOCK_COUNT_2103 : Nat := 0x210304
/-- 0x2103:05, Vager (R76). -/
abbrev REF_STABILITY_2103 : Nat := 0x210305
/-- 0x2103:06, Vager (R76). -/
abbrev HOLDOVER_BOUND_2103 : Nat := 0x210306
/-- 0x2104:01, Vager (R76). -/
abbrev PPS_OUT_ENABLE_2104 : Nat := 0x210401
/-- 0x2104:02, Vager (R76). -/
abbrev PPS_OUT_WIDTH_2104 : Nat := 0x210402
/-- 0x2104:03, Vager (R76). -/
abbrev PPS_OUT_OFFSET_2104 : Nat := 0x210403
/-- 0x2104:04, Vager (R76). -/
abbrev PPS_OUT_WHEN_2104 : Nat := 0x210404
/-- 0x2104:05, Vager (R76). -/
abbrev PPS_IN_EDGE_2104 : Nat := 0x210405
/-- 0x2104:06, Vager (R76). -/
abbrev PPS_IN_COUNT_2104 : Nat := 0x210406
/-- 0x2104:07, Vager (R76). -/
abbrev PPS_IN_CABLE_2104 : Nat := 0x210407
/-- 0x2104:08, Vager (R76). -/
abbrev PPS_IN_REJECTED_2104 : Nat := 0x210408
/-- 0x2105:01, Vager (R76). -/
abbrev TSQ_FILL_2105 : Nat := 0x210501
/-- 0x2105:02, Vager (R76). -/
abbrev TSQ_HEAD_SEQ_2105 : Nat := 0x210502
/-- 0x2105:03, Vager (R76). -/
abbrev TSQ_HEAD_TYPE_2105 : Nat := 0x210503
/-- 0x2105:04, Vager (R76). -/
abbrev TSQ_HEAD_TIME_2105 : Nat := 0x210504
/-- 0x2105:05, Vager (R76). -/
abbrev TSQ_POP_2105 : Nat := 0x210505
/-- 0x2105:06, Vager (R76). -/
abbrev TSQ_OVERFLOW_2105 : Nat := 0x210506
/-- 0x2105:07, Vager (R76). -/
abbrev TSQ_OVERFLOW_CLEAR_2105 : Nat := 0x210507
/-- 0x2105:08, Vager (R76). -/
abbrev TSQ_HEAD_DOMAIN_2105 : Nat := 0x210508
/-- 0x2106:01, Vager (R76). -/
abbrev TW_RATE_2106 : Nat := 0x210601
/-- 0x2110+p:01, Vager (R76). -/
abbrev PORT_OFFSET_2110 (n : Nat) : Nat := 0x211001 + 256 * n
/-- 0x2110+p:02, Vager (R76). -/
abbrev PORT_DELAY_2110 (n : Nat) : Nat := 0x211002 + 256 * n
/-- 0x2110+p:03, Vager (R76). -/
abbrev PORT_ASYMMETRY_2110 (n : Nat) : Nat := 0x211003 + 256 * n
/-- 0x2110+p:04, Vager (R76). -/
abbrev PORT_EXCHANGES_2110 (n : Nat) : Nat := 0x211004 + 256 * n
/-- 0x2110+p:05, Vager (R76). -/
abbrev PORT_LOST_2110 (n : Nat) : Nat := 0x211005 + 256 * n
/-- 0x2110+p:06, Vager (R76). -/
abbrev PORT_STARIS_STATE_2110 (n : Nat) : Nat := 0x211006 + 256 * n
/-- 0x2110+p:07, Vager (R76). -/
abbrev PORT_INC_SENT_2110 (n : Nat) : Nat := 0x211007 + 256 * n
/-- 0x3000:01, Staris (R115). -/
abbrev EVT_STALE_WINDOW_3000 : Nat := 0x300001
/-- 0x3000:02, Staris (R115). -/
abbrev EVT_POLARITY_3000 : Nat := 0x300002
/-- 0x3000:03, Staris (R115). -/
abbrev EVT_STUCK_NOW_3000 : Nat := 0x300003
/-- 0x3000:04, Staris (R115). -/
abbrev EVT_STUCK_SEEN_3000 : Nat := 0x300004
/-- 0x3000:05, Staris (R115). -/
abbrev EVT_OVERRUN_3000 : Nat := 0x300005
/-- 0x3000:06, Staris (R115). -/
abbrev EVT_FLAGS_CLEAR_3000 : Nat := 0x300006
/-- 0x3000:07, Staris (R115). -/
abbrev EVT_ENGINE_MAP_3000 : Nat := 0x300007
/-- 0x3001:01, Staris (R115). -/
abbrev ENGINE_CONTEXT_3001 : Nat := 0x300101
/-- 0x3010:01, Staris (R115). -/
abbrev CNT_SELECT_3010 : Nat := 0x301001
/-- 0x3010:02, Staris (R115). -/
abbrev CNT_CONFIG_3010 : Nat := 0x301002
/-- 0x3010:03, Staris (R115). -/
abbrev CNT_VALUE_3010 : Nat := 0x301003
/-- 0x3010:04, Staris (R115). -/
abbrev CNT_CLEAR_3010 : Nat := 0x301004
/-- 0x3010:05, Staris (R115). -/
abbrev CNT_BLOCK_3010 : Nat := 0x301005
/-- 0x3020:01, Staris (R115). -/
abbrev SNAP_STATE_3020 : Nat := 0x302001
/-- 0x3020:02, Staris (R115). -/
abbrev SNAP_TIME_3020 : Nat := 0x302002
/-- 0x3020:03, Staris (R115). -/
abbrev SNAP_TIME_STATE_3020 : Nat := 0x302003
/-- 0x3020:04, Staris (R115). -/
abbrev SNAP_SEQ_3020 : Nat := 0x302004
/-- 0x3020:05, Staris (R115). -/
abbrev SNAP_RELEASE_3020 : Nat := 0x302005
/-- 0x3020:06, Staris (R115). -/
abbrev SNAP_POLICY_3020 : Nat := 0x302006
/-- 0x3020:07, Staris (R115). -/
abbrev SNAP_MISSED_3020 : Nat := 0x302007
/-- 0x3020:08, Staris (R115). -/
abbrev SNAP_SELECT_3020 : Nat := 0x302008
/-- 0x3020:09, Staris (R115). -/
abbrev SNAP_BLOCK_3020 : Nat := 0x302009
/-- 0x3020:0A, Staris (R115). -/
abbrev SNAP_PUSH_3020 : Nat := 0x30200A
/-- 0x3030:01, Staris (R115). -/
abbrev THERMAL_3030 : Nat := 0x303001
/-- 0x3030:02, Staris (R115). -/
abbrev OPTICAL_3030 : Nat := 0x303002
/-- 0x3030:03, Staris (R115). -/
abbrev RAIL_V_3030 : Nat := 0x303003
/-- 0x3030:04, Staris (R115). -/
abbrev RAIL_I_3030 : Nat := 0x303004
/-- 0x3030:05, Staris (R115). -/
abbrev RAIL_I_LSB_3030 : Nat := 0x303005
/-- 0x3030:06, Staris (R115). -/
abbrev THERMAL_LIMIT_3030 : Nat := 0x303006
/-- 0x3030:07, Staris (R115). -/
abbrev OPTICAL_FLOOR_3030 : Nat := 0x303007
/-- 0x3031:01, Staris (R115). -/
abbrev DROOP_THRESH_3031 : Nat := 0x303101
/-- 0x3031:02, Staris (R115). -/
abbrev DROOP_SEEN_3031 : Nat := 0x303102
/-- 0x3031:03, Staris (R115). -/
abbrev DROOP_LAST_3031 : Nat := 0x303103
/-- 0x3031:04, Staris (R115). -/
abbrev DROOP_CLEAR_3031 : Nat := 0x303104
/-- 0x3032:01, Staris (R115). -/
abbrev CANARY_CODE_3032 : Nat := 0x303201
/-- 0x3032:02, Staris (R115). -/
abbrev CANARY_SEEN_3032 : Nat := 0x303202
/-- 0x3032:03, Staris (R115). -/
abbrev CANARY_MARGIN_3032 : Nat := 0x303203
/-- 0x3040+k:01, Staris (R115). -/
abbrev SEQ_LIST_3040 (n : Nat) : Nat := 0x304001 + 256 * n
/-- 0x3040+k:02, Staris (R115). -/
abbrev SEQ_LEN_3040 (n : Nat) : Nat := 0x304002 + 256 * n
/-- 0x3040+k:03, Staris (R115). -/
abbrev SEQ_PERIOD_3040 (n : Nat) : Nat := 0x304003 + 256 * n
/-- 0x3040+k:04, Staris (R115). -/
abbrev SEQ_OVERRUN_3040 (n : Nat) : Nat := 0x304004 + 256 * n
/-- 0x3050:01, Staris (R115). -/
abbrev MARGIN_ENABLE_3050 : Nat := 0x305001
/-- 0x3050:02, Staris (R115). -/
abbrev MARGIN_PERIOD_V_3050 : Nat := 0x305002
/-- 0x3050:03, Staris (R115). -/
abbrev MARGIN_PERIOD_T_3050 : Nat := 0x305003
/-- 0x3050:04, Staris (R115). -/
abbrev MARGIN_PERIOD_O_3050 : Nat := 0x305004
/-- 0x3050:05, Staris (R115). -/
abbrev V_MARGIN_3050 : Nat := 0x305005
/-- 0x3050:06, Staris (R115). -/
abbrev O_MARGIN_3050 : Nat := 0x305006
/-- 0x3050:07, Staris (R115). -/
abbrev VMIN_3050 : Nat := 0x305007
/-- 0x3050:08, Staris (R115). -/
abbrev RAIL_NOMINAL_3050 : Nat := 0x305008
/-- 0x3050:09, Staris (R115). -/
abbrev MARGIN_DWELL_3050 : Nat := 0x305009
/-- 0x3050:0A, Staris (R115). -/
abbrev MARGIN_RUNS_3050 : Nat := 0x30500A
/-- 0x3060:01, Staris (R115). -/
abbrev STREAM_SELECT_3060 : Nat := 0x306001
/-- 0x3060:02, Staris (R115). -/
abbrev STREAM_SOURCE_3060 : Nat := 0x306002
/-- 0x3060:03, Staris (R115). -/
abbrev STREAM_PERIOD_3060 : Nat := 0x306003
/-- 0x3060:04, Staris (R115). -/
abbrev STREAM_PHASE_3060 : Nat := 0x306004
/-- 0x3060:05, Staris (R115). -/
abbrev STREAM_ENABLE_3060 : Nat := 0x306005
/-- 0x3060:06, Staris (R115). -/
abbrev STREAM_FAST_COUNT_3060 : Nat := 0x306006
/-- 0x3060:08, Staris (R115). -/
abbrev STREAM_START_3060 : Nat := 0x306008
/-- 0x3060:09, Staris (R115). -/
abbrev STREAM_START_ARM_3060 : Nat := 0x306009
/-- 0x3060:0A, Staris (R115). -/
abbrev STREAM_RECORDS_3060 : Nat := 0x30600A
/-- 0x3060:0B, Staris (R115). -/
abbrev STREAM_LATE_3060 : Nat := 0x30600B
/-- 0x3060:0C, Staris (R115). -/
abbrev STREAM_DROPPED_3060 : Nat := 0x30600C
/-- 0x3070+s:01, Staris (R115). -/
abbrev DUMP_TAG_3070 (n : Nat) : Nat := 0x307001 + 256 * n
/-- 0x3070+s:02, Staris (R115). -/
abbrev DUMP_STEP_3070 (n : Nat) : Nat := 0x307002 + 256 * n
/-- 0x3070+s:03, Staris (R115). -/
abbrev DUMP_EPOCH_3070 (n : Nat) : Nat := 0x307003 + 256 * n
/-- 0x3070+s:04, Staris (R115). -/
abbrev DUMP_MODE_3070 (n : Nat) : Nat := 0x307004 + 256 * n
/-- 0x3070+s:05, Staris (R115). -/
abbrev DUMP_MAX_BYTES_3070 (n : Nat) : Nat := 0x307005 + 256 * n
/-- 0x3070+s:06, Staris (R115). -/
abbrev DUMP_DEST_ADDR_3070 (n : Nat) : Nat := 0x307006 + 256 * n
/-- 0x3070+s:07, Staris (R115). -/
abbrev DUMP_ARM_3070 (n : Nat) : Nat := 0x307007 + 256 * n
/-- 0x3070+s:08, Staris (R115). -/
abbrev DUMP_STATUS_3070 (n : Nat) : Nat := 0x307008 + 256 * n
/-- 0x3070+s:09, Staris (R115). -/
abbrev DUMP_BYTES_3070 (n : Nat) : Nat := 0x307009 + 256 * n
/-- 0x3080:01, Staris (R115). -/
abbrev DUMP_HOLD_MAX_3080 : Nat := 0x308001
/-- 0x3090+q:01, Staris (R115). -/
abbrev CLEAT_PROGRAM_3090 (n : Nat) : Nat := 0x309001 + 256 * n
/-- 0x3090+q:02, Staris (R115). -/
abbrev CLEAT_CONTROL_3090 (n : Nat) : Nat := 0x309002 + 256 * n
/-- 0x3090+q:03, Staris (R115). -/
abbrev CLEAT_STATE_3090 (n : Nat) : Nat := 0x309003 + 256 * n
/-- 0x3090+q:04, Staris (R115). -/
abbrev CLEAT_PC_3090 (n : Nat) : Nat := 0x309004 + 256 * n
/-- 0x3090+q:05, Staris (R115). -/
abbrev CLEAT_REGS_3090 (n : Nat) : Nat := 0x309005 + 256 * n
/-- 0x3090+q:06, Staris (R115). -/
abbrev CLEAT_FAULT_3090 (n : Nat) : Nat := 0x309006 + 256 * n
/-- 0x3090+q:07, Staris (R115). -/
abbrev CLEAT_SIGNALS_3090 (n : Nat) : Nat := 0x309007 + 256 * n
/-- 0x3090+q:08, Staris (R115). -/
abbrev CLEAT_SIG_LOST_3090 (n : Nat) : Nat := 0x309008 + 256 * n
/-- 0x3400:01, Staris (R151). -/
abbrev PENNANT_MODE_3400 : Nat := 0x340001
/-- 0x3400:02, Staris (R151). -/
abbrev SYNC_INTERVAL_3400 : Nat := 0x340002
/-- 0x3400:03, Staris (R151). -/
abbrev TSTAMP_INTERVAL_3400 : Nat := 0x340003
/-- 0x3400:04, Staris (R151). -/
abbrev UNIT_STATE_3400 : Nat := 0x340004
/-- 0x3400:05, Staris (R151). -/
abbrev TRACE_AUTH_3400 : Nat := 0x340005
/-- 0x3400:06, Staris (R151). -/
abbrev WORDS_WRITTEN_3400 : Nat := 0x340006
/-- 0x3400:07, Staris (R151). -/
abbrev FLUSHED_3400 : Nat := 0x340007
/-- 0x3400:08, Staris (R151). -/
abbrev STARTS_REFUSED_3400 : Nat := 0x340008
/-- 0x3400:09, Staris (R151). -/
abbrev SINK_FAULT_3400 : Nat := 0x340009
/-- 0x3401:01, Staris (R151). -/
abbrev SRC_PRESENT_3401 : Nat := 0x340101
/-- 0x3401:02, Staris (R151). -/
abbrev SRC_KIND_3401 : Nat := 0x340102
/-- 0x3401:03, Staris (R151). -/
abbrev SRC_PRIORITY_3401 : Nat := 0x340103
/-- 0x3401:04, Staris (R151). -/
abbrev SRC_LOST_3401 : Nat := 0x340104
/-- 0x3401:05, Staris (R151). -/
abbrev SRC_LOW_POWER_3401 : Nat := 0x340105
/-- 0x3401:06, Staris (R151). -/
abbrev SRC_LOST_CLEAR_3401 : Nat := 0x340106
/-- 0x3410+c:01, Staris (R151). -/
abbrev CFG_SOURCES_3410 (n : Nat) : Nat := 0x341001 + 256 * n
/-- 0x3410+c:02, Staris (R151). -/
abbrev CFG_START_MASK_3410 (n : Nat) : Nat := 0x341002 + 256 * n
/-- 0x3410+c:03, Staris (R151). -/
abbrev CFG_STOP_MASK_3410 (n : Nat) : Nat := 0x341003 + 256 * n
/-- 0x3410+c:04, Staris (R151). -/
abbrev CFG_RANGE_MASK_3410 (n : Nat) : Nat := 0x341004 + 256 * n
/-- 0x3410+c:05, Staris (R151). -/
abbrev CFG_CONTROL_3410 (n : Nat) : Nat := 0x341005 + 256 * n
/-- 0x3410+c:06, Staris (R151). -/
abbrev CFG_STATE_3410 (n : Nat) : Nat := 0x341006 + 256 * n
/-- 0x3420+a:01, Staris (R151). -/
abbrev ACMP_ADDR_3420 (n : Nat) : Nat := 0x342001 + 256 * n
/-- 0x3420+a:02, Staris (R151). -/
abbrev ACMP_SOURCE_3420 (n : Nat) : Nat := 0x342002 + 256 * n
/-- 0x3420+a:03, Staris (R151). -/
abbrev ACMP_HITS_3420 (n : Nat) : Nat := 0x342003 + 256 * n
/-- 0x3430+r:01, Staris (R151). -/
abbrev RANGE_LO_3430 (n : Nat) : Nat := 0x343001 + 256 * n
/-- 0x3430+r:02, Staris (R151). -/
abbrev RANGE_HI_3430 (n : Nat) : Nat := 0x343002 + 256 * n
/-- 0x3430+r:03, Staris (R151). -/
abbrev RANGE_SOURCE_3430 (n : Nat) : Nat := 0x343003 + 256 * n
/-- 0x3440:01, Staris (R151). -/
abbrev PRIO_THRESH_0_3440 : Nat := 0x344001
/-- 0x3440:02, Staris (R151). -/
abbrev PRIO_THRESH_1_3440 : Nat := 0x344002
/-- 0x3440:03, Staris (R151). -/
abbrev PRIO_THRESH_2_3440 : Nat := 0x344003
/-- 0x3440:04, Staris (R151). -/
abbrev PRIO_THRESH_3_3440 : Nat := 0x344004
/-- 0x3440:05, Staris (R151). -/
abbrev STAGE_FILL_3440 : Nat := 0x344005
/-- 0x3440:06, Staris (R151). -/
abbrev STAGE_PEAK_3440 : Nat := 0x344006
/-- 0x3450:01, Staris (R151). -/
abbrev SINK_SELECT_3450 : Nat := 0x345001
/-- 0x3450:02, Staris (R151). -/
abbrev SINK_WRAP_3450 : Nat := 0x345002
/-- 0x3450:03, Staris (R151). -/
abbrev DIE_BASE_3450 : Nat := 0x345003
/-- 0x3450:04, Staris (R151). -/
abbrev DIE_BYTES_3450 : Nat := 0x345004
/-- 0x3450:05, Staris (R151). -/
abbrev WRITE_PTR_3450 : Nat := 0x345005
/-- 0x3450:06, Staris (R151). -/
abbrev WRAPPED_3450 : Nat := 0x345006
/-- 0x3450:07, Staris (R151). -/
abbrev SINK_RESET_3450 : Nat := 0x345007
/-- 0x3450:08, Staris (R151). -/
abbrev BUF_OFFSET_3450 : Nat := 0x345008
/-- 0x3450:09, Staris (R151). -/
abbrev BUF_READ_3450 : Nat := 0x345009
/-- 0x3460:01, Staris (R151). -/
abbrev TRIG_SOURCE_3460 : Nat := 0x346001
/-- 0x3460:02, Staris (R151). -/
abbrev TRIG_POST_3460 : Nat := 0x346002
/-- 0x3460:03, Staris (R151). -/
abbrev TRIG_ARM_3460 : Nat := 0x346003
/-- 0x3460:04, Staris (R151). -/
abbrev TRIG_FORCE_3460 : Nat := 0x346004
/-- 0x3460:05, Staris (R151). -/
abbrev TRIG_STATUS_3460 : Nat := 0x346005
/-- 0x3460:06, Staris (R151). -/
abbrev TRIG_TIME_3460 : Nat := 0x346006
/-- 0x3460:07, Staris (R151). -/
abbrev TRIG_OFFSET_3460 : Nat := 0x346007
/-- 0x3460:08, Staris (R151). -/
abbrev TRIG_PRE_BYTES_3460 : Nat := 0x346008
/-- 0x3460:09, Staris (R151). -/
abbrev TRIG_IGNORED_3460 : Nat := 0x346009
/-- 0x3460:0A, Staris (R151). -/
abbrev TRIG_ACMP_MASK_3460 : Nat := 0x34600A
/-- 0x3580:01, Vager and Staris (R152). -/
abbrev TRACE_REGION_BYTES_3580 : Nat := 0x358001
/-- 0x3580:02, Vager and Staris (R152). -/
abbrev TRACE_REGION_USED_3580 : Nat := 0x358002
/-- 0x3590+p:01, Vager and Staris (R152). -/
abbrev SLICE_OFFSET_3590 (n : Nat) : Nat := 0x359001 + 256 * n
/-- 0x3590+p:02, Vager and Staris (R152). -/
abbrev SLICE_BYTES_3590 (n : Nat) : Nat := 0x359002 + 256 * n
/-- 0x3590+p:03, Vager and Staris (R152). -/
abbrev SLICE_WPTR_3590 (n : Nat) : Nat := 0x359003 + 256 * n
/-- 0x3590+p:04, Vager and Staris (R152). -/
abbrev SLICE_WRAPPED_3590 (n : Nat) : Nat := 0x359004 + 256 * n
/-- 0x3590+p:05, Vager and Staris (R152). -/
abbrev SLICE_FROZEN_3590 (n : Nat) : Nat := 0x359005 + 256 * n
/-- 0x3590+p:06, Vager and Staris (R152). -/
abbrev SLICE_READ_OFFSET_3590 (n : Nat) : Nat := 0x359006 + 256 * n
/-- 0x3590+p:07, Vager and Staris (R152). -/
abbrev SLICE_READ_3590 (n : Nat) : Nat := 0x359007 + 256 * n
/-- 0x3590+p:08, Vager and Staris (R152). -/
abbrev SLICE_RESET_3590 (n : Nat) : Nat := 0x359008 + 256 * n
/-- 0x3590+p:09, Vager and Staris (R152). -/
abbrev SLICE_GRANULES_3590 (n : Nat) : Nat := 0x359009 + 256 * n
/-- 0x3590+p:0A, Vager and Staris (R152). -/
abbrev SLICE_DISCARDED_3590 (n : Nat) : Nat := 0x35900A + 256 * n
/-- 0x3800:01, Staris (R189). -/
abbrev LINK_STATE_3800 : Nat := 0x380001
/-- 0x3800:02, Staris (R189). -/
abbrev LANES_ACTIVE_3800 : Nat := 0x380002
/-- 0x3800:03, Staris (R189). -/
abbrev SPARE_LANE_3800 : Nat := 0x380003
/-- 0x3800:04, Staris (R189). -/
abbrev FLITS_TX_3800 : Nat := 0x380004
/-- 0x3800:05, Staris (R189). -/
abbrev FLITS_RX_3800 : Nat := 0x380005
/-- 0x3800:06, Staris (R189). -/
abbrev NAKS_SENT_3800 : Nat := 0x380006
/-- 0x3800:07, Staris (R189). -/
abbrev REPLAYS_3800 : Nat := 0x380007
/-- 0x3800:08, Staris (R189). -/
abbrev FEC_CORRECTED_3800 : Nat := 0x380008
/-- 0x3800:09, Staris (R189). -/
abbrev FEC_UNCORRECTED_3800 : Nat := 0x380009
/-- 0x3800:0A, Staris (R189). -/
abbrev K288_CORRECTED_3800 : Nat := 0x38000A
/-- 0x3800:0B, Staris (R189). -/
abbrev TX_WEIGHTS_3800 : Nat := 0x38000B
/-- 0x3800:0C, Staris (R189). -/
abbrev RX_BUFFERS_3800 : Nat := 0x38000C
/-- 0x3800:0D, Staris (R189). -/
abbrev RETRAINS_3800 : Nat := 0x38000D
/-- 0x3800:0E, Staris (R189). -/
abbrev IDENTITY_DIGEST_3800 : Nat := 0x38000E
/-- 0x3800:0F, Staris (R189). -/
abbrev FRAMING_ERRORS_3800 : Nat := 0x38000F
/-- 0x3810+p:01, Vager (R190). -/
abbrev LINK_STATE_3810 (n : Nat) : Nat := 0x381001 + 256 * n
/-- 0x3810+p:02, Vager (R190). -/
abbrev LANES_ACTIVE_3810 (n : Nat) : Nat := 0x381002 + 256 * n
/-- 0x3810+p:03, Vager (R190). -/
abbrev SPARE_LANE_3810 (n : Nat) : Nat := 0x381003 + 256 * n
/-- 0x3810+p:04, Vager (R190). -/
abbrev FLITS_RX_3810 (n : Nat) : Nat := 0x381004 + 256 * n
/-- 0x3810+p:05, Vager (R190). -/
abbrev FLITS_TX_3810 (n : Nat) : Nat := 0x381005 + 256 * n
/-- 0x3810+p:06, Vager (R190). -/
abbrev NAKS_SENT_3810 (n : Nat) : Nat := 0x381006 + 256 * n
/-- 0x3810+p:07, Vager (R190). -/
abbrev REPLAYS_3810 (n : Nat) : Nat := 0x381007 + 256 * n
/-- 0x3810+p:08, Vager (R190). -/
abbrev FEC_CORRECTED_3810 (n : Nat) : Nat := 0x381008 + 256 * n
/-- 0x3810+p:09, Vager (R190). -/
abbrev FEC_UNCORRECTED_3810 (n : Nat) : Nat := 0x381009 + 256 * n
/-- 0x3810+p:0A, Vager (R190). -/
abbrev K288_CORRECTED_3810 (n : Nat) : Nat := 0x38100A + 256 * n
/-- 0x3810+p:0B, Vager (R190). -/
abbrev TX_WEIGHTS_3810 (n : Nat) : Nat := 0x38100B + 256 * n
/-- 0x3810+p:0C, Vager (R190). -/
abbrev RX_BUFFERS_3810 (n : Nat) : Nat := 0x38100C + 256 * n
/-- 0x3810+p:0D, Vager (R190). -/
abbrev CREDIT_LOOP_3810 (n : Nat) : Nat := 0x38100D + 256 * n
/-- 0x3810+p:0E, Vager (R190). -/
abbrev RETRAINS_3810 (n : Nat) : Nat := 0x38100E + 256 * n
/-- 0x3810+p:0F, Vager (R190). -/
abbrev PAIRED_DIGEST_3810 (n : Nat) : Nat := 0x38100F + 256 * n
/-- 0x3810+p:10, Vager (R190). -/
abbrev PAIR_STATUS_3810 (n : Nat) : Nat := 0x381010 + 256 * n
/-- 0x3810+p:11, Vager (R190). -/
abbrev PORT_ENABLE_3810 (n : Nat) : Nat := 0x381011 + 256 * n
/-- 0x3810+p:12, Vager (R190). -/
abbrev MERGE_LATE_3810 (n : Nat) : Nat := 0x381012 + 256 * n
/-- 0x3810+p:13, Vager (R190). -/
abbrev FRAMING_ERRORS_3810 (n : Nat) : Nat := 0x381013 + 256 * n
/-- 0x3810+p:14, Vager (R190). -/
abbrev INTAKE_WEIGHTS_3810 (n : Nat) : Nat := 0x381014 + 256 * n
/-- 0x3810+p:15, Vager (R190). -/
abbrev LANE_CLEAR_3810 (n : Nat) : Nat := 0x381015 + 256 * n
/-- 0x3810+p:16, Vager (R190). -/
abbrev LANES_RETIRED_3810 (n : Nat) : Nat := 0x381016 + 256 * n
/-- 0x3810+p:17, Vager (R190). -/
abbrev PAIR_ACCEPT_3810 (n : Nat) : Nat := 0x381017 + 256 * n
/-- 0x3810+p:18, Vager (R190). -/
abbrev LANE_EVENTS_3810 (n : Nat) : Nat := 0x381018 + 256 * n
/-- 0x3840:01, Vager (R190). -/
abbrev LANE_WINDOW_3840 : Nat := 0x384001
/-- 0x3840:02, Vager (R190). -/
abbrev LANE_SYMBOL_LIMIT_3840 : Nat := 0x384002
/-- 0x3840:03, Vager (R190). -/
abbrev MERGE_STALL_3840 : Nat := 0x384003
/-- 0x3840:04, Vager (R190). -/
abbrev REPLAY_LIMIT_3840 : Nat := 0x384004
/-- 0x3840:05, Vager (R190). -/
abbrev RETRAIN_LIMIT_3840 : Nat := 0x384005
/-- 0x4000:01, Vager (R234). -/
abbrev STREAM_SELECT_4000 : Nat := 0x400001
/-- 0x4000:02, Vager (R234). -/
abbrev STREAM_HOT_4000 : Nat := 0x400002
/-- 0x4000:03, Vager (R234). -/
abbrev STREAM_FULL_4000 : Nat := 0x400003
/-- 0x4000:04, Vager (R234). -/
abbrev STREAM_HOT_BLOCK_4000 : Nat := 0x400004
/-- 0x4000:05, Vager (R234). -/
abbrev STREAM_CLEAR_4000 : Nat := 0x400005
/-- 0x4001:01, Vager (R234). -/
abbrev RECORDS_IN_4001 : Nat := 0x400101
/-- 0x4001:02, Vager (R234). -/
abbrev RECORDS_UNBOUND_4001 : Nat := 0x400102
/-- 0x4001:03, Vager (R234). -/
abbrev RECORDS_LATE_4001 : Nat := 0x400103
/-- 0x4001:04, Vager (R234). -/
abbrev SEQ_GAPS_4001 : Nat := 0x400104
/-- 0x4001:05, Vager (R234). -/
abbrev STEP_DUPLICATES_4001 : Nat := 0x400105
/-- 0x4001:06, Vager (R234). -/
abbrev POISONED_4001 : Nat := 0x400106
/-- 0x4002:01, Vager (R234). -/
abbrev SNAP_PORT_4002 : Nat := 0x400201
/-- 0x4002:02, Vager (R234). -/
abbrev SNAP_SEQ_4002 : Nat := 0x400202
/-- 0x4002:03, Vager (R234). -/
abbrev SNAP_TIME_4002 : Nat := 0x400203
/-- 0x4002:04, Vager (R234). -/
abbrev SNAP_TIME_STATE_4002 : Nat := 0x400204
/-- 0x4002:05, Vager (R234). -/
abbrev SNAP_SELECT_4002 : Nat := 0x400205
/-- 0x4002:06, Vager (R234). -/
abbrev SNAP_BLOCK_4002 : Nat := 0x400206
/-- 0x4002:07, Vager (R234). -/
abbrev SNAP_COMPLETE_4002 : Nat := 0x400207
/-- 0x4002:08, Vager (R234). -/
abbrev SNAP_DISCARDED_4002 : Nat := 0x400208
/-- 0x4100+x:01, Vager (R234). -/
abbrev CTX_EPOCH_4100 (n : Nat) : Nat := 0x410001 + 256 * n
/-- 0x4100+x:02, Vager (R234). -/
abbrev CTX_STATE_4100 (n : Nat) : Nat := 0x410002 + 256 * n
/-- 0x4100+x:03, Vager (R234). -/
abbrev CTX_OPEN_TIME_4100 (n : Nat) : Nat := 0x410003 + 256 * n
/-- 0x4100+x:04, Vager (R234). -/
abbrev CTX_CLOSE_TIME_4100 (n : Nat) : Nat := 0x410004 + 256 * n
/-- 0x4100+x:05, Vager (R234). -/
abbrev CTX_BSEQ_4100 (n : Nat) : Nat := 0x410005 + 256 * n
/-- 0x4100+x:06, Vager (R234). -/
abbrev CTX_FREE_4100 (n : Nat) : Nat := 0x410006 + 256 * n
/-- 0x4140:01, Vager (R234). -/
abbrev DRAIN_LIMIT_4140 : Nat := 0x414001
/-- 0x4140:02, Vager (R234). -/
abbrev CTX_FREE_COUNT_4140 : Nat := 0x414002
/-- 0x4200:01, Vager (R234). -/
abbrev GRP_SELECT_4200 : Nat := 0x420001
/-- 0x4200:02, Vager (R234). -/
abbrev GRP_CONFIG_4200 : Nat := 0x420002
/-- 0x4200:03, Vager (R234). -/
abbrev GRP_BASE_4200 : Nat := 0x420003
/-- 0x4200:04, Vager (R234). -/
abbrev GRP_WINDOW_4200 : Nat := 0x420004
/-- 0x4200:05, Vager (R234). -/
abbrev GRP_ANCHOR_4200 : Nat := 0x420005
/-- 0x4200:06, Vager (R234). -/
abbrev GRP_TRAY_WAIT_4200 : Nat := 0x420006
/-- 0x4200:07, Vager (R234). -/
abbrev GRP_HOP_WAIT_4200 : Nat := 0x420007
/-- 0x4200:08, Vager (R234). -/
abbrev GRP_EXPECT_4200 : Nat := 0x420008
/-- 0x4200:09, Vager (R234). -/
abbrev GRP_ROUNDS_4200 : Nat := 0x420009
/-- 0x4200:0A, Vager (R234). -/
abbrev GRP_FORCED_4200 : Nat := 0x42000A
/-- 0x4200:0B, Vager (R234). -/
abbrev GRP_LATE_4200 : Nat := 0x42000B
/-- 0x4200:0C, Vager (R234). -/
abbrev GRP_DUP_PARTIALS_4200 : Nat := 0x42000C
/-- 0x4280:01, Vager (R234). -/
abbrev RES_SELECT_4280 : Nat := 0x428001
/-- 0x4280:02, Vager (R234). -/
abbrev RES_ROUND_4280 : Nat := 0x428002
/-- 0x4280:03, Vager (R234). -/
abbrev RES_HEADER_4280 : Nat := 0x428003
/-- 0x4280:04, Vager (R234). -/
abbrev RES_BODY_4280 : Nat := 0x428004
/-- 0x4280:05, Vager (R234). -/
abbrev RES_CLOSE_TIME_4280 : Nat := 0x428005
/-- 0x4280:06, Vager (R234). -/
abbrev RES_MISSING_DIES_4280 : Nat := 0x428006
/-- 0x4280:07, Vager (R234). -/
abbrev RES_MISSING_CHILDREN_4280 : Nat := 0x428007
/-- 0x4280:08, Vager (R234). -/
abbrev RES_SEQ_4280 : Nat := 0x428008
/-- 0x4280:09, Vager (R234). -/
abbrev RES_DOWN_4280 : Nat := 0x428009
/-- 0x4280:0A, Vager (R234). -/
abbrev RES_MISSING_ADOPTEES_4280 : Nat := 0x42800A
/-- 0x4300:01, Vager (R234). -/
abbrev TREE_SELF_4300 : Nat := 0x430001
/-- 0x4300:02, Vager (R234). -/
abbrev TREE_PARENT_4300 : Nat := 0x430002
/-- 0x4300:03, Vager (R234). -/
abbrev TREE_PARENT_ADDR_4300 : Nat := 0x430003
/-- 0x4300:04, Vager (R234). -/
abbrev TREE_FALLBACK_4300 : Nat := 0x430004
/-- 0x4300:05, Vager (R234). -/
abbrev TREE_FALLBACK_ADDR_4300 : Nat := 0x430005
/-- 0x4300:06, Vager (R234). -/
abbrev TREE_LEVEL_4300 : Nat := 0x430006
/-- 0x4300:07, Vager (R234). -/
abbrev TREE_UDP_PORT_4300 : Nat := 0x430007
/-- 0x4300:08, Vager (R234). -/
abbrev TREE_HEARTBEAT_4300 : Nat := 0x430008
/-- 0x4300:09, Vager (R234). -/
abbrev TREE_DEAD_COUNT_4300 : Nat := 0x430009
/-- 0x4300:0A, Vager (R234). -/
abbrev TREE_BCAST_RETRY_4300 : Nat := 0x43000A
/-- 0x4300:0B, Vager (R234). -/
abbrev TREE_ADOPT_WAIT_4300 : Nat := 0x43000B
/-- 0x4300:0C, Vager (R234). -/
abbrev TREE_STATE_4300 : Nat := 0x43000C
/-- 0x4300:0D, Vager (R234). -/
abbrev TREE_LAST_BSEQ_4300 : Nat := 0x43000D
/-- 0x4300:0E, Vager (R234). -/
abbrev TREE_ADOPTIONS_4300 : Nat := 0x43000E
/-- 0x4300:0F, Vager (R234). -/
abbrev TREE_DISCARDED_4300 : Nat := 0x43000F
/-- 0x4300:10, Vager (R234). -/
abbrev TREE_COMMIT_4300 : Nat := 0x430010
/-- 0x4300:11, Vager (R234). -/
abbrev TREE_LATE_APPLY_4300 : Nat := 0x430011
/-- 0x4310+k:01, Vager (R234). -/
abbrev CHILD_TRAY_4310 (n : Nat) : Nat := 0x431001 + 256 * n
/-- 0x4310+k:02, Vager (R234). -/
abbrev CHILD_ADDR_4310 (n : Nat) : Nat := 0x431002 + 256 * n
/-- 0x4310+k:03, Vager (R234). -/
abbrev CHILD_COVER_4310 (n : Nat) : Nat := 0x431003 + 256 * n
/-- 0x4310+k:04, Vager (R234). -/
abbrev CHILD_STATE_4310 (n : Nat) : Nat := 0x431004 + 256 * n
/-- 0x4310+k:05, Vager (R234). -/
abbrev CHILD_LAST_BACK_4310 (n : Nat) : Nat := 0x431005 + 256 * n
/-- 0x4310+k:06, Vager (R234). -/
abbrev CHILD_LATE_4310 (n : Nat) : Nat := 0x431006 + 256 * n
/-- 0x4350:01, Vager (R234). -/
abbrev BCAST_SUBMIT_4350 : Nat := 0x435001
/-- 0x4350:02, Vager (R234). -/
abbrev BCAST_BSEQ_4350 : Nat := 0x435002
/-- 0x4350:03, Vager (R234). -/
abbrev BCAST_STATE_4350 : Nat := 0x435003
/-- 0x4350:04, Vager (R234). -/
abbrev BCAST_ACK_4350 : Nat := 0x435004
/-- 0x4350:05, Vager (R234). -/
abbrev BCAST_COVER_4350 : Nat := 0x435005
/-- 0x4350:06, Vager (R234). -/
abbrev BCAST_MISSING_4350 : Nat := 0x435006
/-- 0x4360+j:01, Vager (R234). -/
abbrev PLAN_DATA_4360 (n : Nat) : Nat := 0x436001 + 256 * n
/-- 0x4360+j:02, Vager (R234). -/
abbrev PLAN_BYTES_4360 (n : Nat) : Nat := 0x436002 + 256 * n
/-- 0x4360+j:03, Vager (R234). -/
abbrev PLAN_POD_DIGEST_4360 (n : Nat) : Nat := 0x436003 + 256 * n
/-- 0x4360+j:04, Vager (R234). -/
abbrev PLAN_TRAY_DIGEST_4360 (n : Nat) : Nat := 0x436004 + 256 * n
/-- 0x4360+j:05, Vager (R234). -/
abbrev PLAN_STATE_4360 (n : Nat) : Nat := 0x436005 + 256 * n
/-- 0x4360+j:06, Vager (R234). -/
abbrev PLAN_HITS_4360 (n : Nat) : Nat := 0x436006 + 256 * n
/-- 0x4368:01, Vager (R234). -/
abbrev RIG_LAST_RESULT_4368 : Nat := 0x436801
/-- 0x4368:02, Vager (R234). -/
abbrev RIG_LAST_SLOT_4368 : Nat := 0x436802
/-- 0x4368:03, Vager (R234). -/
abbrev RIG_LAST_BSEQ_4368 : Nat := 0x436803
/-- 0x4370+a:01, Vager (R234). -/
abbrev ADOPT_TRAY_4370 (n : Nat) : Nat := 0x437001 + 256 * n
/-- 0x4370+a:02, Vager (R234). -/
abbrev ADOPT_COVER_4370 (n : Nat) : Nat := 0x437002 + 256 * n
/-- 0x4370+a:03, Vager (R234). -/
abbrev ADOPT_STATE_4370 (n : Nat) : Nat := 0x437003 + 256 * n
/-- 0x4370+a:04, Vager (R234). -/
abbrev ADOPT_LAST_BACK_4370 (n : Nat) : Nat := 0x437004 + 256 * n
/-- 0x4370+a:05, Vager (R234). -/
abbrev ADOPT_LATE_4370 (n : Nat) : Nat := 0x437005 + 256 * n
/-- 0x4800:01, Vager (R277). -/
abbrev TT_ENABLE_4800 : Nat := 0x480001
/-- 0x4800:02, Vager (R277). -/
abbrev GROUP_STATE_4800 : Nat := 0x480002
/-- 0x4800:03, Vager (R277). -/
abbrev GROUP_LANES_4800 : Nat := 0x480003
/-- 0x4800:04, Vager (R277). -/
abbrev LANES_RETIRED_4800 : Nat := 0x480004
/-- 0x4800:05, Vager (R277). -/
abbrev BLOCKS_FREE_4800 : Nat := 0x480005
/-- 0x4800:06, Vager (R277). -/
abbrev SPARE_BLOCKS_4800 : Nat := 0x480006
/-- 0x4800:07, Vager (R277). -/
abbrev TREE_EVALS_4800 : Nat := 0x480007
/-- 0x4800:08, Vager (R277). -/
abbrev PROBE_INTERVAL_4800 : Nat := 0x480008
/-- 0x4800:09, Vager (R277). -/
abbrev PROBE_FAILS_4800 : Nat := 0x480009
/-- 0x4800:0A, Vager (R277). -/
abbrev SCORE_FREE_4800 : Nat := 0x48000A
/-- 0x4800:0B, Vager (R277). -/
abbrev CLAIMED_DISCARDS_4800 : Nat := 0x48000B
/-- 0x4810:01, Vager (R277). -/
abbrev ENT_SELECT_4810 : Nat := 0x481001
/-- 0x4810:02, Vager (R277). -/
abbrev ENT_DESC_4810 : Nat := 0x481002
/-- 0x4810:03, Vager (R277). -/
abbrev ENT_ROW_4810 : Nat := 0x481003
/-- 0x4810:04, Vager (R277). -/
abbrev ENT_CLEAR_4810 : Nat := 0x481004
/-- 0x4810:05, Vager (R277). -/
abbrev ENT_UPDATED_4810 : Nat := 0x481005
/-- 0x4810:06, Vager (R277). -/
abbrev ENT_POISON_4810 : Nat := 0x481006
/-- 0x4820:01, Vager (R277). -/
abbrev CACHE_HITS_4820 : Nat := 0x482001
/-- 0x4820:02, Vager (R277). -/
abbrev CACHE_MISSES_4820 : Nat := 0x482002
/-- 0x4820:03, Vager (R277). -/
abbrev CACHE_REFETCHES_4820 : Nat := 0x482003
/-- 0x4820:04, Vager (R277). -/
abbrev ROW_POISON_READS_4820 : Nat := 0x482004
/-- 0x4830:01, Vager (R277). -/
abbrev BLD_SELECT_4830 : Nat := 0x483001
/-- 0x4830:02, Vager (R277). -/
abbrev BLD_CONFIG_4830 : Nat := 0x483002
/-- 0x4830:03, Vager (R277). -/
abbrev BLD_STATE_4830 : Nat := 0x483003
/-- 0x4830:04, Vager (R277). -/
abbrev BLD_RESET_4830 : Nat := 0x483004
/-- 0x4830:05, Vager (R277). -/
abbrev BLD_UPDATES_4830 : Nat := 0x483005
/-- 0x4830:06, Vager (R277). -/
abbrev BLD_REFUSED_4830 : Nat := 0x483006
/-- 0x4830:07, Vager (R277). -/
abbrev BLD_REFUSE_CODE_4830 : Nat := 0x483007
/-- 0x4830:08, Vager (R277). -/
abbrev BLD_FAULTS_4830 : Nat := 0x483008
/-- 0x4830:09, Vager (R277). -/
abbrev MAP_SELECT_4830 : Nat := 0x483009
/-- 0x4830:0A, Vager (R277). -/
abbrev MAP_WORD_4830 : Nat := 0x48300A
/-- 0x4838:01, Vager (R277). -/
abbrev SK_SELECT_4838 : Nat := 0x483801
/-- 0x4838:02, Vager (R277). -/
abbrev SK_WINDOW_4838 : Nat := 0x483802
/-- 0x4838:03, Vager (R277). -/
abbrev SK_DATA_4838 : Nat := 0x483803
/-- 0x4838:04, Vager (R277). -/
abbrev SK_TURNS_4838 : Nat := 0x483804
/-- 0x4840:01, Vager (R277). -/
abbrev REF_SELECT_4840 : Nat := 0x484001
/-- 0x4840:02, Vager (R277). -/
abbrev REF_VALUE_4840 : Nat := 0x484002
/-- 0x4840:03, Vager (R277). -/
abbrev REF_SOURCE_4840 : Nat := 0x484003
/-- 0x4840:04, Vager (R277). -/
abbrev REF_TIME_4840 : Nat := 0x484004
/-- 0x4840:05, Vager (R277). -/
abbrev REF_NAN_4840 : Nat := 0x484005
/-- 0x4880+m:01, Vager (R277). -/
abbrev MDL_STATE_4880 (n : Nat) : Nat := 0x488001 + 256 * n
/-- 0x4880+m:02, Vager (R277). -/
abbrev MDL_PLACE_4880 (n : Nat) : Nat := 0x488002 + 256 * n
/-- 0x4880+m:03, Vager (R277). -/
abbrev MDL_COMMAND_4880 (n : Nat) : Nat := 0x488003 + 256 * n
/-- 0x4880+m:04, Vager (R277). -/
abbrev MDL_ACTIVATE_AT_4880 (n : Nat) : Nat := 0x488004 + 256 * n
/-- 0x4880+m:05, Vager (R277). -/
abbrev MDL_REPLACES_4880 (n : Nat) : Nat := 0x488005 + 256 * n
/-- 0x4880+m:06, Vager (R277). -/
abbrev MDL_ROW_FIRST_4880 (n : Nat) : Nat := 0x488006 + 256 * n
/-- 0x4880+m:07, Vager (R277). -/
abbrev MDL_ROW_LAST_4880 (n : Nat) : Nat := 0x488007 + 256 * n
/-- 0x4880+m:08, Vager (R277). -/
abbrev MDL_PERIOD_4880 (n : Nat) : Nat := 0x488008 + 256 * n
/-- 0x4880+m:09, Vager (R277). -/
abbrev MDL_ANCHOR_4880 (n : Nat) : Nat := 0x488009 + 256 * n
/-- 0x4880+m:0A, Vager (R277). -/
abbrev MDL_TRIGGER_4880 (n : Nat) : Nat := 0x48800A + 256 * n
/-- 0x4880+m:0B, Vager (R277). -/
abbrev MDL_KEEP_ALARMS_4880 (n : Nat) : Nat := 0x48800B + 256 * n
/-- 0x4880+m:0C, Vager (R277). -/
abbrev MDL_DIGEST_4880 (n : Nat) : Nat := 0x48800C + 256 * n
/-- 0x4880+m:0D, Vager (R277). -/
abbrev MDL_NODES_4880 (n : Nat) : Nat := 0x48800D + 256 * n
/-- 0x4880+m:0E, Vager (R277). -/
abbrev MDL_BLOCKS_4880 (n : Nat) : Nat := 0x48800E + 256 * n
/-- 0x4880+m:0F, Vager (R277). -/
abbrev MDL_LOAD_ERROR_4880 (n : Nat) : Nat := 0x48800F + 256 * n
/-- 0x4880+m:10, Vager (R277). -/
abbrev MDL_NOUT_4880 (n : Nat) : Nat := 0x488010 + 256 * n
/-- 0x4880+m:11, Vager (R277). -/
abbrev MDL_PASSES_4880 (n : Nat) : Nat := 0x488011 + 256 * n
/-- 0x4880+m:12, Vager (R277). -/
abbrev MDL_OVERRUNS_4880 (n : Nat) : Nat := 0x488012 + 256 * n
/-- 0x4880+m:13, Vager (R277). -/
abbrev MDL_LAST_RELEASE_4880 (n : Nat) : Nat := 0x488013 + 256 * n
/-- 0x4880+m:14, Vager (R277). -/
abbrev MDL_LAST_START_4880 (n : Nat) : Nat := 0x488014 + 256 * n
/-- 0x4880+m:15, Vager (R277). -/
abbrev MDL_INVALID_4880 (n : Nat) : Nat := 0x488015 + 256 * n
/-- 0x4880+m:16, Vager (R277). -/
abbrev MDL_NAME_4880 (n : Nat) : Nat := 0x488016 + 256 * n
/-- 0x4900+4m+o:01, Vager (R277). -/
abbrev ALM_RAISE_4900 (n : Nat) : Nat := 0x490001 + 256 * n
/-- 0x4900+4m+o:02, Vager (R277). -/
abbrev ALM_CLEAR_4900 (n : Nat) : Nat := 0x490002 + 256 * n
/-- 0x4900+4m+o:03, Vager (R277). -/
abbrev ALM_PERSIST_4900 (n : Nat) : Nat := 0x490003 + 256 * n
/-- 0x4900+4m+o:04, Vager (R277). -/
abbrev ALM_STREAM_4900 (n : Nat) : Nat := 0x490004 + 256 * n
/-- 0x4900+4m+o:05, Vager (R277). -/
abbrev ALM_VECTOR_4900 (n : Nat) : Nat := 0x490005 + 256 * n
/-- 0x4900+4m+o:06, Vager (R277). -/
abbrev ALM_RECORD_MAX_4900 (n : Nat) : Nat := 0x490006 + 256 * n
/-- 0x4900+4m+o:07, Vager (R277). -/
abbrev ALM_RAISED_4900 (n : Nat) : Nat := 0x490007 + 256 * n
/-- 0x4900+4m+o:08, Vager (R277). -/
abbrev ALM_TRANSITIONS_4900 (n : Nat) : Nat := 0x490008 + 256 * n
/-- 0x4A00:01, Vager (R277). -/
abbrev STAGE_DATA_4A00 : Nat := 0x4A0001
/-- 0x4A00:02, Vager (R277). -/
abbrev STAGE_BYTES_4A00 : Nat := 0x4A0002
/-- 0x4A10:01, Vager (R277). -/
abbrev RING_WRITE_4A10 : Nat := 0x4A1001
/-- 0x4A10:02, Vager (R277). -/
abbrev RING_READ_4A10 : Nat := 0x4A1002
/-- 0x4A10:03, Vager (R277). -/
abbrev RING_DATA_4A10 : Nat := 0x4A1003
/-- 0x4A10:04, Vager (R277). -/
abbrev RING_DROPPED_4A10 : Nat := 0x4A1004
/-- 0x4A20:01, Vager (R277). -/
abbrev SCORE_SELECT_4A20 : Nat := 0x4A2001
/-- 0x4A20:02, Vager (R277). -/
abbrev SCORE_ENTRY_4A20 : Nat := 0x4A2002
/-- 0x4A20:03, Vager (R277). -/
abbrev SCORE_PASS_4A20 : Nat := 0x4A2003
/-- 0x5000:01, Staris (R307). -/
abbrev DT_ENABLE_5000 : Nat := 0x500001
/-- 0x5000:02, Staris (R307). -/
abbrev COMB_TIMEOUT_5000 : Nat := 0x500002
/-- 0x5000:03, Staris (R307). -/
abbrev COALESCE_5000 : Nat := 0x500003
/-- 0x5000:04, Staris (R307). -/
abbrev COMB_OPEN_5000 : Nat := 0x500004
/-- 0x5001:01, Staris (R307). -/
abbrev BLK_GOOD_5001 : Nat := 0x500101
/-- 0x5001:02, Staris (R307). -/
abbrev BLK_BAD_5001 : Nat := 0x500102
/-- 0x5001:03, Staris (R307). -/
abbrev BLK_POISONED_5001 : Nat := 0x500103
/-- 0x5001:04, Staris (R307). -/
abbrev BLK_UNTAGGED_5001 : Nat := 0x500104
/-- 0x5001:05, Staris (R307). -/
abbrev VERDICT_LATE_5001 : Nat := 0x500105
/-- 0x5001:06, Staris (R307). -/
abbrev LAST_BAD_5001 : Nat := 0x500106
/-- 0x5010+k:01, Staris (R307). -/
abbrev KEY_EPOCH_5010 (n : Nat) : Nat := 0x501001 + 256 * n
/-- 0x5010+k:02, Staris (R307). -/
abbrev KEY_VALUE_5010 (n : Nat) : Nat := 0x501002 + 256 * n
/-- 0x5010+k:03, Staris (R307). -/
abbrev KEY_STATE_5010 (n : Nat) : Nat := 0x501003 + 256 * n
/-- 0x5010+k:04, Staris (R307). -/
abbrev KEY_CLEAR_5010 (n : Nat) : Nat := 0x501004 + 256 * n
/-- 0x5010+k:05, Staris (R307). -/
abbrev LIN_GOOD_5010 (n : Nat) : Nat := 0x501005 + 256 * n
/-- 0x5010+k:06, Staris (R307). -/
abbrev LIN_COMBINE_BAD_5010 (n : Nat) : Nat := 0x501006 + 256 * n
/-- 0x5010+k:07, Staris (R307). -/
abbrev LIN_RECV_BAD_5010 (n : Nat) : Nat := 0x501007 + 256 * n
/-- 0x5010+k:08, Staris (R307). -/
abbrev KMAC_GOOD_5010 (n : Nat) : Nat := 0x501008 + 256 * n
/-- 0x5010+k:09, Staris (R307). -/
abbrev KMAC_RECV_BAD_5010 (n : Nat) : Nat := 0x501009 + 256 * n
/-- 0x5010+k:0A, Staris (R307). -/
abbrev UNCHECKED_5010 (n : Nat) : Nat := 0x50100A + 256 * n
/-- 0x5010+k:0B, Staris (R307). -/
abbrev POISON_CONSUMED_5010 (n : Nat) : Nat := 0x50100B + 256 * n
/-- 0x5010+k:0C, Staris (R307). -/
abbrev POISON_DROPPED_5010 (n : Nat) : Nat := 0x50100C + 256 * n
/-- 0x5020:01, Staris (R307). -/
abbrev NO_KEY_5020 : Nat := 0x502001
/-- 0x5020:02, Staris (R307). -/
abbrev FMT_REFUSED_5020 : Nat := 0x502002
/-- 0x5020:03, Staris (R307). -/
abbrev COMB_ABANDONED_5020 : Nat := 0x502003
/-- 0x5020:04, Staris (R307). -/
abbrev SHAPE_MISMATCH_5020 : Nat := 0x502004
/-- 0x5030:01, Staris (R307). -/
abbrev EVENTS_SENT_5030 : Nat := 0x503001
/-- 0x5030:02, Staris (R307). -/
abbrev EVENTS_COALESCED_5030 : Nat := 0x503002
/-- 0x5080:01, Vager (R308). -/
abbrev CTL_POISON_5080 : Nat := 0x508001
/-- 0x5080:02, Vager (R308). -/
abbrev TAP_POISON_5080 : Nat := 0x508002
/-- 0x5080:03, Vager (R308). -/
abbrev STAY_POISON_5080 : Nat := 0x508003
/-- 0x5080:04, Vager (R308). -/
abbrev TRACE_POISON_5080 : Nat := 0x508004
/-- 0x5081:01, Vager (R308). -/
abbrev DIGEST_EVENTS_5081 : Nat := 0x508101
/-- 0x5081:02, Vager (R308). -/
abbrev LAST_EVENT_5081 : Nat := 0x508102
/-- 0x5081:03, Vager (R308). -/
abbrev LAST_EVENT_PORT_5081 : Nat := 0x508103
/-- 0x5400:01, Staris (R341). -/
abbrev SH_SEED_5400 : Nat := 0x540001
/-- 0x5400:02, Staris (R341). -/
abbrev SH_SLOT_MAP_5400 : Nat := 0x540002
/-- 0x5400:03, Staris (R341). -/
abbrev SH_FRACTION_5400 : Nat := 0x540003
/-- 0x5400:04, Staris (R341). -/
abbrev SH_BOOST_5400 : Nat := 0x540004
/-- 0x5400:05, Staris (R341). -/
abbrev SH_RING_BASE_5400 : Nat := 0x540005
/-- 0x5400:06, Staris (R341). -/
abbrev SH_RING_BYTES_5400 : Nat := 0x540006
/-- 0x5400:07, Staris (R341). -/
abbrev SH_MAX_SAMPLE_5400 : Nat := 0x540007
/-- 0x5400:08, Staris (R341). -/
abbrev SEL_TEST_KEY_5400 : Nat := 0x540008
/-- 0x5400:09, Staris (R341). -/
abbrev SEL_TEST_F_5400 : Nat := 0x540009
/-- 0x5400:0A, Staris (R341). -/
abbrev SEL_TEST_RESULT_5400 : Nat := 0x54000A
/-- 0x5401:01, Staris (R341). -/
abbrev SELECTED_5401 : Nat := 0x540101
/-- 0x5401:02, Staris (R341). -/
abbrev SENT_5401 : Nat := 0x540102
/-- 0x5401:03, Staris (R341). -/
abbrev SKIPS_5401 : Nat := 0x540103
/-- 0x5401:04, Staris (R341). -/
abbrev INPUT_BAD_5401 : Nat := 0x540104
/-- 0x5401:05, Staris (R341). -/
abbrev POISONED_5401 : Nat := 0x540105
/-- 0x5401:06, Staris (R341). -/
abbrev RECOMPUTES_5401 : Nat := 0x540106
/-- 0x5401:07, Staris (R341). -/
abbrev RECOMPUTE_DECLINED_5401 : Nat := 0x540107
/-- 0x5401:08, Staris (R341). -/
abbrev POISON_REQS_5401 : Nat := 0x540108
/-- 0x5401:09, Staris (R341). -/
abbrev RING_FILL_5401 : Nat := 0x540109
/-- 0x5401:0A, Staris (R341). -/
abbrev RING_DISCARDED_5401 : Nat := 0x54010A
/-- 0x5410+f:01, Staris (R341). -/
abbrev FORCE_KEY_5410 (n : Nat) : Nat := 0x541001 + 256 * n
/-- 0x5410+f:02, Staris (R341). -/
abbrev FORCE_HITS_5410 (n : Nat) : Nat := 0x541002 + 256 * n
/-- 0x5440:01, Vager (R342). -/
abbrev SH_ENABLE_5440 : Nat := 0x544001
/-- 0x5440:02, Vager (R342). -/
abbrev CLUSTER_STATE_5440 : Nat := 0x544002
/-- 0x5440:03, Vager (R342). -/
abbrev SH_STATE_5440 : Nat := 0x544003
/-- 0x5440:04, Vager (R342). -/
abbrev SPARES_LEFT_5440 : Nat := 0x544004
/-- 0x5440:05, Vager (R342). -/
abbrev KAT_SAMPLES_5440 : Nat := 0x544005
/-- 0x5440:06, Vager (R342). -/
abbrev KAT_TIME_5440 : Nat := 0x544006
/-- 0x5440:07, Vager (R342). -/
abbrev RECOMPUTE_TIMEOUT_5440 : Nat := 0x544007
/-- 0x5440:08, Vager (R342). -/
abbrev POOL_FILL_5440 : Nat := 0x544008
/-- 0x5440:09, Vager (R342). -/
abbrev POOL_PEAK_5440 : Nat := 0x544009
/-- 0x5441:01, Vager (R342). -/
abbrev VERDICT_COUNTS_5441 : Nat := 0x544101
/-- 0x5441:02, Vager (R342). -/
abbrev SKIP_COUNTS_5441 : Nat := 0x544102
/-- 0x5441:03, Vager (R342). -/
abbrev ARBITRATIONS_5441 : Nat := 0x544103
/-- 0x5441:04, Vager (R342). -/
abbrev KAT_RUNS_5441 : Nat := 0x544104
/-- 0x5441:05, Vager (R342). -/
abbrev KAT_FAILS_5441 : Nat := 0x544105
/-- 0x5441:06, Vager (R342). -/
abbrev VOIDED_5441 : Nat := 0x544106
/-- 0x5441:07, Vager (R342). -/
abbrev OUTVOTED_5441 : Nat := 0x544107
/-- 0x5441:08, Vager (R342). -/
abbrev SID_GAPS_5441 : Nat := 0x544108
/-- 0x5441:09, Vager (R342). -/
abbrev CLUSTER_SAMPLES_5441 : Nat := 0x544109
/-- 0x5450+j:01, Vager (R342). -/
abbrev PROF_DATA_5450 (n : Nat) : Nat := 0x545001 + 256 * n
/-- 0x5450+j:02, Vager (R342). -/
abbrev PROF_STATE_5450 (n : Nat) : Nat := 0x545002 + 256 * n
/-- 0x5450+j:03, Vager (R342). -/
abbrev PROF_REFUSE_5450 (n : Nat) : Nat := 0x545003 + 256 * n
/-- 0x5450+j:04, Vager (R342). -/
abbrev PROF_DIGEST_5450 (n : Nat) : Nat := 0x545004 + 256 * n
/-- 0x5450+j:05, Vager (R342). -/
abbrev PROF_CLEAR_5450 (n : Nat) : Nat := 0x545005 + 256 * n
/-- 0x5450+j:06, Vager (R342). -/
abbrev PROF_SAMPLES_5450 (n : Nat) : Nat := 0x545006 + 256 * n
/-- 0x5470:01, Vager (R342). -/
abbrev VR_WRITE_5470 : Nat := 0x547001
/-- 0x5470:02, Vager (R342). -/
abbrev VR_READ_5470 : Nat := 0x547002
/-- 0x5470:03, Vager (R342). -/
abbrev VR_DATA_5470 : Nat := 0x547003
/-- 0x5470:04, Vager (R342). -/
abbrev VR_DROPPED_5470 : Nat := 0x547004
/-- 0x5470:05, Vager (R342). -/
abbrev VR_VECTOR_5470 : Nat := 0x547005
/-- 0x5478:01, Vager (R342). -/
abbrev HELD_SELECT_5478 : Nat := 0x547801
/-- 0x5478:02, Vager (R342). -/
abbrev HELD_STATE_5478 : Nat := 0x547802
/-- 0x5478:03, Vager (R342). -/
abbrev HELD_PIN_5478 : Nat := 0x547803
/-- 0x5478:04, Vager (R342). -/
abbrev HELD_OFFSET_5478 : Nat := 0x547804
/-- 0x5478:05, Vager (R342). -/
abbrev HELD_READ_5478 : Nat := 0x547805
/-- 0x5480:01, Vager (R342). -/
abbrev REPLAY_DATA_5480 : Nat := 0x548001
/-- 0x5480:02, Vager (R342). -/
abbrev REPLAY_BYTES_5480 : Nat := 0x548002
/-- 0x5480:03, Vager (R342). -/
abbrev REPLAY_CLUSTER_5480 : Nat := 0x548003
/-- 0x5480:04, Vager (R342). -/
abbrev REPLAY_GO_5480 : Nat := 0x548004
/-- 0x5480:05, Vager (R342). -/
abbrev REPLAY_STATE_5480 : Nat := 0x548005
/-- 0x5480:06, Vager (R342). -/
abbrev REPLAY_VERDICT_5480 : Nat := 0x548006
/-- 0x5480:07, Vager (R342). -/
abbrev REPLAY_NDIFF_5480 : Nat := 0x548007
/-- 0x5480:08, Vager (R342). -/
abbrev REPLAY_FIRST_5480 : Nat := 0x548008
/-- 0x5480:09, Vager (R342). -/
abbrev REPLAY_OUT_5480 : Nat := 0x548009
/-- 0x5800:01, Staris (R383). -/
abbrev STAY_STATE_5800 : Nat := 0x580001
/-- 0x5800:02, Staris (R383). -/
abbrev ARM_CUT_5800 : Nat := 0x580002
/-- 0x5800:03, Staris (R383). -/
abbrev ARM_STEP_5800 : Nat := 0x580003
/-- 0x5800:04, Staris (R383). -/
abbrev ARM_EPOCH_5800 : Nat := 0x580004
/-- 0x5800:05, Staris (R383). -/
abbrev READY_WAIT_5800 : Nat := 0x580005
/-- 0x5800:06, Staris (R383). -/
abbrev LAST_READY_5800 : Nat := 0x580006
/-- 0x5800:07, Staris (R383). -/
abbrev LAST_RELEASE_5800 : Nat := 0x580007
/-- 0x5800:08, Staris (R383). -/
abbrev BYTES_SENT_5800 : Nat := 0x580008
/-- 0x5800:09, Staris (R383). -/
abbrev BYTES_RESTORED_5800 : Nat := 0x580009
/-- 0x5800:0A, Staris (R383). -/
abbrev ABORTS_5800 : Nat := 0x58000A
/-- 0x5800:0B, Staris (R383). -/
abbrev LAST_ABORT_5800 : Nat := 0x58000B
/-- 0x5800:0C, Staris (R383). -/
abbrev SLOTS_USED_5800 : Nat := 0x58000C
/-- 0x5810+r:01, Staris (R383). -/
abbrev REG_BASE_5810 (n : Nat) : Nat := 0x581001 + 256 * n
/-- 0x5810+r:02, Staris (R383). -/
abbrev REG_BYTES_5810 (n : Nat) : Nat := 0x581002 + 256 * n
/-- 0x5810+r:03, Staris (R383). -/
abbrev REG_TAG_5810 (n : Nat) : Nat := 0x581003 + 256 * n
/-- 0x5810+r:04, Staris (R383). -/
abbrev REG_KIND_5810 (n : Nat) : Nat := 0x581004 + 256 * n
/-- 0x5810+r:05, Staris (R383). -/
abbrev REG_FLAGS_5810 (n : Nat) : Nat := 0x581005 + 256 * n
/-- 0x5810+r:06, Staris (R383). -/
abbrev REG_FIRST_SLOT_5810 (n : Nat) : Nat := 0x581006 + 256 * n
/-- 0x5880:01, Vager (R384). -/
abbrev STAY_BYTES_5880 : Nat := 0x588001
/-- 0x5880:02, Vager (R384). -/
abbrev CHUNK_SLOTS_5880 : Nat := 0x588002
/-- 0x5880:03, Vager (R384). -/
abbrev CUT_STATE_5880 : Nat := 0x588003
/-- 0x5880:04, Vager (R384). -/
abbrev CUT_ARM_5880 : Nat := 0x588004
/-- 0x5880:05, Vager (R384). -/
abbrev CUT_REFUSE_5880 : Nat := 0x588005
/-- 0x5880:06, Vager (R384). -/
abbrev CUT_ABORT_CODE_5880 : Nat := 0x588006
/-- 0x5880:07, Vager (R384). -/
abbrev CUT_ABANDON_5880 : Nat := 0x588007
/-- 0x5880:08, Vager (R384). -/
abbrev CUT_PARAMS_5880 : Nat := 0x588008
/-- 0x5880:09, Vager (R384). -/
abbrev COORD_TRAY_5880 : Nat := 0x588009
/-- 0x5880:0A, Vager (R384). -/
abbrev CUT_TIMES_5880 : Nat := 0x58800A
/-- 0x5881:01, Vager (R384). -/
abbrev LAST_CUT_5881 : Nat := 0x588101
/-- 0x5881:02, Vager (R384). -/
abbrev LAST_STEP_5881 : Nat := 0x588102
/-- 0x5881:03, Vager (R384). -/
abbrev LAST_EPOCH_5881 : Nat := 0x588103
/-- 0x5881:04, Vager (R384). -/
abbrev LAST_AREA_5881 : Nat := 0x588104
/-- 0x5881:05, Vager (R384). -/
abbrev LAST_RECORD_DIGEST_5881 : Nat := 0x588105
/-- 0x5881:06, Vager (R384). -/
abbrev LAST_TIME_5881 : Nat := 0x588106
/-- 0x5881:07, Vager (R384). -/
abbrev SHADOW_CUT_5881 : Nat := 0x588107
/-- 0x5882:01, Vager (R384). -/
abbrev CHUNKS_HELD_5882 : Nat := 0x588201
/-- 0x5882:02, Vager (R384). -/
abbrev CHUNKS_OWNED_5882 : Nat := 0x588202
/-- 0x5882:03, Vager (R384). -/
abbrev CHUNKS_DURABLE_5882 : Nat := 0x588203
/-- 0x5882:04, Vager (R384). -/
abbrev BYTES_DURABLE_5882 : Nat := 0x588204
/-- 0x5882:05, Vager (R384). -/
abbrev CHUNKS_DEDUPED_5882 : Nat := 0x588205
/-- 0x5882:06, Vager (R384). -/
abbrev CHUNKS_POISONED_5882 : Nat := 0x588206
/-- 0x5882:07, Vager (R384). -/
abbrev KEYS_DIVERGED_5882 : Nat := 0x588207
/-- 0x5882:08, Vager (R384). -/
abbrev HANDOFFS_SENT_5882 : Nat := 0x588208
/-- 0x5882:09, Vager (R384). -/
abbrev HANDOFFS_TAKEN_5882 : Nat := 0x588209
/-- 0x5882:0A, Vager (R384). -/
abbrev PEERS_HEARD_5882 : Nat := 0x58820A
/-- 0x5882:0B, Vager (R384). -/
abbrev PEERS_SILENT_5882 : Nat := 0x58820B
/-- 0x5882:0C, Vager (R384). -/
abbrev WRITE_RETRIES_5882 : Nat := 0x58820C
/-- 0x5882:0D, Vager (R384). -/
abbrev PORT_BYTES_5882 : Nat := 0x58820D
/-- 0x5883:01, Vager (R384). -/
abbrev EXCHANGE_WAIT_5883 : Nat := 0x588301
/-- 0x5883:02, Vager (R384). -/
abbrev PREP_RESEND_5883 : Nat := 0x588302
/-- 0x5883:03, Vager (R384). -/
abbrev COMMIT_WAIT_5883 : Nat := 0x588303
/-- 0x5883:04, Vager (R384). -/
abbrev STAY_UDP_PORT_5883 : Nat := 0x588304
/-- 0x5883:05, Vager (R384). -/
abbrev DRAIN_RATE_5883 : Nat := 0x588305
/-- 0x5883:06, Vager (R384). -/
abbrev MAX_WRITES_5883 : Nat := 0x588306
/-- 0x5883:07, Vager (R384). -/
abbrev HOST_NQN_5883 : Nat := 0x588307
/-- 0x5884:01, Vager (R384). -/
abbrev PEER_COUNT_5884 : Nat := 0x588401
/-- 0x5884:02, Vager (R384). -/
abbrev PEER_TRAYS_5884 : Nat := 0x588402
/-- 0x5884:03, Vager (R384). -/
abbrev PEER_ADDRS_5884 : Nat := 0x588403
/-- 0x5888+t:01, Vager (R384). -/
abbrev TGT_KIND_5888 (n : Nat) : Nat := 0x588801 + 256 * n
/-- 0x5888+t:02, Vager (R384). -/
abbrev TGT_ADDR_5888 (n : Nat) : Nat := 0x588802 + 256 * n
/-- 0x5888+t:03, Vager (R384). -/
abbrev TGT_PORT_5888 (n : Nat) : Nat := 0x588803 + 256 * n
/-- 0x5888+t:04, Vager (R384). -/
abbrev TGT_SUBNQN_5888 (n : Nat) : Nat := 0x588804 + 256 * n
/-- 0x5888+t:05, Vager (R384). -/
abbrev TGT_NSID_5888 (n : Nat) : Nat := 0x588805 + 256 * n
/-- 0x5888+t:06, Vager (R384). -/
abbrev TGT_LBA_BYTES_5888 (n : Nat) : Nat := 0x588806 + 256 * n
/-- 0x5888+t:07, Vager (R384). -/
abbrev TGT_STATE_5888 (n : Nat) : Nat := 0x588807 + 256 * n
/-- 0x5888+t:08, Vager (R384). -/
abbrev TGT_ERRORS_5888 (n : Nat) : Nat := 0x588808 + 256 * n
/-- 0x5890:01, Vager (R384). -/
abbrev MAP_SELECT_5890 : Nat := 0x589001
/-- 0x5890:02, Vager (R384). -/
abbrev MAP_ENTRY_5890 : Nat := 0x589002
/-- 0x5890:03, Vager (R384). -/
abbrev MAN_LOC_5890 : Nat := 0x589003
/-- 0x5890:04, Vager (R384). -/
abbrev REC_LOC_5890 : Nat := 0x589004
/-- 0x5898:01, Vager (R384). -/
abbrev HOST_RING_BASE_5898 : Nat := 0x589801
/-- 0x5898:02, Vager (R384). -/
abbrev HOST_RING_BYTES_5898 : Nat := 0x589802
/-- 0x5898:03, Vager (R384). -/
abbrev HOST_WRITE_5898 : Nat := 0x589803
/-- 0x5898:04, Vager (R384). -/
abbrev HOST_ACK_5898 : Nat := 0x589804
/-- 0x5898:05, Vager (R384). -/
abbrev HOST_VECTOR_5898 : Nat := 0x589805
/-- 0x58A0:01, Vager (R384). -/
abbrev COORD_STATE_58A0 : Nat := 0x58A001
/-- 0x58A0:02, Vager (R384). -/
abbrev COORD_PREPARED_58A0 : Nat := 0x58A002
/-- 0x58A0:03, Vager (R384). -/
abbrev COORD_MISSING_58A0 : Nat := 0x58A003
/-- 0x58A0:04, Vager (R384). -/
abbrev PREP_INJECT_58A0 : Nat := 0x58A004
/-- 0x58A0:05, Vager (R384). -/
abbrev COORD_REC_DIGEST_58A0 : Nat := 0x58A005
/-- 0x58B0:01, Vager (R384). -/
abbrev RST_PROPOSE_58B0 : Nat := 0x58B001
/-- 0x58B0:02, Vager (R384). -/
abbrev RST_STATE_58B0 : Nat := 0x58B002
/-- 0x58B0:03, Vager (R384). -/
abbrev RST_REFUSE_58B0 : Nat := 0x58B003
/-- 0x58B0:04, Vager (R384). -/
abbrev RST_PLAN_58B0 : Nat := 0x58B004
/-- 0x58B0:05, Vager (R384). -/
abbrev RST_RECORD_58B0 : Nat := 0x58B005
/-- 0x58B0:06, Vager (R384). -/
abbrev RST_MANIFEST_58B0 : Nat := 0x58B006
/-- 0x58B0:07, Vager (R384). -/
abbrev RST_LOADED_58B0 : Nat := 0x58B007
/-- 0x58B0:08, Vager (R384). -/
abbrev RST_CONFIRM_58B0 : Nat := 0x58B008
/-- 0x58B0:09, Vager (R384). -/
abbrev RST_FILLED_58B0 : Nat := 0x58B009
/-- 0x58B0:0A, Vager (R384). -/
abbrev RST_REMAINING_58B0 : Nat := 0x58B00A
/-- 0x58B0:0B, Vager (R384). -/
abbrev RST_DIES_DONE_58B0 : Nat := 0x58B00B
/-- 0x58B0:0C, Vager (R384). -/
abbrev RST_BYTES_58B0 : Nat := 0x58B00C
/-- 0x58B0:0D, Vager (R384). -/
abbrev RST_FILL_FAILS_58B0 : Nat := 0x58B00D
/-- 0x6000:01, Staris (R407). -/
abbrev LEDGER_ENABLE_6000 : Nat := 0x600001
/-- 0x6000:02, Staris (R407). -/
abbrev POLICY_6000 : Nat := 0x600002
/-- 0x6000:03, Staris (R407). -/
abbrev SEG_SLICES_6000 : Nat := 0x600003
/-- 0x6000:04, Staris (R407). -/
abbrev CFG_SEQ_6000 : Nat := 0x600004
/-- 0x6000:05, Staris (R407). -/
abbrev CFG_DIGEST_6000 : Nat := 0x600005
/-- 0x6000:07, Staris (R407). -/
abbrev ACC_PPM_6000 : Nat := 0x600007
/-- 0x6000:08, Staris (R407). -/
abbrev UNCAL_PPM_6000 : Nat := 0x600008
/-- 0x6000:09, Staris (R407). -/
abbrev CAL_LIFE_6000 : Nat := 0x600009
/-- 0x6001:01, Staris (R407). -/
abbrev CAL_GAIN_6001 : Nat := 0x600101
/-- 0x6001:02, Staris (R407). -/
abbrev CAL_V_OFF_6001 : Nat := 0x600102
/-- 0x6001:03, Staris (R407). -/
abbrev CAL_I_OFF_6001 : Nat := 0x600103
/-- 0x6001:04, Staris (R407). -/
abbrev CAL_TIME_6001 : Nat := 0x600104
/-- 0x6002:01, Staris (R407). -/
abbrev IDLE_FLOOR_6002 : Nat := 0x600201
/-- 0x6002:02, Staris (R407). -/
abbrev INPUT_WEIGHT_6002 : Nat := 0x600202
/-- 0x6002:03, Staris (R407). -/
abbrev RAIL_WEIGHT_6002 : Nat := 0x600203
/-- 0x6002:04, Staris (R407). -/
abbrev CTX_WEIGHT_6002 : Nat := 0x600204
/-- 0x6003:01, Staris (R407). -/
abbrev REQ_COMMAND_6003 : Nat := 0x600301
/-- 0x6003:02, Staris (R407). -/
abbrev REQ_REFUSED_6003 : Nat := 0x600302
/-- 0x6003:03, Staris (R407). -/
abbrev REQ_REFUSE_CODE_6003 : Nat := 0x600303
/-- 0x6003:04, Staris (R407). -/
abbrev CTX_SELECT_6003 : Nat := 0x600304
/-- 0x6003:05, Staris (R407). -/
abbrev CTX_STATUS_6003 : Nat := 0x600305
/-- 0x6004:01, Staris (R407). -/
abbrev ESEQ_NEXT_6004 : Nat := 0x600401
/-- 0x6004:02, Staris (R407). -/
abbrev QUEUE_FILL_6004 : Nat := 0x600402
/-- 0x6004:03, Staris (R407). -/
abbrev DEFERRED_6004 : Nat := 0x600403
/-- 0x6004:04, Staris (R407). -/
abbrev SAMPLES_FILLED_6004 : Nat := 0x600404
/-- 0x6004:05, Staris (R407). -/
abbrev RAIL_ENERGY_6004 : Nat := 0x600405
/-- 0x6004:06, Staris (R407). -/
abbrev POOL_RETAINED_6004 : Nat := 0x600406
/-- 0x6004:07, Staris (R407). -/
abbrev ATTR_TOTAL_6004 : Nat := 0x600407
/-- 0x6004:08, Staris (R407). -/
abbrev ALLOC_TOTAL_6004 : Nat := 0x600408
/-- 0x6004:09, Staris (R407). -/
abbrev TOTALS_CLEAR_6004 : Nat := 0x600409
/-- 0x6004:0A, Staris (R407). -/
abbrev MARKS_REFUSED_6004 : Nat := 0x60040A
/-- 0x6004:0B, Staris (R407). -/
abbrev CLOSE_IGNORED_6004 : Nat := 0x60040B
/-- 0x6004:0C, Staris (R407). -/
abbrev PAIR_OVERFLOW_6004 : Nat := 0x60040C
/-- 0x6080:01, Vager (R408). -/
abbrev BATCH_TIME_6080 : Nat := 0x608001
/-- 0x6080:02, Vager (R408). -/
abbrev BATCH_MAX_6080 : Nat := 0x608002
/-- 0x6080:03, Vager (R408). -/
abbrev BATCH_RING_BYTES_6080 : Nat := 0x608003
/-- 0x6080:04, Vager (R408). -/
abbrev BATCH_VECTOR_6080 : Nat := 0x608004
/-- 0x6080:05, Vager (R408). -/
abbrev SIGN_CERT_6080 : Nat := 0x608005
/-- 0x6080:06, Vager (R408). -/
abbrev SIGN_CERT_BYTES_6080 : Nat := 0x608006
/-- 0x6081:01, Vager (R408). -/
abbrev BSN_NEXT_6081 : Nat := 0x608101
/-- 0x6081:02, Vager (R408). -/
abbrev BATCH_OLDEST_6081 : Nat := 0x608102
/-- 0x6081:03, Vager (R408). -/
abbrev BATCH_SELECT_6081 : Nat := 0x608103
/-- 0x6081:04, Vager (R408). -/
abbrev BATCH_OFFSET_6081 : Nat := 0x608104
/-- 0x6081:05, Vager (R408). -/
abbrev BATCH_READ_6081 : Nat := 0x608105
/-- 0x6081:06, Vager (R408). -/
abbrev BATCH_BYTES_6081 : Nat := 0x608106
/-- 0x6081:07, Vager (R408). -/
abbrev BATCH_ACK_6081 : Nat := 0x608107
/-- 0x6081:08, Vager (R408). -/
abbrev BODIES_DROPPED_6081 : Nat := 0x608108
/-- 0x6082:01, Vager (R408). -/
abbrev MAC_FAILS_6082 : Nat := 0x608201
/-- 0x6082:02, Vager (R408). -/
abbrev ESEQ_GAPS_6082 : Nat := 0x608202
/-- 0x6082:03, Vager (R408). -/
abbrev RECORDS_SIGNED_6082 : Nat := 0x608203
/-- 0x6082:04, Vager (R408). -/
abbrev LATE_RECORDS_6082 : Nat := 0x608204
/-- 0x6082:05, Vager (R408). -/
abbrev PORT_ESEQ_6082 : Nat := 0x608205
/-- 0x6082:06, Vager (R408). -/
abbrev UNC_RAISED_6082 : Nat := 0x608206
/-- 0x6400:01, Vager (R428). -/
abbrev CLASS_MAP_6400 : Nat := 0x640001
/-- 0x6410+q:01, Vager (R428). -/
abbrev PORT_STATE_6410 (n : Nat) : Nat := 0x641001 + 256 * n
/-- 0x6410+q:02, Vager (R428). -/
abbrev PORT_ADDR_6410 (n : Nat) : Nat := 0x641002 + 256 * n
/-- 0x6410+q:03, Vager (R428). -/
abbrev PORT_PREFIX_LEN_6410 (n : Nat) : Nat := 0x641003 + 256 * n
/-- 0x6410+q:04, Vager (R428). -/
abbrev PORT_ROUTER_6410 (n : Nat) : Nat := 0x641004 + 256 * n
/-- 0x6410+q:05, Vager (R428). -/
abbrev VLAN_ID_6410 (n : Nat) : Nat := 0x641005 + 256 * n
/-- 0x6410+q:06, Vager (R428). -/
abbrev PCP_MAP_6410 (n : Nat) : Nat := 0x641006 + 256 * n
/-- 0x6410+q:07, Vager (R428). -/
abbrev OVERHEAD_6410 (n : Nat) : Nat := 0x641007 + 256 * n
/-- 0x6420+q:01, Vager (R428). -/
abbrev ADMIN_LIST_6420 (n : Nat) : Nat := 0x642001 + 256 * n
/-- 0x6420+q:02, Vager (R428). -/
abbrev ADMIN_LENGTH_6420 (n : Nat) : Nat := 0x642002 + 256 * n
/-- 0x6420+q:03, Vager (R428). -/
abbrev ADMIN_MODE_6420 (n : Nat) : Nat := 0x642003 + 256 * n
/-- 0x6420+q:04, Vager (R428). -/
abbrev ADMIN_ANCHOR_GROUP_6420 (n : Nat) : Nat := 0x642004 + 256 * n
/-- 0x6420+q:05, Vager (R428). -/
abbrev ADMIN_ANCHOR_OFFSET_6420 (n : Nat) : Nat := 0x642005 + 256 * n
/-- 0x6420+q:06, Vager (R428). -/
abbrev ANCHOR_LOSS_6420 (n : Nat) : Nat := 0x642006 + 256 * n
/-- 0x6420+q:07, Vager (R428). -/
abbrev CHANGE_TIME_6420 (n : Nat) : Nat := 0x642007 + 256 * n
/-- 0x6420+q:08, Vager (R428). -/
abbrev CHANGE_CONTROL_6420 (n : Nat) : Nat := 0x642008 + 256 * n
/-- 0x6420+q:09, Vager (R428). -/
abbrev CHANGE_STATE_6420 (n : Nat) : Nat := 0x642009 + 256 * n
/-- 0x6420+q:0A, Vager (R428). -/
abbrev CHANGE_REFUSE_6420 (n : Nat) : Nat := 0x64200A + 256 * n
/-- 0x6420+q:0B, Vager (R428). -/
abbrev OPER_LIST_6420 (n : Nat) : Nat := 0x64200B + 256 * n
/-- 0x6420+q:0C, Vager (R428). -/
abbrev OPER_LENGTH_6420 (n : Nat) : Nat := 0x64200C + 256 * n
/-- 0x6420+q:0D, Vager (R428). -/
abbrev OPER_MODE_6420 (n : Nat) : Nat := 0x64200D + 256 * n
/-- 0x6420+q:0E, Vager (R428). -/
abbrev OPER_BASE_6420 (n : Nat) : Nat := 0x64200E + 256 * n
/-- 0x6420+q:0F, Vager (R428). -/
abbrev OPER_ENTRY_6420 (n : Nat) : Nat := 0x64200F + 256 * n
/-- 0x6420+q:10, Vager (R428). -/
abbrev OPER_GATES_6420 (n : Nat) : Nat := 0x642010 + 256 * n
/-- 0x6420+q:11, Vager (R428). -/
abbrev CYCLE_TIME_6420 (n : Nat) : Nat := 0x642011 + 256 * n
/-- 0x6420+q:12, Vager (R428). -/
abbrev CHANGES_6420 (n : Nat) : Nat := 0x642012 + 256 * n
/-- 0x6420+q:13, Vager (R428). -/
abbrev ANCHORS_6420 (n : Nat) : Nat := 0x642013 + 256 * n
/-- 0x6420+q:14, Vager (R428). -/
abbrev ANCHOR_FREE_6420 (n : Nat) : Nat := 0x642014 + 256 * n
/-- 0x6420+q:15, Vager (R428). -/
abbrev LAST_CHANGE_6420 (n : Nat) : Nat := 0x642015 + 256 * n
/-- 0x6440+8q+c:01, Vager (R428). -/
abbrev CBS_ENABLE_6440 (n : Nat) : Nat := 0x644001 + 256 * n
/-- 0x6440+8q+c:02, Vager (R428). -/
abbrev IDLE_SLOPE_6440 (n : Nat) : Nat := 0x644002 + 256 * n
/-- 0x6440+8q+c:03, Vager (R428). -/
abbrev CREDIT_HI_6440 (n : Nat) : Nat := 0x644003 + 256 * n
/-- 0x6440+8q+c:04, Vager (R428). -/
abbrev CREDIT_LO_6440 (n : Nat) : Nat := 0x644004 + 256 * n
/-- 0x6440+8q+c:05, Vager (R428). -/
abbrev CREDIT_RESET_6440 (n : Nat) : Nat := 0x644005 + 256 * n
/-- 0x6440+8q+c:06, Vager (R428). -/
abbrev CREDIT_6440 (n : Nat) : Nat := 0x644006 + 256 * n
/-- 0x6440+8q+c:07, Vager (R428). -/
abbrev FRAMES_TX_6440 (n : Nat) : Nat := 0x644007 + 256 * n
/-- 0x6440+8q+c:08, Vager (R428). -/
abbrev BYTES_TX_6440 (n : Nat) : Nat := 0x644008 + 256 * n
/-- 0x6440+8q+c:09, Vager (R428). -/
abbrev QUEUE_FRAMES_6440 (n : Nat) : Nat := 0x644009 + 256 * n
/-- 0x6460+q:01, Vager (R428). -/
abbrev PORT_FRAMES_TX_6460 (n : Nat) : Nat := 0x646001 + 256 * n
/-- 0x6460+q:02, Vager (R428). -/
abbrev GUARD_HOLDS_6460 (n : Nat) : Nat := 0x646002 + 256 * n
/-- 0x6460+q:03, Vager (R428). -/
abbrev OVERRUNS_6460 (n : Nat) : Nat := 0x646003 + 256 * n
/-- 0x7000:01, Staris (R472). -/
abbrev HANG_ENABLE_7000 : Nat := 0x700001
/-- 0x7000:02, Staris (R472). -/
abbrev RESET_LIMIT_7000 : Nat := 0x700002
/-- 0x7000:03, Staris (R472). -/
abbrev RESET_WINDOW_7000 : Nat := 0x700003
/-- 0x7000:04, Staris (R472). -/
abbrev RESETS_IN_WINDOW_7000 : Nat := 0x700004
/-- 0x7000:05, Staris (R472). -/
abbrev SERVICE_STATE_7000 : Nat := 0x700005
/-- 0x7000:06, Staris (R472). -/
abbrev RETURN_TO_SERVICE_7000 : Nat := 0x700006
/-- 0x7000:07, Staris (R472). -/
abbrev ALIVE_SECONDS_7000 : Nat := 0x700007
/-- 0x7000:08, Staris (R472). -/
abbrev RESET_HISTORY_7000 : Nat := 0x700008
/-- 0x7000:09, Staris (R472). -/
abbrev HSEQ_7000 : Nat := 0x700009
/-- 0x7000:0A, Staris (R472). -/
abbrev SOFT_RESET_7000 : Nat := 0x70000A
/-- 0x7000:0B, Staris (R472). -/
abbrev HANGS_IGNORED_7000 : Nat := 0x70000B
/-- 0x7000:0C, Staris (R472). -/
abbrev RESET_ACK_WAIT_7000 : Nat := 0x70000C
/-- 0x7000:0D, Staris (R472). -/
abbrev RESET_HOLD_7000 : Nat := 0x70000D
/-- 0x7010+d:01, Staris (R472). -/
abbrev DOM_SLOTS_7010 (n : Nat) : Nat := 0x701001 + 256 * n
/-- 0x7010+d:02, Staris (R472). -/
abbrev DOM_POLICY_7010 (n : Nat) : Nat := 0x701002 + 256 * n
/-- 0x7010+d:03, Staris (R472). -/
abbrev DOM_KEEP_7010 (n : Nat) : Nat := 0x701003 + 256 * n
/-- 0x7010+d:04, Staris (R472). -/
abbrev DOM_HANG_WINDOW_7010 (n : Nat) : Nat := 0x701004 + 256 * n
/-- 0x7010+d:05, Staris (R472). -/
abbrev DOM_WATCHDOG_EN_7010 (n : Nat) : Nat := 0x701005 + 256 * n
/-- 0x7010+d:06, Staris (R472). -/
abbrev DOM_SAMPLE_RANGES_7010 (n : Nat) : Nat := 0x701006 + 256 * n
/-- 0x7010+d:07, Staris (R472). -/
abbrev DOM_STATE_7010 (n : Nat) : Nat := 0x701007 + 256 * n
/-- 0x7010+d:08, Staris (R472). -/
abbrev DOM_COMMAND_7010 (n : Nat) : Nat := 0x701008 + 256 * n
/-- 0x7010+d:09, Staris (R472). -/
abbrev DOM_LAST_REPORT_7010 (n : Nat) : Nat := 0x701009 + 256 * n
/-- 0x7010+d:0A, Staris (R472). -/
abbrev DOM_RESETS_7010 (n : Nat) : Nat := 0x70100A + 256 * n
/-- 0x7030:01, Staris (R472). -/
abbrev SRAM_WEIGHT_CE_7030 : Nat := 0x703001
/-- 0x7030:02, Staris (R472). -/
abbrev SRAM_WEIGHT_UE_7030 : Nat := 0x703002
/-- 0x7030:03, Staris (R472). -/
abbrev SRAM_LEAK_7030 : Nat := 0x703003
/-- 0x7030:04, Staris (R472). -/
abbrev SRAM_LIMIT_7030 : Nat := 0x703004
/-- 0x7030:05, Staris (R472). -/
abbrev SRAM_BANKS_7030 : Nat := 0x703005
/-- 0x7030:06, Staris (R472). -/
abbrev TRACE_BUFFER_BYTES_7030 : Nat := 0x703006
/-- 0x7040:01, Staris (R472). -/
abbrev EDGE_OVERRUNS_7040 : Nat := 0x704001
/-- 0x7080:01, Vager (R473). -/
abbrev FR_WRITE_7080 : Nat := 0x708001
/-- 0x7080:02, Vager (R473). -/
abbrev FR_READ_7080 : Nat := 0x708002
/-- 0x7080:03, Vager (R473). -/
abbrev FR_DATA_7080 : Nat := 0x708003
/-- 0x7080:04, Vager (R473). -/
abbrev FR_DROPPED_7080 : Nat := 0x708004
/-- 0x7080:05, Vager (R473). -/
abbrev FR_NOTIFY_7080 : Nat := 0x708005
/-- 0x7080:06, Vager (R473). -/
abbrev FR_VECTOR_7080 : Nat := 0x708006
/-- 0x7090+k:01, Vager (R473). -/
abbrev CLS_WEIGHT_CE_7090 (n : Nat) : Nat := 0x709001 + 256 * n
/-- 0x7090+k:02, Vager (R473). -/
abbrev CLS_WEIGHT_UE_7090 (n : Nat) : Nat := 0x709002 + 256 * n
/-- 0x7090+k:03, Vager (R473). -/
abbrev CLS_LEAK_7090 (n : Nat) : Nat := 0x709003 + 256 * n
/-- 0x7090+k:04, Vager (R473). -/
abbrev CLS_LIMIT_7090 (n : Nat) : Nat := 0x709004 + 256 * n
/-- 0x7090+k:05, Vager (R473). -/
abbrev CLS_INSTANCES_7090 (n : Nat) : Nat := 0x709005 + 256 * n
/-- 0x7090+k:06, Vager (R473). -/
abbrev CLS_SPARES_TOTAL_7090 (n : Nat) : Nat := 0x709006 + 256 * n
/-- 0x7090+k:07, Vager (R473). -/
abbrev CLS_SPARES_LEFT_7090 (n : Nat) : Nat := 0x709007 + 256 * n
/-- 0x7090+k:08, Vager (R473). -/
abbrev CLS_STATE_7090 (n : Nat) : Nat := 0x709008 + 256 * n
/-- 0x7090+k:09, Vager (R473). -/
abbrev CLS_RETIRED_7090 (n : Nat) : Nat := 0x709009 + 256 * n
/-- 0x7090+k:0A, Vager (R473). -/
abbrev CLS_EVENTS_7090 (n : Nat) : Nat := 0x70900A + 256 * n
/-- 0x70A0:01, Vager (R473). -/
abbrev INST_SELECT_70A0 : Nat := 0x70A001
/-- 0x70A0:02, Vager (R473). -/
abbrev INST_LEVEL_70A0 : Nat := 0x70A002
/-- 0x70A0:03, Vager (R473). -/
abbrev INST_STATE_70A0 : Nat := 0x70A003
/-- 0x70A0:04, Vager (R473). -/
abbrev INST_EVENTS_70A0 : Nat := 0x70A004
/-- 0x70A0:05, Vager (R473). -/
abbrev INST_CLEAR_70A0 : Nat := 0x70A005
/-- 0x70B0:01, Vager (R473). -/
abbrev BAD_PAGES_70B0 : Nat := 0x70B001
/-- 0x70B0:02, Vager (R473). -/
abbrev BAD_SELECT_70B0 : Nat := 0x70B002
/-- 0x70B0:03, Vager (R473). -/
abbrev BAD_ENTRY_70B0 : Nat := 0x70B003
/-- 0x70B0:04, Vager (R473). -/
abbrev PPR_LEFT_70B0 : Nat := 0x70B004
/-- 0x70C0+p:01, Vager (R473). -/
abbrev PORT_SERVICE_70C0 (n : Nat) : Nat := 0x70C001 + 256 * n
/-- 0x70C0+p:02, Vager (R473). -/
abbrev PORT_OOS_DIGEST_70C0 (n : Nat) : Nat := 0x70C002 + 256 * n
/-- 0x70C0+p:03, Vager (R473). -/
abbrev PORT_OOS_CLEAR_70C0 (n : Nat) : Nat := 0x70C003 + 256 * n
/-- 0x70C0+p:04, Vager (R473). -/
abbrev HANG_SAMPLE_STATE_70C0 (n : Nat) : Nat := 0x70C004 + 256 * n
/-- 0x70C0+p:05, Vager (R473). -/
abbrev HANG_SAMPLE_HEADER_70C0 (n : Nat) : Nat := 0x70C005 + 256 * n
/-- 0x70C0+p:06, Vager (R473). -/
abbrev HANG_SAMPLE_OFFSET_70C0 (n : Nat) : Nat := 0x70C006 + 256 * n
/-- 0x70C0+p:07, Vager (R473). -/
abbrev HANG_SAMPLE_READ_70C0 (n : Nat) : Nat := 0x70C007 + 256 * n
/-- 0x70C0+p:08, Vager (R473). -/
abbrev HANG_SAMPLE_RELEASE_70C0 (n : Nat) : Nat := 0x70C008 + 256 * n
/-- 0x70C0+p:09, Vager (R473). -/
abbrev HANG_SAMPLES_DISCARDED_70C0 (n : Nat) : Nat := 0x70C009 + 256 * n
/-- 0x70F0:01, Vager (R473). -/
abbrev EDGE_OVERRUNS_70F0 : Nat := 0x70F001
/-- 0x7100:01, Vager (R473). -/
abbrev WARM_RESET_7100 : Nat := 0x710001
/-- 0x7100:02, Vager (R473). -/
abbrev LAST_RESET_CAUSE_7100 : Nat := 0x710002
/-- 0x7100:03, Vager (R473). -/
abbrev WARM_RESETS_7100 : Nat := 0x710003
/-- 0x7400:01, Staris (R497). -/
abbrev DEBUG_FUSE_7400 : Nat := 0x740001
/-- 0x7400:02, Staris (R497). -/
abbrev AUTH_NS_PRIV_7400 : Nat := 0x740002
/-- 0x7400:03, Staris (R497). -/
abbrev AUTH_SECURE_7400 : Nat := 0x740003
/-- 0x7400:04, Staris (R497). -/
abbrev AUTH_DURATION_7400 : Nat := 0x740004
/-- 0x7400:05, Staris (R497). -/
abbrev AUTH_REMAINING_7400 : Nat := 0x740005
/-- 0x7400:06, Staris (R497). -/
abbrev AUTH_GRANTS_7400 : Nat := 0x740006
/-- 0x7400:07, Staris (R497). -/
abbrev ID_CERT_7400 : Nat := 0x740007
/-- 0x7400:08, Staris (R497). -/
abbrev ID_CERT_BYTES_7400 : Nat := 0x740008
/-- 0x7400:09, Staris (R497). -/
abbrev WIN_SECURE_7400 : Nat := 0x740009
/-- 0x7401:01, Staris (R497). -/
abbrev LK_OFFER_7401 : Nat := 0x740101
/-- 0x7401:02, Staris (R497). -/
abbrev LK_ANSWER_7401 : Nat := 0x740102
/-- 0x7401:03, Staris (R497). -/
abbrev LK_STATE_7401 : Nat := 0x740103
/-- 0x7401:04, Staris (R497). -/
abbrev LK_COUNT_7401 : Nat := 0x740104
/-- 0x7410+r:01, Staris (R497). -/
abbrev DREG_BASE_7410 (n : Nat) : Nat := 0x741001 + 256 * n
/-- 0x7410+r:02, Staris (R497). -/
abbrev DREG_BYTES_7410 (n : Nat) : Nat := 0x741002 + 256 * n
/-- 0x7410+r:03, Staris (R497). -/
abbrev DREG_WORLD_7410 (n : Nat) : Nat := 0x741003 + 256 * n
/-- 0x7410+r:04, Staris (R497). -/
abbrev DREG_ENABLE_7410 (n : Nat) : Nat := 0x741004 + 256 * n
/-- 0x7440:01, Vager (R498). -/
abbrev ID_CHAIN_7440 : Nat := 0x744001
/-- 0x7440:02, Vager (R498). -/
abbrev ID_CHAIN_BYTES_7440 : Nat := 0x744002
/-- 0x7440:03, Vager (R498). -/
abbrev ID_DIGEST_7440 : Nat := 0x744003
/-- 0x7441:01, Vager (R498). -/
abbrev LIFECYCLE_7441 : Nat := 0x744101
/-- 0x7441:02, Vager (R498). -/
abbrev DEBUG_FUSE_7441 : Nat := 0x744102
/-- 0x7441:03, Vager (R498). -/
abbrev SECURE_BOOT_7441 : Nat := 0x744103
/-- 0x7442:01, Vager (R498). -/
abbrev DBG_GRANT_7442 : Nat := 0x744201
/-- 0x7442:02, Vager (R498). -/
abbrev DBG_DURATION_7442 : Nat := 0x744202
/-- 0x7442:03, Vager (R498). -/
abbrev DBG_REMAINING_7442 : Nat := 0x744203
/-- 0x7442:04, Vager (R498). -/
abbrev DBG_OPENS_7442 : Nat := 0x744204
/-- 0x7443:01, Vager (R498). -/
abbrev HOST_SECURE_7443 : Nat := 0x744301
/-- 0x7448+r:01, Vager (R498). -/
abbrev HREG_BASE_7448 (n : Nat) : Nat := 0x744801 + 256 * n
/-- 0x7448+r:02, Vager (R498). -/
abbrev HREG_BYTES_7448 (n : Nat) : Nat := 0x744802 + 256 * n
/-- 0x7448+r:03, Vager (R498). -/
abbrev HREG_WORLD_7448 (n : Nat) : Nat := 0x744803 + 256 * n
/-- 0x7448+r:04, Vager (R498). -/
abbrev HREG_ENABLE_7448 (n : Nat) : Nat := 0x744804 + 256 * n
/-- 0x7460+a:01, Vager (R498). -/
abbrev TA_CERT_7460 (n : Nat) : Nat := 0x746001 + 256 * n
/-- 0x7460+a:02, Vager (R498). -/
abbrev TA_BYTES_7460 (n : Nat) : Nat := 0x746002 + 256 * n
/-- 0x7460+a:03, Vager (R498). -/
abbrev TA_ROLE_7460 (n : Nat) : Nat := 0x746003 + 256 * n
/-- 0x7460+a:04, Vager (R498). -/
abbrev TA_WORLD_7460 (n : Nat) : Nat := 0x746004 + 256 * n
/-- 0x7460+a:05, Vager (R498). -/
abbrev TA_STATE_7460 (n : Nat) : Nat := 0x746005 + 256 * n
/-- 0x7470:01, Vager (R498). -/
abbrev OP_CSR_7470 : Nat := 0x747001
/-- 0x7470:02, Vager (R498). -/
abbrev OP_CSR_BYTES_7470 : Nat := 0x747002
/-- 0x7470:03, Vager (R498). -/
abbrev OP_CERT_7470 : Nat := 0x747003
/-- 0x7470:04, Vager (R498). -/
abbrev OP_CERT_BYTES_7470 : Nat := 0x747004
/-- 0x7470:05, Vager (R498). -/
abbrev OP_CERT_STATE_7470 : Nat := 0x747005
/-- 0x7478:01, Vager (R498). -/
abbrev SESSIONS_7478 : Nat := 0x747801
/-- 0x7478:02, Vager (R498). -/
abbrev HANDSHAKE_FAILS_7478 : Nat := 0x747802
/-- 0x7478:03, Vager (R498). -/
abbrev MAX_SESSIONS_7478 : Nat := 0x747803
/-- 0x7478:04, Vager (R498). -/
abbrev SESSION_IDLE_7478 : Nat := 0x747804
/-- 0x7478:05, Vager (R498). -/
abbrev TIME_UNCHECKED_7478 : Nat := 0x747805
/-- 0x7480:01, Vager (R498). -/
abbrev TRAY_BOUND_7480 : Nat := 0x748001
/-- 0x7480:02, Vager (R498). -/
abbrev NOR_BINDING_7480 : Nat := 0x748002
/-- 0x7480:03, Vager (R498). -/
abbrev NEIGHBOUR_CHANGES_7480 : Nat := 0x748003
/-- 0x7480:04, Vager (R498). -/
abbrev PAIR_WITHHELD_7480 : Nat := 0x748004
/-- 0x7480:05, Vager (R498). -/
abbrev WITHHELD_WRITES_7480 : Nat := 0x748005
/-- 0x7490:01, Vager (R498). -/
abbrev SPDM_PATHS_7490 : Nat := 0x749001
/-- 0x7490:02, Vager (R498). -/
abbrev SPDM_REQUESTS_7490 : Nat := 0x749002
/-- 0x7490:03, Vager (R498). -/
abbrev MEAS_SELECT_7490 : Nat := 0x749003
/-- 0x7490:04, Vager (R498). -/
abbrev MEAS_BLOCK_7490 : Nat := 0x749004
/-- 0x1000:01, Vager and Staris (R527). -/
abbrev VENDOR_1000 : Nat := 0x100001
/-- 0x1000:02, Vager and Staris (R527). -/
abbrev ORDERING_CODE_1000 : Nat := 0x100002
/-- 0x1000:03, Vager and Staris (R527). -/
abbrev SILICON_REVISION_1000 : Nat := 0x100003
/-- 0x1000:04, Vager and Staris (R527). -/
abbrev SERIAL_1000 : Nat := 0x100004
/-- 0x1000:05, Vager and Staris (R527). -/
abbrev DICT_VERSION_1000 : Nat := 0x100005
/-- 0x1000:06, Vager and Staris (R527). -/
abbrev FW_VERSION_1000 : Nat := 0x100006
/-- 0x1000:07, Vager and Staris (R527). -/
abbrev FW_DIGEST_1000 : Nat := 0x100007
/-- 0x1000:08, Vager and Staris (R527). -/
abbrev INTEGRATOR_ID_1000 : Nat := 0x100008
/-- 0x1010:01, Vager and Staris (R527). -/
abbrev DESC_SELECT_1010 : Nat := 0x101001
/-- 0x1010:02, Vager and Staris (R527). -/
abbrev DESC_1010 : Nat := 0x101002
/-- 0x1010:03, Vager and Staris (R527). -/
abbrev DESC_NEXT_1010 : Nat := 0x101003
/-- 0x1011:01, Vager and Staris (R527). -/
abbrev REQUESTS_1011 : Nat := 0x101101
/-- 0x1011:02, Vager and Staris (R527). -/
abbrev ENTRIES_1011 : Nat := 0x101102
/-- 0x1011:03, Vager and Staris (R527). -/
abbrev ENTRY_ERRORS_1011 : Nat := 0x101103
/-- 0x1011:04, Vager and Staris (R527). -/
abbrev CACHED_ANSWERS_1011 : Nat := 0x101104
/-- 0x1011:05, Vager and Staris (R527). -/
abbrev MALFORMED_1011 : Nat := 0x101105
/-- 0x1011:06, Vager and Staris (R527). -/
abbrev APERTURE_DROPS_1011 : Nat := 0x101106
/-- 0x1020:01, Vager and Staris (R527). -/
abbrev STAGE_SELECT_1020 : Nat := 0x102001
/-- 0x1020:02, Vager and Staris (R527). -/
abbrev STAGE_STATE_1020 : Nat := 0x102002
/-- 0x1020:03, Vager and Staris (R527). -/
abbrev STAGE_WORD_1020 : Nat := 0x102003
/-- 0x1020:04, Vager and Staris (R527). -/
abbrev STAGE_OUTCOME_1020 : Nat := 0x102004
/-- 0x1020:05, Vager and Staris (R527). -/
abbrev STAGE_PENDING_1020 : Nat := 0x102005
/-- 0x1020:06, Vager and Staris (R527). -/
abbrev STAGE_FREE_1020 : Nat := 0x102006
/-- 0x1030+p:01, Vager (R529). -/
abbrev PROXY_REQUESTS_1030 (n : Nat) : Nat := 0x103001 + 256 * n
/-- 0x1030+p:02, Vager (R529). -/
abbrev PROXY_TIMEOUTS_1030 (n : Nat) : Nat := 0x103002 + 256 * n
/-- 0x1030+p:03, Vager (R529). -/
abbrev PROXY_LATE_1030 (n : Nat) : Nat := 0x103003 + 256 * n
/-- 0x1030+p:04, Vager (R529). -/
abbrev PROXY_QUEUED_1030 (n : Nat) : Nat := 0x103004 + 256 * n
/-- 0x1030+p:05, Vager (R529). -/
abbrev PROXY_LAST_RTT_1030 (n : Nat) : Nat := 0x103005 + 256 * n
/-- 0x1100:01, Vager (R529). -/
abbrev MGMT_MAC_1100 : Nat := 0x110001
/-- 0x1100:02, Vager (R529). -/
abbrev MGMT_LINK_1100 : Nat := 0x110002
/-- 0x1100:03, Vager (R529). -/
abbrev MGMT_SPEED_MAX_1100 : Nat := 0x110003
/-- 0x1100:04, Vager (R529). -/
abbrev MGMT_IPV6_1100 : Nat := 0x110004
/-- 0x1100:05, Vager (R529). -/
abbrev MGMT_IPV6_PREFIX_1100 : Nat := 0x110005
/-- 0x1100:06, Vager (R529). -/
abbrev MGMT_IPV6_ROUTER_1100 : Nat := 0x110006
/-- 0x1100:07, Vager (R529). -/
abbrev MGMT_IPV4_1100 : Nat := 0x110007
/-- 0x1100:08, Vager (R529). -/
abbrev MGMT_IPV4_PREFIX_1100 : Nat := 0x110008
/-- 0x1100:09, Vager (R529). -/
abbrev MGMT_IPV4_ROUTER_1100 : Nat := 0x110009
/-- 0x1100:0A, Vager (R529). -/
abbrev MGMT_VLAN_1100 : Nat := 0x11000A
/-- 0x1100:0B, Vager (R529). -/
abbrev MGMT_COMMIT_1100 : Nat := 0x11000B
/-- 0x1101:01, Vager (R529). -/
abbrev SHEET_UDP_PORT_1101 : Nat := 0x110101
/-- 0x1101:02, Vager (R529). -/
abbrev SHEET_MTU_1101 : Nat := 0x110102
/-- 0x1101:03, Vager (R529). -/
abbrev PROXY_TIMEOUT_1101 : Nat := 0x110103
/-- 0x1101:04, Vager (R529). -/
abbrev RESPONSE_STORE_1101 : Nat := 0x110104
/-- 0x1101:05, Vager (R529). -/
abbrev STAGE_EPOCH_LIFE_1101 : Nat := 0x110105
/-- 0x1101:06, Vager (R529). -/
abbrev RETRY_HINT_1101 : Nat := 0x110106
/-- 0x1102:01, Vager (R529). -/
abbrev NOTIFY_SUBS_1102 : Nat := 0x110201
/-- 0x1102:02, Vager (R529). -/
abbrev NOTIFY_SENT_1102 : Nat := 0x110202
/-- 0x1102:03, Vager (R529). -/
abbrev NOTIFY_REFUSED_1102 : Nat := 0x110203
/-- 0x7800:01, Staris (R548). -/
abbrev SREC_OLDEST_7800 : Nat := 0x780001
/-- 0x7800:02, Staris (R548). -/
abbrev SREC_NEWEST_7800 : Nat := 0x780002
/-- 0x7800:03, Staris (R548). -/
abbrev SREC_CURSOR_7800 : Nat := 0x780003
/-- 0x7800:04, Staris (R548). -/
abbrev SREC_WINDOW_7800 : Nat := 0x780004
/-- 0x7800:05, Staris (R548). -/
abbrev SREC_UNSENT_7800 : Nat := 0x780005
/-- 0x7800:06, Staris (R548). -/
abbrev SREC_DROPPED_7800 : Nat := 0x780006
/-- 0x7840:01, Vager (R549). -/
abbrev REC_OLDEST_7840 : Nat := 0x784001
/-- 0x7840:02, Vager (R549). -/
abbrev REC_NEWEST_7840 : Nat := 0x784002
/-- 0x7840:03, Vager (R549). -/
abbrev REC_CURSOR_7840 : Nat := 0x784003
/-- 0x7840:04, Vager (R549). -/
abbrev REC_WINDOW_7840 : Nat := 0x784004
/-- 0x7840:05, Vager (R549). -/
abbrev REC_FREEZE_7840 : Nat := 0x784005
/-- 0x7840:06, Vager (R549). -/
abbrev REC_FREEZE_LIMIT_7840 : Nat := 0x784006
/-- 0x7840:07, Vager (R549). -/
abbrev REC_HOLD_FILL_7840 : Nat := 0x784007
/-- 0x7840:08, Vager (R549). -/
abbrev REC_LOST_7840 : Nat := 0x784008
/-- 0x7840:09, Vager (R549). -/
abbrev REC_CLEAR_7840 : Nat := 0x784009
/-- 0x7840:0A, Vager (R549). -/
abbrev REC_SKIPPED_7840 : Nat := 0x78400A
/-- 0x7840:0B, Vager (R549). -/
abbrev REC_STATE_7840 : Nat := 0x78400B
/-- 0x7841:01, Vager (R549). -/
abbrev OP_HOURS_7841 : Nat := 0x784101
/-- 0x7841:02, Vager (R549). -/
abbrev POWER_CYCLES_7841 : Nat := 0x784102
/-- 0x7841:03, Vager (R549). -/
abbrev UPTIME_7841 : Nat := 0x784103
/-- 0x7848:01, Vager (R549). -/
abbrev CN_STATE_7848 : Nat := 0x784801
/-- 0x7848:02, Vager (R549). -/
abbrev CN_RESTARTS_7848 : Nat := 0x784802
/-- 0x7848:03, Vager (R549). -/
abbrev CN_WD_PERIOD_7848 : Nat := 0x784803
/-- 0x7848:04, Vager (R549). -/
abbrev CN_RESTART_LIMIT_7848 : Nat := 0x784804
/-- 0x7848:05, Vager (R549). -/
abbrev CN_RESTART_WINDOW_7848 : Nat := 0x784805
/-- 0x7848:06, Vager (R549). -/
abbrev CN_LAST_CAUSE_7848 : Nat := 0x784806
/-- 0x7848:07, Vager (R549). -/
abbrev CN_KICK_7848 : Nat := 0x784807
/-- 0x7850:01, Vager (R549). -/
abbrev THERMAL_7850 : Nat := 0x785001
/-- 0x7850:02, Vager (R549). -/
abbrev RAILS_7850 : Nat := 0x785002
/-- 0x7850:03, Vager (R549). -/
abbrev THERMAL_WARN_7850 : Nat := 0x785003
/-- 0x7850:04, Vager (R549). -/
abbrev THERMAL_PEAK_7850 : Nat := 0x785004
/-- 0x7860:01, Vager (R549). -/
abbrev FW_ACTIVE_7860 : Nat := 0x786001
/-- 0x7860:02, Vager (R549). -/
abbrev FW_SLOT_STATE_7860 : Nat := 0x786002
/-- 0x7860:03, Vager (R549). -/
abbrev FW_STAGE_DATA_7860 : Nat := 0x786003
/-- 0x7860:04, Vager (R549). -/
abbrev FW_STAGE_BYTES_7860 : Nat := 0x786004
/-- 0x7860:05, Vager (R549). -/
abbrev FW_STAGE_STATE_7860 : Nat := 0x786005
/-- 0x7860:06, Vager (R549). -/
abbrev FW_STAGE_ERROR_7860 : Nat := 0x786006
/-- 0x7860:07, Vager (R549). -/
abbrev MAINT_STOP_7860 : Nat := 0x786007
/-- 0x7860:08, Vager (R549). -/
abbrev FW_ACTIVATE_7860 : Nat := 0x786008
/-- 0x7860:09, Vager (R549). -/
abbrev FW_CONFIRM_7860 : Nat := 0x786009
/-- 0x7860:0A, Vager (R549). -/
abbrev FW_TRIAL_7860 : Nat := 0x78600A
/-- 0x7860:0B, Vager (R549). -/
abbrev FW_MIN_SVN_7860 : Nat := 0x78600B
/-- 0x7860:0C, Vager (R549). -/
abbrev FW_SVN_LOCK_7860 : Nat := 0x78600C
/-- 0x7860:0D, Vager (R549). -/
abbrev FW_SLOT_VERSIONS_7860 : Nat := 0x78600D
/-- 0x7C00:01, Staris (R565). -/
abbrev BOOT_STAGE_7C00 : Nat := 0x7C0001
/-- 0x7C00:02, Staris (R565). -/
abbrev DOMAIN_STATE_7C00 : Nat := 0x7C0002
/-- 0x7C00:03, Staris (R565). -/
abbrev IDLE_MIN_7C00 : Nat := 0x7C0003
/-- 0x7C00:04, Staris (R565). -/
abbrev WAKE_HOLD_7C00 : Nat := 0x7C0004
/-- 0x7C08+f:01, Staris (R565). -/
abbrev TOLERANCE_7C08 (n : Nat) : Nat := 0x7C0801 + 256 * n
/-- 0x7C08+f:02, Staris (R565). -/
abbrev WAKE_7C08 (n : Nat) : Nat := 0x7C0802 + 256 * n
/-- 0x7C08+f:03, Staris (R565). -/
abbrev WAKES_7C08 (n : Nat) : Nat := 0x7C0803 + 256 * n
/-- 0x7C08+f:04, Staris (R565). -/
abbrev TIME_NOT_ON_7C08 (n : Nat) : Nat := 0x7C0804 + 256 * n
/-- 0x7C40:01, Vager (R566). -/
abbrev BOOT_STAGE_7C40 : Nat := 0x7C4001
/-- 0x7C40:02, Vager (R566). -/
abbrev BOOT_TIMES_7C40 : Nat := 0x7C4002
/-- 0x7C40:03, Vager (R566). -/
abbrev IDLE_MIN_7C40 : Nat := 0x7C4003
/-- 0x7C40:04, Vager (R566). -/
abbrev WAKE_HOLD_7C40 : Nat := 0x7C4004
/-- 0x7C40:05, Vager (R566). -/
abbrev SHROUD_MIN_ON_7C40 : Nat := 0x7C4005
/-- 0x7C40:06, Vager (R566). -/
abbrev DOMAINS_ON_7C40 : Nat := 0x7C4006
/-- 0x7C40:07, Vager (R566). -/
abbrev PCIE_STATE_7C40 : Nat := 0x7C4007
/-- 0x7C48+f:01, Vager (R566). -/
abbrev TOLERANCE_7C48 (n : Nat) : Nat := 0x7C4801 + 256 * n
/-- 0x7C48+f:02, Vager (R566). -/
abbrev WAKE_7C48 (n : Nat) : Nat := 0x7C4802 + 256 * n
/-- 0x7C48+f:03, Vager (R566). -/
abbrev WAKES_7C48 (n : Nat) : Nat := 0x7C4803 + 256 * n
/-- 0x7C48+f:04, Vager (R566). -/
abbrev TIME_NOT_ON_7C48 (n : Nat) : Nat := 0x7C4804 + 256 * n
/-- 0x7C60+d:01, Vager (R566). -/
abbrev DOM_STATE_7C60 (n : Nat) : Nat := 0x7C6001 + 256 * n
/-- 0x7C60+d:02, Vager (R566). -/
abbrev DOM_WAKES_7C60 (n : Nat) : Nat := 0x7C6002 + 256 * n
/-- 0x7C60+d:03, Vager (R566). -/
abbrev DOM_TIME_NOT_ON_7C60 (n : Nat) : Nat := 0x7C6003 + 256 * n
/-- 0x7C60+d:04, Vager (R566). -/
abbrev DOM_LAST_CHANGE_7C60 (n : Nat) : Nat := 0x7C6004 + 256 * n
/-- ch:01 of a DMA channel's block, at index `i` (R445). -/
abbrev DMA_SHADOW_DESC (i : Nat) : Nat := 256 * i + 0x01
/-- ch:02 of a DMA channel's block, at index `i` (R445). -/
abbrev DMA_CONTROL (i : Nat) : Nat := 256 * i + 0x02
/-- ch:03 of a DMA channel's block, at index `i` (R445). -/
abbrev DMA_STATE (i : Nat) : Nat := 256 * i + 0x03
/-- ch:04 of a DMA channel's block, at index `i` (R445). -/
abbrev DMA_ACTIVE_DESC (i : Nat) : Nat := 256 * i + 0x04
/-- ch:05 of a DMA channel's block, at index `i` (R445). -/
abbrev DMA_SHADOW_VALID (i : Nat) : Nat := 256 * i + 0x05
/-- ch:06 of a DMA channel's block, at index `i` (R445). -/
abbrev DMA_CSO (i : Nat) : Nat := 256 * i + 0x06
/-- ch:07 of a DMA channel's block, at index `i` (R445). -/
abbrev DMA_LAST_STATUS (i : Nat) : Nat := 256 * i + 0x07
/-- ch:08 of a DMA channel's block, at index `i` (R445). -/
abbrev DMA_BYTES_DONE (i : Nat) : Nat := 256 * i + 0x08
/-- ch:09 of a DMA channel's block, at index `i` (R445). -/
abbrev DMA_FAULT_ADDR (i : Nat) : Nat := 256 * i + 0x09
/-- ch:0A of a DMA channel's block, at index `i` (R445). -/
abbrev DMA_VECTOR (i : Nat) : Nat := 256 * i + 0x0A
/-- ch:0B of a DMA channel's block, at index `i` (R445). -/
abbrev DMA_CH_WORLD (i : Nat) : Nat := 256 * i + 0x0B
/-- ch:0C of a DMA channel's block, at index `i` (R445). -/
abbrev DMA_POISON_GRANULES (i : Nat) : Nat := 256 * i + 0x0C
/-- ch:0D of a DMA channel's block, at index `i` (R445). -/
abbrev DMA_CONTROL_REFUSED (i : Nat) : Nat := 256 * i + 0x0D
/-- ch:0E of a DMA channel's block, at index `i` (R445). -/
abbrev DMA_OWNER (i : Nat) : Nat := 256 * i + 0x0E

end Sys2Proof.Machine.O
end

