-- ==== Sys2Proof/Machine/Defaults.lean ====
section
/-! DEFINITION. Machine/Defaults.lean: the Default column of the spec's object tables (R16): what each object reads after
power-on reset where that is not 0. An object the tables leave to fuses or to measurement reads 0 here (log entry 2). -/

namespace Sys2Proof.Machine

/-- The value listed for key `k` in rows (first key, how many indices, value). -/
def defaultRow : List (Nat × Nat × Nat) → Nat → Nat
  | [], _ => 0
  | (b, n, v) :: t, k => if b ≤ k ∧ k < b + 256 * n ∧ (k - b) % 256 = 0 then v else defaultRow t k

/-- Rows of starisDefaults: DICT_VERSION, STAGE_FREE, INCREMENT, HOLDOVER_TIMEOUT, EVT_STALE_WINDOW, THERMAL_LIMIT, MARGIN_PERIOD_V, MARGIN_PERIOD_T, MARGIN_PERIOD_O, MARGIN_DWELL, STREAM_PERIOD, DUMP_MAX_BYTES, DUMP_HOLD_MAX, SYNC_INTERVAL, TSTAMP_INTERVAL, ACMP_SOURCE, RANGE_SOURCE, PRIO_THRESH_0, PRIO_THRESH_1, PRIO_THRESH_2, PRIO_THRESH_3, SINK_WRAP. -/
def starisDefaults0 : List (Nat × Nat × Nat) :=
  [(0x100005, 1, 1),
   (0x102006, 1, 128),
   (0x200101, 1, 4294967296),
   (0x200302, 1, 62500),
   (0x300001, 1, 10000),
   (0x303006, 1, 1680),
   (0x305002, 1, 1000),
   (0x305003, 1, 1000),
   (0x305004, 1, 1000),
   (0x305009, 1, 1000),
   (0x306003, 1, 100),
   (0x307005, 16, 4294967296),
   (0x308001, 1, 200),
   (0x340002, 1, 12),
   (0x340003, 1, 1000),
   (0x342002, 16, 65535),
   (0x343003, 8, 65535),
   (0x344001, 1, 1024),
   (0x344002, 1, 1536),
   (0x344003, 1, 1920),
   (0x344004, 1, 2047),
   (0x345002, 1, 1)]

/-- Rows of starisDefaults: DIE_BYTES, TRIG_SOURCE, TRIG_POST, SPARE_LANE, DT_ENABLE, COMB_TIMEOUT, COALESCE, SH_BOOST, SH_MAX_SAMPLE, SEL_TEST_F, READY_WAIT, LEDGER_ENABLE, POLICY, SEG_SLICES, ACC_PPM, UNCAL_PPM, CAL_LIFE, DMA VECTOR, DMA CH_WORLD, HANG_ENABLE, RESET_LIMIT, RESET_WINDOW. -/
def starisDefaults1 : List (Nat × Nat × Nat) :=
  [(0x345004, 1, 65536),
   (0x346001, 1, 65535),
   (0x346002, 1, 2097152),
   (0x380003, 1, 255),
   (0x500001, 1, 7),
   (0x500002, 1, 10000),
   (0x500003, 1, 100),
   (0x540004, 1, 7),
   (0x540007, 1, 16777216),
   (0x540009, 1, 7),
   (0x580005, 1, 60000000),
   (0x600001, 1, 1),
   (0x600002, 1, 2),
   (0x600003, 1, 100000),
   (0x600007, 1, 15000),
   (0x600008, 1, 100000),
   (0x600009, 1, 8760),
   (0x68000A, 4, 65535),
   (0x68000B, 4, 1),
   (0x700001, 1, 1),
   (0x700002, 1, 3),
   (0x700003, 1, 86400)]

/-- Rows of starisDefaults: RESET_ACK_WAIT, RESET_HOLD, DOM_POLICY, DOM_KEEP, DOM_HANG_WINDOW, DOM_WATCHDOG_EN, SRAM_WEIGHT_CE, SRAM_WEIGHT_UE, SRAM_LEAK, SRAM_LIMIT, TRACE_BUFFER_BYTES, AUTH_DURATION, DREG_WORLD, BOOT_STAGE, IDLE_MIN, WAKE_HOLD. -/
def starisDefaults2 : List (Nat × Nat × Nat) :=
  [(0x70000C, 1, 100000),
   (0x70000D, 1, 10),
   (0x701002, 16, 1),
   (0x701003, 16, 1),
   (0x701004, 16, 500000),
   (0x701005, 16, 1),
   (0x703001, 1, 1),
   (0x703002, 1, 1000),
   (0x703003, 1, 100),
   (0x703004, 1, 1000),
   (0x703006, 1, 4194304),
   (0x740004, 1, 3600),
   (0x741003, 8, 1),
   (0x7C0001, 1, 1),
   (0x7C0003, 1, 100),
   (0x7C0004, 1, 1000)]

/-- The power-on value of object `k` of a Staris. -/
def starisDefault (k : Nat) : Nat :=
  if k < 0x345004 then defaultRow starisDefaults0 k else
  if k < 0x70000C then defaultRow starisDefaults1 k else
  defaultRow starisDefaults2 k

/-- Rows of vagerDefaults: DICT_VERSION, STAGE_FREE, MGMT_SPEED_MAX, MGMT_IPV6_PREFIX, MGMT_IPV4_PREFIX, SHEET_UDP_PORT, SHEET_MTU, PROXY_TIMEOUT, RESPONSE_STORE, STAGE_EPOCH_LIFE, RETRY_HINT, LOG_SYNC_INTERVAL, LOG_MIN_DELAY_REQ, ANNOUNCE_TIMEOUT, PRIORITY1, PRIORITY2, CLOCK_CLASS, SLAVE_ONLY, STEP_THRESHOLD, MAX_SLEW, LOCK_THRESHOLD, LOCK_COUNT. -/
def vagerDefaults0 : List (Nat × Nat × Nat) :=
  [(0x100005, 1, 1),
   (0x102006, 1, 1024),
   (0x110003, 1, 2),
   (0x110005, 1, 64),
   (0x110008, 1, 24),
   (0x110101, 1, 52482),
   (0x110102, 1, 1500),
   (0x110103, 1, 10000),
   (0x110104, 1, 64),
   (0x110105, 1, 86400),
   (0x110106, 1, 200000),
   (0x210204, 1, 4294967293),
   (0x210205, 1, 4294967293),
   (0x210206, 1, 3),
   (0x210207, 1, 255),
   (0x210208, 1, 255),
   (0x210209, 1, 248),
   (0x21020A, 1, 1),
   (0x210301, 1, 10000),
   (0x210302, 1, 50000),
   (0x210303, 1, 20),
   (0x210304, 1, 16)]

/-- Rows of vagerDefaults: REF_STABILITY, PPS_OUT_WIDTH, TW_RATE, SPARE_LANE, PORT_ENABLE, LANE_WINDOW, LANE_SYMBOL_LIMIT, MERGE_STALL, REPLAY_LIMIT, RETRAIN_LIMIT, DRAIN_LIMIT, CTX_FREE_COUNT, TREE_PARENT, TREE_FALLBACK, TREE_UDP_PORT, TREE_HEARTBEAT, TREE_DEAD_COUNT, TREE_ADOPT_WAIT, CHILD_TRAY, RIG_LAST_SLOT, ADOPT_TRAY, TT_ENABLE. -/
def vagerDefaults1 : List (Nat × Nat × Nat) :=
  [(0x210305, 1, 10000),
   (0x210402, 1, 100000000),
   (0x210601, 1, 1024),
   (0x381003, 16, 255),
   (0x381011, 16, 1),
   (0x384001, 1, 1000000),
   (0x384002, 1, 5600000),
   (0x384003, 1, 50),
   (0x384004, 1, 4),
   (0x384005, 1, 3),
   (0x414001, 1, 10000000),
   (0x414002, 1, 64),
   (0x430002, 1, 65535),
   (0x430004, 1, 65535),
   (0x430007, 1, 52480),
   (0x430008, 1, 1000),
   (0x430009, 1, 3),
   (0x43000B, 1, 10000),
   (0x431001, 64, 65535),
   (0x436802, 1, 255),
   (0x437001, 32, 65535),
   (0x480001, 1, 1)]

/-- Rows of vagerDefaults: PROBE_INTERVAL, SCORE_FREE, SK_WINDOW, REF_SOURCE, REF_NAN, MDL_REPLACES, MDL_PERIOD, MDL_TRIGGER, MDL_KEEP_ALARMS, ALM_RAISE, ALM_CLEAR, ALM_PERSIST, ALM_VECTOR, ALM_RECORD_MAX, SH_ENABLE, SPARES_LEFT, KAT_SAMPLES, KAT_TIME, RECOMPUTE_TIMEOUT, VR_VECTOR, REPLAY_CLUSTER, REPLAY_FIRST. -/
def vagerDefaults2 : List (Nat × Nat × Nat) :=
  [(0x480008, 1, 1000),
   (0x48000A, 1, 16777216),
   (0x483802, 1, 1000000),
   (0x484003, 1, 65535),
   (0x484005, 1, 1),
   (0x488005, 64, 255),
   (0x488008, 64, 1000),
   (0x48800A, 64, 65535),
   (0x48800B, 64, 1),
   (0x490001, 256, 2147483647),
   (0x490002, 256, 2147483647),
   (0x490003, 256, 1),
   (0x490005, 256, 65535),
   (0x490006, 256, 16),
   (0x544001, 1, 1),
   (0x544004, 1, 2),
   (0x544005, 1, 64),
   (0x544006, 1, 200),
   (0x544007, 1, 100000),
   (0x547005, 1, 65535),
   (0x548003, 1, 255),
   (0x548008, 1, 18446744073709551615)]

/-- Rows of vagerDefaults: STAY_BYTES, CHUNK_SLOTS, EXCHANGE_WAIT, PREP_RESEND, COMMIT_WAIT, STAY_UDP_PORT, DRAIN_RATE, MAX_WRITES, TGT_PORT, HOST_VECTOR, COORD_MISSING, BATCH_TIME, BATCH_MAX, BATCH_RING_BYTES, BATCH_VECTOR, PORT_PREFIX_LEN, OVERHEAD, ADMIN_ANCHOR_GROUP, ANCHOR_LOSS, OPER_GATES, CREDIT_HI, CREDIT_LO. -/
def vagerDefaults3 : List (Nat × Nat × Nat) :=
  [(0x588001, 1, 512000000000),
   (0x588002, 1, 7629),
   (0x588301, 1, 2000000),
   (0x588302, 1, 100000),
   (0x588303, 1, 600000000),
   (0x588304, 1, 52481),
   (0x588305, 1, 8000000000),
   (0x588306, 1, 64),
   (0x588803, 8, 4420),
   (0x589805, 1, 65535),
   (0x58A003, 1, 65535),
   (0x608001, 1, 1000000),
   (0x608002, 1, 65536),
   (0x608003, 1, 268435456),
   (0x608004, 1, 65535),
   (0x641003, 2, 64),
   (0x641007, 2, 20),
   (0x642004, 2, 65535),
   (0x642006, 2, 5000000),
   (0x642010, 2, 255),
   (0x644003, 16, 147456),
   (0x644004, 16, 18446744073709477888)]

/-- Rows of vagerDefaults: DMA VECTOR, DMA CH_WORLD, FR_NOTIFY, FR_VECTOR, CLS_WEIGHT_CE, CLS_WEIGHT_UE, CLS_LEAK, CLS_LIMIT, CLS_INSTANCES, CLS_SPARES_TOTAL, CLS_SPARES_LEFT, CLS_WEIGHT_CE, CLS_WEIGHT_UE, CLS_LEAK, CLS_LIMIT, CLS_INSTANCES, CLS_WEIGHT_CE, CLS_WEIGHT_UE, CLS_LEAK, CLS_LIMIT, CLS_WEIGHT_CE, CLS_WEIGHT_UE. -/
def vagerDefaults4 : List (Nat × Nat × Nat) :=
  [(0x68400A, 16, 65535),
   (0x68400B, 16, 1),
   (0x708005, 1, 1),
   (0x708006, 1, 65535),
   (0x709001, 1, 1000),
   (0x709002, 1, 1000),
   (0x709003, 1, 1000),
   (0x709004, 1, 3000),
   (0x709005, 1, 144),
   (0x709006, 1, 16),
   (0x709007, 1, 16),
   (0x709101, 1, 1),
   (0x709102, 1, 1000),
   (0x709103, 1, 500),
   (0x709104, 1, 1000),
   (0x709105, 1, 384),
   (0x709201, 1, 1),
   (0x709202, 1, 1000),
   (0x709203, 1, 100),
   (0x709204, 1, 1000),
   (0x709301, 1, 1000),
   (0x709302, 1, 1000)]

/-- Rows of vagerDefaults: CLS_LEAK, CLS_LIMIT, CLS_INSTANCES, CLS_SPARES_TOTAL, CLS_SPARES_LEFT, CLS_WEIGHT_CE, CLS_WEIGHT_UE, CLS_LEAK, CLS_LIMIT, CLS_INSTANCES, CLS_SPARES_TOTAL, CLS_SPARES_LEFT, DBG_DURATION, HOST_SECURE, HREG_WORLD, MAX_SESSIONS, SESSION_IDLE, TRAY_BOUND, SPDM_PATHS, MEAS_SELECT, REC_FREEZE_LIMIT, CN_WD_PERIOD. -/
def vagerDefaults5 : List (Nat × Nat × Nat) :=
  [(0x709303, 1, 250),
   (0x709304, 1, 2000),
   (0x709305, 1, 18),
   (0x709306, 1, 2),
   (0x709307, 1, 2),
   (0x709401, 1, 1000),
   (0x709402, 1, 1000),
   (0x709403, 1, 250),
   (0x709404, 1, 2000),
   (0x709405, 1, 68),
   (0x709406, 1, 4),
   (0x709407, 1, 4),
   (0x744202, 1, 3600),
   (0x744301, 1, 1),
   (0x744803, 16, 1),
   (0x747803, 1, 16),
   (0x747804, 1, 600),
   (0x748001, 1, 65535),
   (0x749001, 1, 3),
   (0x749003, 1, 1),
   (0x784006, 1, 60),
   (0x784803, 1, 1000)]

/-- Rows of vagerDefaults: CN_RESTART_LIMIT, CN_RESTART_WINDOW, THERMAL_WARN, FW_TRIAL, BOOT_STAGE, IDLE_MIN, WAKE_HOLD, SHROUD_MIN_ON, TOLERANCE, TOLERANCE, TOLERANCE. -/
def vagerDefaults6 : List (Nat × Nat × Nat) :=
  [(0x784804, 1, 4),
   (0x784805, 1, 3600),
   (0x785003, 1, 1600),
   (0x78600A, 1, 600),
   (0x7C4001, 1, 1),
   (0x7C4003, 1, 1000),
   (0x7C4004, 1, 1000),
   (0x7C4005, 1, 1),
   (0x7C4801, 1, 100),
   (0x7C4901, 1, 100),
   (0x7C4A01, 1, 1)]

/-- The power-on value of object `k` of a Vager. -/
def vagerDefault (k : Nat) : Nat :=
  if k < 0x210305 then defaultRow vagerDefaults0 k else
  if k < 0x480008 then defaultRow vagerDefaults1 k else
  if k < 0x588001 then defaultRow vagerDefaults2 k else
  if k < 0x68400A then defaultRow vagerDefaults3 k else
  if k < 0x709303 then defaultRow vagerDefaults4 k else
  if k < 0x784804 then defaultRow vagerDefaults5 k else
  defaultRow vagerDefaults6 k

/-- The power-on value of byte `i` of octet object `k` (Default column; values given "each" hold for every element). -/
def octetDefault (k i : Nat) : Nat :=
  if k = O.DROOP_THRESH_3031 then 40
  else if k = O.CANARY_CODE_3032 then 128
  else if k = O.SRC_PRIORITY_3401 then 0x55
  else if k = O.TX_WEIGHTS_3800 then [1, 2, 1, 2, 10].getD i 0
  else if k = O.RX_BUFFERS_3800 then [0, 1, 0, 0, 0, 0, 0, 0, 0, 32, 16, 0].getD i 0
  else if k = O.CTX_WEIGHT_6002 then 1
  else if k = O.GROUP_LANES_4800 then 16
  else if k = O.BLOCKS_FREE_4800 then [48, 0, 48, 0, 48, 0, 48, 0].getD i 0
  else if k = O.SPARE_BLOCKS_4800 then 2
  else if k = O.CLUSTER_STATE_5440 then (if i < 16 then 1 else 2)
  else if k = O.CLASS_MAP_6400 then [7, 7, 6, 5, 4, 3, 0, 0].getD i 0
  else if k = O.PCP_MAP_6410 0 ∨ k = O.PCP_MAP_6410 1 then i
  else if O.TX_WEIGHTS_3810 0 ≤ k ∧ k < O.TX_WEIGHTS_3810 16 then
    (if k % 256 = 0x0B then [2, 0, 0, 0, 14].getD i 0
     else if k % 256 = 0x0C then [0, 1, 0, 4, 0, 4, 0, 24, 0, 32, 16, 0].getD i 0
     else if k % 256 = 0x14 then 1 else 0)
  else if k = O.VENDOR_1000 then [0x43, 0x61, 0x6D, 0x61, 0x6E, 0x77, 0x61, 0x6C, 0x64].getD i 0
  else 0

end Sys2Proof.Machine
end

