-- ==== Sys2Proof/Machine/State.lean ====
section
/-! DEFINITION. Machine/State.lean: the state of one tray: one Vager, the Staris of each of its sixteen ports (R18), the
commands that wait, and what the tray has driven out. Everything the object tables name stands in `obj` and `oct` under the
key of its object; the rest of the state the spec gives stands in the typed parts. -/

namespace Sys2Proof.Machine
open Sys2Proof

/-- A granule waiting in a queue or a receive buffer: its data, whether it is poisoned (R32, R36), and whether it begins
or ends a message (R158). -/
structure MGran where
  data : Nat := 0
  poison : Bool := false
  som : Bool := false
  eom : Bool := false
deriving DecidableEq, Repr

/-- A granule of memory: its data and whether it is poisoned (R30 to R36). -/
structure Gran where
  data : Nat := 0
  poison : Bool := false
deriving DecidableEq, Repr

/-- One record of the event recorder (R535). TAG is not held: it verifies unless the record was torn or foreign. -/
structure Record where
  code : Nat := 0
  value : Nat := 0
  detail : Nat := 0
  severity : Nat := 0
  node : Nat := 0
  tstate : Nat := 0
  timeValid : Bool := false
  time : Nat := 0
  opHours : Nat := 0
  opSeconds : Nat := 0
  powerCycles : Nat := 0
  seq : Nat := 0
  sseq : Nat := 0
  /-- the number in its slot where its TAG does not verify: torn by a loss of power, or another Vager's (R538) -/
  fails : Option Nat := none
deriving DecidableEq, Repr

/-- One fault report (R452): the fields of granule 0, and granule 1. -/
structure FaultReport where
  time : Nat := 0
  epoch : Nat := 0
  detail : Nat := 0
  inst : Nat := 0
  cls : Nat := 0xFE
  die : Nat := 0
  dieValid : Bool := false
  severity : Nat := 0
  tray : Nat := 0
  rseq : Nat := 0
  code : Nat := 0
  granule1 : Nat := 0
deriving DecidableEq, Repr

/-- An entry of the transmit timestamp queue (R64). -/
structure TsEntry where
  seqId : Nat
  msgType : Nat
  domain : Nat
  time : Nat
deriving DecidableEq, Repr

/-- The states of the PTP port (R47, by IEEE 1588-2019). -/
inductive PtpPort where
  | initializing | listening | uncalibrated | slave | master
deriving DecidableEq, Repr

/-- What the PTP port holds between messages (R47, R48). Times are in units of 2^-16 ns. -/
structure PtpMeasure where
  /-- a two-step Sync that waits for its Follow_Up: its sequenceId, its receive time and its correction -/
  sync : Option (Nat × Int × Int) := none
  /-- origin and receive time of the last Sync that is complete -/
  pair : Option (Int × Int) := none
  /-- sequenceId and transmit time of the last Delay_Req or Pdelay_Req -/
  asked : Option (Nat × Int) := none
  /-- a two-step Pdelay_Resp that waits for its follow-up: receive time of its request, and its own -/
  answered : Option (Int × Int) := none
  /-- the mean path delay, once measured -/
  path : Option Int := none
  /-- the grandmaster's time at the last complete Sync, in ns, and Vager's tick then -/
  now : Option (Int × Nat) := none
deriving DecidableEq, Repr

/-- Vager's time island, PTP port and servo (R39 to R54). The time state, the wrap word and the other objects of
0x2100 to 0x211F stand in `obj`. -/
structure VTime where
  /-- the Lanyard counter, [63:32] ns and [31:0] fraction (R39) -/
  counter : Nat := 0
  /-- the increment in force (R41) -/
  inc : Nat := 0x100000000
  /-- the servo's frequency term (R52) -/
  rate : Nat := 0x100000000
  /-- consecutive offsets within LOCK_THRESHOLD (R53) -/
  lockRun : Nat := 0
  /-- SECONDS_SET waiting for the next whole second, and that second as extended time (R53) -/
  secondsStep : Option (Nat × Nat) := none
  /-- the dataset of the current grandmaster's last Announce -/
  gm : Option PtpDataset := none
  /-- the last grandmaster, once there has been one: its clockIdentity, none for Vager itself (0x2101:08) -/
  lastGm : Option (Option Nat) := none
  /-- Announce messages received from it since it was selected (R51 table) -/
  annCount : Nat := 0
  /-- logMessageInterval of its last Sync and last Announce (R52) -/
  syncLog : Option Int := none
  annLog : Option Int := none
  /-- the time-island ticks at which they came; where no Sync has come from it, that of its selection (R52) -/
  syncAt : Nat := 0
  annAt : Nat := 0
  port : PtpPort := .initializing
  ptp : PtpMeasure := {}
  /-- the whole second whose pulse was driven last at 1PPS out (R67) -/
  ppsLast : Option Nat := none
  /-- the stack owner in force; 0x2102:0B takes effect when the port restarts (R49) -/
  stackOwner : Nat := 0
  /-- the transmit timestamp queue, head first (R64) -/
  tsq : List TsEntry := []
deriving DecidableEq, Repr

/-- A DOWN word that waits for its UP word (R57, 0x2110+p:05). -/
structure SentWord where
  seq : Nat
  /-- its TX_TIME -/
  tx : Nat
  /-- a step lies between it and its answer, which gives no exchange -/
  void : Bool := false
  /-- no exchange period has ended since it was sent -/
  fresh : Bool := true
deriving DecidableEq, Repr

/-- Vager's time-word state of one Halyard port (R55 to R58). -/
structure PortTime where
  /-- SEQ of the next DOWN word -/
  downSeq : Nat := 0
  /-- DOWN words waiting for their UP word, oldest first -/
  sent : List SentWord := []
  lock : Bool := false
  /-- exchanges that have agreed in succession -/
  agree : Nat := 0
  /-- the increment the port servo asks for, once it has one -/
  inc : Option Nat := none
  /-- a step to place in the next DOWN word -/
  step : Option Int := none
deriving DecidableEq, Repr

/-- A comparator action in the handshake FIFO (R73): its code and ARG, and the counter and time state at firing. -/
structure FiredAction where
  action : Nat
  arg : Nat
  counter : Nat
  state : Nat
deriving DecidableEq, Repr

/-- A Staris's time island (R39 to R43, R603). -/
structure STime where
  counter : Nat := 0
  /-- the model's count of wraps of the nanosecond field since power-on, by which R103 keeps its alignment -/
  wraps : Int := 0
  inc : Nat := 0x100000000
  /-- the last accepted DOWN SEQ (R56) -/
  lastSeq : Option Nat := none
  /-- SEQ of the next UP word -/
  upSeq : Nat := 0
  /-- the INC values applied while LOCKED, newest first, at most 16 (R603) -/
  incs : List Nat := []
  /-- comparator actions in the handshake FIFO, oldest first (R73) -/
  fifo : List FiredAction := []
deriving DecidableEq, Repr

/-- One counter: its configuration word (R83), COUNT and WRAPPED (R85). -/
structure Counter where
  cfg : Nat := 0
  count : Nat := 0
  wrapped : Bool := false
  /-- it was global and has not been cleared since (R86) -/
  wasGlobal : Bool := false
deriving DecidableEq, Repr

/-- One stream of a Staris (R100 to R105). -/
structure SStream where
  source : Nat := 0
  period : Nat := 100
  phase : Nat := 0
  enable : Bool := false
  /-- enabled by a non-secure writer (R86) -/
  byNs : Bool := false
  seq : Nat := 0
  /-- COUNT at the previous record (KIND 1) -/
  prev : Nat := 0
  /-- value of the last EMIT (KIND 8) -/
  emitted : Nat := 0
  /-- sum and number of the rail codes since the previous record (KIND 4, 5) -/
  sum : Nat := 0
  num : Nat := 0
  /-- trips since the previous record (KIND 6) -/
  trips : Nat := 0
  ovr : Bool := false
  wrap : Bool := false
  /-- counter nanoseconds of the next periodic sample, once sampling runs (R103) -/
  next : Nat := 0
deriving DecidableEq, Repr

/-- One rail's last samples, newest first, at most 1,000 (R95). -/
structure RailHist where
  volts : List Nat := []
  amps : List Nat := []
deriving DecidableEq, Repr

/-- A margining search in progress (R98): the code found so far, most significant bit first, and the probes done. -/
structure MarginSearch where
  code : Nat := 0
  tries : Nat := 0
deriving DecidableEq, Repr

/-- What a waiting Cleat sequencer waits for (R111, R112); `timeout` is the XB limit of a wait with IMM[0] 1. -/
inductive Wait where
  | none
  | time (target : Nat)
  | edge (source : Nat) (timeout : Option Nat)
  | count (counter : Nat) (target : Nat) (timeout : Option Nat)
  | signal (timeout : Option Nat)
deriving DecidableEq, Repr

/-- The states of a Cleat sequencer (R113). -/
inductive SeqState where
  | idle | running | waiting | halted | fault
deriving DecidableEq, Repr

/-- One Cleat sequencer (R110 to R114); its program stands in `oct`. -/
structure Seq where
  state : SeqState := .idle
  pc : Nat := 0
  x0 : Nat := 0
  x1 : Nat := 0
  x2 : Nat := 0
  x3 : Nat := 0
  signals : Nat := 0
  timeout : Bool := false
  fault : Nat := 0
  wait : Wait := .none
  /-- the awaited edge has come (R111) -/
  edgeSeen : Bool := false
deriving DecidableEq, Repr

/-- A tensor dump copy in progress (R107 to R109). -/
structure DumpCopy where
  tag : Nat := 0
  step : Nat := 0
  epoch : Nat := 0
  timeMatch : Nat := 0
  base : Nat := 0
  bytes : Nat := 0
  /-- the bytes of the whole range that the descriptor wrote (R108) -/
  range : Nat := 0
  engine : Nat := 0
  truncated : Bool := false
  torn : Bool := false
  hold : Bool := false
  /-- the hold was asked for and has been kept so far -/
  held : Bool := false
  /-- the copy ends short: a die reset or a disarm (R109), or a secure source range (R478) -/
  aborting : Bool := false
deriving DecidableEq, Repr

/-- The internal state of one dump slot (R106); its objects stand in `obj`. -/
structure DumpSlot where
  /-- action 6 has fired for the slot -/
  triggered : Bool := false
  copy : Option DumpCopy := none
deriving DecidableEq, Repr

/-- A descriptor of the die between START and DONE or ABANDON (R572). -/
structure Descriptor where
  slot : Nat
  dseq : Nat
  base : Nat
  bytes : Nat
  tag : Nat
  step : Nat
  epoch : Nat
  /-- the tick at which it started -/
  since : Nat := 0
deriving DecidableEq, Repr

/-- The capture side of a Staris (chapter 03) beyond its objects. -/
structure Capture where
  /-- event inputs whose line is high -/
  level : Tbl Bool := []
  counters : Tbl Counter := []
  /-- the snapshot bank, entries in the layout of R85 -/
  snap : Tbl Nat := []
  streams : Tbl SStream := []
  /-- periodic sampling has begun, and from which instant in nanoseconds not wrapped (R103) -/
  started : Option Int := none
  /-- records waiting for credit, oldest first, 128 bits each (R105) -/
  holding : List Nat := []
  rails : Tbl RailHist := []
  /-- the time-island tick of the next sample of rail converters 0 to 3, counted from the last re-phase (R94) -/
  rephased : Tbl Nat := []
  /-- position in the running sequence of converters 4 to 7 (R94) -/
  seqPos : Tbl (Option Nat) := []
  vSearch : Tbl MarginSearch := []
  tSearch : MarginSearch := {}
  /-- optical inputs that the running pass has still to convert (R98) -/
  oPass : List Nat := []
  /-- the canary path being swept (R99) -/
  sweeping : Option Nat := none
  dumps : Tbl DumpSlot := []
  /-- dumps sent, modulo 2^16 (R109) -/
  dumpSeq : Nat := 0
  seqs : Tbl Seq := []
  descs : List Descriptor := []
deriving DecidableEq, Repr

/-- The states of a trace configuration (R127). -/
inductive CfgState where
  | idle | wait | active
deriving DecidableEq, Repr

/-- The states of the trace unit (R128). -/
inductive UnitState where
  | idle | running | triggered | frozen | full
deriving DecidableEq, Repr

/-- One trace source (R116 to R133, R146 to R148). -/
structure TSource where
  traced : Bool := false
  /-- REASON of a SYNC due before its next packet -/
  syncDue : Option Nat := none
  /-- REASON of the GAP it emitted last, while it is not traced (R123, R130) -/
  gap : Option Nat := none
  /-- world and privilege of its last word (R131) -/
  sec : Bool := false
  priv : Bool := false
  atoms : Nat := 0
  nAtoms : Nat := 0
  /-- cycles from the last written packet to the last branch held in `atoms` -/
  atomCyc : Nat := 0
  /-- strobes since the last written packet or SYNC, up to the last word (R121) -/
  cyc : Nat := 0
  addr : Nat := 0
  /-- the last traced address presented while R131 did not exclude it -/
  clear : Nat := 0
  /-- bytes since the last SYNC (R123) -/
  bytes : Nat := 0
  /-- packets lost since the last OVERFLOW (R133) -/
  lost : Nat := 0
  /-- LPS and SRS (R567) -/
  lowPower : Bool := false
  inReset : Bool := false
deriving DecidableEq, Repr

/-- One granule of the staging queue: up to four words, oldest first, and whether it holds the TRIGGER packet. -/
structure TGran where
  words : List Nat := []
  trigger : Bool := false
deriving DecidableEq, Repr

/-- Pennant trace of a Staris beyond its objects. -/
structure Trace where
  sources : Tbl TSource := []
  cfgs : Tbl CfgState := []
  unit : UnitState := .idle
  /-- the staging queue, oldest granule first (R132) -/
  queue : List TGran := []
  /-- the sink's granules written since the sink was last reset (R143) -/
  written : Nat := 0
  /-- bytes counted since the granule with the TRIGGER packet, once it has been written (R142) -/
  post : Option Nat := none
  /-- W of R143 and the sink offset of the TRIGGER granule -/
  trigAt : Option (Nat × Nat) := none
  /-- addresses of die-memory writes not yet acknowledged, oldest first, and whether the freeze waits for the last (R142) -/
  outstanding : List Nat := []
  freezing : Bool := false
  /-- the local buffer, granule by granule (R136) -/
  buffer : Tbl Gran := []
deriving DecidableEq, Repr

/-- An open combine (R282, R286). -/
structure Comb where
  num : Nat
  /-- the key slot of its epoch -/
  slot : Nat
  /-- whether its members are checked linearly, once one has a check -/
  lin : Option Bool := none
  nm1 : Nat := 0
  exp : Option Nat := none
  acc0 : Nat := 0
  acc1 : Nat := 0
  poison : Bool := false
  bad : Bool := false
  breach : Bool := false
  /-- engine slots of its members (R298) -/
  engines : List Nat := []
deriving DecidableEq, Repr

/-- The secret part of a key slot (R291, R292). -/
structure KeySlot where
  key : List Nat := []
  r0 : Nat := 0
  r1 : Nat := 0
deriving DecidableEq, Repr

/-- The digest tap of a Staris beyond its objects (R278 to R307). -/
structure Checks where
  /-- open combines, oldest first -/
  combs : List Comb := []
  /-- combines abandoned whose output has not come (R298) -/
  abandoned : List Nat := []
  keys : Tbl KeySlot := []
  /-- open coalescing windows by event code: events after the first, and the granule of the last (R304) -/
  windows : Tbl (Nat × Nat) := []
deriving DecidableEq, Repr

/-- A flit of the replay buffer (R162, R165): its SEQ, its GMAP and its payload granules with their channels. -/
structure SentFlit where
  seq : Nat
  payload : List (Nat × MGran)
deriving DecidableEq, Repr

/-- A LINK_CTL item waiting to be sent or answered (R184). -/
structure CtlItem where
  code : Nat := 0
  seq : Nat := 0
  laneA : Nat := 0
  laneB : Nat := 0
  cw : Nat := 0
  data : Nat := 0
  digest : List Nat := []
deriving DecidableEq, Repr

/-- A lane change that waits for its codeword (R186, R187). -/
structure LaneChange where
  drop : Bool := false
  laneA : Nat := 0
  laneB : Nat := 0
  cw : Nat := 0
  seq : Nat := 0
  acked : Bool := false
  cancelling : Bool := false
deriving DecidableEq, Repr

/-- What is left of a received codeword's message: the bits not yet taken by a flit, how many, and whether the FEC decoded it
(R154, R163). -/
structure RxWord where
  bits : Nat
  left : Nat
  ok : Bool
deriving DecidableEq, Repr

/-- One end of a Halyard link (R153 to R188) beyond its objects. -/
structure LinkEnd where
  /-- granules waiting to be sent, by channel 1 to 5 -/
  txq : Tbl (List MGran) := []
  /-- time words waiting for granule 1 of a flit (R176) -/
  timeWords : List Nat := []
  /-- SEQ of the next flit -/
  nextSeq : Nat := 0
  replay : List SentFlit := []
  /-- SEQs still to be resent, in order (R165) -/
  resend : List Nat := []
  /-- replays of the oldest unacknowledged flit in succession, and TX_MARK of the last flit of the last one (R166) -/
  replayFails : Nat := 0
  replayMark : Nat := 0
  /-- next SEQ expected (R163) -/
  rxNext : Nat := 0
  nak : Bool := false
  /-- granules sent on each channel, modulo 2^16 (R169) -/
  sent : Tbl Nat := []
  /-- the last CREDIT count received for each channel -/
  credit : Tbl Nat := []
  /-- the peer's advertised buffer for each channel -/
  peerBuf : Tbl Nat := []
  /-- granules received and freed on each channel since link-up, modulo 2^16 -/
  received : Tbl Nat := []
  freed : Tbl Nat := []
  /-- this end's own advertised buffers, in force since link-up (R169) -/
  myBuf : Tbl Nat := []
  /-- granules of the open message of each channel, first granule first (R172) -/
  asm : Tbl (List MGran) := []
  /-- granules received of each channel that the intake has not taken (R178); Vager's end only -/
  rxq : Tbl (List MGran) := []
  /-- weighted round-robin: the channel being served and what it may still take (R176) -/
  wrrChan : Nat := 5
  wrrLeft : Nat := 0
  /-- TX_MARK of the last flit sent with the tick at which the counter gave it (R160), and that of the last flit received (R179) -/
  txMark : Option (Nat × Nat) := none
  peerMark : Nat := 0
  /-- the port counts in the control merge (R179, R180); Vager's end only -/
  counted : Bool := false
  /-- QTIME of the last control message entered into the control queue, with the tick at which the counter gave it (R177) -/
  lastQtime : Option (Nat × Nat) := none
  /-- codewords sent and received since link-up, modulo 2^48 (R155) -/
  cwTx : Nat := 0
  cwRx : Nat := 0
  /-- message bits sent in flits that do not yet fill a codeword, and how many (R154, R155) -/
  txBits : Nat := 0
  txCount : Nat := 0
  /-- the message bits received that have not yet filled a flit, first word first (R155) -/
  rxWords : List RxWord := []
  /-- LINK_CTL items waiting for their answer, oldest first, the one to be sent next, and the number of the next (R184) -/
  ctl : List CtlItem := []
  ctlTurn : Nat := 0
  ctlSeq : Nat := 0
  /-- flits since the last LINK_CTL flit (R184) -/
  ctlGap : Nat := 0
  change : Option LaneChange := none
  /-- DATA flits are held while the receivers re-deskew (R187) -/
  deskew : Bool := false
  /-- corrected symbols of each lane in this window (R185) -/
  window : Tbl Nat := []
  /-- lanes retired, one bit each (R188) -/
  retired : Nat := 0
  /-- the spare lane has lost signal (R600) -/
  spareDead : Bool := false
  /-- lanes to be retired after the change in progress (R448) -/
  toRetire : List Nat := []
  /-- retrains in succession with no good flit since the first (R181), and training attempts -/
  retrains : Nat := 0
  attempts : Nat := 0
  /-- link-ups of the port (R484); Vager's end only -/
  linkups : Nat := 0
  /-- the digest of the last PAIR_HELLO, and the CTL_SEQ of the last PAIR_HELLO and LANE_REPORT taken -/
  hello : List Nat := []
  lastHello : Option Nat := none
  lastReport : Option Nat := none
  /-- the key established at the last passage from PAIRING (R486) -/
  key : Option Nat := none
  /-- the key that a Staris has derived from LK_OFFER, not yet established; failures of R485 in succession at Vager -/
  newKey : Option Nat := none
  keyFails : Nat := 0
  /-- the tick of the last of them (R485) -/
  keyFailAt : Nat := 0
  /-- a retrain must keep SEQ, replay and credit state through TRAINING (R601) -/
  keepState : Bool := false
  initDone : Bool := false
  /-- LANE_CLEAR waits for the next link-up (R188) -/
  laneClear : Bool := false
  /-- the firmware digest and AUTH bits that Vager last learned of its Staris, once the link has left UP (R496) -/
  seenFw : List Nat := []
  seenAuth : Nat := 0
deriving DecidableEq, Repr

/-- A control message at Vager, whole (R175): the port it came from, its header fields and its body granules. -/
structure CtlMsg where
  port : Nat := 0
  mtype : Nat := 0
  qtime : Nat := 0
  head : Nat := 0
  body : List MGran := []
  /-- released late (R180) -/
  late : Bool := false
deriving DecidableEq, Repr

/-- The state of one stream at Vager: its hot entry (R192) and full entry (R193). MEMBER, CTX, GROUP, SWITCH_TIME and NEXT_*
are read from the contexts, where they are held once. -/
structure VStream where
  lastValue : Nat := 0
  lastTime : Nat := 0
  lastSeq : Nat := 0
  seen : Bool := false
  kind : Nat := 0
  gap : Bool := false
  ovr : Bool := false
  unlocked : Bool := false
  wrap : Bool := false
  prevOperand : Nat := 0
  records : Nat := 0
  gaps : Nat := 0
  late : Nat := 0
  unbound : Nat := 0
  lastExt : Nat := 0
  lastRecord : Nat := 0
deriving DecidableEq, Repr

/-- A freeze snapshot at Vager (R197, R198): a set being gathered, or the current one. -/
structure Snapshot where
  seq : Nat := 0
  time : Nat := 0
  state : Nat := 0
  /-- PARTs that have arrived -/
  parts : List Nat := []
  /-- the counters in the layout of R85 -/
  counts : Tbl Nat := []
deriving DecidableEq, Repr

/-- A partial (R202 to R205); an empty one carries both arguments as all ones. COVER and MISSING are those of the message
it travels in. -/
structure Partial where
  sum : Nat := 0
  count : Nat := 0
  expect : Nat := 0
  flags : Nat := 0
  max : Nat := 0
  min : Nat := 0
  maxArg : Nat := 0x1FFFFFFFF
  minArg : Nat := 0x1FFFFFFFF
  sk : Tbl Nat := []
  hist : Tbl Nat := []
  cover : Nat := 1
  missing : Nat := 0
deriving DecidableEq, Repr

/-- An open round of a group (R207). -/
structure Round where
  key : Nat
  /-- A of R207 -/
  first : Nat
  own : Partial := {}
  ownClosed : Bool := false
  /-- pod-stream identifiers that have contributed, with their die in [19:16] -/
  got : List Nat := []
  /-- partials taken from children, by tray -/
  kids : Tbl Partial := []
deriving DecidableEq, Repr

/-- The result of a group's last closed round (R230, R231). -/
structure RoundResult where
  round : Nat := 0
  header : Nat := 0
  body : List Nat := []
  closeTime : Nat := 0
  missingDies : Nat := 0
  missingKids : Nat := 0
  missingAdopt : Nat := 0
deriving DecidableEq, Repr

/-- A reduction group of a context (R199, R207, R222). -/
structure Group where
  cfg : Nat := 0
  base : Nat := 0
  window : Nat := 0
  anchor : Nat := 0
  trayWait : Nat := 0
  hopWait : Nat := 0
  /-- the job's trays, and whether this tray lies among them (R200) -/
  trayLo : Nat := 0
  trayHi : Nat := 0
  inside : Bool := false
  /-- open rounds in ascending key, at most four (R208) -/
  rounds : List Round := []
  /-- the highest key closed (R208) -/
  closedHi : Option Nat := none
  /-- closed rounds still remembered with the trays merged, newest first (R214) -/
  done : List (Nat × List Nat) := []
  /-- streams, or counters of a die, that have contributed in this context, with the last operand of a counter (R201) -/
  primed : Tbl Nat := []
  /-- covers of standing children, by tray (R215) -/
  standing : Tbl Nat := []
  stood : Bool := false
  closedCount : Nat := 0
  forced : Nat := 0
  late : Nat := 0
  dup : Nat := 0
deriving DecidableEq, Repr

/-- A PARTIAL sent up and not acknowledged (R214). -/
structure UpPartial where
  ctx : Nat
  epoch : Nat
  group : Nat
  round : Nat
  standing : Bool
  part : Partial
  sketch : Bool := false
  hist : Bool := false
  /-- newer rounds of the group closed since -/
  newer : Nat := 0
deriving DecidableEq, Repr

/-- A broadcast in hand (R223, R224): its message and the answers gathered. -/
structure Bcast where
  bseq : Nat
  epoch : Nat
  body : List Nat
  /-- this Vager's own answer, once it has applied or refused it: HITS, MISSES, NAKS, and the first NAK -/
  own : Option (Nat × Nat × Nat × Nat × Nat) := none
  /-- BACK bodies of the children with COVER and MISSING, by tray -/
  kids : Tbl (Nat × Nat × Nat) := []
  sent : Bool := false
  /-- staged groups of a DICT_WRITE that are still pending, and the first failing STATUS of one that failed (R521) -/
  groups : List Nat := []
  failed : Option Nat := none
  /-- trays that have not answered the forwarded message -/
  waiting : List Nat := []
deriving DecidableEq, Repr

/-- The committed tree plan and what this Vager holds as a node of the tree (R216, R217, R227). -/
structure Tree where
  self : Nat := 0
  parent : Nat := 0xFFFF
  fallback : Nat := 0xFFFF
  level : Nat := 0
  /-- the committed IPv6 addresses of parent and fallback, and of the trays in the slots, child slots 0 to 63 and adoption slots
  64 to 95 (R217, R227) -/
  parentAddr : Nat := 0
  fallbackAddr : Nat := 0
  kidAddrs : Tbl Nat := []
  /-- committed tray and cover of the child slots; states stand in `obj` -/
  kids : Tbl (Nat × Nat) := []
  /-- unacknowledged PARTIALs, oldest first -/
  up : List UpPartial := []
  /-- broadcasts in hand, oldest first -/
  bcasts : List Bcast := []
  /-- broadcasts held ahead of order, at most eight (R223) -/
  ahead : List Bcast := []
  /-- the BACKs of the last eight BSEQs, newest first: BSEQ, epoch, COVER, MISSING and body (R223) -/
  backs : List (Nat × Nat × Nat × Nat × Nat) := []
  /-- fleet broadcasts: the last accepted one is this BSEQ -/
  fleet : Option Nat := none
  /-- public-key digests of the neighbours since the last commit, by tray (R492) -/
  keys : Tbl (List Nat) := []
  /-- slots declared dead whose orphans are awaited (R227) -/
  awaiting : List Nat := []
  /-- slots that orphans have taken since the last commit (R227) -/
  adoptees : List Nat := []
  /-- the last BSEQ that each adoptee reported, by slot, until it has been sent what it lacks (R227) -/
  reported : Tbl Nat := []
deriving DecidableEq, Repr

/-- The state of a feature builder (R242); its configuration stands as the 256-bit number of R241. -/
structure Builder where
  cfg : Nat := 0
  s0 : Int := 0
  s1 : Int := 0
  tLast : Nat := 0
  out : Nat := 0xFFFF
  refnan : Bool := false
  stale : Bool := false
  fault : Bool := false
  primed : Bool := false
deriving DecidableEq, Repr

/-- A row of the feature table (R235 to R240): its descriptor, the features that are not NaN, poisoned granules, and the
time of the last builder write. -/
structure FRow where
  desc : Nat := 0
  feat : Tbl Nat := []
  poison : Nat := 0
  updated : Nat := 0
deriving DecidableEq, Repr

/-- A sketch slot (R249): its window, the current period once it has one, and the two sketches. -/
structure SkSlot where
  window : Nat := 1000000
  period : Option Nat := none
  /-- sketch B is current -/
  curB : Bool := false
  a : Tbl Nat := []
  b : Tbl Nat := []
  turns : Nat := 0
deriving DecidableEq, Repr

/-- A reference register (R250). -/
structure RefReg where
  value : Int := 0
  source : Nat := 0xFFFF
  time : Nat := 0
  nan : Bool := true
deriving DecidableEq, Repr

/-- An output of a score entry (R270). -/
structure Score where
  score : Int := 0
  count : Nat := 0
  invalid : Bool := false
  poison : Bool := false
  dflt : Bool := false
  raised : Bool := false
deriving DecidableEq, Repr

/-- One evaluation of a pass (R255 to R257): the row, its outputs, and the lane it ran on. -/
structure Eval where
  row : Nat
  outs : List Score
  group : Nat
  lane : Nat
deriving DecidableEq, Repr

/-- A pass of a model between its start and its release (R258 to R260). -/
structure Pass where
  start : Nat
  triggered : Bool
  /-- work items not yet evaluated, by group: rows in ascending order -/
  todo : List (Nat × Nat) := []
  done : List Eval := []
  /-- lanes that took part and have not passed their end-of-pass probe: group × 17 + lane -/
  probing : List Nat := []
  /-- rows to run again, with the lane, group × 17 + lane, that failed its probe on each (R274) -/
  barred : List (Nat × Nat) := []
deriving DecidableEq, Repr

/-- A validated model: the parsed image of R263 and R264, with nodes by image reference. -/
structure Model where
  nout : Nat := 0
  mask : Nat := 0
  bias : List Int := []
  trees : List (Nat × Nat) := []
  /-- blocks in table order: stage and number of nodes -/
  blocks : List (Nat × Nat) := []
  /-- nodes by image reference, 128 bits each -/
  nodes : Tbl Nat := []
  digest : List Nat := []
  name : List Nat := []
deriving DecidableEq, Repr

/-- A model slot (R265 to R268). Its objects stand in `obj`. -/
structure MSlot where
  model : Option Model := none
  /-- the image being loaded -/
  image : List Nat := []
  /-- groups that hold the model, ascending -/
  held : List Nat := []
  /-- stage-memory blocks held in each group: group × 64 + number of the model's block, to physical block (R262, R265) -/
  phys : Tbl Nat := []
  pass : Option Pass := none
  /-- the last pass start taken (R258) -/
  lastStart : Option Nat := none
  scores : Tbl (List Score) := []
deriving DecidableEq, Repr

/-- One lane group (R251, R252, R274 to R276): lanes retired, the spare taken, physical blocks in use and spoilt, blocks
waiting for their fill, and whether its domain is powered. -/
structure LaneGroup where
  retired : List Nat := []
  spareTaken : Bool := false
  used : List Nat := []
  dead : List Nat := []
  filling : List Nat := []
  /-- lanes that are running their idle probe -/
  idleProbe : List Nat := []
deriving DecidableEq, Repr

/-- An open request on an energy context: its segment so far (R392 to R395). -/
structure EnergyReq where
  reqId : Nat := 0
  epoch : Nat := 0
  /-- counter nanoseconds at which the segment opened -/
  start : Nat := 0
  seg : Nat := 0
  attr : Nat := 0
  alloc : Nat := 0
  slices : Nat := 0
  /-- M of R395 -/
  extra : Nat := 0
  /-- not LOCKED at some boundary of the segment -/
  unlocked : Bool := false
  /-- a slice of the segment held a replaced sample -/
  fill : Bool := false
  /-- its segment end has been deferred (R397) -/
  deferred : Bool := false
deriving DecidableEq, Repr

/-- An operation waiting for the next slice boundary (R392). -/
structure EnergyOp where
  close : Bool
  reqId : Nat
  epoch : Nat
  deferred : Bool := false
deriving DecidableEq, Repr

/-- The metering side of the energy ledger at a Staris (R385 to R399) beyond its objects. -/
structure Energy where
  /-- activity of each pair in this slice: key slot times 2^14 plus energy context (R388) -/
  acts : Tbl Nat := []
  /-- activity of edges that found no room for a further pair, by slot: its share goes to the pool (R388) -/
  surplus : Tbl Nat := []
  /-- energy of each rail in this slice, in eu (R387) -/
  railE : Tbl Nat := []
  /-- energy of each rail's previous sample, in eu (R387) -/
  railPrev : Tbl Nat := []
  /-- energy of replaced samples and of first samples after a re-phase in this slice (R387) -/
  railErr : Nat := 0
  /-- rails whose next sample is the first after a re-phase of their converter -/
  rephased : Tbl Bool := []
  /-- a sample of this slice was replaced -/
  filled : Bool := false
  /-- open requests and waiting operations, by context -/
  reqs : Tbl EnergyReq := []
  ops : Tbl EnergyOp := []
  /-- the record queue, oldest first: record granules 1 and 2 (R397, R398) -/
  queue : List (Nat × Nat) := []
  /-- the next record is the first after power-on reset -/
  restart : Bool := true
  /-- TOTALS_CLEAR waits for the slice boundary -/
  clearTotals : Bool := false
deriving DecidableEq, Repr

/-- A closed batch (R404, R406): header and signature, and the body unless it was dropped. -/
structure Batch where
  bsn : Nat
  header : List Nat
  signature : List Nat
  body : List Nat
deriving DecidableEq, Repr

/-- What R405 takes of one ledger configuration of a port. -/
structure LedgerCfg where
  calTime : Nat := 0
  life : Nat := 0
  acc : Nat := 0
  uncal : Nat := 0
deriving DecidableEq, Repr

/-- The batching side of the energy ledger at Vager (R400 to R406). -/
structure Ledger where
  /-- entries of the open batch, three granules each -/
  entries : List (Nat × Nat × Nat) := []
  /-- the open window: its start and length in nanoseconds -/
  window : Option (Nat × Nat) := none
  part : Bool := false
  gaps : Nat := 0
  late : Nat := 0
  chainStart : Bool := true
  prev : List Nat := []
  lostBodies : Nat := 0
  /-- batches held in the ring, oldest first -/
  held : List Batch := []
  /-- configurations announced, by port × 65,536 + CFG_SEQ: digest granules and what R405 needs -/
  cfgs : Tbl (Nat × Nat) := []
  params : Tbl LedgerCfg := []
  /-- the keys of `cfgs` that a batch of the chain has declared -/
  declared : List Nat := []
deriving DecidableEq, Repr

/-- A UDP datagram of the pod tree or of Stay peers (R212, R366): the tray and the destination port it goes to, and its granules from
the header on. -/
structure Datagram where
  tray : Nat
  udp : Nat
  granules : List Nat
deriving DecidableEq, Repr

/-- A frame waiting in a class queue of a fabric port (R409 to R411): its kind, its length in bytes from destination address to frame
check sequence, the IPv6 address of its next hop, its VLAN identifier and PCP where it is tagged, the datagram it carries where the
model forms it, and whether the guard rule has held it (R413). -/
structure Frame where
  kind : Nat
  len : Nat
  hop : Nat := 0
  tag : Option (Nat × Nat) := none
  msg : Option Datagram := none
  /-- the guard rule holds it now, and has held it once (R413, R423) -/
  held : Bool := false
  counted : Bool := false
deriving DecidableEq, Repr

/-- A credit-based shaper as it is in force (R423 to R425). Credit is kept in units of 2^-16 bit times 10^-9. -/
structure Shaper where
  enable : Bool := false
  slope : Nat := 0
  hi : Int := 147456
  lo : Int := -73728
  credit : Int := 0
  /-- settings written and waiting for the end of the frame in transmission (R424) -/
  pendingSet : Bool := false
deriving DecidableEq, Repr

/-- A fabric port beyond its objects (R409 to R425). -/
structure GatePort where
  queues : Tbl (List Frame) := []
  /-- the class and length of the frame in transmission -/
  tx : Option (Nat × Nat) := none
  /-- the extended time at which that frame started -/
  txAt : Nat := 0
  shapers : Tbl Shaper := []
  /-- extended time up to which credit has been accounted -/
  creditAt : Nat := 0
  /-- the end of the entry in force; none while no list runs or a STEP list holds its last entry -/
  entryEnd : Option Nat := none
  /-- the operational anchor group and offset (R421) -/
  anchorGroup : Nat := 0xFFFF
  anchorOffset : Nat := 0
  /-- the pending anchor instant (R417), and the last one, or the takeover (R418) -/
  anchorAt : Option Nat := none
  lastAnchor : Nat := 0
deriving DecidableEq, Repr

/-- A Shroud selection of a Staris that waits for the die's notice or skip (R315), or a poison request that waits for the
die's report (R334). -/
structure ShSel where
  sid : Nat
  tag : Nat
  step : Nat
  epoch : Nat
  slot : Nat
deriving DecidableEq, Repr

/-- An entry of the die's sample ring (R576, R577), oldest first: its header granule, whether VERDICT has freed it, and the
message while it waits for an absorption to end (R316). -/
structure ShEntry where
  sid : Nat
  offset : Nat
  bytes : Nat
  header : Nat
  freed : Bool := false
  waiting : Option (List (Nat × Bool)) := none
deriving DecidableEq, Repr

/-- The Shroud side of a Staris beyond its objects (R313 to R318). -/
structure ShroudDie where
  nextSid : Nat := 0
  sels : List ShSel := []
  ring : List ShEntry := []
  /-- poison requests presented and not yet answered, oldest first (R334) -/
  asks : List ShSel := []
deriving DecidableEq, Repr

/-- Where a sample stands between arrival and release (R332, R337). -/
inductive SPhase where
  | queued
  | running (c : Nat) (second : Bool)
  | reverify
  | second (c : Nat)
  | waitE
  | done
deriving DecidableEq, Repr

/-- A sample, or a skip, in the Shroud pool (R339). -/
structure Sample where
  port : Nat
  sid : Nat
  /-- the message, header granule first; a skip or a discarded sample holds its header alone -/
  msg : List (Nat × Bool) := []
  phase : SPhase := .queued
  c1 : Option Nat := none
  c2 : Option Nat := none
  /-- the first cluster's result, and S of R332: what the clusters agree on -/
  s1 : List Nat := []
  agreed : Option (List Nat) := none
  ndiff : Nat := 0
  unconfirmed : Bool := false
  steps : Nat := 0
  verdict : Option Nat := none
  /-- clusters whose result it used and that have passed no self-test begun since; true once one has begun (R337) -/
  wait : List (Nat × Bool) := []
  pinned : Bool := false
  released : Bool := false
deriving DecidableEq, Repr

/-- A Shroud cluster beyond CLUSTER_STATE (R312, R336). -/
structure Cluster where
  /-- port and SID of the sample it computes -/
  job : Option (Nat × Nat) := none
  /-- samples since its last passing self-test -/
  samples : Nat := 0
  /-- nanoseconds of work since then, the run under way not counted, and the tick at which that run began -/
  work : Nat := 0
  since : Nat := 0
  testing : Bool := false
  /-- a self-test is due: its samples or work are done, or arbitration has named it -/
  named : Bool := false
deriving DecidableEq, Repr

/-- The Shroud array at Vager (R309 to R340). -/
structure Shroud where
  pool : List Sample := []
  clusters : Tbl Cluster := []
  /-- the next SID expected, by port -/
  expect : Tbl Nat := []
  /-- verdict records by number modulo 65,536 (R329) -/
  verdicts : Tbl Nat := []
  /-- the cluster a replay runs on -/
  replay : Option Nat := none
deriving DecidableEq, Repr

/-- Stay at a Staris beyond its objects (R351 to R354, R381). -/
structure StayDie where
  /-- counter nanoseconds at CUT_READY, or at RESTORE_BEGIN -/
  tReady : Nat := 0
  /-- counter nanoseconds of the last restored granule written -/
  tWrite : Nat := 0
  /-- restored chunks written -/
  chunks : Nat := 0
  /-- CUT_ID, STEP and EPOCH of the restore in hand, in the header layout of R354 -/
  head : Nat := 0
  /-- a restored chunk has been refused (R381) -/
  refused : Bool := false
deriving DecidableEq, Repr

/-- A chunk held in the shadow (R345, R355, R359). It is named by its shadow slot, die × CHUNK_SLOTS + slot. -/
structure Chunk where
  die : Nat := 0
  rtag : Nat := 0
  chunk : Nat := 0
  len : Nat := 0
  region : Nat := 0
  rkind : Nat := 0
  dedup : Bool := false
  poison : Bool := false
  digest : Option (List Nat) := none
  /-- pod die number of the owner, once decided -/
  owner : Option Nat := none
  handed : Bool := false
  durable : Bool := false
deriving DecidableEq, Repr

/-- An entry of a peer's DIGESTS list (R358). -/
structure PeerEntry where
  rtag : Nat
  chunk : Nat
  holder : Nat
  digest : List Nat
deriving DecidableEq, Repr

/-- A peer's list as it arrives (R358): the segments that have come, the number of the last once known, and its entries. -/
structure PeerList where
  segs : List Nat := []
  last : Option Nat := none
  entries : List PeerEntry := []
deriving DecidableEq, Repr

/-- What a drain write carries (R362, R367, R368). -/
inductive DrainItem where
  | chunk (slot : Nat)
  | manifest
  | record
deriving DecidableEq, Repr

/-- Where an NVMe Write stands (R364). -/
inductive WriteStage where
  | waiting | outstanding | backoff
deriving DecidableEq, Repr

/-- One NVMe Write of a drain item: `count` granules from granule `first` of the item (R363, R364). -/
structure DrainWrite where
  cid : Nat
  tgt : Nat
  item : DrainItem
  first : Nat
  count : Nat
  stage : WriteStage := .waiting
  /-- the I/O queue it was sent on -/
  queue : Nat := 0
  /-- the back-off of its next retry in ms -/
  backoff : Nat := 1
deriving DecidableEq, Repr

/-- A TCP connection of an NVMe/TCP queue once it is set up: the digests in use, and the most bytes in one H2CData (R363). -/
structure NvmeConn where
  hdgst : Bool := false
  ddgst : Bool := false
  most : Nat := 0
deriving DecidableEq, Repr

/-- A drain target beyond its objects (R363): steps of set-up done, MDTS in bytes and the LBA format once known, the connections that are up by queue,
0 the admin queue. -/
structure Target where
  stage : Nat := 0
  mdts : Option Nat := none
  formatKnown : Bool := false
  conns : Tbl NvmeConn := []
deriving DecidableEq, Repr

/-- A HANDOFF in progress (R374): the chunk's slot, the pod die asked, and the holders still to try. -/
structure Handoff where
  slot : Nat
  asked : Nat
  left : List Nat
  /-- extended time at which this holder was first asked -/
  since : Nat
deriving DecidableEq, Repr

/-- The coordinator's side of a commit (R369 to R371). -/
structure Coord where
  /-- manifest digests by position -/
  digests : Tbl (List Nat) := []
  acks : List Nat := []
  /-- the code of an ABORT being sent -/
  aborting : Option Nat := none
  /-- the commit record is being written -/
  writing : Bool := false
deriving DecidableEq, Repr

/-- A restore at Vager beyond its objects (R375 to R382). -/
structure Restore where
  /-- RST_PROPOSE as accepted -/
  proposal : Nat := 0
  /-- TRAY_LO, TRAY_HI and DIE_MASK of the cut, in the layout of R348 -/
  params : Nat := 0
  /-- the manifest's digest and descriptor of each chunk, by shadow slot -/
  chunks : Tbl (List Nat × Nat) := []
  /-- slots still to verify -/
  todo : List Nat := []
  /-- verifications that have failed, by slot -/
  fails : Tbl Nat := []
  /-- slots whose hash is running -/
  hashing : List Nat := []
deriving DecidableEq, Repr

/-- Stay at Vager beyond its objects (R343 to R382). -/
structure Stay where
  /-- chunks held, by shadow slot -/
  chunks : Tbl Chunk := []
  /-- END with code 0, by die: T_READY and T_RELEASE, extended -/
  ends : Tbl (Nat × Nat) := []
  peers : Tbl PeerList := []
  /-- the manifest of the cut that the shadow holds, for a restore from it (R377) -/
  kept : List Nat := []
  writes : List DrainWrite := []
  nextCid : Nat := 0
  targets : Tbl Target := []
  /-- host-ring records not yet acknowledged: the item and its end in bytes written (R365) -/
  hostRecs : List (DrainItem × Nat) := []
  /-- items that wait for their target or for ring space, oldest first -/
  queue : List DrainItem := []
  handoffs : List Handoff := []
  /-- the tray manifest, once written -/
  manifest : List Nat := []
  /-- a shadow chunk has been read as poison since absorption (R369) -/
  spoilt : Bool := false
  coord : Coord := {}
  restore : Restore := {}
deriving DecidableEq, Repr

/-- A DMA channel beyond its objects (R429 to R441). -/
structure Dma where
  /-- the transfer in the active set has been checked and may move granules -/
  live : Bool := false
  moved : Nat := 0
  poison : Bool := false
  /-- an ABORT is in hand, and how many granules will have moved once those in flight have (R437) -/
  stopAt : Option Nat := none
  /-- the unit that waits for the channel, as OWNER codes it (R430) -/
  claim : Option Nat := none
  /-- HBM granules that the transfer has written, as they stood before: a later read of one returns either value (R434) -/
  old : Tbl Gran := []
deriving DecidableEq, Repr

/-- A reset domain of a Staris beyond its objects (R457 to R463). -/
structure Domain where
  /-- the reset line is asserted -/
  asserted : Bool := false
  /-- the hang in hand: HSEQ, counter nanoseconds and epoch at detection, CAUSE and FLAGS -/
  hseq : Nat := 0
  time : Nat := 0
  epoch : Nat := 0
  cause : Nat := 0
  flags : Nat := 0
  /-- counter nanoseconds of the last completion of one of its slots, and its tick -/
  lastDone : Nat := 0
  doneTick : Nat := 0
deriving DecidableEq, Repr

/-- Hang recovery and the SRAM classifier of a Staris beyond their objects (R446 to R466). -/
structure FaultsDie where
  domains : Tbl Domain := []
  /-- domains in SAMPLING, in order of entry (R460) -/
  sampling : List Nat := []
  /-- SRAM bank levels in milli-points, by instance, and the banks retired, first one first (R447, R451) -/
  levels : Tbl Nat := []
  retired : List Nat := []
deriving DecidableEq, Repr

/-- The classifier of Vager (R446 to R450), by instance key 65,536 × class + instance. -/
structure Classifier where
  levels : Tbl Nat := []
  events : Tbl Nat := []
  retired : List Nat := []
  /-- events by HBM row since its last repair: row numbers of a pseudo-channel × 2^32 + bank and row -/
  rows : Tbl Nat := []
  /-- rows being repaired: pseudo-channel and row (R450) -/
  repairs : List (Nat × Nat) := []
  /-- the bad-page list, oldest first (R450) -/
  badPages : List Nat := []
  /-- pages of unrepairable rows once the reserve is full: they read as poison (R450) -/
  dead : List Nat := []
  /-- hang samples held, by port (R464) -/
  hangs : Tbl (List (Nat × Bool)) := []
deriving DecidableEq, Repr

/-- Vager's persistent recorder (R534 to R542). -/
structure Recorder where
  /-- the holding queue of 512 records, oldest first (R538) -/
  hold : List Record := []
  /-- the record being programmed -/
  writing : Option Record := none
  /-- the records in NOR, oldest first (R534) -/
  ring : List Record := []
  /-- slots used so far in the ring, modulo its 16,385 sectors of 64 -/
  pos : Nat := 0
  /-- SEQ of the next record -/
  nextSeq : Nat := 0
  /-- records lost since the last LOST record (R538) -/
  lost : Nat := 0
  /-- the sector erase of R534 is running -/
  erasing : Bool := false
  /-- the orderly-end mark: records still queued when it was written (R598) -/
  mark : Option Nat := none
  /-- the NOR has held Kortar state before (R536) -/
  norUsed : Bool := false
  /-- the serial number of the session whose clear is running (R537, R542) -/
  clearSerial : Nat := 0
  /-- the tick of the freeze (R541) -/
  frozenAt : Nat := 0
deriving DecidableEq, Repr

/-- A Staris's volatile recorder (R539). -/
structure SRecorder where
  ring : List Record := []
  /-- records at the end of `ring` not yet forwarded -/
  unsent : Nat := 0
  nextSeq : Nat := 0
  /-- records dropped since the last LOST record -/
  lost : Nat := 0
deriving DecidableEq, Repr

/-- The power domains of a part beyond their objects (R556 to R562): the time-island tick at which each domain that is not ON
left ON, and the functions whose WAKE hold runs. -/
structure Power where
  offAt : Tbl Nat := []
  /-- the tick at which the hold of a function's WAKE ends, while one runs (R562) -/
  holds : Tbl Nat := []
  /-- the tick of the first revisit in succession that found a domain's entry condition met: domain × 8 + state (R559) -/
  since : Tbl Nat := []
deriving DecidableEq, Repr

/-- A management session (R489 to R494, R506, R512, R522). -/
structure Session where
  id : Nat
  secure : Bool
  role : Role
  /-- set up while no validity period was checked (R491), and its certificates' validity in seconds of extended time -/
  unchecked : Bool := false
  notBefore : Nat := 0
  notAfter : Nat := 0
  serial : Nat := 0
  /-- the kinds registered for notification (R522) and the session's notification sequence -/
  mask : Nat := 0
  notifySeq : Nat := 0
  /-- the local address it came to: 0 link-local, 1 MGMT_IPV6, 2 MGMT_IPV4 (R529) -/
  address : Nat := 0
  /-- the responses kept for the last 64 TIDs, newest first (R512) -/
  kept : List (Nat × SheetResp) := []
  /-- the tick of its handshake or of its last request (R494) -/
  usedAt : Nat := 0
deriving DecidableEq, Repr

/-- Who waits for the answer of a Sheet request: a session, or a mailbox (R525). -/
inductive SheetSource where
  | session (id : Nat)
  | mailbox (a : Aperture)
deriving DecidableEq, Repr

/-- A request in hand at Vager: the entries answered so far, in the order of its response (R510, R520). -/
structure SheetWait where
  number : Nat
  source : SheetSource
  op : Nat
  tid : Nat
  entries : List (Option RespEntry)
deriving DecidableEq, Repr

/-- A staged group that is pending (R514 to R518). At Vager it may be held for the Staris of node `node`. -/
structure SGroup where
  group : Nat
  node : Nat := 0
  kind : Nat
  time : Nat
  w : Writer
  entries : List SheetEntry
  /-- the serial number of the certificate of the session that asked for it (R542) -/
  serial : Nat := 0
  /-- when it was formed: extended time at Vager (R516) -/
  made : Nat := 0
  /-- its instant has passed and it waits for the slice boundary (R399, R515) -/
  due : Bool := false
  /-- it has been forwarded, and the GROUP the Staris gave it (R520) -/
  forwarded : Bool := false
  remote : Option Nat := none
  /-- the broadcast that formed it (R521) -/
  bseq : Option Nat := none
deriving DecidableEq, Repr

/-- The outcome of a group that has left pending (R518): STAGE_STATE, the first failing entry and its STATUS, and the time. -/
structure SOutcome where
  group : Nat
  kind : Nat
  time : Nat
  state : Nat
  bad : Nat := 0
  status : Nat := 0
  when : Nat := 0
deriving DecidableEq, Repr

/-- The staging tables of a node: the last GROUP number given, pending groups and the last 64 outcomes, newest first. -/
structure Staging where
  last : Nat := 0
  groups : List SGroup := []
  outcomes : List SOutcome := []
deriving DecidableEq, Repr

/-- A DICT_REQ at a port of Vager (R519, R520): the request it answers and the places of its entries there, or the held
group that it forwards. -/
structure ProxyItem where
  tid : Nat
  w : Writer
  req : SheetReq
  wait : Option Nat := none
  places : List Nat := []
  group : Option Nat := none
  /-- extended time at which it was sent -/
  sent : Nat := 0
deriving DecidableEq, Repr

/-- The proxy of one port (R520): DICT_REQs outstanding and queued, oldest first, and the TID of the next. -/
structure Proxy where
  outstanding : List ProxyItem := []
  queue : List ProxyItem := []
  nextTid : Nat := 1
deriving DecidableEq, Repr

/-- A mailbox (R525): MB_STATE, MB_SEQ, MB_VECTOR and the response buffer. -/
structure Mailbox where
  state : Nat := 0
  seq : Nat := 0
  vector : Nat := 0xFFFF
  response : Option SheetResp := none
deriving DecidableEq, Repr

/-- The Sheet side of Vager beyond its objects and sessions. -/
structure Sheet where
  staging : Staging := {}
  waits : List SheetWait := []
  nextWait : Nat := 0
  proxies : Tbl Proxy := []
  bar0 : Mailbox := {}
  bar2 : Mailbox := {}
  /-- the number of the next session -/
  nextSession : Nat := 0
deriving DecidableEq, Repr

/-- The Sheet side of a Staris: its staging tables and the mailboxes of its window (R524, R526). -/
structure SheetDie where
  staging : Staging := {}
  low : Mailbox := {}
  high : Mailbox := {}
deriving DecidableEq, Repr

/-- What Vager's serial NOR holds beyond the recorder and the objects kept there (R505, R544): the committed network objects
and the trust anchors, the images by slot, and the slots staged and not yet activated. -/
structure Nor where
  obj : Tbl Nat := []
  oct : Tbl Nat := []
  images : Tbl (List Nat) := []
  staged : List Nat := []
deriving DecidableEq, Repr

/-- Crow's Nest beyond its objects (R531 to R533, R547, R595). -/
structure Crow where
  /-- ticks of the restarts inside the window -/
  restarts : List Nat := []
  /-- the next restart boots the other slot (R547) -/
  fallback : Bool := false
  /-- the ticks at which the running image was booted and the watchdog last kicked (R531, R547) -/
  bootAt : Nat := 0
  kickAt : Nat := 0
  /-- a sensor has read 115 °C (R595) -/
  tripped : Bool := false
  /-- the sensors have been sampled since power-on -/
  sampled : Bool := false
deriving DecidableEq, Repr

/-- The trace grants of a Staris (R480): the tick at which each lapses, while it is granted. -/
structure Auth where
  nsPriv : Nat := 0
  sec : Nat := 0
deriving DecidableEq, Repr

/-- What the tray drives out at its boundaries, or hands to software, in the order it does so. -/
inductive Out where
  /-- the status of an access (R510) -/
  | answer (status : Nat)
  /-- an MSI-X message of Vager's function (R441, R453, R525) or a lent vector of a die (R580) -/
  | msix (p : Part) (vector : Nat)
  /-- a Sheet notification to a session: the node and object named and the content carried (R522) -/
  | notify (session : Nat) (seq : Nat) (node : Nat) (index : Nat) (sub : Nat) (data : List Nat)
  /-- a flit on the lanes: sixteen K288 codewords of 288 bits (R156) -/
  | flit (fromVager : Bool) (port : Nat) (codewords : List Nat)
  /-- an RS(544,514) codeword of the flit stream: its symbols on each active lane (R154) -/
  | fecWord (fromVager : Bool) (port : Nat) (lanes : List (Nat × List Nat))
  /-- a control-cycle strobe at CTS: the line and the counter's tick of its edge (R73, R570) -/
  | strobe (die : Nat) (line : Nat) (tick : Nat)
  /-- 1PPS out: a pulse at this extended time, this many ns wide (R67) -/
  | pps (time : Nat) (width : Nat)
  /-- a PTP message at the management port but Announce (R47, R48): its messageType and sequenceId, the clock it answers, and the
  time it carries in ns -/
  | ptp (messageType : Nat) (seqId : Nat) (dest : Option Nat) (time : Option Nat)
  /-- a PTP Announce (R50): priority1, clockClass, accuracy, variance and priority2 of the default dataset -/
  | ptpAnnounce (fields : List Nat)
  /-- the ACK of a descriptor event, with SELECT (R313, R573) -/
  | cdtAck (die : Nat) (slot : Nat) (select : Bool)
  /-- the dump hold DHD (R108) -/
  | dumpHold (die : Nat) (held : Bool)
  /-- a read request at the scratchpad sampling port SCR (R107, R318, R463) -/
  | scratchpadRead (die : Nat) (address : Nat) (granules : Nat)
  /-- a granule written to die memory at MEM: the world it is written in (R432, R477) -/
  | dieWrite (die : Nat) (secure : Bool) (address : Nat) (data : Nat) (poison : Bool)
  /-- a frame begins on a fabric port, in its class (R411, R412) -/
  | frame (port : Nat) (cls : Nat) (f : Frame)
  /-- the verdict on a block at the egress tap, or on the digest sideband with a digest for its sender (R286, R295) -/
  | verdict (die : Nat) (sideband : Bool) (vseq : Nat) (code : Nat) (digest : Option Nat)
  /-- SHR FREE: the ring entry of a SID is released (R576) -/
  | shrFree (die : Nat) (sid : Nat)
  /-- SHR RECOMP_REQ: a recompute of a SID that avoids an engine slot (R576) -/
  | shrRecompute (die : Nat) (sid : Nat) (slot : Nat)
  /-- PRQ: poison the blocks of TAG and STEP, BTAG (R334) -/
  | poisonRequest (die : Nat) (tag : Nat) (step : Nat) (btag : Nat)
  /-- STY: CUT_ARMED with STEP (R351) -/
  | cutArmed (die : Nat) (step : Nat)
  /-- STY: CUT_RELEASE (R354) -/
  | cutRelease (die : Nat)
  /-- STY: the restore hold (R381) -/
  | restoreHold (die : Nat) (held : Bool)
  /-- RST: a domain's reset line with KEEP_LINKS and KEEP_MEMORY (R459) -/
  | resetLine (die : Nat) (domain : Nat) (high : Bool) (keep : Nat)
  /-- the ACK of an energy mark (R392) -/
  | markAck (die : Nat) (nak : Bool)
  /-- an NVMe/TCP PDU to a drain target, on the connection of a queue to its TCP port (R363) -/
  | nvme (target : Nat) (queue : Nat) (tcp : Nat) (pdu : List Nat)
  /-- a granule written to host memory over PCIe (R365, R432) -/
  | hostWrite (address : Nat) (data : Nat) (poison : Bool)
  /-- a Sheet response to a session (R507) -/
  | sheet (session : Nat) (r : SheetResp)
  /-- a session's association ends (R491, R494, R529, R532) -/
  | sessionClosed (session : Nat)
  /-- an SPDM response over PCIe: its code and its content (R495) -/
  | spdm (code : Nat) (content : List Nat)
  /-- THERMTRIP_N is asserted (R595) -/
  | thermTrip
  /-- Vager drives CLKREQ#: asserted, or let go (R591) -/
  | clkreq (asserted : Bool)
deriving DecidableEq, Repr

/-- One Staris. -/
structure Staris where
  /-- the scalar objects of the Staris's dictionary that differ from their Default -/
  obj : Tbl Nat := []
  /-- the bytes of its octet objects that differ from their Default, by object key and offset -/
  oct : Tbl Nat := []
  time : STime := {}
  cap : Capture := {}
  trace : Trace := {}
  energy : Energy := {}
  link : LinkEnd := {}
  recorder : SRecorder := {}
  /-- time-island ticks since power-on (R465, R536) -/
  ticks : Nat := 0
  checks : Checks := {}
  shroud : ShroudDie := {}
  stay : StayDie := {}
  dma : Tbl Dma := []
  faults : FaultsDie := {}
  power : Power := {}
  sheet : SheetDie := {}
  auth : Auth := {}
deriving DecidableEq, Repr

/-- Vager. -/
structure Vager where
  /-- the scalar objects of Vager's dictionary that differ from their Default -/
  obj : Tbl Nat := []
  /-- the bytes of Vager's octet objects that differ from their Default, by object key and offset -/
  oct : Tbl Nat := []
  time : VTime := {}
  ports : Tbl PortTime := []
  links : Tbl LinkEnd := []
  /-- control messages received and not yet released, in order of arrival (R179) -/
  merge : List CtlMsg := []
  /-- QTIME of the last control message released in order, once there is one (R180) -/
  lastRelease : Option Nat := none
  /-- the intake of each channel: the port in turn and what it may still take (R178) -/
  intake : Tbl (Nat × Nat) := []
  /-- tensor dumps received, each with its port, oldest first (R107, R302) -/
  dumps : List (Nat × List MGran) := []
  recorder : Recorder := {}
  /-- the fault report ring: reports by number modulo 4,096 (R453) -/
  reports : Tbl FaultReport := []
  /-- RSEQ of the next report -/
  rseq : Nat := 0
  /-- time-island ticks since power-on, and into the current operating hour (R536) -/
  ticks : Nat := 0
  hourTicks : Nat := 0
  /-- HBM, granule by granule, from its initialisation, which poisons every granule (R550) -/
  hbm : Tbl Gran := []
  /-- the management sessions that are open (R494) -/
  sessions : List Session := []
  /-- the state of the streams by identifier (R191) -/
  streams : Tbl VStream := []
  /-- snapshot sets being gathered, and current snapshots, by port (R198) -/
  snapIn : Tbl Snapshot := []
  snaps : Tbl Snapshot := []
  /-- groups by context × 16 + group, and their results, kept until the context is reused (R218) -/
  groups : Tbl Group := []
  results : Tbl RoundResult := []
  /-- RES_DOWN by context × 16 + group: tree header and granules 1 and 2 (R231) -/
  down : Tbl (List Nat) := []
  tree : Tree := {}
  /-- the feature builders, rows, sketch slots and reference registers (R235 to R250) -/
  builders : Tbl Builder := []
  rows : Tbl FRow := []
  sketches : Tbl SkSlot := []
  refs : Tbl RefReg := []
  /-- Tell-tale model slots and lane groups -/
  models : Tbl MSlot := []
  laneGroups : Tbl LaneGroup := []
  /-- the alarm ring: records by number modulo 65,536 (R271) -/
  alarms : Tbl Nat := []
  /-- SEQ of alarm stream records, by stream identifier (R272) -/
  alarmSeq : Tbl Nat := []
  /-- the fabric ports (R409) -/
  gates : Tbl GatePort := []
  shroud : Shroud := {}
  stay : Stay := {}
  dma : Tbl Dma := []
  classifier : Classifier := {}
  ledger : Ledger := {}
  power : Power := {}
  sheet : Sheet := {}
  nor : Nor := {}
  crow : Crow := {}
  /-- the tick at which the debug port closes, while it is open (R481) -/
  dbgUntil : Nat := 0
deriving DecidableEq, Repr

/-- The state of the tray. -/
structure State where
  vager : Vager
  dies : Vector Staris 16
  /-- what has been driven out so far, oldest first -/
  out : List Out
  /-- the model's own counter: each value the spec leaves open takes a fresh number (log entry 3) -/
  fresh : Nat
  /-- the commands that wait, first in, first out -/
  pending : List Instr
deriving DecidableEq, Repr

/-- A stop with a fault. No meaning of this model raises one: the spec gives every command an effect. Safe: it would stop
where the hardware goes on. -/
inductive Fault where
  /-- raised by no command; kept so that the type has a value -/
  | none
deriving DecidableEq, Repr

/-- A command to which the model gives no meaning. Safe: it stops where the hardware goes on. -/
inductive Refusal where
  /-- the command's meaning is not modelled; raised by `exec` alone, for the rows named in NOTES.md (none at present) -/
  | notModelled (mnemonic : String)
deriving DecidableEq, Repr

/-- A Staris right after its power-on reset (R9, R16): every object at its Default. -/
def Staris.reset : Staris := {}

/-- Vager right after its power-on reset (R9, R16): every object at its Default. -/
def Vager.reset : Vager := {}

/-- The tray right after power-on reset, with no command waiting and nothing driven out. -/
def State.reset : State :=
  { vager := Vager.reset, dies := Vector.replicate 16 Staris.reset, out := [], fresh := 0, pending := [] }

end Sys2Proof.Machine
end

