-- ==== Sys2Proof/Machine/Ops.lean ====
section
/-! DEFINITION. Machine/Ops.lean: the named operations over the state: objects and octets, the dies, outputs, free values,
time readings, the event recorders, fault reports, notifications and messages on the Halyard links. -/

namespace Sys2Proof.Machine
open Sys2Proof

/-- What a command answers. -/
abbrev Result := Host.Outcome State Fault Refusal

/-! ### Parts and objects -/

/-- The Staris of die `d`. -/
def State.die (s : State) (d : Die) : Staris := s.dies[d]

/-- The state with the Staris of die `d` replaced. -/
def State.setDie (s : State) (d : Die) (x : Staris) : State := { s with dies := s.dies.set d x }

/-- The state with Vager replaced. -/
def State.setVager (s : State) (v : Vager) : State := { s with vager := v }

/-- The power-on value of object `k` of part `p`. -/
def objDefault : Part → Nat → Nat
  | .vager => vagerDefault
  | .staris _ => starisDefault

/-- The object table of a part. -/
def State.objs (s : State) : Part → Tbl Nat
  | .vager => s.vager.obj
  | .staris d => (s.die d).obj

/-- The octet table of a part. -/
def State.octs (s : State) : Part → Tbl Nat
  | .vager => s.vager.oct
  | .staris d => (s.die d).oct

/-- The state with a part's object table replaced. -/
def State.setObjs (s : State) (p : Part) (t : Tbl Nat) : State :=
  match p with
  | .vager => s.setVager { s.vager with obj := t }
  | .staris d => s.setDie d { s.die d with obj := t }

/-- The state with a part's octet table replaced. -/
def State.setOcts (s : State) (p : Part) (t : Tbl Nat) : State :=
  match p with
  | .vager => s.setVager { s.vager with oct := t }
  | .staris d => s.setDie d { s.die d with oct := t }

/-- The stored value of scalar object `k` of part `p`. -/
def State.rd (s : State) (p : Part) (k : Nat) : Nat := Tbl.get (objDefault p) (s.objs p) k

/-- Scalar object `k` of part `p` takes the value `v`. -/
def State.wr (s : State) (p : Part) (k v : Nat) : State := s.setObjs p (Tbl.set (objDefault p) (s.objs p) k v)

/-- A counter object of `w` bits takes `n` more, modulo `2^w`. -/
def State.bump (s : State) (p : Part) (k w : Nat) (n : Nat := 1) : State := s.wr p k ((s.rd p k + n) % 2 ^ w)

/-- A counter object of `w` bits takes `n` more and saturates. -/
def State.bumpSat (s : State) (p : Part) (k w : Nat) (n : Nat := 1) : State := s.wr p k (satAdd w (s.rd p k) n)

/-- The key of byte `i` of octet object `k`. -/
def octKey (k i : Nat) : Nat := k * 2 ^ 40 + i

/-- The power-on value of the byte at an octet key. -/
def octDefaultAt (key : Nat) : Nat := octetDefault (key / 2 ^ 40) (key % 2 ^ 40)

/-- Byte `i` of octet object `k` of part `p`. -/
def State.ob (s : State) (p : Part) (k i : Nat) : Nat := Tbl.get octDefaultAt (s.octs p) (octKey k i)

/-- Byte `i` of octet object `k` takes the value `v`. -/
def State.setOb (s : State) (p : Part) (k i v : Nat) : State :=
  s.setOcts p (Tbl.set octDefaultAt (s.octs p) (octKey k i) (v % 256))

/-- The bytes listed are written from byte `i` of octet object `k` on. -/
def State.setBytes (s : State) (p : Part) (k : Nat) : Nat → List Nat → State
  | _, [] => s
  | i, b :: bs => (s.setOb p k i b).setBytes p k (i + 1) bs

/-- The `n` bytes from byte `i` of octet object `k`. -/
def State.bytesAt (s : State) (p : Part) (k : Nat) : Nat → Nat → List Nat
  | _, 0 => []
  | i, n + 1 => s.ob p k i :: s.bytesAt p k (i + 1) n

/-- Element `i` of `n` bytes of octet object `k`, little-endian (R10). -/
def State.elem (s : State) (p : Part) (k n i : Nat) : Nat := ofBytes (s.bytesAt p k (n * i) n)

/-- Element `i` of `n` bytes of octet object `k` takes the value `v`. -/
def State.setElem (s : State) (p : Part) (k n i v : Nat) : State := s.setBytes p k (n * i) (toBytes n v)

/-- Bit `i` of an octet object that holds one bit per item (R115). -/
def State.obit (s : State) (p : Part) (k i : Nat) : Bool := bitAt (s.ob p k (i / 8)) (i % 8)

/-- Bit `i` of an octet object takes the value `b`. -/
def State.setObit (s : State) (p : Part) (k i : Nat) (b : Bool) : State :=
  s.setOb p k (i / 8) (setBit (s.ob p k (i / 8)) (i % 8) b)

/-- The bits of byte `i` of octet object `k` that are not reserved (R8): instructions of R110, the drain map and the locations of
0x5890, gate entries of R415, and CLASS_MAP. -/
def octetKeep (k i : Nat) : Nat :=
  if O.CLEAT_PROGRAM_3090 0 ≤ k ∧ k ≤ O.CLEAT_PROGRAM_3090 7 ∧ k % 256 = 1 then (if i % 8 = 6 then 0xC0 else 0xFF)
  else if k = O.MAP_ENTRY_5890 then (if i % 32 < 5 ∨ (8 ≤ i % 32 ∧ i % 32 < 24) then 0xFF else 0)
  else if k = O.MAN_LOC_5890 ∨ k = O.REC_LOC_5890 then (if i = 0 ∨ (8 ≤ i ∧ i < 24) then 0xFF else 0)
  else if k = O.ADMIN_LIST_6420 0 ∨ k = O.ADMIN_LIST_6420 1 then (if i % 8 < 5 then 0xFF else 0)
  else if k = O.CLASS_MAP_6400 then (if i < 6 then 0xFF else 0)
  else 0xFF

/-- Bytes as they are written from byte `i` of octet object `k` on: what lies in reserved bits is ignored (R8). -/
def keptBytes (k i : Nat) (bytes : List Nat) : List Nat := bytes.mapIdx fun j b => b % 256 &&& octetKeep k (i + j)

/-- A write of `bytes` to an octet object of `n` bytes: the rest becomes zero (R502), as do reserved bits (R8). -/
def State.writeOctets (s : State) (p : Part) (k n : Nat) (bytes : List Nat) : State :=
  s.setBytes p k 0 (keptBytes k 0 (bytes.take n) ++ List.replicate (n - bytes.length) 0)

/-! ### Outputs and free values -/

/-- The tray drives `o` out. -/
def State.emit (s : State) (o : Out) : State := { s with out := s.out ++ [o] }

/-- The status codes of R510. -/
def stOk : Nat := 0
def stNoObject : Nat := 1
def stNoSub : Nat := 2
def stAccess : Nat := 3
def stAccessKind : Nat := 4
def stLength : Nat := 5
def stRange : Nat := 6
def stRefused : Nat := 7
def stNodeDown : Nat := 8
def stTimeout : Nat := 9
def stBusy : Nat := 10
def stSegment : Nat := 11
def stWithheld : Nat := 12
def stNotTried : Nat := 13
def stTooLarge : Nat := 14
def stNotStageable : Nat := 15

/-- An access is answered with a status (R510). -/
def State.answer (s : State) (status : Nat) : State := s.emit (.answer status)

/-- The least privileged role comes last (R17). -/
def roleRank : Role → Nat
  | .fleet => 2
  | .operator => 1
  | .host => 0

/-- R475: the access `w` may reach an object of the given world and role. -/
def mayReach (w : Writer) (secure : Bool) (role : Role) : Bool :=
  (w.secure || !secure) && decide (roleRank role ≤ roleRank w.role)

/-- A write by `w` of an object of the given world and role: refused with ACCESS and without effect (R475), or `k`. -/
def State.writeBy (s : State) (w : Writer) (secure : Bool) (role : Role) (k : State → State) : State :=
  if mayReach w secure role then k s else s.answer stAccess

/-- The next free value (log entry 3) and the state that has taken it. -/
def State.takeNat (s : State) : Nat × State := (Config.freeNat s.fresh, { s with fresh := s.fresh + 1 })

/-- The next free value as an integer (log entry 3) and the state that has taken it. -/
def State.takeInt (s : State) : Int × State := (Config.freeInt s.fresh, { s with fresh := s.fresh + 1 })

/-! ### Time -/

/-- A part's Lanyard counter (R39). -/
def State.counter (s : State) : Part → Nat
  | .vager => s.vager.time.counter
  | .staris d => (s.die d).time.counter

/-- The nanosecond field of a part's counter (R39). -/
def State.ns (s : State) (p : Part) : Nat := s.counter p / 2 ^ 32 % 2 ^ 32

/-- Vager's hardware extended time (R44). -/
def State.extNow (s : State) : Nat := s.rd .vager O.WRAP_WORD_2100 * 2 ^ 32 + s.ns .vager

/-- A part's time state code (R603 and the Vager state table). -/
def State.tstate (s : State) : Part → Nat
  | .vager => s.rd .vager O.TIME_STATE_2101
  | .staris d => s.rd (.staris d) O.TIME_STATE_2002

/-- A Staris reading of counter nanoseconds extended from Vager's extended time (R46). -/
def State.extend (s : State) (ns : Nat) : Nat :=
  ((s.extNow : Int) + signedDiff32 ns (s.extNow % 2 ^ 32)).toNat % 2 ^ 64

/-! ### Fired actions -/

/-- The fired action at the head of the handshake FIFO, where it is action `a` with ARG `arg` (any ARG where none is named): the
action and the state that has taken it. Actions leave the FIFO in the order in which they entered it (R73, R74). -/
def State.takeAction (s : State) (d : Die) (a : Nat) (arg : Option Nat) : Option (FiredAction × State) :=
  let t := (s.die d).time
  match t.fifo with
  | x :: rest =>
    if x.action = a ∧ (arg = none ∨ arg = some x.arg) then
      some (x, s.setDie d { s.die d with time := { t with fifo := rest } })
    else none
  | [] => none

/-! ### The event recorders -/

/-- R536: a part's time is valid in LOCKED, HOLDOVER and FREE_RUN (at a Staris, code 4 is MANUAL and is not valid). -/
def timeValid (p : Part) (code : Nat) : Bool :=
  match p with
  | .vager => code == 2 || code == 3 || code == 4
  | .staris _ => code == 2 || code == 3

/-- R538: the recorder takes the head of the holding queue unless it is frozen, clearing or already programming, or PWRGOOD has
fallen (R598). -/
def recorderTake (frozen : Bool) (r : Recorder) : Recorder :=
  match frozen || r.mark.isSome, r.writing, r.hold with
  | false, none, h :: t => { r with writing := some { h with seq := r.nextSeq }, hold := t, nextSeq := r.nextSeq + 1 }
  | _, _, _ => r

/-- The record Vager makes now. -/
def State.vagerRecord (s : State) (code value detail severity : Nat) : Record :=
  let tv := timeValid .vager (s.tstate .vager);
  { code := code, value := value % 2 ^ 64, detail := detail % 2 ^ 96, severity := severity, node := 0,
    tstate := s.tstate .vager, timeValid := tv, time := if tv then s.extNow else 0,
    opHours := s.rd .vager O.OP_HOURS_7841, opSeconds := s.vager.hourTicks / 10 ^ 9,
    powerCycles := s.rd .vager O.POWER_CYCLES_7841 }

/-- REC_STATE is 0: records are taken from the holding queue (R541, R542). -/
def State.recFrozen (s : State) : Bool := s.rd .vager O.REC_STATE_7840 != 0

/-- A record enters Vager's holding queue; one that finds it full is lost and counted (R538). -/
def State.pushRecord (s : State) (r : Record) : State :=
  if s.vager.recorder.hold.length < 512 then
    let q := { s.vager.recorder with hold := s.vager.recorder.hold ++ [r] }
    s.setVager { s.vager with recorder := recorderTake s.recFrozen q }
  else
    (s.setVager { s.vager with recorder := { s.vager.recorder with lost := s.vager.recorder.lost + 1 } }).bump
      .vager O.REC_LOST_7840 32

/-- R538: once the holding queue has room, one LOST record goes ahead of any later record. -/
def State.recordLost (s : State) : State :=
  if 0 < s.vager.recorder.lost ∧ s.vager.recorder.hold.length < 512 then
    let r := s.vagerRecord 0x0002 s.vager.recorder.lost 0 0
    (s.setVager { s.vager with recorder := { s.vager.recorder with lost := 0 } }).pushRecord r
  else s

/-- Vager writes an event recorder entry (R535 to R538). -/
def State.recordV (s : State) (code value : Nat) (detail : Nat := 0) (severity : Nat := 0) : State :=
  s.recordLost.pushRecord (s.vagerRecord code value detail severity)

/-- A record enters a Staris's ring (R539): it overwrites the oldest forwarded record of a full ring, and is dropped and
counted where every record of a full ring waits to be forwarded. -/
def pushStaris (r : SRecorder) (x : Record) : SRecorder × Bool :=
  if r.ring.length < 4096 then
    ({ r with ring := r.ring ++ [{ x with seq := r.nextSeq }], unsent := r.unsent + 1, nextSeq := r.nextSeq + 1 }, true)
  else if r.unsent < 4096 then
    ({ r with ring := r.ring.drop 1 ++ [{ x with seq := r.nextSeq }], unsent := r.unsent + 1,
              nextSeq := r.nextSeq + 1 }, true)
  else ({ r with lost := r.lost + 1 }, false)

/-- The record a Staris makes now (R539): TIME is its 64-bit counter. -/
def State.starisRecord (s : State) (d : Die) (code value detail severity : Nat) : Record :=
  let p := Part.staris d;
  { code := code, value := value % 2 ^ 64, detail := detail % 2 ^ 96, severity := severity, node := 0,
    tstate := s.tstate p, timeValid := timeValid p (s.tstate p), time := s.counter p }

/-- R539: a LOST record with the number dropped, as soon as the ring has room. -/
def State.starisLost (s : State) (d : Die) : State :=
  let r := (s.die d).recorder
  if 0 < r.lost ∧ (r.ring.length < 4096 ∨ r.unsent < 4096) then
    s.setDie d { s.die d with recorder := (pushStaris { r with lost := 0 } (s.starisRecord d 0x0002 r.lost 0 0)).1 }
  else s

/-- A Staris writes an event recorder entry (R539). -/
def State.recordS (s : State) (d : Die) (code value : Nat) (detail : Nat := 0) (severity : Nat := 0) : State :=
  let s := s.starisLost d
  let (r, kept) := pushStaris (s.die d).recorder (s.starisRecord d code value detail severity)
  let s := s.setDie d { s.die d with recorder := r }
  if kept then s else s.bump (.staris d) O.SREC_DROPPED_7800 32

/-- The event recorder of either part. -/
def State.record (s : State) (p : Part) (code value : Nat) (detail : Nat := 0) (severity : Nat := 0) : State :=
  match p with
  | .vager => s.recordV code value detail severity
  | .staris d => s.recordS d code value detail severity

/-! ### Vectors, notifications and fault reports -/

/-- An MSI-X message: none for 0xFFFF, none from Vager outside D0 (R561), none for a vector the die has not lent (R580). -/
def State.msix (s : State) (p : Part) (v : Nat) : State :=
  match p with
  | .vager => if v = 0xFFFF ∨ bits (s.rd .vager O.PCIE_STATE_7C40) 1 0 ≠ 0 then s else s.emit (.msix .vager v)
  | .staris d => if v < 32 then s.emit (.msix (.staris d) v) else s

/-- R522: one session is notified. -/
def State.notifyOne (s : State) (x : Session) (node index sub : Nat) (data : List Nat) : State :=
  let s := s.setVager { s.vager with sessions := s.vager.sessions.map fun y =>
    if y.id = x.id then { y with notifySeq := (y.notifySeq + 1) % 2 ^ 32 } else y }
  (s.emit (.notify x.id x.notifySeq node index sub data)).bump .vager O.NOTIFY_SENT_1102 64

/-- R522: every session registered for the kind is notified. -/
def State.notify (s : State) (kind node index sub : Nat) (data : List Nat) : State :=
  (s.vager.sessions.filter fun x => bitAt x.mask kind).foldl (fun s x => s.notifyOne x node index sub data) s

/-- Management sessions end (R491, R494, R529, R532): their registrations and what they still wait for go with them (R522). -/
def State.closeSessions (s : State) (p : Session → Bool) : State :=
  let gone := s.vager.sessions.filter p
  let ended := fun (x : SheetWait) => match x.source with
    | .session id => gone.any fun y => y.id == id
    | .mailbox _ => false
  let s := s.setVager { s.vager with
    sessions := s.vager.sessions.filter fun x => !p x
    sheet := { s.vager.sheet with waits := s.vager.sheet.waits.filter fun x => !ended x } }
  gone.foldl (fun s x => s.emit (.sessionClosed x.id)) s

/-- Granule 0 of a fault report (R452). -/
def reportGranule (r : FaultReport) : Nat :=
  fld 192 64 r.time + fld 160 32 r.epoch + fld 96 64 r.detail + fld 80 16 r.inst + fld 72 8 r.cls + fld 68 4 r.die
    + fld 67 1 (ofBool r.dieValid) + fld 64 3 r.severity + fld 51 13 r.tray + fld 16 16 r.rseq + fld 8 8 r.code + 0x7F

/-- The 64 bytes of a fault report (R452). -/
def reportBytes (r : FaultReport) : List Nat := toBytes 32 (reportGranule r) ++ toBytes 32 r.granule1

/-- Vager issues a fault report (R453): to the recorder (R537), to the ring unless it is full, to the sessions registered
where FR_NOTIFY is set, and by MSI-X on FR_VECTOR. -/
def State.report (s : State) (r : FaultReport) : State :=
  let r := { r with time := s.extNow, rseq := s.vager.rseq % 2 ^ 16, tray := s.vager.tree.self }
  let s := s.setVager { s.vager with rseq := (s.vager.rseq + 1) % 2 ^ 16 }
  let s := s.recordV 0x0020 r.code (reportGranule r % 2 ^ 96) r.severity
  let wp := s.rd .vager O.FR_WRITE_7080
  let s := if subMod 32 wp (s.rd .vager O.FR_READ_7080) ≥ 4096 then s.bump .vager O.FR_DROPPED_7080 32
    else (s.setVager { s.vager with reports := Tbl.insert s.vager.reports (wp % 4096) r }).bump .vager O.FR_WRITE_7080 32
  let s := if s.rd .vager O.FR_NOTIFY_7080 = 1 then s.notify 0 0 0x7080 3 (reportBytes r) else s
  s.msix .vager (s.rd .vager O.FR_VECTOR_7080)

/-! ### Halyard link ends and messages -/

/-- One end of the link of port `p`: Vager's where `v`, else the Staris's. -/
def State.link (s : State) (v : Bool) (p : Die) : LinkEnd :=
  if v then Tbl.get (fun _ => {}) s.vager.links p.val else (s.die p).link

/-- The state with one end of a link replaced. -/
def State.setLink (s : State) (v : Bool) (p : Die) (l : LinkEnd) : State :=
  if v then s.setVager { s.vager with links := Tbl.set (fun _ => {}) s.vager.links p.val l }
  else s.setDie p { s.die p with link := l }

/-- The part at one end of the link of port `p`. -/
def endPart (v : Bool) (p : Die) : Part := if v then .vager else .staris p

/-- The key of LINK_STATE at one end (R189, R190). -/
def linkStateKey (v : Bool) (p : Die) : Nat := if v then O.LINK_STATE_3810 p.val else O.LINK_STATE_3800

/-- The link state code at one end (R181). -/
def State.linkState (s : State) (v : Bool) (p : Die) : Nat := s.rd (endPart v p) (linkStateKey v p)

/-- The link is UP or UP_7 at one end (R181). -/
def State.linkUp (s : State) (v : Bool) (p : Die) : Bool := s.linkState v p == 3 || s.linkState v p == 4

/-- The granules of a message with SOM and EOM placed (R172). -/
def mkMsg (gs : List Gran) : List MGran :=
  gs.mapIdx fun i g => { data := g.data, poison := g.poison, som := i == 0, eom := i + 1 == gs.length }

/-- A message joins the send queue of channel `ch` at one end. -/
def State.send (s : State) (v : Bool) (p : Die) (ch : Nat) (gs : List Gran) : State :=
  let l := s.link v p
  s.setLink v p { l with txq := Tbl.set (fun _ => []) l.txq ch (Tbl.get (fun _ => []) l.txq ch ++ mkMsg gs) }

/-- A part's time-island ticks since power-on (R465, R536). -/
def State.partTicks (s : State) : Part → Nat
  | .vager => s.vager.ticks
  | .staris d => (s.die d).ticks

/-- R160, R69: a mark of the counter's nanoseconds now, held non-decreasing after `last` and stamped with its tick. A last mark that
is 2^31 ticks old is outside the modular rule and holds nothing. -/
def holdMark (now tick : Nat) (last : Option (Nat × Nat)) : Nat × Nat :=
  match last with
  | some (x, t) => if tick < t + 2 ^ 31 ∧ reached now x = false then (x, t) else (now, tick)
  | none => (now, tick)

/-- QTIME of a message entered now, held non-decreasing (R177). -/
def State.qtime (s : State) (v : Bool) (p : Die) : Nat × Nat :=
  holdMark (s.ns (endPart v p)) (s.partTicks (endPart v p)) (s.link v p).lastQtime

/-- A control message enters the control queue at one end (R175, R177): its header granule, then its body granules. The
BODY field carries `head`, the first 24 bytes of the body of a message that puts them there (R519). -/
def State.sendControl (s : State) (v : Bool) (p : Die) (mtype head : Nat) (body : List Nat) : State :=
  let q := s.qtime v p
  let hdr := fld 64 192 head + fld 32 32 q.1 + fld 16 16 (body.length + 1) + mtype % 256
  let s := s.setLink v p { s.link v p with lastQtime := some q }
  s.send v p 1 ((hdr :: body).map fun g => { data := g })

/-- A COMMAND from Vager to the Staris of port `p` (MTYPE 0x07, R175). -/
def State.command (s : State) (p : Die) (head : Nat) : State := s.sendControl true p 0x07 head []

/-- `n` granules leave a receive buffer and their credits are freed (R169; log entry 4). -/
def State.takeRx (s : State) (v : Bool) (p : Die) (ch n : Nat) : State :=
  let l := s.link v p
  let r := Tbl.get (fun _ => 0) l.received ch
  let f := Tbl.get (fun _ => 0) l.freed ch
  let held := (r + 2 ^ 16 - f) % 2 ^ 16
  s.setLink v p { l with freed := Tbl.set (fun _ => 0) l.freed ch ((f + min n held) % 2 ^ 16) }

/-- A Staris's identity digest: the SHA-384 of its ID_CERT (R182, R189). -/
def State.identityDigest (s : State) (d : Die) : List Nat :=
  sha384 (s.bytesAt (.staris d) O.ID_CERT_7400 0 (s.rd (.staris d) O.ID_CERT_BYTES_7400))

/-! ### Worlds of memory -/

/-- Die memory that an enabled S entry covers, or that an NS entry does not lift, is secure to the last byte named (R478): the
range meets an S range. -/
def State.meetsSecure (s : State) (d : Die) (base n : Nat) : Bool :=
  let p := Part.staris d
  (List.range 8).any fun r =>
    s.rd p (O.DREG_ENABLE_7410 r) == 1 && s.rd p (O.DREG_WORLD_7410 r) == 0
      && decide (base < s.rd p (O.DREG_BASE_7410 r) + s.rd p (O.DREG_BYTES_7410 r))
      && decide (s.rd p (O.DREG_BASE_7410 r) < base + n)

/-! ### HBM and Vager's counts by port -/

/-- The HBM granule at which the Stay region begins: it ends HBM (log entry 37). -/
def State.stayBase (s : State) : Nat := (576000000000 - s.rd .vager O.STAY_BYTES_5880) / 32

/-- A granule of HBM; one that nothing has written is poisoned (R550), and so is every granule of a page that could not be
repaired or relocated (R450). -/
def State.hbmAt (s : State) (g : Nat) : Gran :=
  if s.vager.classifier.dead.contains (g / 128) then { poison := true }
  else Tbl.get (fun _ => { poison := true }) s.vager.hbm g

/-- A granule of HBM written. -/
def State.setHbm (s : State) (g : Nat) (x : Gran) : State :=
  s.setVager { s.vager with hbm := Tbl.set (fun _ => { poison := true }) s.vager.hbm g x }

/-- A count of Vager for one port takes `n` more: element `p` of a 16 × U32 object (R308). -/
def State.countPort (s : State) (key p : Nat) (n : Nat := 1) : State :=
  s.setElem .vager key 4 p ((s.elem .vager key 4 p + n) % 2 ^ 32)

end Sys2Proof.Machine
end

