-- ==== Sys2Proof/Machine/Builders.lean ====
section
/-! DEFINITION. Machine/Builders.lean: the feature table, feature builders, sketch slots and reference registers of the
Tell-tale engine (R235 to R250), and the sketch and histogram words of partials (R204, R205). -/

namespace Sys2Proof.Machine
open Sys2Proof

/-- A number held to the signed 64-bit range (R244). -/
def sat64 (x : Int) : Int := max (-(2 ^ 63)) (min x (2 ^ 63 - 1))

/-- The sketch word of `v` (R204). -/
def skIndex (v : Int) : Nat :=
  if v < 0 then 0
  else if v < 16 then 1 + v.toNat
  else
    let n := v.toNat
    let e := Nat.log2 n
    17 + (e - 4) * 8 + n / 2 ^ (e - 3) % 8

/-- The histogram word of `v` (R205). -/
def histIndex (v : Int) : Nat := if v ≤ 0 then 0 else Nat.log2 v.toNat + 1

/-- The lower bound of sketch word `i` (R204, R249). -/
def skLow (i : Nat) : Int :=
  if i = 0 then -1
  else if i ≤ 16 then (i : Int) - 1
  else
    let e := (i - 17) / 8 + 4
    ((2 ^ e + (i - 17) % 8 * 2 ^ (e - 3) : Nat) : Int)

/-- One more in word `i` of a sketch or histogram, saturating (R204, R205); the Bool says that it was full. -/
def addWord (t : Tbl Nat) (i : Nat) : Tbl Nat × Bool :=
  let w := Tbl.get (fun _ => 0) t i
  (Tbl.set (fun _ => 0) t i (satAdd 32 w 1), w == 2 ^ 32 - 1)

/-- The lowest word at which the running sum reaches `r` (R206). -/
def quantWord (r : Nat) : Nat → Tbl Nat → Nat
  | _, [] => 511
  | sum, (i, w) :: t => if r ≤ sum + w then i else quantWord r (sum + w) t

/-- Quantile `q` / 65,536 of the words, by R206; none where they are empty (R244). -/
def quantile (words : Tbl Nat) (q : Nat) : Option Int :=
  let n := (words.map Prod.snd).sum
  if n = 0 then none else some (skLow (quantWord (max 1 ((q * n + 65535) / 65536)) 0 words))

/-! ### Feature rows -/

/-- Row `r` of the feature table. -/
def State.frow (s : State) (r : Nat) : FRow := Tbl.get (fun _ => {}) s.vager.rows r

/-- Row `r` of the feature table replaced. -/
def State.setFrow (s : State) (r : Nat) (x : FRow) : State :=
  s.setVager { s.vager with rows := Tbl.set (fun _ => {}) s.vager.rows r x }

/-- Feature `f` of a row as it reads: NaN where its granule is poisoned (R240). -/
def FRow.read (x : FRow) (f : Nat) : Nat :=
  if bitAt x.poison (f / 16) then 0xFFFF else Tbl.get (fun _ => 0xFFFF) x.feat f

/-- KIND of a row's descriptor (R236). -/
def FRow.kind (x : FRow) : Nat := bits x.desc 31 28

/-- DIE of a row's descriptor (R236). -/
def FRow.die (x : FRow) : Nat := bits x.desc 27 24

/-! ### Builder configurations (R241, R248) -/

def bldParamA (c : Nat) : Int := toSigned 64 (bits c 255 192)
def bldOffset (c : Nat) : Int := toSigned 64 (bits c 191 128)
def bldParamC (c : Nat) : Nat := bits c 127 96
def bldAge (c : Nat) : Nat := bits c 95 65
def bldEnable (c : Nat) : Bool := bitAt c 64
def bldRow (c : Nat) : Nat := bits c 63 44
def bldCol (c : Nat) : Nat := bits c 43 38
def bldOp (c : Nat) : Nat := bits c 37 34
def bldEnc (c : Nat) : Nat := bits c 33 32
def bldShift (c : Nat) : Nat := bits c 31 26
def bldAlpha (c : Nat) : Nat := bits c 25 22
def bldXsel (c : Nat) : Bool := bitAt c 21
def bldNanOvr (c : Nat) : Bool := bitAt c 20
def bldSource (c : Nat) : Nat := bits c 19 0
/-- The sketch slot of a QUANT builder, with the two bits above it that R248 has refused (log entry 30). -/
def bldSlot (c : Nat) : Nat := bits c 111 96

/-- Builder `n`. -/
def State.builder (s : State) (n : Nat) : Builder := Tbl.get (fun _ => {}) s.vager.builders n

/-- Builder `n` replaced. -/
def State.setBuilder (s : State) (n : Nat) (b : Builder) : State :=
  s.setVager { s.vager with builders := Tbl.set (fun _ => {}) s.vager.builders n b }

/-- The enabled builders, in ascending number. -/
def State.enabledBuilders (s : State) : Tbl Builder := s.vager.builders.filter fun e => bldEnable e.2.cfg

/-- The code of R248 under which configuration `c` of builder `n` is refused; 0 where it is not. -/
def State.builderRefusal (s : State) (n c : Nat) : Nat :=
  let others := s.enabledBuilders.filter fun e => e.1 != n
  let src := bldSource c
  let mine := n :: ((others.filter fun e => bldSource e.2.cfg == src).map Prod.fst)
  let lo := mine.foldl min n
  let hi := mine.foldl max n
  if 10 ≤ bldOp c then 5
  else if bldEnable c = false then 0
  else if (others.any fun e => (decide (e.1 < n) && decide (src < bldSource e.2.cfg))
      || (decide (n < e.1) && decide (bldSource e.2.cfg < src))) then 1
  else if (others.any fun e => (bldRow e.2.cfg == bldRow c && bldCol e.2.cfg == bldCol c)
      || (bldOp c == 7 && bldOp e.2.cfg == 7 && bldSlot e.2.cfg == bldSlot c)) then 2
  else if 64 < hi - lo + 1 then 3
  else if (s.frow (bldRow c)).kind = 0 then 4
  else if 2 ≤ bldEnc c ∨ ((bldOp c = 3 ∨ bldOp c = 4) ∧ bldAlpha c = 0) ∨ (bldOp c = 7 ∧ 16383 < bldSlot c) then 5
  else 0

/-- MAP_WORD of stream `src` (R248): FIRST and COUNT of its builders. -/
def State.mapWord (s : State) (src : Nat) : Nat :=
  match (s.enabledBuilders.filter fun e => bldSource e.2.cfg == src).map Prod.fst with
  | [] => 0
  | n :: ns =>
    let hi := ns.foldl max n
    fld 0 22 n + fld 22 7 (hi - n + 1)

/-- BLD_CONFIG_WRITE. The selected builder's configuration: refused under R248 with its code and a count, else it clears the
state (R242). -/
def execBldConfigWrite (w : Writer) (config : List Nat) (s : State) : Result :=
  .next (s.writeBy w true .operator fun s =>
    if 32 < config.length then s.answer stLength
    else
      let n := s.rd .vager O.BLD_SELECT_4830 % 2 ^ 22
      let c := ofBytes config
      let code := s.builderRefusal n c
      if code ≠ 0 then
        ((s.bump .vager O.BLD_REFUSED_4830 32).wr .vager O.BLD_REFUSE_CODE_4830 code).answer stRefused
      else (s.setBuilder n { cfg := c }).answer stOk)

/-- BLD_RESET. Clears the selected builder's state (R242). -/
def execBldReset (w : Writer) (s : State) : Result :=
  .next (s.writeBy w true .operator fun s =>
    let n := s.rd .vager O.BLD_SELECT_4830 % 2 ^ 22
    (s.setBuilder n { cfg := (s.builder n).cfg }).answer stOk)

/-- ENT_DESC_WRITE. The selected row's descriptor: refused while an enabled builder names the row, and for a reserved KIND
(R236, 0x4810:02). -/
def execEntDescWrite (w : Writer) (value : Nat) (s : State) : Result :=
  .next (s.writeBy w true .operator fun s =>
    let r := s.rd .vager O.ENT_SELECT_4810 % 2 ^ 20
    let v := fld 24 8 (value / 2 ^ 24) + value % 2 ^ 16
    if 5 < bits v 31 28 then s.answer stRange
    else if (s.enabledBuilders.any fun e => bldRow e.2.cfg == r) then s.answer stRefused
    else (s.setFrow r { s.frow r with desc := v }).answer stOk)

/-- ENT_CLEAR. Every feature of the selected row reads NaN, and its poison is cleared (R237, R240). -/
def execEntClear (w : Writer) (s : State) : Result :=
  .next (s.writeBy w true .operator fun s =>
    let r := s.rd .vager O.ENT_SELECT_4810 % 2 ^ 20
    (s.setFrow r { s.frow r with feat := [], poison := 0 }).answer stOk)

/-! ### Sketch slots (R249) -/

/-- Sketch slot `i`. -/
def State.sketch (s : State) (i : Nat) : SkSlot := Tbl.get (fun _ => {}) s.vager.sketches i

/-- Sketch slot `i` replaced. -/
def State.setSketch (s : State) (i : Nat) (x : SkSlot) : State :=
  s.setVager { s.vager with sketches := Tbl.set (fun _ => {}) s.vager.sketches i x }

/-- SKETCH_PERIOD_TURN: an insert of extended time `t` brings the slot to its period. An older period leaves it (R249). -/
def SkSlot.turn (x : SkSlot) (t : Nat) : SkSlot :=
  let q := t / (x.window * 1000)
  match x.period with
  | none => { x with period := some q }
  | some p =>
    if q ≤ p then x
    else
      let both := decide (p + 2 ≤ q);
      { x with
        period := some q
        curB := !x.curB
        a := if x.curB || both then [] else x.a
        b := if !x.curB || both then [] else x.b
        turns := (x.turns + 1) % 2 ^ 32 }

/-- `v` joins the current sketch of the slot (R249). -/
def SkSlot.insert (x : SkSlot) (v : Int) (t : Nat) : SkSlot :=
  let y := x.turn t
  if y.curB then { y with b := (addWord y.b (skIndex v)).1 } else { y with a := (addWord y.a (skIndex v)).1 }

/-- The words of both sketches, added (R249). -/
def SkSlot.words (x : SkSlot) : Tbl Nat :=
  x.b.foldl (fun t e => Tbl.set (fun _ => 0) t e.1 (Tbl.get (fun _ => 0) t e.1 + e.2)) x.a

/-- SK_WINDOW_WRITE. The selected slot's window; the write clears the slot (R249). -/
def execSkWindowWrite (w : Writer) (value : Nat) (s : State) : Result :=
  .next (s.writeBy w true .operator fun s =>
    if value < 1000 ∨ 3600000000 < value then s.answer stRange
    else (s.setSketch (s.rd .vager O.SK_SELECT_4838) { window := value }).answer stOk)

/-! ### Reference registers (R250) -/

/-- Reference register `r`. -/
def State.refReg (s : State) (r : Nat) : RefReg := Tbl.get (fun _ => {}) s.vager.refs r

/-- Reference register `r` replaced. -/
def State.setRefReg (s : State) (r : Nat) (x : RefReg) : State :=
  s.setVager { s.vager with refs := Tbl.set (fun _ => {}) s.vager.refs r x }

/-- What a register of kind `k` takes from a stored result; none is NaN (R250). -/
def refFrom (k : Nat) (p : Partial) : Option Int :=
  match k with
  | 0 => some (toSigned 64 p.max)
  | 1 => some (toSigned 64 p.min)
  | 2 => if p.count = 0 ∨ bitAt p.flags 0 then none else some (sat64 (Int.tdiv (toSigned 96 p.sum) p.count))
  | _ => some (sat64 p.count)

/-- Every register that names group `cg` (context × 16 + group) is loaded from its stored result (R250). -/
def State.loadRefs (s : State) (cg : Nat) (p : Partial) : State :=
  let load := fun (x : RefReg) => match refFrom (bits x.source 18 16) p with
    | some v => { x with value := v, nan := false, time := s.extNow }
    | none => { x with nan := true, time := s.extNow }
  let refs := s.vager.refs.map fun e => (e.1, if e.2.source % 2 ^ 16 = cg then load e.2 else e.2)
  s.setVager { s.vager with refs := refs }

/-- REF_VALUE_WRITE. The selected register, allowed while it names no group; its NaN flag clears (R250). -/
def execRefValueWrite (w : Writer) (value : Int) (s : State) : Result :=
  .next (s.writeBy w true .operator fun s =>
    let r := s.rd .vager O.REF_SELECT_4840
    let x := s.refReg r
    if x.source % 2 ^ 16 ≠ 0xFFFF then s.answer stRefused
    else (s.setRefReg r { x with value := toSigned 64 (ofSigned 64 value), nan := false }).answer stOk)

/-! ### Operators and encoding (R243 to R247) -/

/-- code_LIN of R245. -/
def codeLin (u : Int) (shift : Nat) : Nat :=
  let c := u / (2 ^ shift : Nat)
  if c < 0 then 0 else min c.toNat 0xFFFE

/-- L of R245. -/
def logCode (a : Nat) : Nat :=
  if a < 256 then a
  else
    let e := Nat.log2 a
    256 + (e - 8) * 256 + a / 2 ^ (e - 8) % 256

/-- code_LOG of R245. -/
def codeLog (u : Int) : Nat := if 0 ≤ u then 0x7FFF + logCode u.toNat else 0x7FFF - logCode (-u).toNat

/-- The code of an output: NaN, or y less OFFSET encoded (R245). -/
def bldCode (c : Nat) (y : Option Int) : Nat :=
  match y with
  | none => 0xFFFF
  | some y =>
    let u := sat64 (y - bldOffset c)
    if bldEnc c = 1 then codeLog u else codeLin u (bldShift c)

/-- A builder's output is written into its feature; the row's poison stays (R240, R245). -/
def State.builderOut (s : State) (n : Nat) (b : Builder) (y : Option Int) : State :=
  let code := bldCode b.cfg y
  let r := bldRow b.cfg
  let x := s.frow r
  let s := s.setFrow r { x with feat := Tbl.set (fun _ => 0xFFFF) x.feat (bldCol b.cfg) code, updated := s.extNow }
  s.setBuilder n { b with out := code }

/-- R246: a builder whose state is read as poison faults, and its output stays NaN until it is reset. -/
def State.builderFault (s : State) (n : Nat) : State :=
  let b := s.builder n
  let s := s.bump .vager O.BLD_FAULTS_4830 32
  s.builderOut n { b with fault := true } none

/-- What an operator gives on operand `x` at extended time `t`: its output, and S0 and S1 after it. Every result is held to the signed
64-bit range (R244). -/
def bldApply (b : Builder) (x : Int) (t : Nat) (quant : Option Int) (ref : Option Int) : Option Int × Int × Int :=
  let c := b.cfg
  let first := !b.primed
  let a := bldParamA c
  let k : Int := bldParamC c
  let al : Int := (2 ^ bldAlpha c : Nat)
  let add := fun (x y : Int) => sat64 (x + y)
  let sub := fun (x y : Int) => sat64 (x - y)
  let mul := fun (x y : Int) => sat64 (x * y)
  let ewma := if first then mul x 65536 else add b.s0 (sub (mul x 65536) b.s0 / al)
  match bldOp c with
  | 0 => (some x, b.s0, b.s1)
  | 1 => (if first then none else some (sub x b.s1), b.s0, x)
  | 2 =>
    let dt := sub (sat64 t) b.tLast
    (if first ∨ dt = 0 then none else some (sat64 (Int.tdiv (mul (sub x b.s1) 1000000000) dt)), b.s0, x)
  | 3 => (some (ewma / 65536), ewma, b.s1)
  | 4 =>
    if first then (none, ewma, b.s1)
    else
      let dev := mul (sat64 ((sub x (b.s0 / 65536)).natAbs : Nat)) 65536
      let s1 := add b.s1 (sub dev b.s1 / al)
      (some (s1 / 65536), ewma, s1)
  | 5 =>
    let v := max 0 (sub (sub (add b.s0 x) a) k)
    (some v, v, b.s1)
  | 6 =>
    let v := max 0 (sub (sub (add b.s0 a) x) k)
    (some v, v, b.s1)
  | 7 => (quant.map fun q => add q a, b.s0, b.s1)
  | 9 => (ref.map fun r => sub x r, b.s0, b.s1)
  | _ => (none, b.s0, b.s1)

/-- Builder `n` applies a record of value `v` at extended time `t` (R243 to R246). -/
def State.builderRun (s : State) (n : Nat) (v : Int) (t : Nat) (ovr spoilt : Bool) : State :=
  let b := s.builder n
  if b.fault then s
  else if spoilt then s.builderFault n
  else
    let c := b.cfg
    let s := s.bump .vager O.BLD_UPDATES_4830 64
    let x := if bldXsel c then sat64 t else v
    let slot := bldSlot c % 2 ^ 14
    let s := if bldOp c = 7 then s.setSketch slot ((s.sketch slot).insert (sat64 (x - bldParamA c)) t) else s
    let q := if bldOp c = 7 then quantile (s.sketch slot).words (bits c 127 112) else none
    let reg := s.refReg (bldParamC c % 256)
    let ref := if reg.nan then none else some reg.value
    let (y, s0, s1) := bldApply b x t q ref
    let b := { b with
      s0 := s0
      s1 := s1
      tLast := t
      primed := true
      stale := false
      refnan := bldOp c == 9 && reg.nan }
    let nan := ovr && bldNanOvr c
    if bldOp c = 8 ∧ nan = false then s.setBuilder n b
    else s.builderOut n b (if nan then none else y)

/-- TT_ENABLE (0x4800:01): 0 stops builders and passes. -/
def State.ttOn (s : State) : Bool := s.rd .vager O.TT_ENABLE_4800 == 1

/-- BUILDER_UPDATE: the enabled builders of stream `sid` apply a record in ascending builder number (R243). -/
def State.runBuilders (s : State) (sid : Nat) (v : Int) (t : Nat) (ovr : Bool) (spoilt : List Nat) : State :=
  if s.ttOn then
    (s.enabledBuilders.filter fun e => bldSource e.2.cfg == sid).foldl
      (fun s e => s.builderRun e.1 v t ovr (spoilt.contains e.1)) s
  else s

/-- The sweep's visit of builder `n`: AGE_LIMIT, which runs from T_LAST whether or not a record has come, and the output of AGE,
against Vager's extended time (R244, R246, R247). -/
def State.builderSweep (s : State) (n : Nat) : State :=
  let b := s.builder n
  let c := b.cfg
  let age := sat64 (sat64 s.extNow - b.tLast)
  if bldAge c ≠ 0 ∧ (bldAge c * 1000 : Nat) < age then s.builderOut n { b with stale := true } none
  else if bldOp c = 8 then s.builderOut n b (if b.primed then some (Int.tdiv age 1000) else none)
  else s

/-- The state word of a builder (R242). -/
def builderState (b : Builder) : Nat :=
  fld 192 64 (ofSigned 64 b.s0) + fld 128 64 (ofSigned 64 b.s1) + fld 64 64 b.tLast + fld 32 16 b.out + fld 3 1 (ofBool b.refnan)
    + fld 2 1 (ofBool b.stale) + fld 1 1 (ofBool b.fault) + ofBool b.primed

end Sys2Proof.Machine
end

