-- ==== Sys2Proof/Machine/DmaOps.lean ====
section
/-! DEFINITION. Machine/DmaOps.lean: operations of the DMA channels (chapter 13): descriptors, the memories they reach,
completion, and the claims of the units that hold channels. -/

namespace Sys2Proof.Machine
open Sys2Proof

/-! ### Channels -/

/-- Channels of a part (R429). -/
def dmaCount : Part → Nat
  | .vager => 16
  | .staris _ => 4

/-- The index of a channel's objects (R445). -/
def dmaIndex (p : Part) (n : Nat) : Nat :=
  match p with
  | .vager => 0x6840 + n
  | .staris _ => 0x6800 + n

/-- A channel beyond its objects. -/
def State.dmaCh (s : State) (p : Part) (n : Nat) : Dma :=
  match p with
  | .vager => Tbl.get (fun _ => {}) s.vager.dma n
  | .staris d => Tbl.get (fun _ => {}) (s.die d).dma n

/-- A channel replaced. -/
def State.setDmaCh (s : State) (p : Part) (n : Nat) (c : Dma) : State :=
  match p with
  | .vager => s.setVager { s.vager with dma := Tbl.set (fun _ => {}) s.vager.dma n c }
  | .staris d => s.setDie d { s.die d with dma := Tbl.set (fun _ => {}) (s.die d).dma n c }

/-- STATE of a channel (R436): 0 IDLE, 1 RUNNING, 2 HALTED, 3 OWNED. -/
def State.dmaState (s : State) (p : Part) (n : Nat) : Nat := s.rd p (O.DMA_STATE (dmaIndex p n))

/-- The internal unit that may hold a channel, as OWNER codes it (R429). -/
def dmaUnit (p : Part) (n : Nat) : Option Nat :=
  match p, n with
  | .staris _, 1 => some 1
  | .staris _, 2 => some 2
  | .staris _, 3 => some 3
  | .vager, 15 => some 4
  | _, _ => none

/-- The unit of a channel holds it now (R429). -/
def State.dmaHeld (s : State) (p : Part) (n : Nat) : Bool :=
  match p, n with
  | .staris d, 1 => (List.range 16).any fun k => bitAt (s.rd p (O.DUMP_MODE_3070 k)) 2 &&
      (s.rd p (O.DUMP_ARM_3070 k) == 1 || (Tbl.get (fun _ => {}) (s.die d).cap.dumps k).copy.isSome)
  | .staris _, 2 => s.rd p O.STAY_STATE_5800 == 2 || s.rd p O.STAY_STATE_5800 == 3
  | .staris _, 3 => s.rd p O.SINK_SELECT_3450 == 1
  | .vager, 15 => decide (4 ≤ s.rd p O.CUT_STATE_5880) && decide (s.rd p O.CUT_STATE_5880 ≤ 5) &&
      (List.range 8).any fun t => s.rd p (O.TGT_KIND_5888 t) == 2
  | _, _ => false

/-! ### Descriptors (R431, R433) -/

/-- A register set of a channel as one number. -/
def State.dmaActive (s : State) (p : Part) (n : Nat) : Nat := s.elem p (O.DMA_ACTIVE_DESC (dmaIndex p n)) 64 0
def State.dmaShadow (s : State) (p : Part) (n : Nat) : Nat := s.elem p (O.DMA_SHADOW_DESC (dmaIndex p n)) 64 0

def descSrc (x : Nat) : Nat := bits x 511 448
def descDst (x : Nat) : Nat := bits x 447 384
def descCount (x j : Nat) : Nat := bits x (191 - 24 * j) (168 - 24 * j) + 1
def descCookie (x : Nat) : Nat := bits x 119 88
def descCrecAddr (x : Nat) : Nat := bits x 87 24
def descIrq (x : Nat) : Bool := bitAt x 22
def descCrec (x : Nat) : Bool := bitAt x 21
def descOp (x : Nat) : Nat := bits x 17 16
def descSrcSpace (x : Nat) : Nat := bits x 15 12
def descDstSpace (x : Nat) : Nat := bits x 11 8

/-- Granules of a transfer (R433). -/
def descTotal (x : Nat) : Nat := descCount x 0 * descCount x 1 * descCount x 2

/-- The three steps of the source, or of the destination. -/
def descSteps (x : Nat) (dst : Bool) : Int × Int × Int :=
  let o := if dst then 96 else 0
  (toSigned 32 (bits x (383 - o) (352 - o)), toSigned 32 (bits x (351 - o) (320 - o)), toSigned 32 (bits x (319 - o) (288 - o)))

/-- The address of granule `i` of a transfer, counted in loop order with loop 0 innermost, modulo 2^64 (R433). -/
def descAddr (x : Nat) (dst : Bool) (i : Nat) : Nat :=
  let n0 := descCount x 0
  let n1 := descCount x 1
  let (t0, t1, t2) := descSteps x dst
  let k0 : Int := (i % n0 : Nat)
  let k1 : Int := (i / n0 % n1 : Nat)
  let k2 : Int := (i / (n0 * n1) : Nat)
  let base : Int := (if dst then descDst x else descSrc x : Nat)
  ((base + 32 * (k0 * t0 + k1 * t1 + k2 * t2)) % 2 ^ 64).toNat

/-- A space that software may name (R432). -/
def dmaSpace (p : Part) (sp : Nat) : Bool :=
  match p with
  | .vager => decide (sp < 2)
  | .staris _ => sp == 0

/-- The check of a descriptor as it enters the active set: a fault code of R439 and the failing address, in the order of the
codes. A ZERO transfer ignores its source (R431). -/
def descFault (p : Part) (x : Nat) : Option (Nat × Nat) :=
  if descOp x ≠ 1 ∧ descSrc x % 32 ≠ 0 then some (1, descSrc x)
  else if descDst x % 32 ≠ 0 then some (1, descDst x)
  else if descCrec x && descCrecAddr x % 32 != 0 then some (1, descCrecAddr x)
  else if descOp x ≠ 1 ∧ dmaSpace p (descSrcSpace x) = false then some (5, descSrc x)
  else if dmaSpace p (descDstSpace x) = false then some (5, descDst x)
  else if 2 ≤ descOp x ∨ bits x 20 18 ≠ 0 ∨ bits x 7 0 ≠ 0 then some (6, 0)
  else if 2 ^ 48 < descTotal x then some (7, 0)
  else none

/-! ### Memories (R432, R477 to R479) -/

/-- The ranges of a set of region entries: those that an enabled entry of the given world covers at byte `a`. -/
def State.hregHolds (s : State) (world a : Nat) : Bool :=
  (List.range 16).any fun r => s.rd .vager (O.HREG_ENABLE_7448 r) == 1 && s.rd .vager (O.HREG_WORLD_7448 r) == world &&
    decide (s.rd .vager (O.HREG_BASE_7448 r) ≤ a) &&
    decide (a < s.rd .vager (O.HREG_BASE_7448 r) + s.rd .vager (O.HREG_BYTES_7448 r))

/-- HBM byte `a` is secure (R477, R479): the trace region is NS, and so is a range of the Stay region that an entry marks NS;
the rest is S. Where entries overlap the secure one applies. Entries name HBM byte offsets (log entry 37). -/
def State.hbmSecure (s : State) (a : Nat) : Bool :=
  if 4000000000 ≤ a ∧ a < 4000000000 + s.rd .vager O.TRACE_REGION_BYTES_3580 then false
  else if s.stayBase * 32 ≤ a then s.hregHolds 0 a || !s.hregHolds 1 a
  else true

/-- A channel acts in the secure world: CH_WORLD (R477). -/
def State.dmaSecure (s : State) (p : Part) (n : Nat) : Bool := s.rd p (O.DMA_CH_WORLD (dmaIndex p n)) == 0

/-- Whether a channel may use the granule at `a` of a space: a code of R439 where it may not. -/
def State.dmaAddrFault (s : State) (p : Part) (n sp a : Nat) : Option Nat :=
  match p, sp with
  | .vager, 0 =>
    if 576000000000 ≤ a then some 2
    else if s.dmaSecure p n = false ∧ s.hbmSecure a then some 3 else none
  | .vager, _ => none
  | .staris d, _ => if s.dmaSecure p n = false ∧ s.meetsSecure d a 32 then some 3 else none

/-- A granule is written to a space of a part. -/
def State.dmaWrite (s : State) (p : Part) (n sp a data : Nat) (poison : Bool) : State :=
  match p, sp with
  | .vager, 0 => s.setHbm (a / 32) { data := data % 2 ^ 256, poison := poison }
  | .vager, _ => s.emit (.hostWrite a (data % 2 ^ 256) poison)
  | .staris d, _ => s.emit (.dieWrite d.val (s.dmaSecure p n) a (data % 2 ^ 256) poison)

/-! ### Completion (R441, R442) -/

/-- LAST_STATUS, [16:0] of the completion record. -/
def dmaStatus (status fault : Nat) (poison : Bool) : Nat := fld 16 1 (ofBool poison) + fld 8 8 fault + status % 256

/-- The completion record of a transfer. -/
def dmaRecord (seq bytes cookie time last : Nat) : Nat :=
  fld 192 64 seq + fld 128 64 bytes + fld 96 32 cookie + fld 64 32 time + last

/-- The completion record of descriptor `x` can be written: its address is aligned, in a space it may name and one the channel
may use. -/
def State.recordPlace (s : State) (p : Part) (n x : Nat) : Bool :=
  descCrecAddr x % 32 == 0 && dmaSpace p (descDstSpace x) && (s.dmaAddrFault p n (descDstSpace x) (descCrecAddr x)).isNone

/-- A transfer of descriptor `x` is signalled (R441): its record, then CSO and LAST_STATUS, then MSI-X. A failed record write
turns DONE into FAULT with code BUS. -/
def State.dmaSignal (s : State) (p : Part) (n x status fault bytes : Nat) (poison recordOk : Bool) : State :=
  let i := dmaIndex p n
  let ok := recordOk && s.recordPlace p n x
  let bad := descCrec x && !ok && status == 0
  let status := if bad then 2 else status
  let fault := if bad then 4 else fault
  let last := dmaStatus status fault poison
  let seq := (s.rd p (O.DMA_CSO i) + 1) % 2 ^ 64
  let s := if descCrec x && ok then
      s.dmaWrite p n (descDstSpace x) (descCrecAddr x) (dmaRecord seq bytes (descCookie x) (s.ns p) last) false
    else s
  let s := (s.wr p (O.DMA_CSO i) seq).wr p (O.DMA_LAST_STATUS i) last
  let v := s.rd p (O.DMA_VECTOR i)
  if descIrq x ∧ v ≠ 0xFFFF then s.msix p v else s

/-- R438: the shadow set becomes the active set. -/
def State.dmaTake (s : State) (p : Part) (n : Nat) : State :=
  let i := dmaIndex p n
  let s := s.setElem p (O.DMA_ACTIVE_DESC i) 64 0 (s.dmaShadow p n)
  let s := ((s.wr p (O.DMA_SHADOW_VALID i) 0).wr p (O.DMA_STATE i) 1).wr p (O.DMA_BYTES_DONE i) 0
  s.setDmaCh p n { s.dmaCh p n with live := false, moved := 0, poison := false, stopAt := none, old := [] }

/-- R430: a valid shadow set is discarded and signalled PREEMPTED, with no bytes moved. -/
def State.dmaPreempt (s : State) (p : Part) (n : Nat) : State :=
  let i := dmaIndex p n
  if s.rd p (O.DMA_SHADOW_VALID i) = 1 then
    let x := s.dmaShadow p n
    (s.wr p (O.DMA_SHADOW_VALID i) 0).dmaSignal p n x 3 0 0 false true
  else s

/-- A channel whose transfer is over, or that leaves HALTED, goes on: to the unit that waits for it (R430), to the shadow set
(R438), or to IDLE (R436). -/
def State.dmaNext (s : State) (p : Part) (n : Nat) : State :=
  let i := dmaIndex p n
  let s := s.setDmaCh p n { s.dmaCh p n with live := false, stopAt := none }
  match (s.dmaCh p n).claim with
  | some u =>
    let s := s.dmaPreempt p n
    let s := s.setDmaCh p n { s.dmaCh p n with claim := none }
    (s.wr p (O.DMA_STATE i) 3).wr p (O.DMA_OWNER i) u
  | none => if s.rd p (O.DMA_SHADOW_VALID i) = 1 then s.dmaTake p n else s.wr p (O.DMA_STATE i) 0

/-- A transfer fails (R439): HALTED, FAULT_ADDR, and completion with STATUS FAULT. -/
def State.dmaFault (s : State) (p : Part) (n code addr : Nat) : State :=
  let i := dmaIndex p n
  let c := s.dmaCh p n
  let s := (s.wr p (O.DMA_STATE i) 2).wr p (O.DMA_FAULT_ADDR i) addr
  let s := s.setDmaCh p n { c with live := false, stopAt := none }
  s.dmaSignal p n (s.dmaActive p n) 2 code (32 * c.moved) c.poison true

/-- The active transfer ends ABORTED, with what it has moved (R437). -/
def State.dmaAborted (s : State) (p : Part) (n : Nat) : State :=
  let c := s.dmaCh p n
  s.dmaSignal p n (s.dmaActive p n) 1 0 (32 * c.moved) c.poison true

/-- How many granules the transfer in the active set moves: all of them, or at most those in flight at an ABORT (R434, R437). -/
def State.dmaEnd (s : State) (p : Part) (n : Nat) : Nat :=
  match (s.dmaCh p n).stopAt with
  | none => descTotal (s.dmaActive p n)
  | some k => min k (descTotal (s.dmaActive p n))

/-! ### Claims (R429, R430) -/

/-- A unit claims its channel: at once where it is IDLE, and otherwise once it would be. -/
def State.dmaClaim (s : State) (p : Part) (n u : Nat) : State :=
  if s.dmaState p n = 3 then s
  else
    let s := s.setDmaCh p n { s.dmaCh p n with claim := some u }
    if s.dmaState p n = 0 then s.dmaNext p n else s

/-- A unit releases its channel, or withdraws a claim that waits. -/
def State.dmaRelease (s : State) (p : Part) (n : Nat) : State :=
  let i := dmaIndex p n
  let s := s.setDmaCh p n { s.dmaCh p n with claim := none }
  if s.dmaState p n = 3 then (s.wr p (O.DMA_STATE i) 0).wr p (O.DMA_OWNER i) 0 else s

/-- What holds a channel has changed: its unit claims it, or releases it (R429, R430). -/
def State.dmaSettle (s : State) (p : Part) (n : Nat) : State :=
  match dmaUnit p n with
  | none => s
  | some u => if s.dmaHeld p n then s.dmaClaim p n u else s.dmaRelease p n

/-- A transfer of the unit that holds a channel fails: the code and the address show, and the channel stays OWNED, which it leaves
only when the unit releases it (R436, R439; log entry 150). -/
def State.dmaUnitFault (s : State) (p : Part) (n code addr : Nat) : State :=
  let i := dmaIndex p n
  (s.wr p (O.DMA_FAULT_ADDR i) addr).wr p (O.DMA_LAST_STATUS i) (dmaStatus 2 code false)

end Sys2Proof.Machine
end

