-- ==== Sys2Proof/Machine/Trace.lean ====
section
/-! DEFINITION. Machine/Trace.lean: Pennant trace (chapter 04): sources, packets, staging, configurations, the trigger, the
sinks and Vager's trace slices. -/

namespace Sys2Proof.Machine
open Sys2Proof

/-! ### Accessors -/

/-- The trace state of die `d`. -/
def State.tr (s : State) (d : Die) : Trace := (s.die d).trace

/-- The trace state of die `d` replaced. -/
def State.setTr (s : State) (d : Die) (t : Trace) : State := s.setDie d { s.die d with trace := t }

/-- Trace source `n` of die `d`. -/
def State.tsrc (s : State) (d : Die) (n : Nat) : TSource := Tbl.get (fun _ => {}) (s.tr d).sources n

/-- Trace source `n` of die `d` replaced. -/
def State.setTsrc (s : State) (d : Die) (n : Nat) (x : TSource) : State :=
  s.setTr d { s.tr d with sources := Tbl.set (fun _ => {}) (s.tr d).sources n x }

/-- The codes of R127 and R128 as the objects show them. -/
def cfgCode : CfgState → Nat
  | .idle => 0
  | .wait => 1
  | .active => 2

/-- The unit state code of R128. -/
def unitCode : UnitState → Nat
  | .idle => 0
  | .running => 1
  | .triggered => 2
  | .frozen => 3
  | .full => 4

/-- Configuration `c`'s state (R127). -/
def State.tcfg (s : State) (d : Die) (c : Nat) : CfgState := Tbl.get (fun _ => .idle) (s.tr d).cfgs c

/-- Configuration `c` takes a state. -/
def State.setTcfg (s : State) (d : Die) (c : Nat) (x : CfgState) : State :=
  s.setTr d { s.tr d with cfgs := Tbl.set (fun _ => .idle) (s.tr d).cfgs c x }

/-- Every configuration is IDLE. -/
def State.allIdle (s : State) (d : Die) : Bool := (s.tr d).cfgs.isEmpty

/-! ### Staging (R118, R132 to R134) -/

/-- Words of one packet placed in the staging queue: a two-word packet never straddles a granule boundary (R118). -/
def stage : List TGran → List Nat → List TGran
  | [], ws => [{ words := ws }]
  | [g], ws =>
    if g.words.length + ws.length ≤ 4 then [{ g with words := g.words ++ ws }]
    else [{ g with words := g.words ++ List.replicate (4 - g.words.length) 0 }, { words := ws }]
  | g :: t, ws => g :: stage t ws

/-- The priority of source `n` (R117). -/
def State.tprio (s : State) (d : Die) (n : Nat) : Nat :=
  bits (s.ob (.staris d) O.SRC_PRIORITY_3401 (n / 4)) (2 * (n % 4) + 1) (2 * (n % 4))

/-- The staging threshold of a priority (R132). -/
def State.tthresh (s : State) (d : Die) (p : Nat) : Nat := s.rd (.staris d) (O.PRIO_THRESH_0_3440 + p)

/-- Packets offered to the staging queue as one unit: accepted where the fill stays within the threshold of the source's
priority (R132). -/
def State.offerWord (s : State) (d : Die) (n : Nat) (packets : List (List Nat)) : Option State :=
  let q := packets.foldl stage (s.tr d).queue
  if q.length ≤ s.tthresh d (s.tprio d n) then
    let s := s.setTr d { s.tr d with queue := q }
    some (s.wr (.staris d) O.STAGE_PEAK_3440 (max (s.rd (.staris d) O.STAGE_PEAK_3440) q.length))
  else none

/-- A packet of source `n` is dropped and counted (R132). -/
def State.lose (s : State) (d : Die) (n : Nat) : State :=
  let x := s.tsrc d n
  let s := s.setTsrc d n { x with lost := satAdd 32 x.lost 1 }
  s.setElem (.staris d) O.SRC_LOST_3401 4 n (satAdd 32 (s.elem (.staris d) O.SRC_LOST_3401 4 n) 1)

/-! ### Packet words (R119, R120) -/

/-- TYPE and SRC of a packet's first word (R119). -/
def pkt (type src : Nat) : Nat := type % 16 + fld 4 8 src

/-- A SYNC of a source (R120): TIME, TSTATE, REASON, and the traced address as second word. -/
def syncWords (time tstate reason src addr : Nat) : List Nat :=
  [fld 32 32 time + fld 29 3 tstate + fld 26 3 reason + pkt 0x6 src, addr % 2 ^ 64]

/-- An OVERFLOW of a source (R120, R133). -/
def overflowWord (lost src : Nat) : List Nat := [fld 32 32 lost + pkt 0x9 src]

/-- A CYCLE packet (R121). -/
def cycleWord (cycles src : Nat) : List Nat := [fld 32 32 cycles + pkt 0x8 src]

/-- An ATOMS packet (R120, R122). -/
def atomsWord (cyc n atoms src : Nat) : List Nat := [fld 41 23 cyc + fld 36 5 n + fld 12 24 atoms + pkt 0x1 src]

/-- TARGET or TARGET_LONG: the short form replaces bits [25:2] of the last address (R120). -/
def targetWords (cyc kind last addr src : Nat) : List Nat :=
  if last / 2 ^ 26 = addr / 2 ^ 26 then [fld 41 23 cyc + fld 38 3 kind + fld 12 24 (addr / 4) + pkt 0x2 src]
  else [fld 41 23 cyc + fld 38 3 kind + pkt 0x3 src, addr % 2 ^ 64]

/-- A CMD packet (R120). -/
def cmdWords (cyc opcode aux src : Nat) : List Nat := [fld 41 23 cyc + fld 33 8 opcode + pkt 0x4 src, aux % 2 ^ 64]

/-- A DMA packet (R120). -/
def dmaWords (cyc length addr src : Nat) : List Nat := [fld 41 23 cyc + fld 12 29 length + pkt 0x5 src, addr % 2 ^ 64]

/-- An LP_ENTRY (R120, R146). -/
def lpEntryWord (cyc src : Nat) : List Nat := [fld 41 23 cyc + pkt 0xA src]

/-- A GAP with its REASON in [40:38] (R120, R130). -/
def gapWord (cyc reason src : Nat) : List Nat := [fld 41 23 cyc + fld 38 3 reason + pkt 0xB src]

/-- A TRIGGER packet: CAUSE in [31:28] and the SOURCE value or comparator number in [27:12] (R120, R141). -/
def triggerWord (ns cause detail : Nat) : List Nat := [fld 32 32 ns + fld 28 4 cause + fld 12 16 detail + pkt 0xC 0]

/-- A TSTAMP packet (R120, R125). -/
def tstampWord (counter : Nat) : List Nat :=
  [fld 32 32 (counter / 2 ^ 32) + fld 12 20 (bits counter 31 12) + pkt 0x7 0]

/-! ### Emission of a source's packets -/

/-- R131: the world or privilege of the source's activity excludes it. -/
def State.excluded (s : State) (d : Die) (n : Nat) : Bool :=
  let x := s.tsrc d n
  let auth := s.rd (.staris d) O.TRACE_AUTH_3400
  if x.sec then !bitAt auth 1 else x.priv && !bitAt auth 0

/-- The SYNC of source `n` now, with REASON `r`. The address of excluded activity does not enter the trace (R131): one that ends it
carries the last address before it. -/
def State.syncNow (s : State) (d : Die) (n r : Nat) : List Nat :=
  let x := s.tsrc d n
  syncWords (s.ns (.staris d)) (s.tstate (.staris d)) r n (if s.excluded d n then x.clear else x.addr)

/-- A SYNC has been written: the source's address and cycle base restart (R123). -/
def TSource.synced (x : TSource) : TSource := { x with lost := 0, cyc := 0, bytes := 0, syncDue := none }

/-- R133: after a loss, an OVERFLOW followed by a SYNC of REASON 4, placed as one unit; none while there is no room. -/
def State.recover (s : State) (d : Die) (n : Nat) : Option State :=
  let x := s.tsrc d n
  if x.lost = 0 then some s
  else (s.offerWord d n [overflowWord x.lost n, s.syncNow d n 4]).map fun s => s.setTsrc d n (s.tsrc d n).synced

/-- A SYNC of REASON `r` is offered, and whether one has been written: after a loss, that of R133. -/
def State.emitSync (s : State) (d : Die) (n r : Nat) : State × Bool :=
  let t := if (s.tsrc d n).lost = 0 then
      (s.offerWord d n [s.syncNow d n r]).map fun s => s.setTsrc d n (s.tsrc d n).synced
    else s.recover d n
  match t with
  | some s => (s, true)
  | none => (s.lose d n, false)

/-- The SYNC due before the next packet of source `n`: one with a REASON of its own, or the interval SYNC of REASON 0. -/
def State.syncDueReason (s : State) (d : Die) (n : Nat) : Option Nat :=
  let x := s.tsrc d n
  match x.syncDue with
  | some r => some r
  | none => if 2 ^ s.rd (.staris d) O.SYNC_INTERVAL_3400 ≤ x.bytes then some 0 else none

/-- What goes ahead of a packet of source `n`: OVERFLOW and SYNC after a loss (R133), else a SYNC that is due (R123). It answers
whether a SYNC has been written, and none where the packet cannot follow. -/
def State.syncFirst (s : State) (d : Die) (n : Nat) : State × Option Bool :=
  if (s.tsrc d n).lost = 0 then
    match s.syncDueReason d n with
    | none => (s, some false)
    | some r =>
      let (s, ok) := s.emitSync d n r
      (s, if ok then some true else none)
  else match s.recover d n with
    | some s => (s, some true)
    | none => (s, none)

/-- One packet of source `n` that has lost none is accepted, and the cycle base moves to where `keep` strobes are left; or it is
dropped (R121, R132). -/
def State.place (s : State) (d : Die) (n keep : Nat) (ws : List Nat) : State × Bool :=
  match s.offerWord d n [ws] with
  | none => (s.lose d n, false)
  | some s =>
    let x := s.tsrc d n
    (s.setTsrc d n { x with cyc := keep, bytes := x.bytes + 8 * ws.length }, true)

/-- One packet of source `n` goes to the staging queue. `keep` is the count of strobes that the packet does not cover, and
`words` the packet for a given CYC. A count beyond 23 bits goes first in a CYCLE packet, and the packet then carries CYC 0; each is
a packet of its own to R132 (R121). -/
def State.emitPacket (s : State) (d : Die) (n keep : Nat) (words : Nat → List Nat) : State × Bool :=
  match s.syncFirst d n with
  | (s, none) => (s.lose d n, false)
  | (s, some synced) =>
    let keep := if synced then 0 else keep
    let cyc := (s.tsrc d n).cyc - keep
    let compat := s.rd (.staris d) O.PENNANT_MODE_3400 = 1
    if compat then s.place d n keep (words 0)
    else if cyc < 2 ^ 23 then s.place d n keep (words cyc)
    else
      match s.place d n keep (cycleWord (min cyc (2 ^ 32 - 1)) n) with
      | (s, true) => s.place d n keep (words 0)
      | (s, false) => (s.lose d n, false)

/-- R122: pending outcomes of source `n` leave in an ATOMS packet. -/
def State.flushAtoms (s : State) (d : Die) (n : Nat) : State :=
  let x := s.tsrc d n
  if x.nAtoms = 0 then s
  else
    let (s, _) := s.emitPacket d n (x.cyc - x.atomCyc) fun cyc => atomsWord cyc x.nAtoms x.atoms n
    s.setTsrc d n { s.tsrc d n with atoms := 0, nAtoms := 0, atomCyc := 0 }

/-- A packet of source `n` other than ATOMS, after any pending ATOMS (R122). -/
def State.emitAfterAtoms (s : State) (d : Die) (n : Nat) (words : Nat → List Nat) : State × Bool :=
  (s.flushAtoms d n).emitPacket d n 0 words

/-- A SYNC of source `n` that its next packet is not waited for, after any pending ATOMS (R122, R123). -/
def State.syncAfterAtoms (s : State) (d : Die) (n r : Nat) : State := ((s.flushAtoms d n).emitSync d n r).1

/-! ### Configurations (R127 to R131) -/

/-- Source `n` is named by a comparator's or range's SOURCE object. -/
def sourceNamed (v n : Nat) : Bool := v == 0xFFFF || v == n

/-- Range `r` holds for source `n` at its traced address (R129). -/
def State.rangeHolds (s : State) (d : Die) (r n : Nat) : Bool :=
  let a := (s.tsrc d n).addr
  sourceNamed (s.rd (.staris d) (O.RANGE_SOURCE_3430 r)) n
    && decide (s.rd (.staris d) (O.RANGE_LO_3430 r) ≤ a) && decide (a < s.rd (.staris d) (O.RANGE_HI_3430 r))

/-- Configuration `c` includes source `n` and is ACTIVE. -/
def State.cfgCovers (s : State) (d : Die) (c n : Nat) : Bool :=
  s.tcfg d c == .active && s.obit (.staris d) (O.CFG_SOURCES_3410 c) n

/-- In configuration `c`, RANGE_MASK is zero or a selected range holds for source `n` (R130). -/
def State.cfgRanges (s : State) (d : Die) (c n : Nat) : Bool :=
  let m := s.rd (.staris d) (O.CFG_RANGE_MASK_3410 c)
  m == 0 || (List.range 8).any fun r => bitAt m r && s.rangeHolds d r n

/-- R130: source `n` is to be traced; where not, the REASON of its GAP (R120). -/
def State.wantTraced (s : State) (d : Die) (n : Nat) : Except Nat Unit :=
  let cov := (List.range 4).filter fun c => s.cfgCovers d c n
  if cov.isEmpty then .error 0
  else if s.excluded d n then .error 2
  else if cov.any fun c => s.cfgRanges d c n then .ok ()
  else .error 1

/-- The source's boundary says that it is in low power or in reset: it emits nothing (R146 to R148). -/
def TSource.quiet (x : TSource) : Bool := x.lowPower || x.inReset

/-- R123, R130: source `n` is judged again: a GAP where it stops being traced, a SYNC of REASON 1 or 2 where it begins. In
low power or reset it emits nothing (R146 to R148). -/
def State.retrace (s : State) (d : Die) (n : Nat) : State :=
  let x := s.tsrc d n
  match x.traced, s.wantTraced d n with
  | true, .ok _ => s
  | false, .error _ => s
  | true, .error r =>
    let s := if x.quiet then s else (s.emitAfterAtoms d n fun cyc => gapWord cyc r n).1
    s.setTsrc d n { s.tsrc d n with traced := false, gap := some r, syncDue := none, atoms := 0, nAtoms := 0 }
  | false, .ok _ =>
    let r := match x.gap with
      | some 1 => 2
      | some 2 => 2
      | _ => 1
    let s := s.setTsrc d n { x with traced := true, gap := none, cyc := 0 }
    if x.quiet then s else (s.emitSync d n r).1

/-- Sources that emit at one handshake: highest priority first, then lowest number first (R134). -/
def State.byPriority (s : State) (d : Die) (l : List Nat) : List Nat :=
  [3, 2, 1, 0].flatMap fun p => l.filter fun n => s.tprio d n == p

/-- Every source of configuration `c` is judged again. -/
def State.retraceCfg (s : State) (d : Die) (c : Nat) : State :=
  (s.byPriority d ((List.range 256).filter fun n => s.obit (.staris d) (O.CFG_SOURCES_3410 c) n
    && s.ob (.staris d) O.SRC_KIND_3401 n != 0)).foldl (fun s n => s.retrace d n) s

/-- Every source that is being traced is judged again (a change of authorisation, R131). -/
def State.retraceAll (s : State) (d : Die) : State :=
  (s.byPriority d ((s.tr d).sources.map Prod.fst)).foldl (fun s n => s.retrace d n) s

/-! ### Freeze, stop and trigger -/

/-- The size of the selected sink in bytes (R136). -/
def State.sinkBytes (s : State) (d : Die) : Nat :=
  match s.rd (.staris d) O.SINK_SELECT_3450 with
  | 0 => s.rd (.staris d) O.TRACE_BUFFER_BYTES_7030
  | 1 => s.rd (.staris d) O.DIE_BYTES_3450
  | _ => s.rd .vager (O.SLICE_BYTES_3590 d.val)

/-- Every configuration goes IDLE with no further packet of its sources, and the staging queue is discarded (R137, R145). -/
def State.discardTrace (s : State) (d : Die) (u : UnitState) : State :=
  let t := s.tr d
  let s := s.bump (.staris d) O.FLUSHED_3400 32 t.queue.length
  let srcs := t.sources.map fun e => (e.1, { e.2 with traced := false, gap := some 0, syncDue := none, atoms := 0, nAtoms := 0 })
  s.setTr d { s.tr d with cfgs := [], queue := [], unit := u, sources := srcs, post := none }

/-- Bit `i` of the trigger status takes a value. -/
def State.setTrigBit (s : State) (d : Die) (i : Nat) (b : Bool) : State :=
  s.wr (.staris d) O.TRIG_STATUS_3460 (setBit (s.rd (.staris d) O.TRIG_STATUS_3460) i b)

/-- The trigger unit is armed or not (0x3460:03 and TRIG_STATUS[0]). -/
def State.setArmed (s : State) (d : Die) (b : Bool) : State :=
  (s.setTrigBit d 0 b).wr (.staris d) O.TRIG_ARM_3460 (ofBool b)

/-- R142, R143, R145: the capture freezes. On sink 2 a freeze notice follows the last granule; its content is open. Where the TRIGGER
granule is discarded before it was written, TRIG_OFFSET and TRIG_PRE_BYTES stay as they were (log entry 151). -/
def State.freezeTrace (s : State) (d : Die) : State :=
  let p := Part.staris d
  let post := s.rd p O.TRIG_POST_3460
  let size := s.sinkBytes d
  let s := match (s.tr d).trigAt with
    | none => s
    | some (w, off) =>
      let s := (s.wr p O.TRIG_OFFSET_3460 off).wr p O.TRIG_PRE_BYTES_3460 (min w (size - post))
      if w < size - post then s.setTrigBit d 4 true else s
  let s := (s.discardTrace d .frozen).setTrigBit d 2 true
  if s.rd p O.SINK_SELECT_3450 = 2 then
    let (v, s) := s.takeNat
    s.send false d 3 [{ data := v % 2 ^ 256 }]
  else s

/-- The unit leaves RUNNING, or freezes at once with POST_SHORT, when every configuration has returned to IDLE (R128,
R145). Once TRIG_POST is reached, the freeze waits only for the last acknowledgement (R142). -/
def State.unitAfterStop (s : State) (d : Die) : State :=
  if s.allIdle d then
    match (s.tr d).unit with
    | .running => s.setTr d { s.tr d with unit := .idle }
    | .triggered => if (s.tr d).freezing then s else (s.setTrigBit d 5 true).freezeTrace d
    | _ => s
  else s

/-- The trace power domain of the Staris (function 1, R556, R565) is ON. -/
def State.traceOn (s : State) (d : Die) : Bool := s.ob (.staris d) O.DOMAIN_STATE_7C00 2 == 0

/-- A TSTAMP is offered under the priority of source 0, the SRC it carries; one that finds no room is lost, and no source's loss
count moves (R125; log entry 152). -/
def State.tstamp (s : State) (d : Die) : State := (s.offerWord d 0 [tstampWord (s.counter (.staris d))]).getD s

/-- R127: a start of configuration `c`, refused and counted while the unit is FROZEN or FULL or the domain is off. -/
def State.startCfg (s : State) (d : Die) (c : Nat) : State × Bool :=
  let p := Part.staris d
  if (s.tr d).unit == .frozen || (s.tr d).unit == .full || !s.traceOn d then (s.bump p O.STARTS_REFUSED_3400 32, false)
  else if s.tcfg d c != .idle then (s, true)
  else
    let first := s.allIdle d
    let x : CfgState := if s.rd p (O.CFG_START_MASK_3410 c) = 0 then .active else .wait
    let s := s.setTcfg d c x
    let s := if (s.tr d).unit == .idle then s.setTr d { s.tr d with unit := .running } else s
    let s := if first ∧ s.rd p O.PENNANT_MODE_3400 = 1 then s.tstamp d else s
    (if x == .active then s.retraceCfg d c else s, true)

/-- R127: a stop of configuration `c`. -/
def State.stopCfg (s : State) (d : Die) (c : Nat) : State :=
  if s.tcfg d c == .idle then s
  else ((s.setTcfg d c .idle).retraceCfg d c).unitAfterStop d

/-- A TRIGGER packet goes to the reserved last granule, whatever the fill (R141). -/
def stageTrigger (q : List TGran) (ws : List Nat) : List TGran :=
  match (stage q ws).reverse with
  | [] => []
  | g :: t => (({ g with trigger := true }) :: t).reverse

/-- R140, R141, R144: a trigger of the given CAUSE and detail reaches the trigger unit. A unit that is FULL in a sink that fills once
records the first that the armed trigger unit sees. -/
def State.trigger (s : State) (d : Die) (cause detail : Nat) : State :=
  let p := Part.staris d
  let st := s.rd p O.TRIG_STATUS_3460
  if bitAt st 0 && (s.tr d).unit == .running then
    let q := stageTrigger (s.tr d).queue (triggerWord (s.ns p) cause detail)
    let s := s.setTr d { s.tr d with queue := q, unit := .triggered }
    let s := s.wr p O.STAGE_PEAK_3440 (max (s.rd p O.STAGE_PEAK_3440) q.length)
    ((s.wr p O.TRIG_TIME_3460 (s.counter p)).setArmed d false).setTrigBit d 1 true
  else
    let s := s.bump p O.TRIG_IGNORED_3460 32
    if (bitAt st 0 && !bitAt st 3) ∧ (s.tr d).unit = .full ∧ s.rd p O.SINK_WRAP_3450 = 0 then
      (s.wr p O.TRIG_TIME_3460 (s.counter p)).setTrigBit d 3 true
    else s

/-- R129: address comparator `a` hits: it is counted, moves each configuration by at most one transition, and triggers
where TRIG_ACMP_MASK selects it. -/
def State.acmpHit (s : State) (d : Die) (a : Nat) : State :=
  let p := Part.staris d
  let s := s.bump p (O.ACMP_HITS_3420 a) 32
  let s := (List.range 4).foldl (fun s c =>
    match s.tcfg d c with
    | .active => if bitAt (s.rd p (O.CFG_STOP_MASK_3410 c)) a then (s.setTcfg d c .wait).retraceCfg d c else s
    | .wait => if bitAt (s.rd p (O.CFG_START_MASK_3410 c)) a then (s.setTcfg d c .active).retraceCfg d c else s
    | .idle => s) s
  if bitAt (s.rd p O.TRIG_ACMP_MASK_3460) a then s.trigger d 1 a else s

/-! ### The commands -/

/-- The packet of one trace word of a traced source (R120, R122, R574). -/
def State.traceWordPacket (s : State) (d : Die) (n kind last : Nat) (t : TrcWord) : State :=
  let x := s.tsrc d n
  match kind with
  | 1 =>
    if t.opc < 2 then
      let s := s.setTsrc d n { x with atoms := setBit x.atoms x.nAtoms (t.opc == 1), nAtoms := x.nAtoms + 1, atomCyc := x.cyc }
      if 24 ≤ x.nAtoms + 1 then s.flushAtoms d n else s
    else (s.emitAfterAtoms d n fun cyc => targetWords cyc (t.opc - 2) last t.addr n).1
  | 2 => (s.emitAfterAtoms d n fun cyc => cmdWords cyc t.opc t.aux n).1
  | 3 => (s.emitAfterAtoms d n fun cyc => dmaWords cyc (t.aux % 2 ^ 29) t.addr n).1
  | _ => s

/-- TRACE_WORD. A source presents a trace word `cycles` strobes after its last one, or after a SYNC that has come since (R121): the
address comparators are judged, the source is judged under R130 and R131, and where it is traced its packet goes to the staging
queue. A source in low power or in reset emits nothing (R146, R148). -/
def execTraceWord (d : Die) (src : Fin 256) (cycles : Nat) (t : TrcWord) (s : State) : Result :=
  let n := src.val
  let p := Part.staris d
  let x := s.tsrc d n
  let last := x.addr
  let s := s.setTsrc d n { x with cyc := x.cyc + cycles, addr := t.addr, sec := t.sec, priv := t.priv }
  let s := if s.excluded d n then s else s.setTsrc d n { s.tsrc d n with clear := t.addr }
  let hits := (List.range 16).filter fun a =>
    sourceNamed (s.rd p (O.ACMP_SOURCE_3420 a)) n && s.rd p (O.ACMP_ADDR_3420 a) == t.addr
  let s := hits.foldl (fun s a => s.acmpHit d a) s
  let s := s.retrace d n
  let y := s.tsrc d n
  .next (if y.traced && !y.quiet then s.traceWordPacket d n (s.ob p O.SRC_KIND_3401 n) last t else s)

/-- CYCLE_IDLE_LIMIT. A traced source has reached 2^32 cycles without a packet (R121): SYNC of REASON 5, after any pending ATOMS. -/
def execCycleIdleLimit (d : Die) (src : Fin 256) (s : State) : Result :=
  let x := s.tsrc d src.val
  .next (if x.traced && !x.quiet then s.syncAfterAtoms d src.val 5 else s)

/-- TSTAMP_INTERVAL. In Sprit-compatible mode, while a configuration is not IDLE, a TSTAMP (R125). -/
def execTstampInterval (d : Die) (s : State) : Result :=
  if s.rd (.staris d) O.PENNANT_MODE_3400 = 1 ∧ s.allIdle d = false then
    .next (s.tstamp d)
  else .next s

/-- SOURCE_LP_ENTRY. A source enters low power `cycles` strobes after its last word, or after a SYNC that has come since (R146,
R147). -/
def execSourceLpEntry (d : Die) (src : Fin 256) (cycles : Nat) (s : State) : Result :=
  let n := src.val
  let x := s.tsrc d n
  let s := s.setTsrc d n { x with cyc := x.cyc + cycles }
  let s := if x.traced && !x.quiet then (s.emitAfterAtoms d n fun cyc => lpEntryWord cyc n).1 else s
  let s := s.setTsrc d n { s.tsrc d n with lowPower := true }
  .next (s.setObit (.staris d) O.SRC_LOW_POWER_3401 n true)

/-- SOURCE_LP_EXIT. A source leaves low power (R147): SYNC of REASON 3, or OVERFLOW and a SYNC of REASON 4 where its
LP_ENTRY was dropped. -/
def execSourceLpExit (d : Die) (src : Fin 256) (s : State) : Result :=
  let n := src.val
  let x := s.tsrc d n
  let s := s.setTsrc d n { x with lowPower := false, cyc := 0 }
  let s := s.setObit (.staris d) O.SRC_LOW_POWER_3401 n false
  .next (if x.traced && x.lowPower && !x.inReset then (s.emitSync d n 3).1 else s)

/-- A source is reset: GAP of REASON 3 with CYC 0 (R148), unless it sleeps (R146). -/
def State.sourceReset (s : State) (d : Die) (n : Nat) : State :=
  let x := s.tsrc d n
  let s := if x.traced && !x.quiet then
      let s := s.flushAtoms d n
      (s.emitPacket d n (s.tsrc d n).cyc fun _ => gapWord 0 3 n).1
    else s
  s.setTsrc d n { s.tsrc d n with inReset := true, cyc := 0, atoms := 0, nAtoms := 0 }

/-- A source leaves reset: its first packet is a SYNC of REASON 6 (R148). -/
def State.sourceResetExit (s : State) (d : Die) (n : Nat) : State :=
  let x := s.tsrc d n
  let s := s.setTsrc d n { x with inReset := false, cyc := 0 }
  if x.traced && x.inReset && !x.lowPower then (s.emitSync d n 6).1 else s

/-- SOURCE_RESET (R148). -/
def execSourceReset (d : Die) (src : Fin 256) (s : State) : Result := .next (s.sourceReset d src.val)

/-- SOURCE_RESET_EXIT (R148). -/
def execSourceResetExit (d : Die) (src : Fin 256) (s : State) : Result := .next (s.sourceResetExit d src.val)

/-- TRACE_CONFIG_START. A write of 1 to CFG_CONTROL by `w`, or, where there is no writer, action 4 at the head of the handshake FIFO
(R71, R73, R127). -/
def execTraceConfigStart (d : Die) (w : Option Writer) (c : Fin 4) (s : State) : Result :=
  match w with
  | none => .next (match s.takeAction d 4 (some c.val) with
    | some (_, s) => (s.startCfg d c.val).1
    | none => s)
  | some w => .next (s.writeBy w false .operator fun s =>
      let (s, ok) := s.startCfg d c.val
      s.answer (if ok then stOk else stRefused))

/-- TRACE_CONFIG_STOP. A write of 2 to CFG_CONTROL by `w`, or, where there is no writer, action 5 at the head of the handshake FIFO
(R71, R73, R127). -/
def execTraceConfigStop (d : Die) (w : Option Writer) (c : Fin 4) (s : State) : Result :=
  match w with
  | none => .next (match s.takeAction d 5 (some c.val) with
    | some (_, s) => s.stopCfg d c.val
    | none => s)
  | some w => .next (s.writeBy w false .operator fun s => (s.stopCfg d c.val).answer stOk)

/-- PENNANT_MODE_WRITE. Refused unless every configuration is IDLE (R126). -/
def execPennantModeWrite (d : Die) (w : Writer) (value : Nat) (s : State) : Result :=
  .next (s.writeBy w false .operator fun s =>
    if 1 < value then s.answer stRange
    else if s.allIdle d then (s.wr (.staris d) O.PENNANT_MODE_3400 value).answer stOk
    else s.answer stRefused)

/-- SINK_SELECT_WRITE. Refused unless the unit is IDLE or FROZEN. Sink 1 reserves DMA channel 3 (R136, R429). -/
def execSinkSelectWrite (d : Die) (w : Writer) (value : Nat) (s : State) : Result :=
  .next (s.writeBy w false .operator fun s =>
    if 2 < value then s.answer stRange
    else if (s.tr d).unit == .idle || (s.tr d).unit == .frozen then
      ((s.wr (.staris d) O.SINK_SELECT_3450 value).dmaSettle (.staris d) 3).answer stOk
    else s.answer stRefused)

/-- SINK_RESET. Clears pointer, wrap, trigger state and SINK_FAULT and returns the unit to IDLE; refused unless the unit is
IDLE, FROZEN or FULL (R145, 0x3450:07). -/
def execSinkReset (d : Die) (w : Writer) (s : State) : Result :=
  let p := Part.staris d
  .next (s.writeBy w false .operator fun s =>
    if (s.tr d).unit == .running || (s.tr d).unit == .triggered then s.answer stRefused
    else
      let s := s.setTr d { s.tr d with unit := .idle, written := 0, post := none, trigAt := none, freezing := false }
      let s := [O.WRITE_PTR_3450, O.WRAPPED_3450, O.SINK_FAULT_3400, O.TRIG_STATUS_3460, O.TRIG_TIME_3460,
        O.TRIG_OFFSET_3460, O.TRIG_PRE_BYTES_3460, O.TRIG_ARM_3460, O.WORDS_WRITTEN_3400].foldl (fun s k => s.wr p k 0) s
      (s.wr p O.STAGE_PEAK_3440 (s.tr d).queue.length).answer stOk)

/-- R137: the sink that fills once is full. -/
def State.sinkFull (s : State) (d : Die) : State := s.discardTrace d .full

/-- The data of a granule of four trace words, the first in [63:0] (R118). -/
def tgranData (g : TGran) : Nat :=
  fld 0 64 (g.words.getD 0 0) + fld 64 64 (g.words.getD 1 0) + fld 128 64 (g.words.getD 2 0) + fld 192 64 (g.words.getD 3 0)

/-- The credit that the Staris holds for the trace channel beyond what already waits to be sent on it (R139, R169). -/
def State.traceCredit (s : State) (d : Die) : Bool :=
  let l := s.link false d
  let z := fun (_ : Nat) => 0
  let credit := (Tbl.get z l.peerBuf 3 + Tbl.get z l.credit 3 + 2 ^ 16 - Tbl.get z l.sent 3) % 2 ^ 16
  s.linkUp false d && decide ((Tbl.get (fun _ => []) l.txq 3).length < credit)

/-- The sink takes a granule now: sink 1 once trace holds DMA channel 3 (R136, R430), sink 2 while its slice is enabled, the link is
up and has credit (R139, R152). -/
def State.sinkTakes (s : State) (d : Die) : Bool :=
  match s.rd (.staris d) O.SINK_SELECT_3450 with
  | 0 => true
  | 1 => s.dmaState (.staris d) 3 == 3
  | _ => s.sinkBytes d != 0 && s.traceCredit d

/-- The granule goes to the sink at the write pointer (R136); none where it meets die memory of the secure world, which an NS unit
may not touch (R477, R478). -/
def State.sinkPut (s : State) (d : Die) (g : TGran) : Option State :=
  let p := Part.staris d
  let ptr := s.rd p O.WRITE_PTR_3450
  match s.rd p O.SINK_SELECT_3450 with
  | 0 => some (s.setTr d { s.tr d with buffer := Tbl.set (fun _ => {}) (s.tr d).buffer (ptr / 32) { data := tgranData g } })
  | 1 =>
    let a := s.rd p O.DIE_BASE_3450 + ptr
    if s.meetsSecure d a 32 then none
    else some ((s.setTr d { s.tr d with outstanding := (s.tr d).outstanding ++ [a] }).emit
      (.dieWrite d.val false a (tgranData g) false))
  | _ => some (s.send false d 3 [{ data := tgranData g }])

/-- The head granule `g` has been written and leaves the staging queue: the pointer and the counts move, and the capture freezes or
the sink is full (R137, R142, R143). -/
def State.sinkAdvance (s : State) (d : Die) (g : TGran) : State :=
  let p := Part.staris d
  let t := s.tr d
  let ptr := s.rd p O.WRITE_PTR_3450
  let trigAt := if g.trigger then some (32 * t.written, ptr) else t.trigAt
  let post := if g.trigger then some 32 else t.post.map (· + 32)
  let s := s.setTr d { t with queue := t.queue.drop 1, written := t.written + 1, trigAt := trigAt, post := post }
  let s := s.bump p O.WORDS_WRITTEN_3400 64 4
  let last := s.sinkBytes d ≤ ptr + 32
  let wraps := s.rd p O.SINK_WRAP_3450 = 1
  let s := if last ∧ wraps then (s.wr p O.WRITE_PTR_3450 0).wr p O.WRAPPED_3450 1 else s.wr p O.WRITE_PTR_3450 (ptr + 32)
  if (post.map fun n => decide (s.rd p O.TRIG_POST_3460 ≤ n)) = some true then
    if s.rd p O.SINK_SELECT_3450 = 1 then s.setTr d { s.tr d with freezing := true } else s.freezeTrace d
  else if last ∧ ¬wraps ∧ s.rd p O.SINK_SELECT_3450 ≠ 2 then s.sinkFull d
  else s

/-- A fault of DMA channel 3 halts trace writing (R138). -/
def State.traceFault (s : State) (d : Die) (code addr : Nat) : State :=
  (s.dmaUnitFault (.staris d) 3 code addr).wr (.staris d) O.SINK_FAULT_3400 1

/-- SINK_GRANULE_WRITE. The head granule of the staging queue, when it is whole and the sink takes it, leaves for the sink (R137,
R142). -/
def execSinkGranuleWrite (d : Die) (s : State) : Result :=
  let p := Part.staris d
  match (s.tr d).queue with
  | g :: _ =>
    if g.words.length < 4 ∨ s.rd p O.SINK_FAULT_3400 = 1 ∨ (s.tr d).freezing ∨ s.sinkTakes d = false then .next s
    else match s.sinkPut d g with
      | some s => .next (s.sinkAdvance d g)
      | none => .next (s.traceFault d 3 (s.rd p O.DIE_BASE_3450 + s.rd p O.WRITE_PTR_3450))
  | [] => .next s

/-- R138, R142: a write of Staris DMA channel 3 for sink 1 is acknowledged, or refused, which is a BUS fault (R439). With the last
one answered, a freeze that waited for it completes. -/
def State.traceDmaDone (s : State) (d : Die) (faulted : Bool) : State :=
  let t := s.tr d
  let s := s.setTr d { t with outstanding := t.outstanding.drop 1 }
  let s := if faulted then s.traceFault d 4 (t.outstanding.headD 0) else s
  if (s.tr d).freezing && (s.tr d).outstanding.isEmpty then (s.setTr d { s.tr d with freezing := false }).freezeTrace d
  else s

/-- TRIG_ARM. A write of TRIG_ARM arms (1) or disarms (0) the trigger unit (R140). -/
def execTrigArm (d : Die) (w : Writer) (value : Bool) (s : State) : Result :=
  .next (s.writeBy w false .operator fun s => (s.setArmed d value).answer stOk)

/-- TRIG_FORCE. A write of 1 triggers by software, CAUSE 2 (R140). -/
def execTrigForce (d : Die) (w : Writer) (s : State) : Result :=
  .next (s.writeBy w false .operator fun s => (s.trigger d 2 0).answer stOk)

/-- The HBM granule at which port `p`'s slice begins: the trace region stands above the working region of 4 GB (R25). -/
def State.sliceBase (s : State) (p : Die) : Nat := (4000000000 + s.rd .vager (O.SLICE_OFFSET_3590 p.val)) / 32

/-- TRACE_GRANULE_RX. Vager writes a granule from port `p` into its slice; a slice that does not wrap and becomes full tells
the Staris to enter FULL and discards what is still in flight (R139). -/
def execTraceGranuleRx (p : Die) (g : Nat) (poison : Bool) (s : State) : Result :=
  let i := p.val
  let size := s.rd .vager (O.SLICE_BYTES_3590 i)
  let at_ := s.rd .vager (O.SLICE_WPTR_3590 i)
  if size ≤ at_ then .next (s.bump .vager (O.SLICE_DISCARDED_3590 i) 32)
  else
    let s := if poison then s.countPort O.TRACE_POISON_5080 i else s
    let gr : Gran := { data := g % 2 ^ 256, poison := poison }
    let s := s.setHbm (s.sliceBase p + at_ / 32) gr
    let s := s.bump .vager (O.SLICE_GRANULES_3590 i) 64
    let last := size ≤ at_ + 32
    if last ∧ s.rd (.staris p) O.SINK_WRAP_3450 = 1 then
      .next ((s.wr .vager (O.SLICE_WPTR_3590 i) 0).wr .vager (O.SLICE_WRAPPED_3590 i) 1)
    else
      let s := s.wr .vager (O.SLICE_WPTR_3590 i) (at_ + 32)
      .next (if last then s.sendControl true p 0x08 0 [] else s)

/-- TRACE_FREEZE_NOTICE_RX. Vager notes the freeze of port `p`'s trace (R142). -/
def execTraceFreezeNoticeRx (p : Die) (s : State) : Result :=
  .next (s.wr .vager (O.SLICE_FROZEN_3590 p.val) 1)

/-- TRACE_CTL_RX. The Staris enters FULL on Vager's word (R139). -/
def execTraceCtlRx (d : Die) (s : State) : Result :=
  if (s.tr d).unit == .running || (s.tr d).unit == .triggered then .next (s.sinkFull d) else .next s

/-- The byte ranges of two slices meet. -/
def slicesMeet (o1 b1 o2 b2 : Nat) : Bool := b1 != 0 && b2 != 0 && decide (o1 < o2 + b2) && decide (o2 < o1 + b1)

/-- SLICE_CONFIG_WRITE. A slice's offset and size, refused where they break the placement of R152 or while the port's trace
runs on sink 2. -/
def execSliceConfigWrite (p : Die) (w : Writer) (offset : Nat) (bytes : Nat) (s : State) : Result :=
  let i := p.val
  .next (s.writeBy w false .operator fun s =>
    let busy := s.rd (.staris p) O.SINK_SELECT_3450 = 2 ∧ ((s.tr p).unit = .running ∨ (s.tr p).unit = .triggered)
    let meets := (List.range 16).any fun q => q != i &&
      slicesMeet offset bytes (s.rd .vager (O.SLICE_OFFSET_3590 q)) (s.rd .vager (O.SLICE_BYTES_3590 q))
    if offset % 4096 ≠ 0 ∨ bytes % 4096 ≠ 0 ∨ s.rd .vager O.TRACE_REGION_BYTES_3580 < offset + bytes ∨ meets ∨ busy then
      s.answer stRefused
    else ((s.wr .vager (O.SLICE_OFFSET_3590 i) offset).wr .vager (O.SLICE_BYTES_3590 i) bytes).answer stOk)

/-- SLICE_RESET. Clears a slice's pointer, wrap and frozen flags (R152). -/
def execSliceReset (p : Die) (w : Writer) (s : State) : Result :=
  let i := p.val
  .next (s.writeBy w false .operator fun s =>
    (((s.wr .vager (O.SLICE_WPTR_3590 i) 0).wr .vager (O.SLICE_WRAPPED_3590 i) 0).wr .vager (O.SLICE_FROZEN_3590 i) 0).answer
      stOk)

end Sys2Proof.Machine
end

