-- ==== Sys2Proof/Machine/Activity.lean ====
section
/-! DEFINITION. Machine/Activity.lean: what one edge or internal event does at a Staris: engine contexts (R82), the counters
(R83 to R86), energy activity (R388), the trace trigger (R140) and the waits of the Cleat sequencers (R111). -/

namespace Sys2Proof.Machine
open Sys2Proof

/-- The capture state of die `d`. -/
def State.cap (s : State) (d : Die) : Capture := (s.die d).cap

/-- The capture state of die `d` replaced. -/
def State.setCap (s : State) (d : Die) (c : Capture) : State := s.setDie d { s.die d with cap := c }

/-- The energy state of die `d`. -/
def State.en (s : State) (d : Die) : Energy := (s.die d).energy

/-- The energy state of die `d` replaced. -/
def State.setEn (s : State) (d : Die) (e : Energy) : State := s.setDie d { s.die d with energy := e }

/-! ### Counters -/

/-- Counter `n` of die `d`. -/
def State.ctr (s : State) (d : Die) (n : Nat) : Counter := Tbl.get (fun _ => {}) (s.cap d).counters n

/-- Counter `n` of die `d` replaced. -/
def State.setCtr (s : State) (d : Die) (n : Nat) (c : Counter) : State :=
  s.setCap d { s.cap d with counters := Tbl.set (fun _ => {}) (s.cap d).counters n c }

/-- Fields of a counter's configuration word (R83). -/
def cfgSource (w : Nat) : Nat := bits w 15 0
def cfgEdge (w : Nat) : Nat := bits w 28 27
def cfgQkind (w : Nat) : Nat := bits w 30 29
def cfgEnable (w : Nat) : Bool := bitAt w 31
def cfgQualifier (w : Nat) : Nat := bits w 63 32

/-- A configuration with QKIND 0 and ENABLE 1 (R86). -/
def cfgGlobal (w : Nat) : Bool := cfgEnable w && cfgQkind w == 0

/-- The value of a counter as R85 lays it out. -/
def counterEntry (c : Counter) : Nat := fld 63 1 (ofBool c.wrapped) + c.count % 2 ^ 48

/-- The context entry of an engine slot (R82, 0x3001:01). -/
def State.slotEntry (s : State) (d : Die) (slot : Nat) : Nat := s.elem (.staris d) O.ENGINE_CONTEXT_3001 8 slot

/-- The job epoch and energy context in force in a slot; those of an invalid entry are 0 (R461). -/
def State.slotContext (s : State) (d : Die) (slot : Nat) : Nat × Nat :=
  let e := s.slotEntry d slot
  if bitAt e 63 then (bits e 31 0, bits e 45 32) else (0, 0)

/-- R84: counter configuration `w` counts an edge of `src`. `ctx` is the context of the edge's slot; an internal source has
none. -/
def countsEdge (w src : Nat) (active : Bool) (ctx : Option (Nat × Nat)) : Bool :=
  cfgEnable w && cfgSource w == src
    && (match cfgEdge w with
        | 0 => active
        | 1 => !active
        | 2 => true
        | _ => false)
    && (match cfgQkind w, ctx with
        | 0, _ => true
        | 1, some (epoch, _) => cfgQualifier w == epoch
        | 2, some (_, ectx) => cfgQualifier w % 2 ^ 14 == ectx
        | _, _ => false)

/-- A counter takes one edge: 48 bits and the sticky WRAPPED (R85). -/
def Counter.inc (c : Counter) : Counter :=
  { c with count := (c.count + 1) % 2 ^ 48, wrapped := c.wrapped || c.count + 1 == 2 ^ 48 }

/-- A stream's source word (R101). -/
def SStream.kind (x : SStream) : Nat := bits x.source 31 28
def SStream.index (x : SStream) : Nat := bits x.source 15 0

/-- The stream samples counter `n`. -/
def SStream.onCounter (x : SStream) (n : Nat) : Bool := decide (x.kind < 2) && x.index == n

/-- Every stream on one of the counters named takes a change. -/
def markStreams (streams : Tbl SStream) (ns : List Nat) (f : SStream → SStream) : Tbl SStream :=
  streams.map fun e => (e.1, if ns.any fun n => e.2.onCounter n then f e.2 else e.2)

/-- R84: every counter that matches counts the edge; a stream on a counter that wraps notes it (R100). -/
def State.countEdge (s : State) (d : Die) (src : Nat) (active : Bool) (ctx : Option (Nat × Nat)) : State :=
  let c := s.cap d
  let hit := fun (e : Nat × Counter) => countsEdge e.2.cfg src active ctx
  let wrapping := (c.counters.filter fun e => hit e && e.2.count + 1 == 2 ^ 48).map Prod.fst
  s.setCap d { c with
    counters := c.counters.map fun e => (e.1, if hit e then e.2.inc else e.2)
    streams := markStreams c.streams wrapping fun x => { x with wrap := true } }

/-! ### Waits and triggers -/

/-- A wait of a Cleat sequencer on an edge of `src` has its edge (R111). -/
def State.edgeForWaits (s : State) (d : Die) (src : Nat) : State :=
  let c := s.cap d
  s.setCap d { c with seqs := c.seqs.map fun e =>
    (e.1, match e.2.wait with
      | .edge w _ => if w = src then { e.2 with edgeSeen := true } else e.2
      | _ => e.2) }

/-- R140: an active edge of the trigger's SOURCE triggers, CAUSE 0, with the SOURCE value. -/
def State.edgeForTrigger (s : State) (d : Die) (src : Nat) : State :=
  if s.rd (.staris d) O.TRIG_SOURCE_3460 = src then s.trigger d 0 src else s

/-- R84: one event of an internal source: an active edge with no engine slot. -/
def State.internalEvent (s : State) (d : Die) (src : Nat) : State :=
  ((s.countEdge d src true none).edgeForWaits d src).edgeForTrigger d src

/-! ### Energy activity -/

/-- R388: an active edge of input `i`, bound to `slot`, adds its weight to the (slot, context) pair; an edge that would open
a pair beyond 1,024 counts towards the pool. -/
def State.energyEdge (s : State) (d : Die) (i slot ectx : Nat) : State :=
  let w := s.ob (.staris d) O.INPUT_WEIGHT_6002 i
  let e := s.en d
  let k := slot * 2 ^ 14 + ectx
  if w = 0 then s
  else if (Tbl.find e.acts k).isSome ∨ e.acts.length < 1024 then
    s.setEn d { e with acts := Tbl.insert e.acts k ((Tbl.find e.acts k).getD 0 + w) }
  else (s.setEn d { e with surplus := Tbl.insert e.surplus slot ((Tbl.find e.surplus slot).getD 0 + w) }).bump
    (.staris d) O.PAIR_OVERFLOW_6004 32

/-- An edge of event input `i` reaches the counters, the waits, the trigger and the energy activity (R77, R82, R84). -/
def State.inputEdge (s : State) (d : Die) (i : Nat) (active : Bool) : State :=
  let slot := s.ob (.staris d) O.EVT_ENGINE_MAP_3000 i
  let ctx := s.slotContext d slot
  let s := s.countEdge d i active (some ctx)
  if active then ((s.edgeForWaits d i).edgeForTrigger d i).energyEdge d i slot ctx.2 else s

end Sys2Proof.Machine
end

