-- ==== Sys2Proof/Machine/Capture.lean ====
section
/-! DEFINITION. Machine/Capture.lean: what Staris gathers (chapter 03): event inputs, counters, the freeze, sensors and
converters, margining, streams and tensor dumps. -/

namespace Sys2Proof.Machine
open Sys2Proof

/-! ### Event inputs (R77 to R81) -/

/-- Input `i` is at its active level (R77). -/
def State.inputActive (s : State) (d : Die) (i : Nat) : Bool :=
  Tbl.get (fun _ => false) (s.cap d).level i != s.obit (.staris d) O.EVT_POLARITY_3000 i

/-- Streams on counters of source `src` note that it overran or was stuck (R100). -/
def State.markOverrun (s : State) (d : Die) (src : Nat) : State :=
  let c := s.cap d
  let ns := (c.counters.filter fun e => cfgSource e.2.cfg == src).map Prod.fst
  s.setCap d { c with streams := markStreams c.streams ns fun x => { x with ovr := true } }

/-- EVENT_EDGE. The line of `input` goes to `high`; `merged` says that a handshake was in progress and an edge was already
pending, so that this edge is merged into it (R78). Leaving its active level ends its being stuck (R80), which the streams on it note
(R100). -/
def execEventEdge (d : Die) (input : Fin 4096) (high : Bool) (merged : Bool) (s : State) : Result :=
  let i := input.val
  let p := Part.staris d
  let c := s.cap d
  let s := s.setCap d { c with level := Tbl.set (fun _ => false) c.level i high }
  let active := s.inputActive d i
  let s := if active ∨ s.obit p O.EVT_STUCK_NOW_3000 i = false then s
    else (s.markOverrun d i).setObit p O.EVT_STUCK_NOW_3000 i false
  if merged then .next ((s.setObit p O.EVT_OVERRUN_3000 i true).markOverrun d i)
  else .next (s.inputEdge d i active)

/-- POLARITY_WRITE. Inputs whose polarity changes are judged afresh, with no edge: the stale window restarts, so none of them
is stuck (R77). -/
def execPolarityWrite (d : Die) (w : Writer) (polarity : List Nat) (s : State) : Result :=
  let p := Part.staris d
  .next (s.writeBy w true .operator fun s =>
    if 512 < polarity.length then s.answer stLength
    else
      let old := s.bytesAt p O.EVT_POLARITY_3000 0 512
      let stuck := s.bytesAt p O.EVT_STUCK_NOW_3000 0 512
      let s := s.writeOctets p O.EVT_POLARITY_3000 512 polarity
      let new := s.bytesAt p O.EVT_POLARITY_3000 0 512
      let kept := (stuck.zip (old.zip new)).map fun x => Nat.land x.1 (255 - Nat.xor x.2.1 x.2.2)
      let freed := (List.range 4096).filter fun i =>
        bitAt (stuck.getD (i / 8) 0) (i % 8) && !bitAt (kept.getD (i / 8) 0) (i % 8)
      ((freed.foldl (fun s i => s.markOverrun d i) s).setBytes p O.EVT_STUCK_NOW_3000 0 kept).answer stOk)

/-- STALE_SCAN. The scanner finds the inputs `held` at their active level without an edge for longer than the window (R80):
both flags are set, and the first sticky flag of an input writes a record (R81). -/
def execStaleScan (d : Die) (held : List Nat) (s : State) : Result :=
  let p := Part.staris d
  .next ((held.filter fun i => decide (i < 4096) && s.inputActive d i).foldl (fun s i =>
    let seen := s.obit p O.EVT_STUCK_SEEN_3000 i
    let s := (s.setObit p O.EVT_STUCK_NOW_3000 i true).setObit p O.EVT_STUCK_SEEN_3000 i true
    let s := s.markOverrun d i
    if seen then s else s.recordS d 0x0011 i) s)

/-- Clear in an octet object the bits that are 1 in `mask`. -/
def State.clearBits (s : State) (p : Part) (k n : Nat) (mask : List Nat) : State :=
  s.setBytes p k 0 (((s.bytesAt p k 0 n).zip (mask ++ List.replicate n 0)).map fun x => Nat.land x.1 (255 - x.2 % 256))

/-- EVT_FLAGS_CLEAR. A 1 clears that input's sticky stuck and overrun flags (R80, 0x3000:06). -/
def execEvtFlagsClear (d : Die) (w : Writer) (mask : List Nat) (s : State) : Result :=
  let p := Part.staris d
  .next (s.writeBy w true .operator fun s =>
    if 512 < mask.length then s.answer stLength
    else ((s.clearBits p O.EVT_STUCK_SEEN_3000 512 mask).clearBits p O.EVT_OVERRUN_3000 512 mask).answer stOk)

/-! ### Counters (R83 to R87) -/

/-- A SOURCE that R83, R84 and R306 define. -/
def sourceDefined (x : Nat) : Bool :=
  decide (x < 0x1200) || (decide (0x1200 ≤ x) && decide (x ≤ 0x1207)) || (decide (0x1300 ≤ x) && decide (x ≤ 0x130B))

/-- R86: a counter that was global stays global until it is cleared; one in its reset state is not. -/
def Counter.global (c : Counter) : Bool :=
  cfgGlobal c.cfg || (c.wasGlobal && (cfgEnable c.cfg || cfgQkind c.cfg != 0 || c.count != 0 || c.wrapped))

/-- R86: streams on counter `n` that a non-secure writer enabled are disabled, and the fast ones leave the count (R102). -/
def State.disableNsStreams (s : State) (d : Die) (n : Nat) : State :=
  let c := s.cap d
  let hit := fun (x : SStream) => x.enable && x.byNs && x.onCounter n
  let fast := (c.streams.filter fun e => hit e.2 && decide (0 < e.2.period) && decide (e.2.period < 100)).length
  let s := s.setCap d { c with streams := c.streams.map fun e => (e.1, if hit e.2 then { e.2 with enable := false } else e.2) }
  s.wr (.staris d) O.STREAM_FAST_COUNT_3060 (s.rd (.staris d) O.STREAM_FAST_COUNT_3060 - fast)

/-- The configuration word with its reserved bits zero (R8, R83). -/
def cfgClean (v : Nat) : Nat := fld 32 32 (v / 2 ^ 32) + fld 27 5 (v / 2 ^ 27) + v % 2 ^ 16

/-- Bank `b` of SRAM array `a` of a Staris is spent: it was retired after the array's two spares (R451). -/
def State.bankSpent (s : State) (d : Die) (a b : Nat) : Bool :=
  (((s.die d).faults.retired.filter fun i => i / 256 == a).drop 2).contains (256 * a + b)

/-- CNT_CONFIG_WRITE. A counter's configuration word, under the rule of global counters, which is judged first (R83, R86). One whose bank
is spent is refused (R451). -/
def execCntConfigWrite (d : Die) (w : Writer) (n : Fin 65536) (value : Nat) (s : State) : Result :=
  .next (s.writeBy w false .host fun s =>
    let v := cfgClean value
    let c := s.ctr d n.val
    let q := cfgQkind v
    if w.secure = false ∧ (c.global ∨ cfgGlobal v) then s.answer stAccess
    else if s.bankSpent d 0 (n.val / 1024) then s.answer stRefused
    else if cfgEdge v = 3 ∨ q = 3 ∨ sourceDefined (cfgSource v) = false then s.answer stRefused
    else if (q = 0 ∧ cfgQualifier v ≠ 0) ∨ (q = 2 ∧ 2 ^ 14 ≤ cfgQualifier v) then s.answer stRange
    else
      let s := s.setCtr d n.val { c with cfg := v, wasGlobal := c.global }
      let s := if cfgGlobal v ∧ c.global = false then s.disableNsStreams d n.val else s
      s.answer stOk)

/-- CNT_CLEAR. A write of 1 clears COUNT and WRAPPED together (R86, R87). -/
def execCntClear (d : Die) (w : Writer) (n : Fin 65536) (s : State) : Result :=
  .next (s.writeBy w false .host fun s =>
    let c := s.ctr d n.val
    if w.secure = false ∧ c.global then s.answer stAccess
    else (s.setCtr d n.val { c with count := 0, wrapped := false, wasGlobal := false }).answer stOk)

/-! ### Freeze and the snapshot bank (R88 to R91) -/

/-- The four entries of the snapshot bank that granule `g` of a push carries (R197). -/
def snapGranule (snap : Tbl Nat) (g : Nat) : Nat :=
  let e := fun i => Tbl.get (fun _ => 0) snap (4 * g + i)
  fld 0 64 (e 0) + fld 64 64 (e 1) + fld 128 64 (e 2) + fld 192 64 (e 3)

/-- R91, R197: the bank goes to Vager as eight SNAPSHOT messages, PART 0 to 7. -/
def State.pushSnapshot (s : State) (d : Die) : State :=
  let p := Part.staris d
  let snap := (s.cap d).snap
  (List.range 8).foldl (fun s part =>
    let head := fld 128 64 (s.rd p O.SNAP_TIME_3020) + fld 96 32 (s.rd p O.SNAP_SEQ_3020) + fld 88 8 part
      + fld 85 3 (s.rd p O.SNAP_TIME_STATE_3020)
    s.sendControl false d 0x05 head ((List.range 2048).map fun g => snapGranule snap (2048 * part + g))) s

/-- A freeze at counter value `counter` in time state `tst` (R89 to R91). -/
def State.freezeCounters (s : State) (d : Die) (counter tst : Nat) : State :=
  let p := Part.staris d
  let held := s.rd p O.SNAP_STATE_3020 == 1
  let s := if held then s.bump p O.SNAP_MISSED_3020 32 else s
  if held && s.rd p O.SNAP_POLICY_3020 == 0 then s
  else
    let c := s.cap d
    let bank := (c.counters.map fun e => (e.1, counterEntry e.2)).filter fun e => e.2 != 0 && !s.bankSpent d 1 (e.1 / 1024)
    let s := s.setCap d { c with snap := bank }
    let s := ((s.wr p O.SNAP_STATE_3020 1).wr p O.SNAP_TIME_3020 counter).wr p O.SNAP_TIME_STATE_3020 tst
    let s := s.bump p O.SNAP_SEQ_3020 32
    if s.rd p O.SNAP_PUSH_3020 = 1 then s.pushSnapshot d else s

/-- FREEZE. A comparator's freeze, at the head of the handshake FIFO, reaches the snapshot bank (R73, R88 to R91). -/
def execFreeze (d : Die) (s : State) : Result :=
  match s.takeAction d 3 none with
  | some (a, s) => .next (s.freezeCounters d a.counter a.state)
  | none => .next s

/-- SNAP_RELEASE. The bank returns to EMPTY (R90). -/
def execSnapRelease (d : Die) (w : Writer) (s : State) : Result :=
  .next (s.writeBy w true .operator fun s => (s.wr (.staris d) O.SNAP_STATE_3020 0).answer stOk)

/-! ### Sensors and converters (R93 to R97) -/

/-- The mean of R95: the exact sum divided by the number, rounded to the nearest unit, a half rounding up. -/
def meanOf (sum n : Nat) : Nat := if n = 0 then 0 else (2 * sum + n) / (2 * n)

/-- The energy of one rail sample (R386). -/
def State.sampleEnergy (s : State) (d : Die) (r volts amps : Nat) : Nat :=
  let p := Part.staris d
  let vc := ((volts : Int) + toSigned 16 (s.elem p O.CAL_V_OFF_6001 2 r)).toNat
  let ic := ((amps : Int) + toSigned 16 (s.elem p O.CAL_I_OFF_6001 2 r)).toNat
  (vc * ic * s.elem p O.CAL_GAIN_6001 8 r + 2 ^ 31) / 2 ^ 32

/-- A rail sample joins the slice; the first after a re-phase counts as uncertain (R387). With LEDGER_ENABLE 0 nothing is
integrated (R407). -/
def State.addRailEnergy (s : State) (d : Die) (r e : Nat) : State :=
  let x := s.en d
  let n := if s.rd (.staris d) O.LEDGER_ENABLE_6000 = 0 then 0 else e
  let z : Nat → Nat := fun _ => 0
  let first := Tbl.get (fun _ => false) x.rephased r
  s.setEn d { x with
    railE := Tbl.set z x.railE r (Tbl.get z x.railE r + n)
    railPrev := Tbl.set z x.railPrev r e
    railErr := if first then x.railErr + n else x.railErr
    rephased := Tbl.set (fun _ => false) x.rephased r false }

/-- A rail's sample pair: its means (R95), the streams on it (R101) and its energy (R386). -/
def State.railSample (s : State) (d : Die) (r volts amps : Nat) : State :=
  let p := Part.staris d
  let c := s.cap d
  let h := Tbl.get (fun _ => {}) c.rails r
  let h : RailHist := { volts := (volts :: h.volts).take 1000, amps := (amps :: h.amps).take 1000 }
  let add := fun (x : SStream) =>
    if x.kind = 4 ∧ x.index = r then { x with sum := x.sum + volts, num := x.num + 1 }
    else if x.kind = 5 ∧ x.index = r then { x with sum := x.sum + amps, num := x.num + 1 }
    else x
  let s := s.setCap d { c with
    rails := Tbl.set (fun _ => {}) c.rails r h
    streams := c.streams.map fun e => (e.1, add e.2) }
  let s := s.setElem p O.RAIL_V_3030 2 r (meanOf h.volts.sum h.volts.length)
  let s := s.setElem p O.RAIL_I_3030 2 r (meanOf h.amps.sum h.amps.length)
  s.addRailEnergy d r (s.sampleEnergy d r volts amps)

/-- A result of sequence channel `ch` moves on the first running sequence that waits for it (R94). -/
def State.advanceSequence (s : State) (d : Die) (ch : Nat) : State :=
  let p := Part.staris d
  let pos := fun k => Tbl.get (fun _ => none) (s.cap d).seqPos k
  let waits := fun k => match pos k with
    | some i => s.ob p (O.SEQ_LIST_3040 k) i == ch
    | none => false
  match (List.range 4).find? waits with
  | none => s
  | some k =>
    let i := (pos k).getD 0 + 1
    let x : Option Nat := if i < s.rd p (O.SEQ_LEN_3040 k) then some i else none
    s.setCap d { s.cap d with seqPos := Tbl.set (fun _ => none) (s.cap d).seqPos k x }

/-- R98: the optical pass stores the margin of input `n` and ends with the last of them, or with its bit of MARGIN_ENABLE
cleared. -/
def State.opticalMargin (s : State) (d : Die) (n : Nat) (power : Int) : State :=
  let p := Part.staris d
  let c := s.cap d
  if bitAt (s.rd p O.MARGIN_ENABLE_3050) 2 = false then s.setCap d { c with oPass := [] }
  else if c.oPass.contains n then
    let m := power - toSigned 16 (s.elem p O.OPTICAL_FLOOR_3030 2 n)
    let s := s.setElem p O.O_MARGIN_3050 2 n (ofSigned 16 m)
    let rest := c.oPass.erase n
    let s := s.setCap d { c with oPass := rest }
    if rest.isEmpty then s.bump p O.MARGIN_RUNS_3050 32 else s
  else s

/-- CONVERTER_RESULT. A converter result crosses into the core (R93 to R95, R84, R98, R386). -/
def execConverterResult (d : Die) (r : ConverterSample) (s : State) : Result :=
  let p := Part.staris d
  match r with
  | .thermal n value =>
    let prev := toSigned 16 (s.elem p O.THERMAL_3030 2 n.val)
    let now := toSigned 16 (ofSigned 16 value)
    let limit := toSigned 32 (s.rd p O.THERMAL_LIMIT_3030)
    let s := (s.setElem p O.THERMAL_3030 2 n.val (ofSigned 16 value)).advanceSequence d n.val
    .next (if prev ≤ limit ∧ limit < now then s.internalEvent d (0x1180 + n.val) else s)
  | .optical n value =>
    let prev := toSigned 16 (s.elem p O.OPTICAL_3030 2 n.val)
    let now := toSigned 16 (ofSigned 16 value)
    let floor := toSigned 16 (s.elem p O.OPTICAL_FLOOR_3030 2 n.val)
    let s := (s.setElem p O.OPTICAL_3030 2 n.val (ofSigned 16 value)).advanceSequence d (0x40 + n.val)
    let s := s.opticalMargin d n.val now
    .next (if floor ≤ prev ∧ now < floor then s.internalEvent d (0x11C0 + n.val) else s)
  | .rail r volts amps => .next (s.railSample d r.val (volts % 2 ^ 12) (amps % 2 ^ 12))
  | .check channel _ => .next (s.advanceSequence d channel)

/-- Rail converter `c` is re-phased: its next sample falls on the tick of counter value `counter` (R94); the next sample of each of
its rails is the first after the re-phase (R387). -/
def State.rephase (s : State) (d : Die) (c counter : Nat) : State :=
  let s := s.setCap d { s.cap d with rephased := Tbl.set (fun _ => 0) (s.cap d).rephased c counter }
  (List.range 4).foldl (fun s i =>
    s.setEn d { s.en d with rephased := Tbl.set (fun _ => false) (s.en d).rephased (4 * c + i) true }) s

/-- RAIL_CONVERTER_REPHASE. A comparator's action 1 with ARG 0 to 3, at the head of the handshake FIFO: the converter's next sample
falls on the firing tick (R73, R94). -/
def execRailConverterRephase (d : Die) (c : Fin 4) (s : State) : Result :=
  match s.takeAction d 1 (some c.val) with
  | some (a, s) => .next (s.rephase d c.val a.counter)
  | none => .next s

/-- A converter sequence starts, or is ignored and counted while it runs (R94). An empty list has nothing to run. -/
def State.startSequence (s : State) (d : Die) (k : Nat) : State :=
  let p := Part.staris d
  match Tbl.get (fun _ => none) (s.cap d).seqPos k with
  | some _ => s.bump p (O.SEQ_OVERRUN_3040 k) 32
  | none =>
    if s.rd p (O.SEQ_LEN_3040 k) = 0 then s
    else s.setCap d { s.cap d with seqPos := Tbl.set (fun _ => none) (s.cap d).seqPos k (some 0) }

/-- CONVERTER_SEQUENCE_START. A comparator's action 1 with ARG 4 to 7, at the head of the handshake FIFO (R73, R94); `c` counts from
converter 4. -/
def execConverterSequenceStart (d : Die) (c : Fin 4) (s : State) : Result :=
  match s.takeAction d 1 (some (4 + c.val)) with
  | some (_, s) => .next (s.startSequence d c.val)
  | none => .next s

/-- SEQUENCE_PERIOD_RESTART. A sequence with a non-zero period restarts itself (R94). -/
def execSequencePeriodRestart (d : Die) (c : Fin 4) (s : State) : Result :=
  if s.rd (.staris d) (O.SEQ_PERIOD_3040 c.val) = 0 then .next s else .next (s.startSequence d c.val)

/-- Bit `i` of MARGIN_ENABLE (0x3050:01): 0 voltage, 1 timing, 2 optical. -/
def State.marginOn (s : State) (d : Die) (i : Nat) : Bool := bitAt (s.rd (.staris d) O.MARGIN_ENABLE_3050) i

/-- DROOP_TRIP. A droop comparator trips (R96), unless voltage margining has borrowed it (R99). -/
def execDroopTrip (d : Die) (n : Fin 128) (s : State) : Result :=
  let p := Part.staris d
  if s.marginOn d 0 && n.val % 8 == 7 then .next s
  else
    let c := s.cap d
    let s := s.setCap d { c with streams := c.streams.map fun e =>
      (e.1, if e.2.kind = 6 ∧ e.2.index = n.val then { e.2 with trips := e.2.trips + 1 } else e.2) }
    let s := (s.setObit p O.DROOP_SEEN_3031 n.val true).setElem p O.DROOP_LAST_3031 4 n.val (s.ns p)
    .next (s.internalEvent d (0x1000 + n.val))

/-- CANARY_FAIL. A canary path misses its capture (R97), unless it is being swept (R99). -/
def execCanaryFail (d : Die) (n : Fin 256) (s : State) : Result :=
  if (s.cap d).sweeping = some n.val then .next s
  else .next ((s.setObit (.staris d) O.CANARY_SEEN_3032 n.val true).internalEvent d (0x1080 + n.val))

/-- CANARY_CODE_WRITE. The alarm codes are set and the sticky flags cleared (R97, 0x3032:02). -/
def execCanaryCodeWrite (d : Die) (w : Writer) (codes : List Nat) (s : State) : Result :=
  let p := Part.staris d
  .next (s.writeBy w true .operator fun s =>
    if 256 < codes.length then s.answer stLength
    else ((s.writeOctets p O.CANARY_CODE_3032 256 codes).writeOctets p O.CANARY_SEEN_3032 32 []).answer stOk)

/-! ### In-service margining (R98, R99) -/

/-- MARGIN_PASS_START. A pass of one kind begins, while its bit is set and none of the kind is in progress (R98). -/
def execMarginPassStart (d : Die) (k : MarginKind) (s : State) : Result :=
  let c := s.cap d
  match k with
  | .voltage =>
    if s.marginOn d 0 && c.vSearch.isEmpty then
      .next (s.setCap d { c with vSearch := (List.range 16).map fun r => (r, { code := 128, tries := 0 }) })
    else .next s
  | .timing =>
    if s.marginOn d 1 && c.sweeping.isNone then
      .next (s.setCap d { c with sweeping := some 0, tSearch := { code := 128, tries := 0 } })
    else .next s
  | .optical =>
    if s.marginOn d 2 && c.oPass.isEmpty then .next (s.setCap d { c with oPass := List.range 32 }) else .next s

/-- One probe of a binary search over eight bits: the code under test stays where the probe holds, else its lowest bit set
falls; the next lower bit comes under test. -/
def MarginSearch.step (m : MarginSearch) (holds : Bool) : MarginSearch :=
  let b := 7 - m.tries
  let c := if holds then m.code else m.code - 2 ^ b
  { code := if b = 0 then c else c + 2 ^ (b - 1), tries := m.tries + 1 }

/-- MARGIN_DWELL_END. The borrowed comparator of rail `r` did or did not trip in the dwell. After eight dwells the code is the
deepest droop seen, in 0.5 mV, and the margin is stored (R98). -/
def execMarginDwellEnd (d : Die) (r : Fin 16) (tripped : Bool) (s : State) : Result :=
  let p := Part.staris d
  let c := s.cap d
  match Tbl.find c.vSearch r.val with
  | none => .next s
  | some m =>
    if s.marginOn d 0 then
      let m := m.step tripped
      if m.tries < 8 then .next (s.setCap d { c with vSearch := Tbl.insert c.vSearch r.val m })
      else
        let nominal : Int := s.elem p O.RAIL_NOMINAL_3050 2 r.val
        let vmin : Int := s.elem p O.VMIN_3050 2 r.val
        let s := s.setElem p O.V_MARGIN_3050 2 r.val (ofSigned 16 (nominal - 2 * (m.code : Int) - vmin))
        let rest := Tbl.erase c.vSearch r.val
        let s := s.setCap d { s.cap d with vSearch := rest }
        .next (if rest.isEmpty then s.bump p O.MARGIN_RUNS_3050 32 else s)
    else .next (s.setCap d { c with vSearch := [] })

/-- MARGIN_TIMING_PROBE_DONE. A probe of 64 launches on path `n` is complete; after eight, the largest passing code is stored
and the next path is swept (R98). -/
def execMarginTimingProbeDone (d : Die) (n : Fin 256) (passed : Bool) (s : State) : Result :=
  let p := Part.staris d
  let c := s.cap d
  if c.sweeping = some n.val then
    if s.marginOn d 1 then
      let m := c.tSearch.step passed
      if m.tries < 8 then .next (s.setCap d { c with tSearch := m })
      else
        let s := s.setOb p O.CANARY_MARGIN_3032 n.val m.code
        if n.val = 255 then
          .next ((s.setCap d { c with sweeping := none, tSearch := {} }).bump p O.MARGIN_RUNS_3050 32)
        else .next (s.setCap d { c with sweeping := some (n.val + 1), tSearch := { code := 128, tries := 0 } })
    else .next (s.setCap d { c with sweeping := none, tSearch := {} })
  else .next s

/-! ### Streams (R100 to R105) -/

/-- Stream `n` of die `d`. -/
def State.sstream (s : State) (d : Die) (n : Nat) : SStream := Tbl.get (fun _ => {}) (s.cap d).streams n

/-- Stream `n` of die `d` replaced. -/
def State.setSstream (s : State) (d : Die) (n : Nat) (x : SStream) : State :=
  s.setCap d { s.cap d with streams := Tbl.set (fun _ => {}) (s.cap d).streams n x }

/-- A PERIOD from 1 to 99 makes a stream fast (R102). -/
def fastPeriod (p : Nat) : Bool := decide (0 < p) && decide (p < 100)

/-- The die's counter in nanoseconds, not wrapped. -/
def State.nsLong (s : State) (d : Die) : Int := (s.die d).time.wraps * 2 ^ 32 + s.ns (.staris d)

/-- The first instant start + PHASE + k × PERIOD, for a whole k, at or after `now`, as counter nanoseconds (R103). -/
def nextSample (start now : Int) (phase period : Nat) : Nat :=
  let first := start + phase
  let step : Int := (period * 10000 : Nat)
  let k := if now ≤ first then 0 else (now - first + step - 1) / step
  ofSigned 32 (first + k * step)

/-- A stream is given its next instant (R103). -/
def State.schedule (s : State) (d : Die) (n : Nat) : State :=
  match (s.cap d).started with
  | none => s
  | some t =>
    let x := s.sstream d n
    s.setSstream d n { x with next := if x.period = 0 then 0 else nextSample t (s.nsLong d) x.phase x.period }

/-- R101: the first record after an enable or a source write counts from here. The trips of KIND 6 go on from the previous record
through an enable (log entry 148). -/
def State.rebase (s : State) (d : Die) (n : Nat) : State :=
  let x := s.sstream d n
  s.setSstream d n { x with prev := (s.ctr d x.index).count, sum := 0, num := 0 }

/-- The source of stream `x` is a counter of an event input that is stuck now (R80, R100). -/
def State.sourceStuck (s : State) (d : Die) (x : SStream) : Bool :=
  let src := cfgSource (s.ctr d x.index).cfg
  decide (x.kind < 2) && decide (src < 4096) && s.obit (.staris d) O.EVT_STUCK_NOW_3000 src

/-- R101: the source of a stream is a global counter (R86). -/
def State.globalSource (s : State) (d : Die) (source : Nat) : Bool :=
  decide (bits source 31 28 < 2) && (s.ctr d (bits source 15 0)).global

/-- STREAM_START_ARM. Arms or disarms the start of periodic sampling (R103). -/
def execStreamStartArm (d : Die) (w : Writer) (value : Bool) (s : State) : Result :=
  .next (s.writeBy w false .host fun s => (s.wr (.staris d) O.STREAM_START_ARM_3060 (ofBool value)).answer stOk)

/-- STREAM_START_REACHED. The counter reaches or passes the armed start: periodic sampling begins (R69, R103, R599). -/
def execStreamStartReached (d : Die) (s : State) : Result :=
  let p := Part.staris d
  let target := s.rd p O.STREAM_START_3060
  if s.rd p O.STREAM_START_ARM_3060 = 1 ∧ s.tstate p ≠ 5 ∧ reached (s.ns p) target then
    let start := s.nsLong d - (subMod 32 (s.ns p) target : Nat)
    let s := s.wr p O.STREAM_START_ARM_3060 0
    let c := s.cap d
    .next (s.setCap d { c with
      started := some start
      streams := c.streams.map fun e =>
        (e.1, { e.2 with next := if e.2.period = 0 then 0 else nextSample start start e.2.phase e.2.period }) })
  else .next s

/-- The VALUE of a record of stream `x` (R101), the stream after it, and a free value where the spec states no result: a mean
of no samples. -/
def State.sampleValue (s : State) (d : Die) (x : SStream) : Nat × SStream × State :=
  let p := Part.staris d
  let sx := fun v => ofSigned 64 (toSigned 16 v)
  match x.kind with
  | 0 => ((s.ctr d x.index).count, x, s)
  | 1 =>
    let c := (s.ctr d x.index).count
    (subMod 48 c x.prev, { x with prev := c }, s)
  | 2 => (sx (s.elem p O.THERMAL_3030 2 x.index), x, s)
  | 3 => (sx (s.elem p O.OPTICAL_3030 2 x.index), x, s)
  | 6 => (x.trips, { x with trips := 0 }, s)
  | 7 =>
    if x.index < 0x10 then (sx (s.elem p O.V_MARGIN_3050 2 x.index), x, s)
    else if x.index < 0x200 then (s.ob p O.CANARY_MARGIN_3032 (x.index - 0x100), x, s)
    else (sx (s.elem p O.O_MARGIN_3050 2 (x.index - 0x200)), x, s)
  | 8 => (x.emitted, x, s)
  | _ =>
    if x.num = 0 then
      let (v, s) := s.takeNat
      (v % 2 ^ 16, { x with sum := 0, num := 0 }, s)
    else (meanOf x.sum x.num, { x with sum := 0, num := 0 }, s)

/-- A record in the layout of R100. -/
def sampleRecord (value ns stream seq : Nat) (trig ovr locked wrap : Bool) (kind : Nat) : Nat :=
  fld 64 64 value + fld 32 32 ns + fld 16 16 stream + fld 8 8 seq + fld 7 1 (ofBool trig) + fld 6 1 (ofBool ovr)
    + fld 5 1 (ofBool locked) + fld 4 1 (ofBool wrap) + kind % 16

/-- A record of stream `n` is taken and joins the records that wait for credit, or is dropped and counted (R100, R105). -/
def State.takeRecord (s : State) (d : Die) (n : Nat) (trig : Bool) : State :=
  let p := Part.staris d
  let x := s.sstream d n
  let (v, x, s) := s.sampleValue d x
  let r := sampleRecord v (s.ns p) n x.seq trig (x.ovr || s.sourceStuck d x) (s.tstate p == 2) x.wrap x.kind
  let s := s.setSstream d n { x with seq := (x.seq + 1) % 256, ovr := false, wrap := false }
  let c := s.cap d
  if c.holding.length < 4096 then s.setCap d { c with holding := c.holding ++ [r] }
  else s.bump p O.STREAM_DROPPED_3060 32

/-- STREAM_PERIODIC_SAMPLE. The scheduled instant of stream `n` has come: a record, counted late beyond 2 µs (R103, R104). -/
def execStreamPeriodicSample (d : Die) (n : Fin 65536) (s : State) : Result :=
  let p := Part.staris d
  let x := s.sstream d n.val
  if x.enable ∧ x.period ≠ 0 ∧ (s.cap d).started.isSome ∧ s.tstate p ≠ 5 ∧ reached (s.ns p) x.next then
    let s := if 2000 < subMod 32 (s.ns p) x.next then s.bump p O.STREAM_LATE_3060 32 else s
    let s := s.setSstream d n.val { x with next := (x.next + 10000 * x.period) % 2 ^ 32 }
    .next (s.takeRecord d n.val false)
  else .next s

/-- STREAM_ENABLE_WRITE. Enables or disables a stream (R86, R102, R103). -/
def execStreamEnableWrite (d : Die) (w : Writer) (n : Fin 65536) (value : Bool) (s : State) : Result :=
  let p := Part.staris d
  .next (s.writeBy w false .host fun s =>
    let x := s.sstream d n.val
    let fast := s.rd p O.STREAM_FAST_COUNT_3060
    let counts := fastPeriod x.period && !x.enable
    if value then
      if w.secure = false ∧ s.globalSource d x.source then s.answer stAccess
      else if counts ∧ 4096 ≤ fast then s.answer stRefused
      else
        let s := s.setSstream d n.val { x with enable := true, byNs := !w.secure }
        let s := if counts then s.wr p O.STREAM_FAST_COUNT_3060 (fast + 1) else s
        ((s.rebase d n.val).schedule d n.val).answer stOk
    else
      let s := s.setSstream d n.val { x with enable := false }
      let s := if fastPeriod x.period && x.enable then s.wr p O.STREAM_FAST_COUNT_3060 (fast - 1) else s
      s.answer stOk)

/-- STREAM_SCHEDULE_WRITE. A stream's PERIOD and PHASE, each written or left as it stands (R102, R103). -/
def execStreamScheduleWrite (d : Die) (w : Writer) (n : Fin 65536) (period : Nat) (phase : Nat) (s : State) : Result :=
  let p := Part.staris d
  .next (s.writeBy w false .host fun s =>
    let x := s.sstream d n.val
    let fast := s.rd p O.STREAM_FAST_COUNT_3060
    let was := x.enable && fastPeriod x.period
    let is := x.enable && fastPeriod (period % 2 ^ 16)
    if is && !was && decide (4096 ≤ fast) then s.answer stRefused
    else
      let s := s.setSstream d n.val { x with period := period % 2 ^ 16, phase := phase % 2 ^ 32 }
      let s := s.wr p O.STREAM_FAST_COUNT_3060 (fast + ofBool is - ofBool was)
      (s.schedule d n.val).answer stOk)

/-- The INDEX of a source word is one that R101 gives its KIND. -/
def indexDefined (kind index : Nat) : Bool :=
  match kind with
  | 2 => decide (index < 64)
  | 3 => decide (index < 32)
  | 4 => decide (index < 16)
  | 5 => decide (index < 16)
  | 6 => decide (index < 128)
  | 7 => decide (index < 0x10) || (decide (0x100 ≤ index) && decide (index < 0x220))
  | _ => true

/-- STREAM_SOURCE_WRITE. A stream's source word: what the old source counted is no part of the new one's values (R101). -/
def execStreamSourceWrite (d : Die) (w : Writer) (n : Fin 65536) (value : Nat) (s : State) : Result :=
  .next (s.writeBy w false .host fun s =>
    let v := fld 28 4 (value / 2 ^ 28) + value % 2 ^ 16
    let x := s.sstream d n.val
    if 9 ≤ bits v 31 28 then s.answer stRefused
    else if indexDefined (bits v 31 28) (bits v 15 0) = false then s.answer stRange
    else if x.enable ∧ w.secure = false ∧ s.globalSource d v then s.answer stAccess
    else
      let s := s.setSstream d n.val { x with source := v, trips := 0 }
      (s.rebase d n.val).answer stOk)

/-! ### Tensor dumps (R106 to R109) -/

/-- Dump slot `n` of die `d`. -/
def State.dslot (s : State) (d : Die) (n : Nat) : DumpSlot := Tbl.get (fun _ => {}) (s.cap d).dumps n

/-- Dump slot `n` of die `d` replaced. -/
def State.setDslot (s : State) (d : Die) (n : Nat) (x : DumpSlot) : State :=
  s.setCap d { s.cap d with dumps := Tbl.set (fun _ => {}) (s.cap d).dumps n x }

/-- Bit `i` of DUMP_STATUS of slot `n` (0x3070+s:08). -/
def State.dumpFlag (s : State) (d : Die) (n i : Nat) (b : Bool) : State :=
  let k := O.DUMP_STATUS_3070 n
  s.wr (.staris d) k (setBit (s.rd (.staris d) k) i b)

/-- The slot is armed or not: ARM and STATUS[0] (R106, R107). DMA channel 1 is the dump's or not accordingly (R429). -/
def State.dumpArmed (s : State) (d : Die) (n : Nat) (b : Bool) : State :=
  ((s.wr (.staris d) (O.DUMP_ARM_3070 n) (ofBool b)).dumpFlag d n 0 b).dmaSettle (.staris d) 1

/-- DUMP_ARM. Arms a slot, with its status cleared, or disarms it; a copy in progress then ends short (R106, R109). A
non-secure arm with DUMP_EPOCH 0 is refused. -/
def execDumpArm (d : Die) (w : Writer) (n : Fin 16) (value : Bool) (s : State) : Result :=
  let p := Part.staris d
  let i := n.val
  .next (s.writeBy w false .host fun s =>
    let x := s.dslot d i
    if value then
      if w.secure = false ∧ s.rd p (O.DUMP_EPOCH_3070 i) = 0 then (s.dumpFlag d i 5 true).answer stRefused
      else
        let s := s.setDslot d i { x with triggered := false }
        let s := (s.wr p (O.DUMP_STATUS_3070 i) 0).wr p (O.DUMP_BYTES_3070 i) 0
        (s.dumpArmed d i true).answer stOk
    else
      let s := s.setDslot d i { x with triggered := false, copy := x.copy.map fun c => { c with aborting := true } }
      (s.dumpArmed d i false).answer stOk)

/-- Action 6 fires for slot `n`, armed in comparator mode (R106). -/
def State.triggerDump (s : State) (d : Die) (n : Nat) : State :=
  let x := s.dslot d n
  if s.rd (.staris d) (O.DUMP_ARM_3070 n) = 1 ∧ bitAt (s.rd (.staris d) (O.DUMP_MODE_3070 n)) 0 then
    s.setDslot d n { x with triggered := true }
  else s

/-- DUMP_TRIGGER. A comparator's action 6, at the head of the handshake FIFO, fires for the slot (R73, R106). -/
def execDumpTrigger (d : Die) (n : Fin 16) (s : State) : Result :=
  match s.takeAction d 6 (some n.val) with
  | some (_, s) => .next (s.triggerDump d n.val)
  | none => .next s

/-- A header or trailer granule of a dump (R109). -/
def dumpGranule (x : DumpCopy) (timeEnd length flags seq slot type : Nat) : Nat :=
  fld 224 32 x.tag + fld 192 32 x.step + fld 160 32 x.epoch + fld 128 32 timeEnd + fld 96 32 x.timeMatch
    + fld 64 32 length + fld 36 4 flags + fld 16 16 seq + fld 12 4 slot + type % 256

/-- A completed descriptor matches slot `n` (R106). -/
def State.dumpMatches (s : State) (d : Die) (n : Nat) (c : CdtWord) : Bool :=
  let p := Part.staris d
  let mode := s.rd p (O.DUMP_MODE_3070 n)
  let e := s.rd p (O.DUMP_EPOCH_3070 n)
  s.rd p (O.DUMP_ARM_3070 n) == 1 && (s.dslot d n).copy.isNone && c.tag != 0
    && c.tag == s.rd p (O.DUMP_TAG_3070 n) && (e == 0 || c.epoch == e)
    && (if bitAt mode 0 then (s.dslot d n).triggered else c.step == s.rd p (O.DUMP_STEP_3070 n))

/-- R107, R108, R478: slot `n` starts copying the range that the matched descriptor wrote. -/
def State.dumpStart (s : State) (d : Die) (n : Nat) (c : CdtWord) : State :=
  let p := Part.staris d
  let most := s.rd p (O.DUMP_MAX_BYTES_3070 n)
  let bytes := min c.bytes most
  let hold := bitAt (s.rd p (O.DUMP_MODE_3070 n)) 1
  let secret := s.meetsSecure d c.base c.bytes
  let x : DumpCopy :=
    { tag := c.tag, step := c.step, epoch := c.epoch, timeMatch := s.ns p, base := c.base, bytes := bytes, range := c.bytes,
      engine := c.slot, truncated := decide (most < c.bytes), hold := hold && !secret, held := hold && !secret,
      aborting := secret }
  let s := s.setDslot d n { triggered := false, copy := some x }
  let s := (s.dumpArmed d n false).dumpFlag d n 1 true
  if secret then s.dumpFlag d n 5 true
  else
    let s := if hold then s.emit (.dumpHold d.val true) else s
    s.emit (.scratchpadRead d.val c.base (granulesOf bytes))

/-- R108: no slot holds any more. -/
def State.dropHold (s : State) (d : Die) : State :=
  if (s.cap d).dumps.any fun e => (e.2.copy.map (·.held)).getD false then s else s.emit (.dumpHold d.val false)

/-- R108: a descriptor that starts writing the range that the matched one wrote, copied or not, before the copy ends tears it. -/
def State.tearDumps (s : State) (d : Die) (base bytes : Nat) : State :=
  let tear := fun (x : DumpCopy) =>
    if base < x.base + x.range ∧ x.base < base + bytes then { x with torn := true } else x
  s.setCap d { s.cap d with dumps := (s.cap d).dumps.map fun e => (e.1, { e.2 with copy := e.2.copy.map tear }) }

/-- The header, data and trailer granules of a finished copy of slot `i` (R107, R109). -/
def State.dumpMessage (s : State) (d : Die) (i : Nat) (x : DumpCopy) (data : List (Nat × Bool)) : List Gran :=
  let q := (s.cap d).dumpSeq
  let flags := fld 3 1 (ofBool x.torn) + fld 2 1 (ofBool x.truncated) + fld 1 1 (ofBool (x.hold && x.held))
    + ofBool x.aborting
  { data := dumpGranule x 0 data.length 0 q i 0x31 } :: (data.map fun g => { data := g.1 % 2 ^ 256, poison := g.2 })
    ++ [{ data := dumpGranule x (s.ns (.staris d)) data.length flags q i 0x32 }]

/-- Granules go to die memory from address `a` on through DMA channel 1, whose unit is NS (R477): how many have been written, which is
all of them unless one meets a secure range or is refused by the memory (`refused`), a fault of the channel (R439, R478). -/
def State.dumpWrite (s : State) (d : Die) (refused : Option Nat) : Nat → Nat → List Gran → State × Nat
  | _, n, [] => (s, n)
  | a, n, g :: gs =>
    if s.meetsSecure d a 32 then (s.dmaUnitFault (.staris d) 1 3 a, n)
    else if refused = some n then (s.dmaUnitFault (.staris d) 1 4 a, n)
    else (s.emit (.dieWrite d.val false a g.data g.poison)).dumpWrite d refused (a + 32) (n + 1) gs

/-- The message of slot `i` leaves on channel 4, or is written to die memory, by bit 2 of DUMP_MODE (R107); and how many of its
granules have left. -/
def State.dumpSend (s : State) (d : Die) (i : Nat) (gs : List Gran) (refused : Option Nat) : State × Nat :=
  let p := Part.staris d
  if bitAt (s.rd p (O.DUMP_MODE_3070 i)) 2 then s.dumpWrite d refused (s.rd p (O.DUMP_DEST_ADDR_3070 i)) 0 gs
  else (s.send false d 4 gs, gs.length)

/-- Slot `i` is done with a copy that carried `n` granules: its status, and its hold dropped (R106 to R109). A slot armed again while
its copy ran has matched nothing meanwhile and is disarmed now (log entry 149). -/
def State.dumpDone (s : State) (d : Die) (i : Nat) (x : DumpCopy) (n : Nat) : State :=
  let p := Part.staris d
  let q := (s.cap d).dumpSeq
  let s := s.setDslot d i {}
  let s := s.setCap d { s.cap d with dumpSeq := (q + 1) % 2 ^ 16 }
  let s := s.wr p (O.DUMP_BYTES_3070 i) (32 * n)
  let s := (s.dumpFlag d i 2 true).dumpFlag d i 3 x.torn
  let s := ((s.dumpFlag d i 4 x.truncated).dumpFlag d i 6 x.aborting).dumpArmed d i false
  if x.held then s.dropHold d else s

/-- The end of slot `i`'s copy waits while a software transfer keeps DMA channel 1 (R430). -/
def State.dumpWaits (s : State) (d : Die) (i : Nat) : Bool :=
  bitAt (s.rd (.staris d) (O.DUMP_MODE_3070 i)) 2 && s.dmaState (.staris d) 1 != 3

/-- DUMP_COPY_END. The copy of slot `n` ends with the granules `data`: header, data and trailer leave as one message, or go
to die memory once the dump holds DMA channel 1 (R107 to R109, R430). A fault of the channel ends the copy as ABORTED (log entry
150). -/
def execDumpCopyEnd (d : Die) (n : Fin 16) (data : List (Nat × Bool)) (refused : Option Nat) (s : State) : Result :=
  let i := n.val
  match (s.dslot d i).copy with
  | none => .next s
  | some x =>
    if s.dumpWaits d i then .next s
    else
      let data := if bitAt (s.rd (.staris d) (O.DUMP_STATUS_3070 i)) 5 then [] else data.take (granulesOf x.bytes)
      let (s, sent) := s.dumpSend d i (s.dumpMessage d i x data) refused
      if sent = data.length + 2 then .next (s.dumpDone d i x data.length)
      else .next (s.dumpDone d i { x with aborting := true } (min (sent - 1) data.length))

/-- DUMP_HOLD_EXPIRY. DUMP_HOLD_MAX has passed: the hold drops, the copy goes on (R108). -/
def execDumpHoldExpiry (d : Die) (n : Fin 16) (s : State) : Result :=
  let x := s.dslot d n.val
  match x.copy with
  | some c =>
    if c.held then .next ((s.setDslot d n.val { x with copy := some { c with held := false } }).dropHold d) else .next s
  | none => .next s

end Sys2Proof.Machine
end

