-- ==== Sys2Proof/Machine/Keccak.lean ====
section
/-! DEFINITION. Machine/Keccak.lean: KMAC128 (R289, R292), by NIST SP 800-185 and FIPS 202 (log entry 33). -/

namespace Sys2Proof.Machine

/-- The round constants of FIPS 202. -/
def keccakRC : List Nat :=
  [0x0000000000000001, 0x0000000000008082, 0x800000000000808A, 0x8000000080008000, 0x000000000000808B, 0x0000000080000001] ++ 
  [0x8000000080008081, 0x8000000000008009, 0x000000000000008A, 0x0000000000000088, 0x0000000080008009, 0x000000008000000A] ++ 
  [0x000000008000808B, 0x800000000000008B, 0x8000000000008089, 0x8000000000008003, 0x8000000000008002, 0x8000000000000080] ++ 
  [0x000000000000800A, 0x800000008000000A, 0x8000000080008081, 0x8000000000008080, 0x0000000080000001, 0x8000000080008008]

/-- The rotations of FIPS 202, lane (x, y) at 5y + x. -/
def keccakRot : List Nat := [0, 1, 62, 28, 27, 36, 44, 6, 55, 20, 3, 10, 43, 25, 39, 41, 45, 15, 21, 8, 18, 2, 61, 56, 14]

/-- A 64-bit lane rotated left. -/
def rotl64 (n x : Nat) : Nat := x % 2 ^ (64 - n) * 2 ^ n + x / 2 ^ (64 - n)

/-- One round of Keccak-f[1600]. -/
def keccakRound (a : List Nat) (rc : Nat) : List Nat :=
  let at5 := fun (l : List Nat) i => l.getD (i % 25) 0
  let c := (List.range 5).map fun x =>
    (List.range 5).foldl (fun z y => Nat.xor z (at5 a (5 * y + x))) 0
  let d := (List.range 5).map fun x => Nat.xor (c.getD ((x + 4) % 5) 0) (rotl64 1 (c.getD ((x + 1) % 5) 0))
  let t := (List.range 25).map fun i => Nat.xor (at5 a i) (d.getD (i % 5) 0)
  let b := (List.range 25).map fun i =>
    let x := i % 5
    let y := i / 5
    let s := 5 * x + (x + 3 * y) % 5
    rotl64 (keccakRot.getD s 0) (at5 t s)
  let e := (List.range 25).map fun i =>
    let x := i % 5
    let y := i / 5
    Nat.xor (at5 b i) (Nat.land (2 ^ 64 - 1 - at5 b (5 * y + (x + 1) % 5)) (at5 b (5 * y + (x + 2) % 5)))
  match e with
  | z :: r => Nat.xor z rc :: r
  | [] => []

/-- Keccak-f[1600]. -/
def keccakF (a : List Nat) : List Nat := keccakRC.foldl keccakRound a

/-- Blocks of 168 bytes absorbed, `n` of them. -/
def absorb : Nat → List Nat → List Nat → List Nat
  | 0, a, _ => a
  | n + 1, a, bs =>
    let lane := fun i => if i < 21 then ofBytes ((bs.drop (8 * i)).take 8) else 0
    absorb n (keccakF ((List.range 25).map fun i => Nat.xor (a.getD i 0) (lane i))) (bs.drop 168)

/-- left_encode of SP 800-185. -/
def leftEncode (x : Nat) : List Nat :=
  let n := max 1 ((Nat.log2 x) / 8 + 1)
  n :: toBytesBE n x

/-- right_encode of SP 800-185. -/
def rightEncode (x : Nat) : List Nat :=
  let n := max 1 ((Nat.log2 x) / 8 + 1)
  toBytesBE n x ++ [n]

/-- encode_string of SP 800-185. -/
def encodeString (s : List Nat) : List Nat := leftEncode (8 * s.length) ++ s

/-- bytepad of SP 800-185 at the rate of 168 bytes. -/
def bytepad (x : List Nat) : List Nat :=
  let z := leftEncode 168 ++ x
  z ++ List.replicate ((168 - z.length % 168) % 168) 0

/-- KMAC128 with 128 bits of output. -/
def kmac128 (key msg custom : List Nat) : List Nat :=
  let m := bytepad (encodeString [0x4B, 0x4D, 0x41, 0x43] ++ encodeString custom) ++ bytepad (encodeString key) ++ msg
    ++ rightEncode 128
  let fill := 168 - m.length % 168
  let p := m ++ (if fill = 1 then [0x84] else [0x04] ++ List.replicate (fill - 2) 0 ++ [0x80])
  ((absorb (p.length / 168) (List.replicate 25 0) p).take 2).flatMap (toBytes 8)

end Sys2Proof.Machine
end

