-- ==== Sys2Proof/Machine/Checks.lean ====
section
/-! DEFINITION. Machine/Checks.lean: block check values, contribution digests and poison (chapter 08). -/

namespace Sys2Proof.Machine
open Sys2Proof

/-- The digest tap of die `d`. -/
def State.ck (s : State) (d : Die) : Checks := (s.die d).checks

/-- The digest tap of die `d` replaced. -/
def State.setCk (s : State) (d : Die) (c : Checks) : State := s.setDie d { s.die d with checks := c }

/-- State of power domain `i` of a Staris (0x7C00:02). -/
def State.dieDomain (s : State) (d : Die) (i : Nat) : Nat := s.ob (.staris d) O.DOMAIN_STATE_7C00 i

/-! ### CRC-64 and fingerprints (R278, R285, R288, R289) -/

/-- Eight shifts of the CRC-64/ECMA-182 register. -/
def crcShift : Nat → Nat → Nat
  | 0, r => r
  | n + 1, r => crcShift n (if 2 ^ 63 ≤ r then Nat.xor (2 * r % 2 ^ 64) 0x42F0E1EBA9EA3693 else 2 * r)

/-- The check value of a block of bytes with tag `tag` (R278). -/
def crc64 (bs : List Nat) (tag : Nat) : Nat :=
  bs.foldl (fun r b => crcShift 8 (Nat.xor r (b % 256 * 2 ^ 56))) (tag % 2 ^ 32 * (2 ^ 32 + 1))

/-- The mask of a poisoned check value (R279). -/
def crcPoison : Nat := 0xA55AA55AA55AA55A

/-- The modulus of the fingerprints (R285). -/
def fpPrime : Nat := 2 ^ 61 - 1

/-- The bytes of an element of a linear format; 0 for any other (R283). -/
def fmtBytes (fmt : Nat) : Nat :=
  match fmt with
  | 1 => 1
  | 2 => 2
  | 3 => 4
  | 4 => 1
  | 5 => 2
  | 6 => 4
  | _ => 0

/-- FMT has a shared exponent (R283). -/
def fmtBfp (fmt : Nat) : Bool := decide (4 ≤ fmt) && decide (fmt ≤ 6)

/-- One evaluation of R285 over elements of `w` bytes, at point `r`: the sum and the next power. -/
def fingerprint (w r : Nat) : Nat → List Nat → Nat × Nat → Nat
  | 0, _, a => a.1
  | n + 1, bs, (sum, pw) =>
    let v := (toSigned (8 * w) (ofBytes (bs.take w)) % (fpPrime : Int)).toNat
    fingerprint w r n (bs.drop w) ((sum + v * pw) % fpPrime, pw * r % fpPrime)

/-! ### Reports (R304) -/

/-- The digest event granule (R304) without COUNT and EVENT. -/
def eventGranule (tag step epoch time detail comb slot count event : Nat) : Nat :=
  fld 224 32 tag + fld 192 32 step + fld 160 32 epoch + fld 128 32 time + fld 64 64 detail + fld 48 16 comb
    + fld 40 8 slot + fld 16 8 count + fld 8 8 event + 0x50

/-- A digest event report leaves as a FAULT message and is recorded (R304, R455, R537). -/
def State.sendDigestEvent (s : State) (d : Die) (g : Nat) : State :=
  let s := s.bump (.staris d) O.EVENTS_SENT_5030 32
  let s := s.recordS d 0x0021 (bits g 15 8) (bits g 255 160)
  s.sendControl false d 0x06 0 [g]

/-- DIGEST_EVENT_REPORT: the first event of a code is sent at once and opens a window; later ones wait in it (R304). -/
def State.digestEvent (s : State) (d : Die) (g : Nat) : State :=
  let c := s.ck d
  let code := bits g 15 8
  match Tbl.find c.windows code with
  | some (n, _) => s.setCk d { c with windows := Tbl.insert c.windows code (n + 1, g) }
  | none => (s.setCk d { c with windows := Tbl.insert c.windows code (0, g) }).sendDigestEvent d g

/-- COALESCE_WINDOW_END. The window of a code ends: its last event is reported with the number in COUNT (R304). -/
def execCoalesceWindowEnd (d : Die) (code : Nat) (s : State) : Result :=
  let c := s.ck d
  match Tbl.find c.windows code with
  | none => .next s
  | some (n, g) =>
    let s := s.setCk d { c with windows := Tbl.erase c.windows code }
    if n = 0 then .next s
    else .next ((s.bump (.staris d) O.EVENTS_COALESCED_5030 32 n).sendDigestEvent d (setFld g 16 8 (min n 255)))

/-- The verdict on a block (R295), and what its LATE flag brings (R296, R305). -/
def State.verdict (s : State) (d : Die) (side : Bool) (vseq code : Nat) (digest : Option Nat) (late : Bool) (g : Nat) : State :=
  let s := s.emit (.verdict d.val side vseq code digest)
  if late then
    let s := (s.bump (.staris d) O.VERDICT_LATE_5001 32).internalEvent d 0x130B
    s.digestEvent d (setFld (setFld (setFld g 8 8 7) 64 64 0) 16 8 0)
  else s

/-! ### Key slots (R291 to R294) -/

/-- The LOADED key slot that holds an epoch (R291). -/
def State.keySlot (s : State) (d : Die) (epoch : Nat) : Option Nat :=
  (List.range 4).find? fun k =>
    s.rd (.staris d) (O.KEY_STATE_5010 k) == 2 && s.rd (.staris d) (O.KEY_EPOCH_5010 k) == epoch

/-- A combine is abandoned (R298). -/
def State.abandon (s : State) (d : Die) (num : Nat) : State :=
  let c := s.ck d
  let s := s.setCk d { c with
    combs := c.combs.filter fun x => x.num != num
    abandoned := if c.abandoned.contains num then c.abandoned else c.abandoned ++ [num] }
  s.bump (.staris d) O.COMB_ABANDONED_5020 32

/-- Every combine that `p` picks is abandoned. -/
def State.abandonAll (s : State) (d : Die) (p : Comb → Bool) : State :=
  ((s.ck d).combs.filter p).foldl (fun s x => s.abandon d x.num) s

/-- COMBINE_TIMEOUT. A combine has stayed open beyond COMB_TIMEOUT (R298). -/
def execCombineTimeout (d : Die) (comb : Nat) (s : State) : Result :=
  .next (s.abandonAll d fun x => x.num == comb)

/-- KEY_EPOCH_WRITE. An epoch for an EMPTY slot that no other slot holds (R294). -/
def execKeyEpochWrite (d : Die) (w : Writer) (k : Fin 4) (value : Nat) (s : State) : Result :=
  let p := Part.staris d
  .next (s.writeBy w true .fleet fun s =>
    let dup := (List.range 4).any fun i => s.rd p (O.KEY_STATE_5010 i) != 0 && s.rd p (O.KEY_EPOCH_5010 i) == value
    if value = 0 ∨ 2 ^ 32 ≤ value then s.answer stRange
    else if s.rd p (O.KEY_STATE_5010 k.val) ≠ 0 ∨ dup then s.answer stRefused
    else ((s.wr p (O.KEY_EPOCH_5010 k.val) value).wr p (O.KEY_STATE_5010 k.val) 1).answer stOk)

/-- The ASCII bytes of "KORTAR-FP" (R292). -/
def nameFp : List Nat := [0x4B, 0x4F, 0x52, 0x54, 0x41, 0x52, 0x2D, 0x46, 0x50]

/-- The ASCII bytes of "KORTAR-BLK" (R289). -/
def nameBlk : List Nat := [0x4B, 0x4F, 0x52, 0x54, 0x41, 0x52, 0x2D, 0x42, 0x4C, 0x4B]

/-- KEY_VALUE_WRITE. The key of a slot in EPOCH_SET: its points are derived and the slot is LOADED (R292). -/
def execKeyValueWrite (d : Die) (w : Writer) (k : Fin 4) (value : List Nat) (s : State) : Result :=
  let p := Part.staris d
  .next (s.writeBy w true .fleet fun s =>
    if 32 < value.length then s.answer stLength
    else if s.rd p (O.KEY_STATE_5010 k.val) ≠ 1 then s.answer stRefused
    else
      let key := value ++ List.replicate (32 - value.length) 0
      let y := kmac128 key (toBytes 4 (s.rd p (O.KEY_EPOCH_5010 k.val))) nameFp
      let pt := fun i => ofBytes ((y.drop i).take 8) % (fpPrime - 3) + 2
      let c := s.ck d
      let s := s.setCk d { c with keys := Tbl.insert c.keys k.val { key := key, r0 := pt 0, r1 := pt 8 } }
      (s.wr p (O.KEY_STATE_5010 k.val) 2).answer stOk)

/-- KEY_CLEAR. Empties a slot: its combines are abandoned and its counts cleared (R294). -/
def execKeyClear (d : Die) (w : Writer) (k : Fin 4) (s : State) : Result :=
  let p := Part.staris d
  .next (s.writeBy w true .fleet fun s =>
    let s := s.abandonAll d fun x => x.slot == k.val
    let c := s.ck d
    let s := s.setCk d { c with keys := Tbl.erase c.keys k.val }
    let s := (s.wr p (O.KEY_EPOCH_5010 k.val) 0).wr p (O.KEY_STATE_5010 k.val) 0
    let s := [O.LIN_GOOD_5010 k.val, O.LIN_COMBINE_BAD_5010 k.val, O.LIN_RECV_BAD_5010 k.val, O.KMAC_GOOD_5010 k.val,
      O.KMAC_RECV_BAD_5010 k.val, O.UNCHECKED_5010 k.val, O.POISON_CONSUMED_5010 k.val,
      O.POISON_DROPPED_5010 k.val].foldl (fun s i => s.wr p i 0) s
    s.answer stOk)

/-- A block or combine left unchecked (R286, R306): counted in its key slot, if it has one, and source 0x1308 is raised. -/
def State.unchecked (s : State) (d : Die) (slot : Option Nat) : State :=
  let s := match slot with
    | some k => s.bump (.staris d) (O.UNCHECKED_5010 k) 32
    | none => s
  s.internalEvent d 0x1308

/-! ### The egress tap (R280, R281) -/

/-- EGRESS_BLOCK. A block leaves the die: its check value is verified (R281, R295 to R300). -/
def execEgressBlock (d : Die) (header : Nat) (data : List Nat) (poison late : Bool) (s : State) : Result :=
  let p := Part.staris d
  let tag := bits header 191 160
  let epoch := bits header 127 96
  let vseq := bits header 63 48
  let n := bits header 95 72
  let ev := fun detail => eventGranule tag (bits header 159 128) epoch (s.ns p) detail 0 (bits header 71 64) 0 1
  if s.dieDomain d 3 ≠ 0 then .next (s.emit (.verdict d.val false vseq 0 none))
  else if bitAt (s.rd p O.DT_ENABLE_5000) 0 = false then
    .next ((s.unchecked d (s.keySlot d epoch)).verdict d false vseq 0 none late (ev 0))
  else
    let c := crc64 (((data ++ List.replicate n 0).take n).flatMap (toBytes 32)) tag
    let check := bits header 255 192
    let s := if tag = 0 then s.bump p O.BLK_UNTAGGED_5001 64 else s
    if poison ∨ check = Nat.xor c crcPoison then
      .next (((s.bump p O.BLK_POISONED_5001 32).internalEvent d 0x1302).verdict d false vseq 3 none late (ev 0))
    else if check = c then
      .next (((s.bump p O.BLK_GOOD_5001 64).internalEvent d 0x1300).verdict d false vseq 1 none late (ev 0))
    else
      let s := (s.bump p O.BLK_BAD_5001 32).internalEvent d 0x1301
      let s := (s.setBytes p O.LAST_BAD_5001 0 (toBytes 32 (ev c))).digestEvent d (ev c)
      .next (s.verdict d false vseq 2 none late (ev 0))

/-! ### The collective sideband (R282 to R290) -/

/-- What a sideband block's header and data give (R282, R285, R288, R289). -/
structure SideBlock where
  header : Nat
  slot : Nat
  fmt : Nat
  role : Nat
  comb : Nat
  lin : Bool
  kmac : Bool
  h0 : Nat
  h1 : Nat
  digest : Nat
deriving DecidableEq, Repr

/-- A sideband block under key slot `k`. -/
def State.readSide (s : State) (d : Die) (k header : Nat) (data : List Nat) : SideBlock :=
  let key := Tbl.get (fun _ => {}) (s.ck d).keys k
  let fmt := bits header 115 112
  let w := fmtBytes fmt
  let n := bits header 159 140 + 1
  let lin := decide (0 < w)
  let kmac := fmt == 8 || fmt == 9
  let bytes := data.flatMap (toBytes 32)
  let h := fun r => if lin then fingerprint w r n bytes (0, r) else 0
  let h0 := h key.r0
  let h1 := h key.r1
  let clear := fld 140 116 (header / 2 ^ 140) + fld 112 12 (header / 2 ^ 112)
  let x := toBytes 32 clear ++ ((data ++ List.replicate n 0).take n).flatMap (toBytes 32)
  { header := header, slot := k, fmt := fmt, role := bits header 111 110, comb := bits header 139 124, lin := lin,
    kmac := kmac, h0 := h0, h1 := h1,
    digest := if lin then fld 124 4 fmt + fld 61 61 h1 + fld 0 61 h0
      else if kmac then ofBytes (kmac128 key.key x nameBlk) else 0 }

/-- The digest event granule of a sideband block. -/
def State.sideEvent (s : State) (d : Die) (b : SideBlock) (event detail : Nat) : Nat :=
  eventGranule (bits b.header 255 224) (bits b.header 223 192) (bits b.header 191 160) (s.ns (.staris d)) detail b.comb
    (bits b.header 107 100) 0 event

/-- The combine `num`, if it is open. -/
def State.combOf (s : State) (d : Die) (num : Nat) : Option Comb := (s.ck d).combs.find? fun x => x.num == num

/-- A combine replaced, or opened last. -/
def State.putComb (s : State) (d : Die) (x : Comb) : State :=
  let c := s.ck d
  let l := if c.combs.any fun y => y.num == x.num then c.combs.map fun y => if y.num = x.num then x else y
    else c.combs ++ [x]
  s.setCk d { c with combs := l }

/-- A combine leaves the table. -/
def State.freeComb (s : State) (d : Die) (num : Nat) : State :=
  let c := s.ck d
  s.setCk d { c with combs := c.combs.filter fun y => y.num != num }

/-- The combine of a member or output: open already, or opened by this member; the oldest of 256 makes room (R286, R298). -/
def State.openComb (s : State) (d : Die) (b : SideBlock) : Comb × State :=
  match s.combOf d b.comb with
  | some c => (c, s)
  | none =>
    let cs := (s.ck d).combs
    let s := match cs with
      | old :: _ => if 256 ≤ cs.length then s.abandon d old.num else s
      | [] => s
    let k := s.ck d
    let s := s.setCk d { k with abandoned := k.abandoned.erase b.comb }
    let c : Comb := { num := b.comb, slot := b.slot, nm1 := bits b.header 159 140 }
    (c, s.putComb d c)

/-- A member or output is judged against R287, and joins its combine. -/
def State.joinComb (s : State) (d : Die) (b : SideBlock) (c : Comb) : Comb × State :=
  let p := Part.staris d
  let exp := bits b.header 123 116
  let closes := decide (2 ≤ b.role)
  let mixed := match c.lin with
    | some l => l != b.lin
    | none => false
  let badFmt := !(b.lin || b.kmac) || mixed
  let badExp := match c.exp with
    | some e => (fmtBfp b.fmt || closes) && e != exp
    | none => false
  let badShape := bits b.header 159 140 != c.nm1 || badExp
  let s := if badFmt then s.bump p O.FMT_REFUSED_5020 32 else s
  let s := if badShape then s.bump p O.SHAPE_MISMATCH_5020 32 else s
  let c := { c with
    breach := c.breach || badFmt || badShape
    lin := if c.lin.isNone && (b.lin || b.kmac) then some b.lin else c.lin
    exp := if c.exp.isNone && fmtBfp b.fmt then some exp else c.exp
    engines := c.engines ++ [bits b.header 107 100] }
  (c, s.putComb d c)

/-- A SEND or RESULT with no open combine (R286). `gone` says that its combine was abandoned (R298). -/
def State.firstHop (s : State) (d : Die) (b : SideBlock) (poison gone late : Bool) : State :=
  let vs := bits b.header 99 84
  let late0 := s.sideEvent d b 7 0
  let give := fun (s : State) v dig => s.verdict d true vs v dig late late0
  let known := b.lin || b.kmac
  let s := if known then s else s.bump (.staris d) O.FMT_REFUSED_5020 32
  if poison then give s 3 none
  else if b.role = 3 ∨ gone then give (s.unchecked d (some b.slot)) 0 none
  else if known = false then give ((s.unchecked d (some b.slot)).digestEvent d (s.sideEvent d b 8 0)) 0 none
  else give s 1 (some b.digest)

/-- A CONTRIB or RECV member that is not poisoned (R286). -/
def State.sideMember (s : State) (d : Die) (b : SideBlock) (c : Comb) (attached : Nat) (late : Bool) : State :=
  let p := Part.staris d
  let k := b.slot
  let give := fun (s : State) v => s.verdict d true (bits b.header 99 84) v none late (s.sideEvent d b 7 0)
  if b.lin = false ∧ b.kmac = false then give (if b.role = 1 then s.unchecked d (some k) else s) 0
  else
    let c := if b.lin then { c with acc0 := (c.acc0 + b.h0) % fpPrime, acc1 := (c.acc1 + b.h1) % fpPrime } else c
    let s := s.putComb d c
    if b.role = 0 then give s 0
    else if b.lin then
      if attached % 2 ^ 122 = b.digest % 2 ^ 122 then give s 1
      else
        let s := ((s.putComb d { c with bad := true }).bump p (O.LIN_RECV_BAD_5010 k) 32).internalEvent d 0x1305
        give (s.digestEvent d (s.sideEvent d b 2 b.h0)) 2
    else if attached % 2 ^ 128 = b.digest then give ((s.bump p (O.KMAC_GOOD_5010 k) 64).internalEvent d 0x1306) 1
    else
      let s := ((s.putComb d { c with bad := true }).bump p (O.KMAC_RECV_BAD_5010 k) 32).internalEvent d 0x1307
      give (s.digestEvent d (s.sideEvent d b 4 (b.digest % 2 ^ 64))) 2

/-- The closing tests of a SEND or RESULT, in order of precedence (R286). -/
def State.sideClose (s : State) (d : Die) (b : SideBlock) (c : Comb) (late : Bool) : State :=
  let p := Part.staris d
  let k := b.slot
  let dig := if b.role = 2 ∧ (b.lin ∨ b.kmac) then some b.digest else none
  let s := s.freeComb d b.comb
  let give := fun (s : State) v => s.verdict d true (bits b.header 99 84) v dig late (s.sideEvent d b 7 0)
  if c.poison then
    let s := (s.bump p (O.POISON_DROPPED_5010 k) 32).internalEvent d 0x130A
    give (s.digestEvent d (s.sideEvent d b 5 0)) 2
  else if c.breach then
    give ((s.unchecked d (some k)).digestEvent d (s.sideEvent d b 8 0)) 0
  else if c.bad then give s 2
  else if b.kmac then give s (if b.role = 2 then 1 else 0)
  else if bitAt b.header 109 then give (s.unchecked d (some k)) 0
  else if c.acc0 = b.h0 ∧ c.acc1 = b.h1 then
    give ((s.bump p (O.LIN_GOOD_5010 k) 64).internalEvent d 0x1303) 1
  else
    let s := (s.bump p (O.LIN_COMBINE_BAD_5010 k) 32).internalEvent d 0x1304
    give (s.digestEvent d (s.sideEvent d b 3 b.h0)) 2

/-- SIDEBAND_BLOCK. A block on the digest sideband: fingerprinted or hashed, joined to its combine, and given its verdict
(R286). -/
def execSidebandBlock (d : Die) (header attached : Nat) (data : List Nat) (poison late : Bool) (s : State) : Result :=
  let p := Part.staris d
  let fmt := bits header 115 112
  let role := bits header 111 110
  let num := bits header 139 124
  let vs := bits header 99 84
  let closes := decide (2 ≤ role)
  let lin := decide (0 < fmtBytes fmt)
  let kmac := fmt == 8 || fmt == 9
  let en := s.rd p O.DT_ENABLE_5000
  let off := (lin && !bitAt en 1) || (kmac && !bitAt en 2)
  let slot := s.keySlot d (bits header 191 160)
  let pois := poison || bitAt header 108
  if s.dieDomain d 3 ≠ 0 then .next (s.emit (.verdict d.val true vs 0 none))
  else
    let none0 := s.readSide d (slot.getD 0) header []
    let late0 := s.sideEvent d none0 7 0
    let c := s.ck d
    let gone := closes && c.abandoned.contains num
    let s := if closes then s.setCk d { c with abandoned := c.abandoned.erase num } else s
    match slot with
    | none =>
      let s := s.bump p O.NO_KEY_5020 32
      .next ((if role = 0 then s else s.unchecked d none).verdict d true vs 0 none late late0)
    | some k =>
      if off then .next ((if role = 0 then s else s.unchecked d (some k)).verdict d true vs 0 none late late0)
      else
        let b := s.readSide d k header data
        if closes && (s.combOf d num).isNone then .next (s.firstHop d b pois gone late)
        else
          let (c, s) := s.openComb d b
          let (c, s) := s.joinComb d b c
          if pois then
            let s := if closes then s.freeComb d num else s.putComb d { c with poison := true }
            .next (s.verdict d true vs 3 none late late0)
          else if closes then .next (s.sideClose d b c late)
          else .next (s.sideMember d b c attached late)

/-- POISON_CONSUME_REPORT. An engine has read poison: the report is charged to the epoch in force in its slot (R301). -/
def execPoisonConsumeReport (d : Die) (slot tag step : Nat) (s : State) : Result :=
  let p := Part.staris d
  let epoch := (s.slotContext d slot).1
  let s := match (if epoch = 0 then none else s.keySlot d epoch) with
    | some k => s.bump p (O.POISON_CONSUMED_5010 k) 32
    | none => s
  .next ((s.internalEvent d 0x1309).digestEvent d (eventGranule tag step epoch (s.ns p) 0 0 slot 0 6))

/-! ### Vager's side (R302, R308) -/

/-- Severity of a digest event's report (R454). -/
def digestSeverity (event : Nat) : Nat := if event = 1 ∨ event = 3 ∨ event = 5 ∨ event = 6 then 4 else 0

/-- A digest event reaches Vager (R308, R455). -/
def State.digestEventRx (s : State) (p : Die) (g : Nat) : State :=
  let s := s.countPort O.DIGEST_EVENTS_5081 p.val
  let s := (s.setBytes .vager O.LAST_EVENT_5081 0 (toBytes 32 g)).wr .vager O.LAST_EVENT_PORT_5081 p.val
  s.report { code := 0x40 + bits g 15 8, severity := digestSeverity (bits g 15 8), die := p.val, dieValid := true,
             epoch := bits g 191 160, granule1 := g }

end Sys2Proof.Machine
end

