-- ==== Sys2Proof/Machine/Time.lean ====
section
/-! DEFINITION. Machine/Time.lean: Lanyard time (chapter 02): counters, time states, time words, PTP and 1PPS at Vager, and
the time comparators of a Staris. -/

namespace Sys2Proof.Machine
open Sys2Proof

/-! ### Accessors -/

/-- The time island of die `d`. -/
def State.st (s : State) (d : Die) : STime := (s.die d).time

/-- The time island of die `d` replaced. -/
def State.setSt (s : State) (d : Die) (t : STime) : State := s.setDie d { s.die d with time := t }

/-- Vager's time island replaced. -/
def State.setVt (s : State) (t : VTime) : State := s.setVager { s.vager with time := t }

/-- Vager's time-word state of port `p`. -/
def State.pt (s : State) (p : Die) : PortTime := Tbl.get (fun _ => {}) s.vager.ports p.val

/-- Vager's time-word state of port `p` replaced. -/
def State.setPt (s : State) (p : Die) (x : PortTime) : State :=
  s.setVager { s.vager with ports := Tbl.set (fun _ => {}) s.vager.ports p.val x }

/-- The dies, in ascending order. -/
def allDies : List Die := List.finRange 16

/-! ### Increments and ticks (R40, R41) -/

/-- The range of R41. -/
def incLo : Nat := 0xFFBE76C9
def incHi : Nat := 0x100418937
def incNominal : Nat := 0x100000000

/-- An increment within R41. -/
def incOk (x : Nat) : Bool := decide (incLo ≤ x) && decide (x ≤ incHi)

/-- A number brought into the range of R41. -/
def incClamp (x : Int) : Nat := (max (incLo : Int) (min (incHi : Int) x)).toNat

/-- One tick of Vager's time island (R40, R44): the counter advances, and a wrap of the nanosecond field increments the wrap
word. -/
def State.tickVager (s : State) : State :=
  if s.tstate .vager = 5 then s
  else
    let t := s.vager.time
    let c := t.counter + t.inc
    let s := s.setVager { s.vager with
      time := { t with counter := c % 2 ^ 64 }, ticks := s.vager.ticks + 1, hourTicks := s.vager.hourTicks + 1 }
    if 2 ^ 64 ≤ c then s.bump .vager O.WRAP_WORD_2100 32 else s

/-- One tick of a Staris's time island (R40). -/
def State.tickStaris (s : State) (d : Die) : State :=
  if s.tstate (.staris d) = 5 then s
  else
    let t := s.st d
    let c := t.counter + t.inc
    s.setDie d { s.die d with
      time := { t with counter := c % 2 ^ 64, wraps := if 2 ^ 64 ≤ c then t.wraps + 1 else t.wraps }, ticks := (s.die d).ticks + 1 }

/-- One tick of every time island, Vager's first: what passes while no command waits (log entry 1). -/
def State.tick (s : State) : State := allDies.foldl State.tickStaris s.tickVager

/-- The part's next tick carries its nanosecond field past 2^32. -/
def State.wrapsNext (s : State) (p : Part) : Bool :=
  match p with
  | .vager => decide (2 ^ 64 ≤ s.vager.time.counter + s.vager.time.inc)
  | .staris d => decide (2 ^ 64 ≤ (s.st d).counter + (s.st d).inc)

/-- COUNTER_WRAP. The tick at which the nanosecond field wraps (R39, R44). It has no effect where the next tick wraps
nothing. -/
def execCounterWrap (p : Part) (s : State) : Result :=
  if s.wrapsNext p then
    match p with
    | .vager => .next s.tickVager
    | .staris d => .next (s.tickStaris d)
  else .next s

/-- A Staris's increment, as the island uses it and as 0x2001:01 shows it. -/
def State.setInc (s : State) (d : Die) (x : Nat) : State :=
  (s.setSt d { s.st d with inc := x }).wr (.staris d) O.INCREMENT_2001 x

/-! ### Time states of a Staris (R603) -/

/-- A transition of a Staris's time state, recorded (R60). -/
def State.goStaris (s : State) (d : Die) (new : Nat) : State :=
  let p := Part.staris d
  let old := s.tstate p
  (s.wr p O.TIME_STATE_2002 new).recordS d 0x0010 (old + fld 8 8 new)

/-- R603: the mean of the INC values held, a half rounding down. -/
def incMean (l : List Nat) : Nat := (2 * l.sum + l.length - 1) / (2 * l.length)

/-- R603: a Staris enters HOLDOVER from ACQUIRING or LOCKED only, at its holdover increment. -/
def State.starisHoldover (s : State) (d : Die) : State :=
  let p := Part.staris d
  if s.tstate p = 1 ∨ s.tstate p = 2 then
    let s := (s.goStaris d 3).bump p O.HOLDOVER_ENTRIES_2002 32
    let l := (s.st d).incs
    if l.isEmpty then s else s.setInc d (incMean l)
  else s

/-- STARIS_HOLDOVER_TIMEOUT. No DOWN word has been accepted for HOLDOVER_TIMEOUT (R603). -/
def execStarisHoldoverTimeout (d : Die) (s : State) : Result := .next (s.starisHoldover d)

/-- INCREMENT_WRITE. Written only in MANUAL and within R41 (0x2001:01). -/
def execIncrementWrite (d : Die) (w : Writer) (value : Nat) (s : State) : Result :=
  .next (s.writeBy w true .fleet fun s =>
    let v := value % 2 ^ 40
    if s.tstate (.staris d) ≠ 4 then s.answer stRefused
    else if incOk v then (s.setInc d v).answer stOk
    else s.answer stRange)

/-- MODE_WRITE. 1 takes a Staris from UNSET to MANUAL and 0 takes it back, the counter and increment kept (R603). -/
def execModeWrite (d : Die) (w : Writer) (value : Nat) (s : State) : Result :=
  let p := Part.staris d
  .next (s.writeBy w true .fleet fun s =>
    if 1 < value then s.answer stRange
    else
      let s := s.wr p O.MODE_2001 value
      let s := if value = 1 ∧ s.tstate p = 0 then s.goStaris d 4
        else if value = 0 ∧ s.tstate p = 4 then (s.setSt d { s.st d with incs := [] }).goStaris d 0
        else s
      s.answer stOk)

/-! ### Time comparators (R69 to R74) -/

/-- Comparator `n` fires at this tick (R69, R73, R74): fire time and STATUS, disarm or re-arm, the internal event, and the
action to the strobe output or the handshake FIFO. -/
def State.fireCmp (s : State) (d : Die) (n : Nat) (late : Bool) : State :=
  let p := Part.staris d
  let t := s.st d
  let period := s.rd p (O.CMP_PERIOD_2010 n)
  let action := s.rd p (O.CMP_ACTION_2010 n)
  let arg := s.rd p (O.CMP_ARG_2010 n)
  let lost := decide (2 < action ∨ action = 1) && decide (32 ≤ t.fifo.length)
  let old := s.rd p (O.CMP_STATUS_2010 n)
  let armed := decide (period ≠ 0)
  let status := fld 5 3 (s.tstate p) + fld 4 1 (ofBool (bitAt old 4)) + fld 3 1 (ofBool (lost || bitAt old 3))
    + fld 2 1 (ofBool (late || bitAt old 2)) + 2 + ofBool armed
  let s := ((s.wr p (O.CMP_FIRE_TIME_2010 n) t.counter).wr p (O.CMP_STATUS_2010 n) status).wr p (O.CMP_ARM_2010 n) (ofBool armed)
  let s := if armed then s.wr p (O.CMP_TARGET_2010 n) ((s.rd p (O.CMP_TARGET_2010 n) + period) % 2 ^ 32) else s
  let s := if lost then s.bump p O.ACTIONS_LOST_2002 32
    else if action = 0 then s
    else if action = 2 then s.emit (.strobe d.val arg ((s.die d).ticks + 2))
    else s.setSt d { s.st d with fifo := t.fifo ++ [{ action := action, arg := arg, counter := t.counter, state := s.tstate p }] }
  s.internalEvent d (0x11E0 + n)

/-- Comparator `n` is armed and judged: no target is judged in FAULT (R599). -/
def State.cmpDue (s : State) (d : Die) (n ns : Nat) : Bool :=
  let p := Part.staris d
  s.rd p (O.CMP_ARM_2010 n) == 1 && s.tstate p != 5 && reached ns (s.rd p (O.CMP_TARGET_2010 n))

/-- COMPARATOR_FIRE. The counter reaches or passes the armed target (R69). It has no effect where the rule does not hold. -/
def execComparatorFire (d : Die) (n : Fin 32) (s : State) : Result :=
  if s.cmpDue d n.val (s.ns (.staris d)) then .next (s.fireCmp d n.val false) else .next s

/-- R71: a step of `delta` ns, and the armed comparators whose targets a forward step carries the counter past, lowest
number first. -/
def State.stepStaris (s : State) (d : Die) (delta : Int) : State :=
  let t := s.st d
  let before := s.ns (.staris d)
  let long : Int := (before : Int) + delta
  let ns := ofSigned 32 long
  let s := s.setSt d { t with
    counter := fld 32 32 ns + t.counter % 2 ^ 32
    wraps := t.wraps + long / 2 ^ 32 }
  let s := s.bump (.staris d) O.STEPS_APPLIED_2002 32
  if 0 < delta then
    let passed := (List.range 32).filter fun n => s.cmpDue d n ns && !s.cmpDue d n before
    passed.foldl (fun s n => s.fireCmp d n true) s
  else s

/-- STEP_WRITE. A signed step, applied in MANUAL and otherwise ignored and counted (R43). -/
def execStepWrite (d : Die) (w : Writer) (value : Nat) (s : State) : Result :=
  let p := Part.staris d
  .next (s.writeBy w true .fleet fun s =>
    if s.tstate p = 4 then (s.stepStaris d (toSigned 32 value)).answer stOk
    else (s.bump p O.TW_DISCARDED_2002 32).answer stOk)

/-- R70, R88: the arm of comparator `n` is refused. -/
def State.armRefused (s : State) (d : Die) (n : Nat) : Bool :=
  let p := Part.staris d
  let ahead := subMod 32 (s.rd p (O.CMP_TARGET_2010 n)) (s.ns p)
  let period := s.rd p (O.CMP_PERIOD_2010 n)
  decide (ahead < 1000) || decide (2147483647 < ahead) || (decide (period ≠ 0) && decide (period < 100))
    || (s.rd p (O.CMP_ACTION_2010 n) == 3 && decide (ahead < 2000000))

/-- R70: comparator `n` is armed, or STATUS shows that the arm was refused. -/
def State.armCmp (s : State) (d : Die) (n : Nat) : State :=
  let p := Part.staris d
  if s.armRefused d n then s.wr p (O.CMP_STATUS_2010 n) (setBit (s.rd p (O.CMP_STATUS_2010 n)) 4 true)
  else (s.wr p (O.CMP_ARM_2010 n) 1).wr p (O.CMP_STATUS_2010 n) 1

/-- R70: comparator `n` is disarmed. -/
def State.disarmCmp (s : State) (d : Die) (n : Nat) : State :=
  let p := Part.staris d
  (s.wr p (O.CMP_ARM_2010 n) 0).wr p (O.CMP_STATUS_2010 n) (setBit (s.rd p (O.CMP_STATUS_2010 n)) 0 false)

/-- R72: the world and role of comparator `n`. -/
def cmpSecure (n : Nat) : Bool := decide (16 ≤ n)
def cmpRole (n : Nat) : Role := if 16 ≤ n then .operator else .host

/-- CMP_ARM (R70, R72, R88). -/
def execCmpArm (d : Die) (n : Fin 32) (w : Writer) (s : State) : Result :=
  .next (s.writeBy w (cmpSecure n.val) (cmpRole n.val) fun s =>
    (s.armCmp d n.val).answer (if s.armRefused d n.val then stRefused else stOk))

/-- CMP_DISARM (R70, R72). -/
def execCmpDisarm (d : Die) (n : Fin 32) (w : Writer) (s : State) : Result :=
  .next (s.writeBy w (cmpSecure n.val) (cmpRole n.val) fun s => (s.disarmCmp d n.val).answer stOk)

/-! ### Time words (R55 to R58) -/

/-- A time word in the layout of R55. -/
def timeWord (tx echoRx : Nat) (step : Int) (inc echoSeq seq state : Nat) (lock holdover stepV incV : Bool) (type : Nat) : Nat :=
  fld 192 64 tx + fld 128 64 echoRx + fld 96 32 (ofSigned 32 step) + fld 48 40 inc + fld 32 16 echoSeq + fld 16 16 seq
    + fld 12 4 state + fld 11 1 (ofBool lock) + fld 10 1 (ofBool holdover) + fld 9 1 (ofBool stepV) + fld 8 1 (ofBool incV)
    + type % 256

/-- A time word waits at one end for granule 1 of the next flit (R176). -/
def State.sendTime (s : State) (v : Bool) (p : Die) (word : Nat) : State :=
  let l := s.link v p
  s.setLink v p { l with timeWords := l.timeWords ++ [word] }

/-- R55: one DOWN word to port `p`, where its link is up. TX_TIME is stamped when its flit leaves (R56). -/
def State.sendDown (s : State) (p : Die) : State :=
  if s.linkUp true p then
    let x := s.pt p
    let st := s.tstate .vager
    let word := timeWord (s.counter .vager) 0 (x.step.getD 0) (x.inc.getD 0) 0 x.downSeq st (x.lock && x.step.isNone)
      (st == 3 || st == 4) x.step.isSome x.inc.isSome 0x01
    let s := match x.inc with
      | some i => s.wr .vager (O.PORT_INC_SENT_2110 p.val) i
      | none => s
    let s := s.setPt p { x with
      downSeq := (x.downSeq + 1) % 2 ^ 16, step := none
      sent := x.sent ++ [{ seq := x.downSeq, tx := s.counter .vager, void := x.step.isSome }] }
    s.sendTime true p word
  else s

/-- DOWN words of port `p` that an ended exchange period finds unanswered are lost and counted (0x2110+p:05); those sent since
the last one have the next period. -/
def State.loseDown (s : State) (p : Die) : State :=
  let x := s.pt p
  let n := (x.sent.filter fun y => !y.fresh).length
  let s := s.setPt p { x with sent := (x.sent.filter fun y => y.fresh).map fun y => { y with fresh := false } }
  if n = 0 then s else s.bump .vager (O.PORT_LOST_2110 p.val) 32 n

/-- A word of the exchange period itself is lost when the next period ends. -/
def State.exchange (s : State) (p : Die) : State :=
  let s := (s.loseDown p).sendDown p
  let x := s.pt p
  s.setPt p { x with sent := x.sent.map fun y => { y with fresh := false } }

/-- TW_EXCHANGE_PERIOD. An exchange period has ended: one DOWN word to every port (R55). -/
def execTwExchangePeriod (s : State) : Result := .next (allDies.foldl State.exchange s)

/-- R58: LOCK on a port falls and stays 0 until LOCK_COUNT new exchanges agree. -/
def State.portUnlock (s : State) (p : Die) : State := s.setPt p { s.pt p with lock := false, agree := 0 }

/-- An accepted DOWN word moves a Staris by at most one transition, LOCK before STEP and INC (R53, R603). -/
def State.downTransition (s : State) (d : Die) (lock : Bool) : State :=
  match s.tstate (.staris d), lock with
  | 0, _ => s.goStaris d 1
  | 3, _ => s.goStaris d 1
  | 1, true => s.goStaris d 2
  | 2, false => s.goStaris d 1
  | _, _ => s

/-- The STEP of an accepted word: applied in ACQUIRING, otherwise ignored and counted (R43, R603). -/
def State.downStep (s : State) (d : Die) (stepV : Bool) (step : Int) : State :=
  if stepV then
    if s.tstate (.staris d) = 1 then s.stepStaris d step else s.bump (.staris d) O.TW_DISCARDED_2002 32
  else s

/-- The INC of an accepted word: applied in ACQUIRING and LOCKED, kept for the holdover mean in LOCKED, counted where it lies
outside R41 (R41, R603). -/
def State.downInc (s : State) (d : Die) (incV : Bool) (inc : Nat) : State :=
  let st := s.tstate (.staris d)
  if incV then
    if incOk inc then
      if st = 1 ∨ st = 2 then
        let s := s.setInc d inc
        if st = 2 then s.setSt d { s.st d with incs := (inc :: (s.st d).incs).take 16 } else s
      else s
    else s.bump (.staris d) O.TW_DISCARDED_2002 32
  else s

/-- R55: the UP word that answers DOWN word `seq` received at counter value `rx`. -/
def State.sendUp (s : State) (d : Die) (rx seq : Nat) : State :=
  let t := s.st d
  let word := timeWord t.counter rx 0 t.inc seq t.upSeq (s.tstate (.staris d)) false false false false 0x02
  (s.setSt d { t with upSeq := (t.upSeq + 1) % 2 ^ 16 }).sendTime false d word

/-- DOWN_WORD_RX. A Staris takes a time word: it is discarded and counted under R56, a poisoned one as a reserved word (R302), or accepted under R603 and answered
with an UP word. -/
def execDownWordRx (d : Die) (word : Nat) (poison : Bool) (s : State) : Result :=
  let p := Part.staris d
  let seq := bits word 31 16
  let follows := match (s.st d).lastSeq with
    | none => true
    | some l => decide (1 ≤ subMod 16 seq l) && decide (subMod 16 seq l ≤ 32767)
  if bits word 7 0 ≠ 1 ∨ poison ∨ follows = false then .next (s.bump p O.TW_DISCARDED_2002 32)
  else
    let rx := s.counter p
    let s := s.setSt d { s.st d with lastSeq := some seq }
    let s := (s.bump p O.TW_ACCEPTED_2002 32).wr p O.UPSTREAM_HOLDOVER_2002 (ofBool (bitAt word 10))
    let s := s.downTransition d (bitAt word 11)
    let s := s.downStep d (bitAt word 9) (toSigned 32 (bits word 127 96))
    let s := s.downInc d (bitAt word 8) (bits word 87 48)
    .next (s.sendUp d rx seq)

/-- `a` less `b` modulo 2^64, signed. -/
def signedDiff64 (a b : Nat) : Int := toSigned 64 (subMod 64 a b)

/-- The delay of an exchange in units of 2^-32 ns (R57). -/
def exchangeDelay (t1 t2 t3 t4 : Nat) : Int := (signedDiff64 t4 t1 - signedDiff64 t3 t2) / 2

/-- The offset of an exchange in units of 2^-32 ns, with asymmetry `a` in units of 2^-8 ns (R57). -/
def exchangeOffset (t1 t2 t3 t4 : Nat) (a : Int) : Int := signedDiff64 t2 t1 - exchangeDelay t1 t2 t3 t4 - a * 2 ^ 24

/-- An integer held within `w` signed bits, at the nearest end where it lies beyond them. -/
def satSigned (w : Nat) (x : Int) : Int := max (-(2 ^ (w - 1))) (min (2 ^ (w - 1) - 1) x)

/-- A number of 2^-`k` units in whole units, to the nearest. -/
def roundShift (k : Nat) (x : Int) : Int := (x + 2 ^ (k - 1)) / 2 ^ k

/-- R57, R58, R602: an exchange on port `p` with its measured offset and delay. The filter and the servo are free; what they
keep to is R602: the filtered offset is what PORT_OFFSET shows and the lock test judges, and INC stays within R41. A port that is
not judged locked is stepped where its measured offset exceeds STEP_THRESHOLD (R53). How the delay is shown in units of 2^-8 ns is
the model's choice (log entry 145). -/
def State.portExchange (s : State) (p : Die) (offset delay : Int) : State :=
  let i := p.val
  let s := s.bump .vager (O.PORT_EXCHANGES_2110 i) 32
  let (f, s) := s.takeInt
  let f := satSigned 32 f
  let s := s.wr .vager (O.PORT_OFFSET_2110 i) (ofSigned 32 f)
  let s := s.wr .vager (O.PORT_DELAY_2110 i) (min (roundShift 24 delay).toNat (2 ^ 32 - 1))
  let x := s.pt p
  let x := if f.natAbs ≤ 256 then
      { x with agree := x.agree + 1, lock := x.lock || decide (s.rd .vager O.LOCK_COUNT_2103 ≤ x.agree + 1) }
    else { x with agree := 0, lock := false }
  if x.lock = false ∧ s.rd .vager O.STEP_THRESHOLD_2103 * 2 ^ 32 < offset.natAbs then
    s.setPt p { x with agree := 0, step := some (-(roundShift 32 offset)) }
  else
    let (r, s) := s.takeInt
    s.setPt p { x with inc := some (incClamp r) }

/-- UP_WORD_RX. A poisoned word, or one of another TYPE, is discarded (R56, R302). The STATE of every other is shown. One that
answers an outstanding DOWN word ends its wait, and gives an exchange unless its STATE is 5 (R58) or a step lies between (log
entry 14). -/
def execUpWordRx (p : Die) (word : Nat) (poison : Bool) (s : State) : Result :=
  if bits word 7 0 ≠ 2 ∨ poison then .next s
  else
    let s := s.wr .vager (O.PORT_STARIS_STATE_2110 p.val) (bits word 15 12)
    let x := s.pt p
    match x.sent.find? fun y => y.seq == bits word 47 32 with
    | none => .next s
    | some y =>
      let s := s.setPt p { x with sent := x.sent.erase y }
      if bits word 15 12 = 5 ∨ y.void then .next s
      else
        let t2 := bits word 191 128
        let t3 := bits word 255 192
        let t4 := s.counter .vager
        let a := toSigned 32 (s.rd .vager (O.PORT_ASYMMETRY_2110 p.val))
        .next (s.portExchange p (exchangeOffset y.tx t2 t3 t4 a) (exchangeDelay y.tx t2 t3 t4))

/-! ### Vager's time states and servo (R51 to R54, R602) -/

/-- Vager's time state is one in which time is valid (R536). -/
def vagerValid (st : Nat) : Bool := timeValid .vager st

/-- R491: sessions set up without a check of their certificates' validity periods are checked, and closed where they lie
outside them. -/
def State.checkSessions (s : State) : State :=
  let now := s.extNow / 10 ^ 9
  let s := s.closeSessions fun x => x.unchecked && !(decide (x.notBefore ≤ now) && decide (now ≤ x.notAfter))
  s.setVager { s.vager with sessions := s.vager.sessions.map fun x => { x with unchecked := false } }

/-- A transition of Vager's time state, recorded with the cause of an entry to HOLDOVER (R60). -/
def State.goVager (s : State) (new cause : Nat) : State :=
  let old := s.tstate .vager
  if old = new then s
  else
    let t := s.vager.time
    let s := s.setVt { t with lockRun := 0, inc := if new = 3 then t.rate else t.inc }
    let s := s.wr .vager O.TIME_STATE_2101 new
    let s := if new = 3 then s.wr .vager O.HOLDOVER_SINCE_2101 s.extNow else s
    let s := s.recordV 0x0010 (old + fld 8 8 new + (if new = 3 then fld 16 8 cause else 0))
    if vagerValid new && !vagerValid old then s.checkSessions else s

/-- A job epoch is open on the tray: some context is OPEN (R53, R218). -/
def State.epochOpen (s : State) : Bool := (List.range 64).any fun x => s.rd .vager (O.CTX_STATE_4100 x) == 2

/-- Vager's extended time becomes `ext`: wrap word and counter (R44, R53). -/
def State.setExt (s : State) (ext : Nat) : State :=
  let t := s.vager.time
  (s.setVt { t with counter := fld 32 32 ext + t.counter % 2 ^ 32 }).wr .vager O.WRAP_WORD_2100 (ext / 2 ^ 32 % 2 ^ 32)

/-- R53: Vager steps its extended time by `delta` ns and in the same round sends every port a DOWN word with LOCK 0 and an
equal step; a port step that waits is added to it. A port whose link is down is sent none. -/
def State.vagerStep (s : State) (delta : Int) : State :=
  let s := s.setExt (ofSigned 64 ((s.extNow : Int) + delta))
  let s := s.setVt { s.vager.time with lockRun := 0 }
  let s := s.bump .vager O.STEPS_APPLIED_2101 32
  allDies.foldl (fun s p =>
    let x := s.pt p
    let step := if s.linkUp true p then some (x.step.getD 0 + delta) else none
    (s.setPt p { x with lock := false, agree := 0, sent := x.sent.map fun y => { y with void := true }, step := step }).sendDown p) s

/-- R52: the current grandmaster has been qualified. -/
def State.gmQualified (s : State) : Bool :=
  s.vager.time.gm.isSome && decide (s.rd .vager O.ANNOUNCE_TIMEOUT_2102 ≤ s.vager.time.annCount)

/-- From UNSET or HOLDOVER, Vager goes to ACQUIRING when its source qualifies (the Vager state table). -/
def State.sourceQualifies (s : State) : State :=
  if s.tstate .vager = 0 ∨ s.tstate .vager = 3 then s.goVager 1 0 else s

/-- R52: the source is lost, for the given cause: HOLDOVER from ACQUIRING and LOCKED. -/
def State.sourceLost (s : State) (cause : Nat) : State :=
  if s.tstate .vager = 1 ∨ s.tstate .vager = 2 then s.goVager 3 cause else s

/-- R53, R602: the servo takes a measured offset, in units of 2^-16 ns. It steps in ACQUIRING with no epoch open beyond
STEP_THRESHOLD. Otherwise its filter and frequency term are free; the increment stays within MAX_SLEW of the rate term and
within R41, and LOCK_COUNT filtered offsets within LOCK_THRESHOLD lock it. -/
def State.servo (s : State) (offset : Int) : State :=
  let st := s.tstate .vager
  if st = 1 ∧ s.rd .vager O.STEP_THRESHOLD_2103 * 2 ^ 16 < offset.natAbs ∧ s.epochOpen = false then
    s.vagerStep (-(roundShift 16 offset))
  else if st = 1 ∨ st = 2 then
    let (f, s) := s.takeInt
    let (r, s) := s.takeInt
    let (c, s) := s.takeInt
    let f := satSigned 64 f
    let rate := incClamp r
    let slew : Int := (rate * s.rd .vager O.MAX_SLEW_2103 / 10 ^ 9 : Nat)
    let inc := incClamp (max ((rate : Int) - slew) (min ((rate : Int) + slew) c))
    let run := if f.natAbs ≤ s.rd .vager O.LOCK_THRESHOLD_2103 * 2 ^ 16 then s.vager.time.lockRun + 1 else 0
    let s := s.setVt { s.vager.time with rate := rate, inc := inc, lockRun := run }
    let s := s.wr .vager O.OFFSET_FROM_MASTER_2101 (ofSigned 64 f)
    if st = 1 ∧ s.rd .vager O.LOCK_COUNT_2103 ≤ run then s.goVager 2 0 else s
  else s

/-! ### PTP (R47 to R52) -/

/-- Dataset `a` is better than `b` by the fields of the default dataset, in their order (R47, IEEE 1588-2019). -/
def betterSet : List Nat → List Nat → Bool
  | a :: as, b :: bs => decide (a < b) || (a == b && betterSet as bs)
  | _, _ => false

/-- The fields that the best master clock algorithm compares, in order. -/
def setFields (d : PtpDataset) : List Nat :=
  [d.priority1, d.clockClass, d.accuracy, d.variance, d.priority2, d.identity, d.stepsRemoved]

/-- Vager's own dataset (R50), where it may become master. Accuracy and variance are those of an unknown clock. -/
def State.ownFields (s : State) : List Nat :=
  [s.rd .vager O.PRIORITY1_2102, s.rd .vager O.CLOCK_CLASS_2102, 0xFE, 0xFFFF, s.rd .vager O.PRIORITY2_2102]

/-- The nanoseconds of `n` intervals of 2^`log` seconds (R52). -/
def intervalNs (log : Int) (n : Nat) : Nat :=
  if 0 ≤ log then n * 10 ^ 9 * 2 ^ log.toNat else n * 10 ^ 9 / 2 ^ (-log).toNat

/-- R52: no Announce has come from the current grandmaster for announceReceiptTimeout intervals. -/
def State.announceLate (s : State) : Bool :=
  let t := s.vager.time
  t.gm.isSome && decide (t.annAt + intervalNs (t.annLog.getD 0) (s.rd .vager O.ANNOUNCE_TIMEOUT_2102) ≤ s.vager.ticks)

/-- R52: no Sync has come from the current grandmaster for four sync intervals. -/
def State.syncLate (s : State) : Bool :=
  let t := s.vager.time
  let log := t.syncLog.getD (toSigned 32 (s.rd .vager O.LOG_SYNC_INTERVAL_2102))
  t.gm.isSome && decide (t.syncAt + intervalNs log 4 ≤ s.vager.ticks)

/-- R52: the cause of an entry to HOLDOVER is the first of the three cases that holds; `other` is the cause where neither timeout
does. -/
def State.lossCause (s : State) (other : Nat) : Nat := if s.announceLate then 1 else if s.syncLate then 2 else other

/-- The grandmaster is now `id`, none for Vager itself: one that differs from the last is counted (0x2101:08). -/
def State.seeGm (s : State) (id : Option Nat) : State :=
  let old := s.vager.time.lastGm
  let s := s.setVt { s.vager.time with lastGm := some id }
  if old.isSome ∧ old ≠ some id then s.bump .vager O.GM_CHANGES_2101 32 else s

/-- The grandmaster becomes `x`: 0x2101:04 shows its clockIdentity in the byte order of IEEE 1588 (R10). -/
def State.takeGm (s : State) (x : PtpDataset) (log : Int) : State :=
  let s := s.setVt { s.vager.time with
    gm := some x, annCount := 1, annLog := some log, syncLog := none, annAt := s.vager.ticks, syncAt := s.vager.ticks, ptp := {}
    port := .uncalibrated }
  (s.seeGm (some x.identity)).setBytes .vager O.GM_IDENTITY_2101 0 (toBytes 8 x.identity).reverse

/-- The port becomes master and announces Vager's dataset (R50). GM_IDENTITY stays as it was (log entry 146). -/
def State.becomeMaster (s : State) : State :=
  let s := s.setVt { s.vager.time with
    gm := none, annCount := 0, annLog := none, syncLog := none, ptp := {}, port := .master }
  (s.seeGm none).emit (.ptpAnnounce s.ownFields)

/-- An Announce (R47, R52): from the current grandmaster it counts towards qualification; a better clock replaces it, a
change of grandmaster; where Vager may be master and its own dataset is better, the port becomes master. -/
def State.announce (s : State) (x : PtpDataset) (log : Int) : State :=
  let t := s.vager.time
  let cause := s.lossCause 3
  if s.rd .vager O.SLAVE_ONLY_2102 = 0 ∧ betterSet s.ownFields (setFields x) then
    if (t.gm.map (·.identity)) = some x.identity then s.becomeMaster.sourceLost cause
    else if t.gm.isNone ∧ t.port ≠ .master then s.becomeMaster
    else s
  else match t.gm with
    | none => s.takeGm x log
    | some g =>
      if g.identity = x.identity then
        let s := s.setVt { t with gm := some x, annCount := t.annCount + 1, annLog := some log, annAt := s.vager.ticks }
        if s.gmQualified ∧ s.rd .vager O.SOURCE_2101 < 2 then s.sourceQualifies else s
      else if betterSet (setFields x) (setFields g) then (s.takeGm x log).sourceLost cause
      else s

/-- R44: the wrap word that makes the extended time agree with the grandmaster's time `now` in ns. -/
def State.loadWrap (s : State) (now : Int) : State :=
  let ext := ofSigned 64 (now + signedDiff32 (s.ns .vager) (ofSigned 32 now))
  s.wr .vager O.WRAP_WORD_2100 (ext / 2 ^ 32)

/-- The servo takes an offset, and where it locks, the wrap word is loaded from the grandmaster's time `now` (R44, R53). -/
def State.servoFrom (s : State) (offset now : Int) : State :=
  let old := s.tstate .vager
  let s := s.servo offset
  if old = 1 ∧ s.tstate .vager = 2 then (s.loadWrap now).setVt { (s.loadWrap now).vager.time with port := .slave } else s

/-- A Sync of the grandmaster is complete: it left at `t1` and came at `t2`, in units of 2^-16 ns. Where the path delay is known and
the grandmaster has qualified, the servo of source 0 takes the offset; source 1 takes the seconds (R44, R51, R53). -/
def State.ptpSample (s : State) (t1 t2 : Int) : State :=
  let m := { s.vager.time.ptp with sync := none, pair := some (t1, t2) }
  match m.path with
  | none => s.setVt { s.vager.time with ptp := m }
  | some delay =>
    let now := roundShift 16 (t1 + delay)
    let s := s.setVt { s.vager.time with ptp := { m with now := some (now, s.vager.ticks) } }
    if s.gmQualified ∧ s.rd .vager O.SOURCE_2101 = 0 then s.servoFrom (t2 - t1 - delay) now else s

/-- The mean path delay is measured (0x2101:06). -/
def State.ptpPath (s : State) (delay : Int) : State :=
  (s.setVt { s.vager.time with ptp := { s.vager.time.ptp with path := some delay, asked := none, answered := none } }).wr
    .vager O.MEAN_PATH_DELAY_2101 (ofSigned 64 (satSigned 64 delay))

/-- A receive or transmit timestamp at the management PHY, in units of 2^-16 ns: its resolution is 1 ns (R48). -/
def State.stamp (s : State) : Int := (s.extNow : Int) * 2 ^ 16

/-- The PTP stack of Crow's Nest runs the port (R49): it answers and follows up; otherwise the host does. -/
def State.ownStack (s : State) : Bool := s.vager.time.stackOwner == 0 && s.rd .vager O.CN_STATE_7848 == 1

/-- PTP_MESSAGE_RX. A PTP message on the management port, with its receive timestamp (R47 to R53). Messages of another domain or
transport, of the delay mechanism that PROFILE does not choose, or of an unsupported kind are ignored. The stack of Crow's Nest takes
none while its core does not run (R532). -/
def execPtpMessageRx (m : PtpMessage) (s : State) : Result :=
  let t := s.vager.time
  let now := s.stamp
  let p2p := s.rd .vager O.PROFILE_2102 == 1
  let heard := fun (h : PtpHeader) =>
    h.domain == s.rd .vager O.DOMAIN_2102 && h.transport == s.rd .vager O.TRANSPORT_2102 && (s.ownStack || t.stackOwner != 0)
  let fromGm := fun (h : PtpHeader) => heard h && (t.gm.map (·.identity)) == some h.identity
  match m with
  | .announce h x => if heard h then .next (s.announce x h.log) else .next s
  | .sync h twoStep origin correction =>
    if fromGm h then
      let s := s.setVt { t with syncLog := some h.log, syncAt := s.vager.ticks }
      if twoStep then .next (s.setVt { s.vager.time with ptp := { t.ptp with sync := some (h.seqId, now, correction) } })
      else .next (s.ptpSample ((origin : Int) * 2 ^ 16 + correction) now)
    else .next s
  | .followUp h origin correction =>
    match t.ptp.sync with
    | some (seq, rx, corr) =>
      if fromGm h ∧ h.seqId = seq then .next (s.ptpSample ((origin : Int) * 2 ^ 16 + corr + correction) rx) else .next s
    | none => .next s
  | .delayReq h =>
    if heard h ∧ p2p = false ∧ t.port = .master ∧ s.ownStack then .next (s.emit (.ptp 9 h.seqId (some h.identity) (some s.extNow)))
    else .next s
  | .delayResp h received correction =>
    match t.ptp.asked, t.ptp.pair with
    | some (seq, t3), some (t1, t2) =>
      if fromGm h ∧ p2p = false ∧ h.seqId = seq then
        .next (s.ptpPath (((t2 - t3) + ((received : Int) * 2 ^ 16 - correction - t1)) / 2))
      else .next s
    | _, _ => .next s
  | .pdelayReq h =>
    if heard h ∧ p2p ∧ s.ownStack then .next (s.emit (.ptp 3 h.seqId (some h.identity) (some s.extNow))) else .next s
  | .pdelayResp h twoStep received correction =>
    match t.ptp.asked with
    | some (seq, t1) =>
      if heard h ∧ p2p ∧ h.seqId = seq then
        if twoStep then
          .next (s.setVt { t with ptp := { t.ptp with answered := some ((received : Int) * 2 ^ 16 + correction, now) } })
        else .next (s.ptpPath ((now - t1 - correction) / 2))
      else .next s
    | none => .next s
  | .pdelayFollowUp h origin correction =>
    match t.ptp.asked, t.ptp.answered with
    | some (seq, t1), some (t2, t4) =>
      if heard h ∧ p2p ∧ h.seqId = seq then
        .next (s.ptpPath (((t4 - t1) - ((origin : Int) * 2 ^ 16 + correction - t2)) / 2))
      else .next s
    | _, _ => .next s
  | .other => .next s

/-- R52: the grandmaster is lost for want of Announce messages: the port listens, or becomes master where it may (R50). -/
def State.loseGm (s : State) : State :=
  if s.rd .vager O.SLAVE_ONLY_2102 = 0 then s.becomeMaster
  else s.setVt { s.vager.time with gm := none, annCount := 0, annLog := none, syncLog := none, ptp := {}, port := .listening }

/-- ANNOUNCE_TIMEOUT. No Announce from the current grandmaster for announceReceiptTimeout intervals (R52): HOLDOVER, cause 1. It has no
effect where an Announce has come within them. A port that listens and has no grandmaster becomes master where it may (R50). -/
def execAnnounceTimeout (s : State) : Result :=
  if s.announceLate then .next (s.loseGm.sourceLost 1)
  else if s.vager.time.gm.isNone ∧ s.vager.time.port = .listening ∧ s.rd .vager O.SLAVE_ONLY_2102 = 0 then .next s.becomeMaster
  else .next s

/-- SYNC_TIMEOUT. No Sync from the current grandmaster for four sync intervals (R52): HOLDOVER, cause 2, and it must qualify again; the
Announce timeout is tested first. It has no effect where a Sync has come within them. -/
def execSyncTimeout (s : State) : Result :=
  if s.syncLate then
    if s.announceLate then .next (s.loseGm.sourceLost 1)
    else .next ((s.setVt { s.vager.time with annCount := 0 }).sourceLost 2)
  else .next s

/-! ### The transmit timestamp queue (R64, R65) -/

/-- The objects that describe the queue and its head entry. An empty queue shows 0 (log entry 147). -/
def State.showTsq (s : State) : State :=
  let q := s.vager.time.tsq
  let h := q.headD { seqId := 0, msgType := 0, domain := 0, time := 0 }
  ((((s.wr .vager O.TSQ_FILL_2105 q.length).wr .vager O.TSQ_HEAD_SEQ_2105 h.seqId).wr .vager O.TSQ_HEAD_TYPE_2105 h.msgType).wr
    .vager O.TSQ_HEAD_TIME_2105 h.time).wr .vager O.TSQ_HEAD_DOMAIN_2105 h.domain

/-- The transmit timestamp of an event message enters the queue, or is dropped and counted when the queue holds 64 entries (R64,
R65). -/
def State.queueStamp (s : State) (seqId msgType domain : Nat) : State :=
  let t := s.vager.time
  if t.tsq.length < 64 then
    let e : TsEntry := { seqId := seqId % 2 ^ 16, msgType := msgType % 16, domain := domain % 256, time := s.extNow }
    (s.setVt { t with tsq := t.tsq ++ [e] }).showTsq
  else s.bump .vager O.TSQ_OVERFLOW_2105 32

/-- PTP_EVENT_TX. The PTP stack sends an event message: it leaves, and its timestamp enters the queue or is dropped. A Delay_Req or
Pdelay_Req is kept for its answer; the stack of Crow's Nest follows up a Sync or Pdelay_Resp whose timestamp it has (R47, R66). -/
def execPtpEventTx (seqId : Nat) (msgType : Nat) (domain : Nat) (s : State) : Result :=
  let type := msgType % 16
  let seq := seqId % 2 ^ 16
  let stamped := decide (s.vager.time.tsq.length < 64)
  let now := s.stamp
  let s := (s.queueStamp seqId msgType domain).emit (.ptp type seq none none)
  let s := if type = 1 ∨ type = 2 then
      let t := s.vager.time
      s.setVt { t with ptp := { t.ptp with asked := if stamped then some (seq, now) else none, answered := none } }
    else s
  if (type = 0 ∨ type = 3) ∧ stamped ∧ s.ownStack then .next (s.emit (.ptp (8 + type / 3 * 2) seq none (some s.extNow)))
  else .next s

/-- TSQ_POP. The head entry leaves; ignored when the queue is empty (0x2105:05). -/
def execTsqPop (w : Writer) (s : State) : Result :=
  .next (s.writeBy w false .host fun s =>
    let t := s.vager.time
    (s.setVt { t with tsq := t.tsq.tail }).showTsq.answer stOk)

/-- TSQ_OVERFLOW_CLEAR (R65). -/
def execTsqOverflowClear (w : Writer) (s : State) : Result :=
  .next (s.writeBy w false .host fun s => (s.wr .vager O.TSQ_OVERFLOW_2105 0).answer stOk)

/-! ### Source, seconds and 1PPS -/

/-- SOURCE_WRITE (R51 and the Vager state table): source 3 runs free; leaving FREE_RUN, Vager acquires; any other change loses
the old source; a qualified grandmaster qualifies sources 0 and 1 at once. -/
def execSourceWrite (w : Writer) (value : Nat) (s : State) : Result :=
  .next (s.writeBy w true .fleet fun s =>
    let old := s.rd .vager O.SOURCE_2101
    let st := s.tstate .vager
    if 3 < value then s.answer stRange
    else
      let s := s.wr .vager O.SOURCE_2101 value
      let s := if st = 5 then s
        else if value = 3 then s.goVager 4 0
        else if st = 4 then s.goVager 1 0
        else
          let s := if value = old then s else s.sourceLost 0
          if value < 2 ∧ s.gmQualified then s.sourceQualifies else s
      s.answer stOk)

/-- R53: SECONDS_SET may step Vager now. -/
def State.secondsAllowed (s : State) : Bool :=
  let src := s.rd .vager O.SOURCE_2101
  let st := s.tstate .vager
  (src == 2 || src == 3) && (st == 0 || st == 1 || st == 4) && !s.epochOpen

/-- SECONDS_SET_WRITE. Schedules the step for the next whole second, or is refused (R53). -/
def execSecondsSetWrite (w : Writer) (seconds : Nat) (s : State) : Result :=
  .next (s.writeBy w true .fleet fun s =>
    if s.secondsAllowed then
      (s.setVt { s.vager.time with secondsStep := some (seconds % 2 ^ 64, (s.extNow / 10 ^ 9 + 1) * 10 ^ 9) }).answer stOk
    else s.answer stRefused)

/-- SECONDS_SET_STEP. The next whole second has come: the extended time goes to SECONDS_SET × 10^9 ns, and every port is
stepped (R53). It has no effect before that second; a step that R53 no longer permits is not taken. -/
def execSecondsSetStep (s : State) : Result :=
  match s.vager.time.secondsStep with
  | none => .next s
  | some (sec, whole) =>
    if s.extNow < whole then .next s
    else
      let s := s.setVt { s.vager.time with secondsStep := none }
      if s.secondsAllowed then .next (s.vagerStep ((sec * 10 ^ 9 : Nat) - (whole : Int))) else .next s

/-- The whole second nearest to an instant, in ns. -/
def roundSecond (t : Int) : Int := (t + 500000000) / 1000000000 * 1000000000

/-- The time of the last whole second at 1PPS in by the grandmaster's seconds (source 1): the whole second nearest to its time now,
less the cable delay (R51). -/
def State.ppsSecond (s : State) (cable : Int) : Option Int :=
  s.vager.time.ptp.now.map fun x => roundSecond (x.1 + ((s.vager.ticks - x.2 : Nat) : Int) - cable)

/-- PPS_IN_EDGE. Every edge is timestamped (R68). With source 1 or 2 it aligns the extended time to a whole second, less the
cable delay; with source 1 that second is the grandmaster's, and the wrap word is loaded from it at lock (R44). Once Vager is LOCKED, an
edge more than 1 µs away is counted and not used (R51). -/
def execPpsInEdge (s : State) : Result :=
  let ext := s.extNow
  let src := s.rd .vager O.SOURCE_2101
  let cable := toSigned 32 (s.rd .vager O.PPS_IN_CABLE_2104)
  let s := (s.wr .vager O.PPS_IN_EDGE_2104 ext).bump .vager O.PPS_IN_COUNT_2104 32
  let edge : Int := (ext : Int) - cable
  if src = 1 then
    match s.ppsSecond cable with
    | none => .next s
    | some second =>
      let s := if s.gmQualified then s.sourceQualifies else s
      if s.tstate .vager = 2 ∧ 1000 < (edge - second).natAbs then .next (s.bump .vager O.PPS_IN_REJECTED_2104 32)
      else .next (s.servoFrom ((edge - second) * 2 ^ 16) (second + cable))
  else if src = 2 then
    let s := s.sourceQualifies
    let off := edge - roundSecond edge
    if s.tstate .vager = 2 ∧ 1000 < off.natAbs then .next (s.bump .vager O.PPS_IN_REJECTED_2104 32)
    else .next (s.servo (off * 2 ^ 16))
  else .next s

/-- PPS_OUT_EDGE. A whole second plus PPS_OUT_OFFSET has come, at this tick or, where the increment passed over it, the one before:
one pulse where R67 drives one. It has no effect at another instant. -/
def execPpsOutEdge (s : State) : Result :=
  let st := s.tstate .vager
  let drives := if s.rd .vager O.PPS_OUT_WHEN_2104 = 0 then st == 2 || st == 3 else st != 5
  let since := (s.extNow : Int) - toSigned 32 (s.rd .vager O.PPS_OUT_OFFSET_2104)
  let second := since / 10 ^ 9
  let past := (since % 10 ^ 9).toNat
  if s.rd .vager O.PPS_OUT_ENABLE_2104 = 1 ∧ drives ∧ past < 2 ∧ s.vager.time.ppsLast ≠ some second.toNat then
    .next ((s.setVt { s.vager.time with ppsLast := some second.toNat }).emit
      (.pps (s.extNow - past) (s.rd .vager O.PPS_OUT_WIDTH_2104)))
  else .next s

/-! ### The time-island PLL (R599, R603) -/

/-- R599: at entry to FAULT every armed comparator is disarmed and shows 5 in [7:5]. -/
def State.faultDisarm (s : State) (d : Die) : State :=
  let p := Part.staris d
  (List.range 32).foldl (fun s n =>
    if s.rd p (O.CMP_ARM_2010 n) = 1 then (s.wr p (O.CMP_ARM_2010 n) 0).wr p (O.CMP_STATUS_2010 n) (5 * 32) else s) s

/-- PLL_LOSS_OF_LOCK. The part enters FAULT; a Staris disarms its comparators and its stream start, and periodic sampling
stops (R599). -/
def execPllLossOfLock (p : Part) (s : State) : Result :=
  match p with
  | .vager => .next (s.goVager 5 0)
  | .staris d =>
    if s.tstate p = 5 then .next s
    else
      let s := (s.faultDisarm d).wr p O.STREAM_START_ARM_3060 0
      let s := s.setCap d { s.cap d with started := none }
      .next (s.goStaris d 5)

/-- PLL_RELOCK. The part leaves FAULT for UNSET with its counter running from 0 at the nominal increment (R599, R603), and
goes on at once where UNSET has an exit that already holds: MODE 1 at a Staris, SOURCE 3 or a qualified source at Vager. -/
def execPllRelock (p : Part) (s : State) : Result :=
  if s.tstate p = 5 then
    match p with
    | .vager =>
      let t := s.vager.time
      let s := s.setVt { t with counter := 0, inc := incNominal, rate := incNominal }
      let s := (s.wr .vager O.WRAP_WORD_2100 0).goVager 0 0
      let src := s.rd .vager O.SOURCE_2101
      if src = 3 then .next (s.goVager 4 0)
      else if src < 2 ∧ s.gmQualified then .next s.sourceQualifies
      else .next s
    | .staris d =>
      let s := s.setSt d { s.st d with counter := 0, wraps := 0, incs := [] }
      let s := (s.setInc d incNominal).goStaris d 0
      if s.rd p O.MODE_2001 = 1 then .next (s.goStaris d 4) else .next s
  else .next s

end Sys2Proof.Machine
end

