-- ==== Sys2Proof/Machine/Cleat.lean ====
section
/-! DEFINITION. Machine/Cleat.lean: the Cleat sequencers (R110 to R114). Each opcode's command executes the instruction at
the program counter of sequencer `q`; it has no effect where the sequencer is not RUNNING or that instruction has another
opcode. -/

namespace Sys2Proof.Machine
open Sys2Proof

/-! ### Sequencers and instructions -/

/-- Sequencer `q` of die `d`. -/
def State.seqr (s : State) (d : Die) (q : Nat) : Seq := Tbl.get (fun _ => {}) (s.cap d).seqs q

/-- Sequencer `q` of die `d` replaced. -/
def State.setSeqr (s : State) (d : Die) (q : Nat) (x : Seq) : State :=
  s.setCap d { s.cap d with seqs := Tbl.set (fun _ => {}) (s.cap d).seqs q x }

/-- Sequencers 4 to 7 are in the secure world, with the operator role (R110, R115). -/
def seqSecure (q : Nat) : Bool := decide (4 ≤ q)
def seqRole (q : Nat) : Role := if 4 ≤ q then .operator else .host

/-- Instruction `pc` of the program of sequencer `q` (R110). -/
def State.instrAt (s : State) (d : Die) (q pc : Nat) : Nat := s.elem (.staris d) (O.CLEAT_PROGRAM_3090 q) 8 pc

/-- The fields of an instruction (R110). -/
def iOp (w : Nat) : Nat := bits w 63 58
def iXa (w : Nat) : Nat := bits w 57 56
def iXb (w : Nat) : Nat := bits w 55 54
def iArg (w : Nat) : Nat := bits w 47 32
def iImm (w : Nat) : Nat := bits w 31 0

/-- Register `i` of a sequencer. -/
def Seq.reg (x : Seq) (i : Nat) : Nat :=
  match i with
  | 0 => x.x0
  | 1 => x.x1
  | 2 => x.x2
  | _ => x.x3

/-- Register `i` takes `v` modulo 2^32. -/
def Seq.setReg (x : Seq) (i v : Nat) : Seq :=
  match i with
  | 0 => { x with x0 := v % 2 ^ 32 }
  | 1 => { x with x1 := v % 2 ^ 32 }
  | 2 => { x with x2 := v % 2 ^ 32 }
  | _ => { x with x3 := v % 2 ^ 32 }

/-- The sequencer enters FAULT (R113). -/
def Seq.fail (x : Seq) (code : Nat) : Seq := { x with state := .fault, fault := code, wait := .none }

/-- The next instruction; execution past PC 255 is fault 4 (R113). -/
def Seq.next (x : Seq) : Seq :=
  if x.pc = 255 then x.fail 4 else { x with state := .running, pc := x.pc + 1, wait := .none, edgeSeen := false }

/-- A jump to `ARG[7:0]`; ARG[15:8] other than zero is fault 3 (R111). -/
def Seq.jump (x : Seq) (w : Nat) (taken : Bool) : Seq :=
  if iArg w / 256 ≠ 0 then x.fail 3 else if taken then { x with pc := iArg w % 256 } else x.next

/-- Execute the instruction at the program counter where the sequencer is RUNNING and the instruction's opcode is `op`. -/
def State.runSeq (s : State) (d : Die) (q op : Nat) (f : Seq → Nat → State → State) : State :=
  let x := s.seqr d q
  let w := s.instrAt d q x.pc
  if x.state = .running ∧ iOp w = op then f x w s else s

/-- An instruction whose whole effect is on its own sequencer. -/
def State.runLocal (s : State) (d : Die) (q op : Nat) (f : Seq → Nat → Seq) : State :=
  s.runSeq d q op fun x w s => s.setSeqr d q (f x w)

/-! ### Control (R113, R114) -/

/-- CLEAT_PROGRAM_WRITE. Refused while the sequencer is RUNNING or WAITING (R114). -/
def execCleatProgramWrite (d : Die) (w : Writer) (q : Fin 8) (program : List Nat) (s : State) : Result :=
  .next (s.writeBy w (seqSecure q.val) (seqRole q.val) fun s =>
    let x := s.seqr d q.val
    if 2048 < program.length then s.answer stLength
    else if x.state = .running ∨ x.state = .waiting then s.answer stRefused
    else (s.writeOctets (.staris d) (O.CLEAT_PROGRAM_3090 q.val) 2048 program).answer stOk)

/-- CLEAT_START. An IDLE sequencer starts at PC 0; a HALTED one resumes after its HALT; refused in every other state
(R113, R114). -/
def execCleatStart (d : Die) (w : Writer) (q : Fin 8) (s : State) : Result :=
  .next (s.writeBy w (seqSecure q.val) (seqRole q.val) fun s =>
    let x := s.seqr d q.val
    match x.state with
    | .idle => (s.setSeqr d q.val { state := .running, signals := x.signals }).answer stOk
    | .halted => (s.setSeqr d q.val x.next).answer stOk
    | _ => s.answer stRefused)

/-- CLEAT_STOP. The sequencer goes to IDLE and its pending signals are cleared (R113). -/
def execCleatStop (d : Die) (w : Writer) (q : Fin 8) (s : State) : Result :=
  .next (s.writeBy w (seqSecure q.val) (seqRole q.val) fun s =>
    let x := s.seqr d q.val
    (s.setSeqr d q.val { x with state := .idle, signals := 0, wait := .none, fault := 0, edgeSeen := false }).answer stOk)

/-! ### Instructions that touch only the sequencer -/

/-- HALT (0x00): stop in HALTED. -/
def execHalt (d : Die) (q : Fin 8) (s : State) : Result :=
  .next (s.runLocal d q.val 0x00 fun x _ => { x with state := .halted })

/-- NOP (0x01). -/
def execNop (d : Die) (q : Fin 8) (s : State) : Result := .next (s.runLocal d q.val 0x01 fun x _ => x.next)

/-- The opcodes that R111 defines. -/
def definedOps : List Nat :=
  [0x00, 0x01, 0x02, 0x03, 0x04, 0x05, 0x06, 0x08, 0x09, 0x0A, 0x0B, 0x10, 0x11, 0x12, 0x13, 0x14, 0x18, 0x19, 0x1A, 0x1B,
    0x1C, 0x1D]

/-- RESERVED_OPCODE. Every other opcode is fault 1 (R111). -/
def execReservedOpcode (d : Die) (q : Fin 8) (s : State) : Result :=
  let x := s.seqr d q.val
  if x.state = .running ∧ (iOp (s.instrAt d q.val x.pc)) ∉ definedOps then .next (s.setSeqr d q.val (x.fail 1)) else .next s

/-- LDI (0x02): XA ← IMM. -/
def execLdi (d : Die) (q : Fin 8) (s : State) : Result :=
  .next (s.runLocal d q.val 0x02 fun x w => (x.setReg (iXa w) (iImm w)).next)

/-- ADDI (0x03): XA ← XA + IMM mod 2^32. -/
def execAddi (d : Die) (q : Fin 8) (s : State) : Result :=
  .next (s.runLocal d q.val 0x03 fun x w => (x.setReg (iXa w) (x.reg (iXa w) + iImm w)).next)

/-- MOV (0x04): XA ← XB. -/
def execMov (d : Die) (q : Fin 8) (s : State) : Result :=
  .next (s.runLocal d q.val 0x04 fun x w => (x.setReg (iXa w) (x.reg (iXb w))).next)

/-- RDTIME (0x05): XA ← counter nanoseconds. -/
def execRdtime (d : Die) (q : Fin 8) (s : State) : Result :=
  .next (s.runSeq d q.val 0x05 fun x w s => s.setSeqr d q.val (x.setReg (iXa w) (s.ns (.staris d))).next)

/-- Sequencers 0 to 3 may not see a global counter (R86, R111). -/
def State.seqMayCount (s : State) (d : Die) (q n : Nat) : Bool := seqSecure q || !(s.ctr d n).global

/-- RDCNT (0x06): XA ← COUNT[31:0] of counter ARG. -/
def execRdcnt (d : Die) (q : Fin 8) (s : State) : Result :=
  .next (s.runSeq d q.val 0x06 fun x w s =>
    s.setSeqr d q.val (if s.seqMayCount d q.val (iArg w) then (x.setReg (iXa w) ((s.ctr d (iArg w)).count)).next else x.fail 2))

/-- JMP (0x10). -/
def execJmp (d : Die) (q : Fin 8) (s : State) : Result := .next (s.runLocal d q.val 0x10 fun x w => x.jump w true)

/-- JNZ (0x11): jump if XA is not 0. -/
def execJnz (d : Die) (q : Fin 8) (s : State) : Result :=
  .next (s.runLocal d q.val 0x11 fun x w => x.jump w (x.reg (iXa w) != 0))

/-- DJNZ (0x12): XA ← XA − 1, then jump if XA is not 0. A bad target is fault 3 with XA unchanged. -/
def execDjnz (d : Die) (q : Fin 8) (s : State) : Result :=
  .next (s.runLocal d q.val 0x12 fun x w =>
    let y := x.setReg (iXa w) (x.reg (iXa w) + (2 ^ 32 - 1))
    if iArg w / 256 ≠ 0 then x.fail 3 else y.jump w (y.reg (iXa w) != 0))

/-- JTO (0x13): jump if the last wait ended by timeout. -/
def execJto (d : Die) (q : Fin 8) (s : State) : Result := .next (s.runLocal d q.val 0x13 fun x w => x.jump w x.timeout)

/-- JLT (0x14): jump if (XA − XB) mod 2^32 is 2^31 or more. -/
def execJlt (d : Die) (q : Fin 8) (s : State) : Result :=
  .next (s.runLocal d q.val 0x14 fun x w => x.jump w (decide (2 ^ 31 ≤ subMod 32 (x.reg (iXa w)) (x.reg (iXb w)))))

/-! ### Waits (R111, R112) -/

/-- The timeout of a wait: XB where IMM[0] is 1 (R112). -/
def waitLimit (x : Seq) (w : Nat) : Option Nat := if bitAt (iImm w) 0 then some (x.reg (iXb w)) else none

/-- The condition of a sequencer's wait holds. No target is judged while the time island is in FAULT (R599). -/
def State.waitHolds (s : State) (d : Die) (x : Seq) : Bool :=
  let p := Part.staris d
  match x.wait with
  | .none => false
  | .time t => s.tstate p != 5 && reached (s.ns p) t
  | .edge _ _ => x.edgeSeen
  | .count n t _ => reached ((s.ctr d n).count) t
  | .signal _ => x.signals != 0

/-- The wait's timeout has been reached (R112, R599). -/
def State.waitExpired (s : State) (d : Die) (x : Seq) : Bool :=
  let p := Part.staris d
  let past := fun (t : Option Nat) => match t with
    | some t => s.tstate p != 5 && reached (s.ns p) t
    | none => false
  match x.wait with
  | .edge _ t => past t
  | .count _ _ t => past t
  | .signal t => past t
  | _ => false

/-- The wait ends on its condition: the flag is clear, a WSIG consumes its signal, and the program goes on (R112). -/
def Seq.waitDone (x : Seq) : Seq :=
  match x.wait with
  | .signal _ => { x with timeout := false, signals := x.signals - 1 }.next
  | _ => { x with timeout := false }.next

/-- A sequencer begins a wait, which ends at once where its condition holds already. -/
def State.beginWait (s : State) (d : Die) (q : Nat) (x : Seq) (wt : Wait) : State :=
  let x := { x with wait := wt, edgeSeen := false }
  s.setSeqr d q (if s.waitHolds d x then x.waitDone else { x with state := .waiting })

/-- WTIME (0x08): wait until the counter reaches or passes XA (R69, R112). -/
def execWtime (d : Die) (q : Fin 8) (s : State) : Result :=
  .next (s.runSeq d q.val 0x08 fun x w s => s.beginWait d q.val x (.time (x.reg (iXa w))))

/-- WEDGE (0x09): wait for the next active edge of SOURCE ARG, or event of an internal source. A reserved SOURCE has none: the wait
ends by its timeout alone (log entry 154). -/
def execWedge (d : Die) (q : Fin 8) (s : State) : Result :=
  .next (s.runSeq d q.val 0x09 fun x w s => s.beginWait d q.val x (.edge (iArg w) (waitLimit x w)))

/-- WCNT (0x0A): wait until (COUNT[31:0] of counter ARG − XA) mod 2^32 is below 2^31. -/
def execWcnt (d : Die) (q : Fin 8) (s : State) : Result :=
  .next (s.runSeq d q.val 0x0A fun x w s =>
    if s.seqMayCount d q.val (iArg w) then s.beginWait d q.val x (.count (iArg w) (x.reg (iXa w)) (waitLimit x w))
    else s.setSeqr d q.val (x.fail 2))

/-- WSIG (0x0B): wait for a pending signal and consume one. -/
def execWsig (d : Die) (q : Fin 8) (s : State) : Result :=
  .next (s.runSeq d q.val 0x0B fun x w s => s.beginWait d q.val x (.signal (waitLimit x w)))

/-- WAIT_CONDITION_MET. A waiting sequencer's condition holds (R112). -/
def execWaitConditionMet (d : Die) (q : Fin 8) (s : State) : Result :=
  let x := s.seqr d q.val
  if x.state = .waiting ∧ s.waitHolds d x then .next (s.setSeqr d q.val x.waitDone) else .next s

/-- WAIT_TIMEOUT. The counter has reached XB: the wait ends with the flag set, unless its condition holds too, which then
prevails (R112). -/
def execWaitTimeout (d : Die) (q : Fin 8) (s : State) : Result :=
  let x := s.seqr d q.val
  if x.state = .waiting ∧ s.waitExpired d x then
    .next (s.setSeqr d q.val (if s.waitHolds d x then x.waitDone else { x with timeout := true }.next))
  else .next s

/-! ### Instructions that act on other units -/

/-- One pending signal for sequencer `q`, lost and counted at 255 (R113). -/
def State.addSignal (s : State) (d : Die) (q : Nat) : State :=
  let x := s.seqr d q
  if x.signals < 255 then s.setSeqr d q { x with signals := x.signals + 1 }
  else s.bump (.staris d) (O.CLEAT_SIG_LOST_3090 q) 32

/-- The ARG of an action lies in the range that the table of R71 gives. -/
def actionArgOk (a arg : Nat) : Bool :=
  match a with
  | 1 => decide (arg < 8)
  | 2 => decide (arg < 16)
  | 4 => decide (arg < 4)
  | 5 => decide (arg < 4)
  | 6 => decide (arg < 16)
  | 7 => decide (arg < 8)
  | _ => true

/-- Action `a` with `arg` acts at once (R71, R88). -/
def State.startAction (s : State) (d : Die) (a arg : Nat) : State :=
  let p := Part.staris d
  match a with
  | 1 => if arg < 4 then s.rephase d arg (s.counter p) else s.startSequence d (arg - 4)
  | 2 => s.emit (.strobe d.val arg ((s.die d).ticks + 2))
  | 3 => s.freezeCounters d (s.counter p) (s.tstate p)
  | 4 => (s.startCfg d arg).1
  | 5 => s.stopCfg d arg
  | 6 => s.triggerDump d arg
  | 7 => s.addSignal d arg
  | _ => s

/-- ACT (0x18): start action IMM[7:0] with ARG. A reserved action or an ARG outside its range is fault 3; an action that R72
refuses to the sequencer's world is fault 2. -/
def execAct (d : Die) (q : Fin 8) (s : State) : Result :=
  .next (s.runSeq d q.val 0x18 fun x w s =>
    let a := iImm w % 256
    if 8 ≤ a ∨ actionArgOk a (iArg w) = false then s.setSeqr d q.val (x.fail 3)
    else if seqSecure q.val = false ∧ (a = 1 ∨ a = 3) then s.setSeqr d q.val (x.fail 2)
    else (s.setSeqr d q.val x.next).startAction d a (iArg w))

/-- SETCMP (0x19): disarm comparator ARG, set its target to XA and arm it. A comparator of the other world is fault 2; a
refused arm is no fault. -/
def execSetcmp (d : Die) (q : Fin 8) (s : State) : Result :=
  .next (s.runSeq d q.val 0x19 fun x w s =>
    let n := iArg w
    if 32 ≤ n then s.setSeqr d q.val (x.fail 3)
    else if cmpSecure n ≠ seqSecure q.val then s.setSeqr d q.val (x.fail 2)
    else
      let s := (s.setSeqr d q.val x.next).disarmCmp d n
      (s.wr (.staris d) (O.CMP_TARGET_2010 n) (x.reg (iXa w))).armCmp d n)

/-- SAMPLE (0x1A): a triggered sample of stream ARG; a disabled stream takes no record (R100). -/
def execSample (d : Die) (q : Fin 8) (s : State) : Result :=
  .next (s.runSeq d q.val 0x1A fun x w s =>
    let s := s.setSeqr d q.val x.next
    if (s.sstream d (iArg w)).enable then s.takeRecord d (iArg w) true else s)

/-- EMIT (0x1B): XA on stream ARG, which must be KIND 8; a disabled stream takes no record (R100). -/
def execEmit (d : Die) (q : Fin 8) (s : State) : Result :=
  .next (s.runSeq d q.val 0x1B fun x w s =>
    let t := s.sstream d (iArg w)
    if t.kind ≠ 8 then s.setSeqr d q.val (x.fail 3)
    else
      let s := (s.setSeqr d q.val x.next).setSstream d (iArg w) { t with emitted := x.reg (iXa w) }
      if t.enable then s.takeRecord d (iArg w) true else s)

/-- SIGNAL (0x1C): one pending signal for sequencer ARG[2:0]. -/
def execSignal (d : Die) (q : Fin 8) (s : State) : Result :=
  .next (s.runSeq d q.val 0x1C fun x w s => (s.setSeqr d q.val x.next).addSignal d (iArg w % 8))

/-- EVENT (0x1D): an event recorder entry with code IMM[15:0] and value XA, and the sequencer's internal source (R537). -/
def execEvent (d : Die) (q : Fin 8) (s : State) : Result :=
  .next (s.runSeq d q.val 0x1D fun x w s =>
    ((s.setSeqr d q.val x.next).recordS d 0x0030 (x.reg (iXa w)) (iImm w % 2 ^ 16)).internalEvent d (0x1200 + q.val))

/-- CLEAT_SIGNAL_ACTION. Action 7 of a comparator, at the head of the handshake FIFO, reaches the sequencer (R71, R73, R113). -/
def execCleatSignalAction (d : Die) (q : Fin 8) (s : State) : Result :=
  match s.takeAction d 7 (some q.val) with
  | some (_, s) => .next (s.addSignal d q.val)
  | none => .next s

end Sys2Proof.Machine
end

