-- ==== Sys2Proof/Machine/K288.lean ====
section
/-! DEFINITION. Machine/K288.lean: the K288 code of a granule (R30 to R34): RS(36,32) over GF(2^8), the poison pattern and
the classification of a codeword. -/

namespace Sys2Proof.Machine

/-- `a` times x in GF(2^8) with x^8 + x^4 + x^3 + x^2 + 1 (R30). -/
def gfX (a : Nat) : Nat := if a < 128 then 2 * a else Nat.xor (2 * a) 0x11D

/-- The sum of the shifts of `a` that the low `n` bits of `b` select. -/
def gfMulN : Nat → Nat → Nat → Nat
  | 0, _, _ => 0
  | n + 1, a, b => Nat.xor (if b % 2 = 1 then a else 0) (gfMulN n (gfX a) (b / 2))

/-- The product in GF(2^8). -/
def gfMul (a b : Nat) : Nat := gfMulN 8 a b

/-- α to the `n`, α being 0x02 (R30). -/
def gfPow : Nat → Nat
  | 0 => 1
  | n + 1 => gfX (gfPow n)

/-- One step of the division by the generator (x − 1)(x − α)(x − α²)(x − α³) = x^4 + 15x^3 + 54x^2 + 120x + 64: the remainder
`r` (four symbols, highest first) takes the data symbol `b`. -/
def k288Step (r : List Nat) (b : Nat) : List Nat :=
  let f := Nat.xor b (r.getD 0 0)
  [Nat.xor (r.getD 1 0) (gfMul f 15), Nat.xor (r.getD 2 0) (gfMul f 54), Nat.xor (r.getD 3 0) (gfMul f 120), gfMul f 64]

/-- The four check symbols of 32 data bytes, byte 32 first (R31). -/
def k288Check (data : List Nat) : List Nat := data.foldl k288Step [0, 0, 0, 0]

/-- The poison pattern XORed into the check bytes (R32). -/
def poisonPattern : List Nat := [0xA5, 0x5A, 0xA5, 0x5A]

/-- The codeword of a granule, poisoned or not (R31, R32). -/
def k288Encode (data : Nat) (poison : Bool) : Nat :=
  let c := k288Check (toBytes 32 data)
  let c := if poison then List.zipWith Nat.xor c poisonPattern else c
  fld 256 32 (ofBytes c) + data % 2 ^ 256

/-- Horner's value at α^i of the polynomial whose coefficients are listed highest first. -/
def gfEval (i : Nat) (cs : List Nat) : Nat := cs.foldl (fun a c => Nat.xor (gfMul a (gfPow i)) c) 0

/-- The syndrome of a codeword's 36 bytes: its values at α^0 to α^3. -/
def syndrome (bs : List Nat) : List Nat := (List.range 4).map fun i => gfEval i bs

/-- The syndrome of a single symbol error of value `e` in byte `k`, which is the coefficient of x^(35 − k). -/
def singleSyndrome (k e : Nat) : List Nat := (List.range 4).map fun i => gfMul e (gfPow (i * (35 - k)))

/-- The byte in which a single symbol error gives this syndrome; its value is then the first syndrome symbol. -/
def singleError (s : List Nat) : Option Nat :=
  if s.getD 0 0 = 0 then none else (List.range 36).find? fun k => singleSyndrome k (s.getD 0 0) == s

/-- What a decoder makes of a granule (R33). -/
inductive K288 where
  | good (data : Nat)
  | poison (data : Nat)
  | corrected (data : Nat)
  | uncorrectable
deriving DecidableEq, Repr

/-- R33, R34: the outcomes in their order. -/
def k288Decode (cw : Nat) : K288 :=
  let bs := toBytes 36 cw
  let s := syndrome bs
  let p := syndrome (List.replicate 32 0 ++ poisonPattern)
  if s = [0, 0, 0, 0] then .good (cw % 2 ^ 256)
  else if s = p then .poison (cw % 2 ^ 256)
  else if (singleError (List.zipWith Nat.xor s p)).isSome then .uncorrectable
  else match singleError s with
    | some k => .corrected (ofBytes ((bs.set k (Nat.xor (bs.getD k 0) (s.getD 0 0))).take 32))
    | none => .uncorrectable

end Sys2Proof.Machine
end

