-- ==== Sys2Proof/Machine/Fec.lean ====
section
/-! DEFINITION. Machine/Fec.lean: the RS(544,514) code of the Halyard lanes (R154) over GF(2^10): its encoder, its decoder of up to
15 symbol errors, and the distribution of a codeword's symbols over the lanes. The field polynomial x^10 + x^3 + 1, the generator
(x − 1)(x − α)…(x − α^29) and the order of the symbols are those of IEEE 802.3 clause 119 (PRESUMED, log entry 26). Symbol i of
a codeword is the coefficient of x^(543 − i); symbols 0 to 513 are the message, and a number of bits holds its first symbol in its
lowest ten. -/

namespace Sys2Proof.Machine

/-- `a` times α in GF(2^10). -/
def rsX (a : Nat) : Nat := if a < 512 then 2 * a else Nat.xor (2 * a) 0x409

/-- The sum of the shifts of `a` that the low `n` bits of `b` select. -/
def rsMulN : Nat → Nat → Nat → Nat
  | 0, _, _ => 0
  | n + 1, a, b => Nat.xor (if b % 2 = 1 then a else 0) (rsMulN n (rsX a) (b / 2))

/-- The product in GF(2^10). -/
def rsMul (a b : Nat) : Nat := rsMulN 10 a b

/-- α to the `n`. -/
def rsPow : Nat → Nat
  | 0 => 1
  | n + 1 => rsX (rsPow n)

/-- The inverse in GF(2^10): the 1,022nd power, by the squares of `a`. -/
def rsInv (a : Nat) : Nat := ((List.range 9).foldl (fun x _ => let q := rsMul x.1 x.1; (q, rsMul x.2 q)) (a, 1)).2

/-- The generator's coefficients below x^30, that of x^29 first. -/
def rsGen : List Nat :=
  [575, 552, 187, 230, 552, 1, 108, 565, 282, 249, 593, 132, 94, 720, 495, 385, 942, 503, 883, 361, 788, 610, 193, 392, 127, 185,
   158, 128, 834, 523]

/-- Thirty symbols packed, the first highest. -/
def rsPack (l : List Nat) : Nat := l.foldl (fun n x => n * 1024 + x) 0

/-- The generator times α^0 to α^9, each packed: the product with a symbol is the sum of those that its bits select. -/
def rsRows : List Nat :=
  [0x8fe282ece68a0011b235468f99448417ad07bd81eb9f7dcd69c5262305881fcb927880d0a0b,
   0x1dc595d9cc16402360638d1f22ad082f1a9f7b02d57eebbed2884cd60b103f9724f100a341f,
   0x3b8b2bb3982c8046c0c6187e455a105e352ed60da8fd575dad12d9ac12297f2e49e20044c3e,
   0x771647473959008d818c30bc1ab029bc2add8c1353fa3ebb5a25b348045bfe1c13e4098987c,
   0xee2c8e8a7bb2010b27186138b544527a553b3c26a7b4fd56bd4b26102cb6fe7827c812114f8,
   0xde599d34ff6642066e39c231fa88a4f4aa665c4c4d697a8d73960cb0596cfef0df9024229f0,
   0xbef32a4dfecc840cd87b8663753548eb545cb8989a92753ee62e5960b2d8ffe13f0448453e0,
   0x7fe6d4bffc9b480994f60ec67a6a90d4e8a955303764ea79c55cb2c161b9fdc2fe2c908a3c9,
   0xff8d397bf134d0030dec1d8ce4f529abd1d28e606e8954d78ab92512c372f9c5ec7d201679b,
   0xfd5a62d7eb69a0061bd83b19c9ea5255e3a518c9dd12a9ab1d704ab582edf1cbc8de402cb3f]

/-- The product of the generator and the symbol `f`, packed. -/
def rsGenTimes (f : Nat) : Nat := (rsRows.mapIdx fun i r => if bitAt f i then r else 0).foldl Nat.xor 0

/-- One step of the division by the generator: the packed remainder takes a message symbol. -/
def rsStep (r x : Nat) : Nat := Nat.xor (r % 2 ^ 290 * 1024) (rsGenTimes (Nat.xor x (r / 2 ^ 290)))

/-- The remainder after the `n` message symbols of `m`, packed. -/
def rsRemainder : Nat → Nat → Nat → Nat
  | 0, _, r => r
  | n + 1, m, r => rsRemainder n (m / 1024) (rsStep r (m % 1024))

/-- The 544 symbols of the codeword of a message of 5,140 bits (R154). -/
def rsEncode (m : Nat) : List Nat :=
  let r := rsRemainder 514 m 0
  ((List.range 514).map fun i => m / 2 ^ (10 * i) % 1024) ++ (List.range 30).map fun i => r / 2 ^ (290 - 10 * i) % 1024

/-- The message of a codeword's symbols. -/
def rsMessage (c : List Nat) : Nat := (c.take 514).foldr (fun x n => x % 1024 + 1024 * n) 0

/-! ### Decoding -/

/-- The value at `x` of the polynomial whose coefficients are listed lowest first. -/
def rsEval (x : Nat) (p : List Nat) : Nat := p.foldr (fun c a => Nat.xor c (rsMul x a)) 0

/-- The thirty syndromes of a word: its values at α^0 to α^29. -/
def rsSyndromes (c : List Nat) : List Nat := (List.range 30).map fun j => let a := rsPow j; c.foldl (fun v x => Nat.xor (rsMul a v) x) 0

/-- The sum of two polynomials, lowest coefficient first. -/
def rsAdd : List Nat → List Nat → List Nat
  | [], q => q
  | p, [] => p
  | a :: p, b :: q => Nat.xor a b :: rsAdd p q

/-- The Berlekamp–Massey recursion: the locator and its length, the last locator before it grew, its discrepancy and its age. -/
structure RsLocator where
  loc : List Nat := [1]
  len : Nat := 0
  prev : List Nat := [1]
  disc : Nat := 1
  age : Nat := 1

/-- One step of the recursion: `past` is the syndromes up to the one in turn, the last first, and `n` is how many came before it. -/
def RsLocator.step (x : RsLocator) (n : Nat) (past : List Nat) : RsLocator :=
  let d := (List.zipWith rsMul x.loc past).foldl Nat.xor 0
  if d = 0 then { x with age := x.age + 1 }
  else
    let f := rsMul d (rsInv x.disc)
    let loc := rsAdd x.loc (List.replicate x.age 0 ++ x.prev.map (rsMul f))
    if 2 * x.len ≤ n then { loc := loc, len := n + 1 - x.len, prev := x.loc, disc := d, age := 1 }
    else { x with loc := loc, age := x.age + 1 }

/-- The error locator of a list of syndromes. -/
def rsLocator (s : List Nat) : RsLocator :=
  (s.foldl (fun (a : RsLocator × Nat × List Nat) y => (a.1.step a.2.1 (y :: a.2.2), a.2.1 + 1, y :: a.2.2)) ({}, 0, [])).1

/-- The first `n` coefficients of a product. -/
def rsProduct (n : Nat) (p q : List Nat) : List Nat :=
  (List.range n).map fun k => ((List.range (k + 1)).map fun i => rsMul (p.getD i 0) (q.getD (k - i) 0)).foldl Nat.xor 0

/-- The errors of a word with these syndromes: the position of each symbol and what it has added, where the locator of at most
15 errors has all its roots among the 544 positions. -/
def rsErrors (s : List Nat) : Option (List (Nat × Nat)) :=
  let x := rsLocator s
  let loc := x.loc.take (x.len + 1)
  let evl := rsProduct 30 s loc
  let deriv := (loc.drop 1).mapIdx fun i c => if i % 2 = 0 then c else 0
  let found := (List.range 544).filterMap fun i =>
    let pos := rsPow (543 - i)
    let inv := rsInv pos
    if rsEval inv loc = 0 then some (i, rsMul pos (rsMul (rsEval inv evl) (rsInv (rsEval inv deriv)))) else none
  if x.len ≤ 15 ∧ found.length = x.len then some found else none

/-- R154: a received word of 544 symbols decoded: its message and the places of the symbols corrected, at most 15; none where it
is uncorrectable. -/
def rsDecode (c : List Nat) : Option (Nat × List Nat) :=
  let m := rsMessage c
  if c = rsEncode m then some (m, [])
  else match rsErrors (rsSyndromes c) with
    | none => none
    | some es =>
      let fixed := c.mapIdx fun i x => match es.find? fun e => e.1 == i with
        | some e => Nat.xor x e.2
        | none => x
      if fixed = rsEncode (rsMessage fixed) then some (rsMessage fixed, es.map (·.1)) else none

/-! ### Lanes -/

/-- R154: a codeword's symbols over the lanes listed, round-robin: each lane with its symbols in order. -/
def distribute (lanes : List Nat) (c : List Nat) : List (Nat × List Nat) :=
  lanes.mapIdx fun k lane => (lane, (c.mapIdx fun i x => (i, x)).filterMap fun e => if e.1 % lanes.length = k then some e.2 else none)

/-- The 544 symbols gathered again from the active lanes, of the symbols that arrived on each physical lane. -/
def gather (lanes : List Nat) (arrived : List (List Nat)) : List Nat :=
  (List.range 544).map fun i => ((arrived.getD (lanes.getD (i % lanes.length) 9) []).getD (i / lanes.length) 0) % 1024

end Sys2Proof.Machine
end

