-- ==== Sys2Proof/Machine/Halyard.lean ====
section
/-! DEFINITION. Machine/Halyard.lean: operations of the Halyard link (chapter 05): flits, credits, replay, LINK_CTL items and
lane changes. The commands that take a link out of UP or deliver to other chapters stand in Machine/Link.lean. -/

namespace Sys2Proof.Machine
open Sys2Proof

/-! ### Codewords and LINK_CTL items -/

/-- The codewords that an end has sent since link-up (R155). -/
def State.codewords (s : State) (v : Bool) (p : Die) : Nat := (s.link v p).cwTx

/-- The codes of R184. -/
def ctlInit : Nat := 1
def ctlInitAck : Nat := 2
def ctlPairHello : Nat := 3
def ctlLaneSwap : Nat := 4
def ctlLaneDrop : Nat := 5
def ctlLaneAck : Nat := 6
def ctlLaneReport : Nat := 7
def ctlRetrainReq : Nat := 8
def ctlLaneCancel : Nat := 9

/-- Granule 1 of a LINK_CTL flit (R184). -/
def itemGranule (i : CtlItem) : Nat :=
  (if i.code = 1 ∨ i.code = 2 ∨ i.code = 7 then fld 32 216 i.data else fld 32 48 i.cw) + fld 24 8 i.laneB + fld 16 8 i.laneA
    + fld 8 8 i.seq + i.code % 256

/-- A LINK_CTL item as a receiver reads it (R184). -/
def readItem (g : Nat) : CtlItem :=
  { code := bits g 7 0, seq := bits g 15 8, laneA := bits g 23 16, laneB := bits g 31 24, cw := bits g 79 32, data := bits g 247 32 }

/-- An item waits at one end with the next CTL_SEQ. -/
def State.pushItem (s : State) (v : Bool) (p : Die) (i : CtlItem) : State :=
  let l := s.link v p
  s.setLink v p { l with ctl := l.ctl ++ [{ i with seq := l.ctlSeq }], ctlSeq := (l.ctlSeq + 1) % 256 }

/-- The items that wait without the one at place `k`; the turn stays with the item that had it. -/
def LinkEnd.dropCtl (l : LinkEnd) (k : Nat) : LinkEnd :=
  { l with ctl := l.ctl.eraseIdx k, ctlTurn := if k < l.ctlTurn then l.ctlTurn - 1 else l.ctlTurn }

/-- An answer echoes the CTL_SEQ of the item it answers (R184). -/
def State.pushAnswer (s : State) (v : Bool) (p : Die) (i : CtlItem) : State :=
  let l := s.link v p
  s.setLink v p { l with ctl := l.ctl ++ [i] }

/-- An item that has been answered waits no more. -/
def State.dropItem (s : State) (v : Bool) (p : Die) (seq : Nat) : State :=
  let l := s.link v p
  s.setLink v p { l with ctl := l.ctl.filter fun i => i.seq != seq || i.code == 2 || i.code == 6 }

/-! ### Objects of an end (R189, R190) -/

/-- Objects that both ends have, at the Staris's or Vager's index. -/
def kLanes (v : Bool) (p : Die) : Nat := if v then O.LANES_ACTIVE_3810 p.val else O.LANES_ACTIVE_3800
def kSpare (v : Bool) (p : Die) : Nat := if v then O.SPARE_LANE_3810 p.val else O.SPARE_LANE_3800
def kFlitsTx (v : Bool) (p : Die) : Nat := if v then O.FLITS_TX_3810 p.val else O.FLITS_TX_3800
def kFlitsRx (v : Bool) (p : Die) : Nat := if v then O.FLITS_RX_3810 p.val else O.FLITS_RX_3800
def kNaks (v : Bool) (p : Die) : Nat := if v then O.NAKS_SENT_3810 p.val else O.NAKS_SENT_3800
def kReplays (v : Bool) (p : Die) : Nat := if v then O.REPLAYS_3810 p.val else O.REPLAYS_3800
def kFecCorrected (v : Bool) (p : Die) : Nat := if v then O.FEC_CORRECTED_3810 p.val else O.FEC_CORRECTED_3800
def kFecUncorrected (v : Bool) (p : Die) : Nat := if v then O.FEC_UNCORRECTED_3810 p.val else O.FEC_UNCORRECTED_3800
def kK288 (v : Bool) (p : Die) : Nat := if v then O.K288_CORRECTED_3810 p.val else O.K288_CORRECTED_3800
def kWeights (v : Bool) (p : Die) : Nat := if v then O.TX_WEIGHTS_3810 p.val else O.TX_WEIGHTS_3800
def kBuffers (v : Bool) (p : Die) : Nat := if v then O.RX_BUFFERS_3810 p.val else O.RX_BUFFERS_3800
def kRetrains (v : Bool) (p : Die) : Nat := if v then O.RETRAINS_3810 p.val else O.RETRAINS_3800
def kFraming (v : Bool) (p : Die) : Nat := if v then O.FRAMING_ERRORS_3810 p.val else O.FRAMING_ERRORS_3800

/-- An object of one end of a link. -/
def State.lrd (s : State) (v : Bool) (p : Die) (k : Bool → Die → Nat) : Nat := s.rd (endPart v p) (k v p)

/-- An object of one end of a link takes a value. -/
def State.lwr (s : State) (v : Bool) (p : Die) (k : Bool → Die → Nat) (x : Nat) : State := s.wr (endPart v p) (k v p) x

/-- A counter object of one end. -/
def State.lbump (s : State) (v : Bool) (p : Die) (k : Bool → Die → Nat) (w : Nat) (n : Nat := 1) : State :=
  s.bump (endPart v p) (k v p) w n

/-- The end's link state takes a code (R181). -/
def State.setLinkState (s : State) (v : Bool) (p : Die) (x : Nat) : State := s.wr (endPart v p) (linkStateKey v p) x

/-! ### Credits (R169) -/

/-- Zero for every unlisted key. -/
def z0 : Nat → Nat := fun _ => 0

/-- The credit that a sender holds for channel `c` (R169). -/
def LinkEnd.creditFor (l : LinkEnd) (c : Nat) : Nat :=
  (Tbl.get z0 l.peerBuf c + Tbl.get z0 l.credit c + 2 ^ 16 - Tbl.get z0 l.sent c) % 2 ^ 16

/-- The CREDIT field of the flits an end sends: the granules it has freed (R157, R169). -/
def LinkEnd.creditField (l : LinkEnd) : Nat :=
  ((List.range 6).map fun i => fld (16 * i) 16 (Tbl.get z0 l.freed (i + 1))).sum

/-- The buffers an end advertises in INIT, channel c at [16c−1:16c−16] (R168, R169, R184). -/
def State.advertised (s : State) (v : Bool) (p : Die) : Nat :=
  ((List.range 6).map fun i => fld (16 * i) 16 (s.elem (endPart v p) (kBuffers v p) 2 i)).sum

/-- INIT's DATA field for the buffers advertised: channel 1 stands at bit 80 of the granule, 48 bits into DATA (R184). -/
def initData (buffers : Nat) : Nat := buffers * 2 ^ 48

/-- The buffers that an INIT advertises, as a table by channel. -/
def initBuffers (data : Nat) : Tbl Nat :=
  ((List.range 6).map fun i => (i + 1, data / 2 ^ (48 + 16 * i) % 2 ^ 16)).filter fun e => e.2 != 0

/-! ### Filling a flit (R176) -/

/-- A flit being filled: the end, the records of R105 that wait for credit, and the payload so far. -/
structure Fill where
  l : LinkEnd
  holding : List Nat
  taken : Nat := 0
  items : List (Nat × MGran) := []

/-- The next granule ready on channel `c`. On the stream-samples channel the records that wait make up granules of two, a
single one with all ones in [255:128] (R174). -/
def Fill.pop (f : Fill) (c : Nat) : Option (MGran × Fill) :=
  match Tbl.get (fun _ => []) f.l.txq c with
  | g :: t => some (g, { f with l := { f.l with txq := Tbl.set (fun _ => []) f.l.txq c t } })
  | [] =>
    if c = 2 then
      match f.holding with
      | a :: b :: t =>
        some ({ data := a + fld 128 128 b, som := true, eom := true }, { f with holding := t, taken := f.taken + 2 })
      | [a] =>
        some ({ data := a + fld 128 128 (2 ^ 128 - 1), som := true, eom := true }, { f with holding := [], taken := f.taken + 1 })
      | [] => none
    else none

/-- A channel's granule takes a payload slot, where it has one ready and credit for it. -/
def Fill.take (f : Fill) (c : Nat) : Option Fill :=
  if f.l.creditFor c = 0 then none
  else match f.pop c with
    | none => none
    | some (g, f) => some { f with
        l := { f.l with sent := Tbl.set z0 f.l.sent c ((Tbl.get z0 f.l.sent c + 1) % 2 ^ 16) }, items := f.items ++ [(c, g)] }

/-- Weighted round-robin in channel order 1 to 5 (R176): the channel in turn takes up to its weight, and what it leaves of it passes
to the next channel of the round; a round begins with channel 1 and goes on into the next flit. A weight of 0 stops a channel, and
what has passed to it goes on. `idle` counts channels passed without a granule. -/
def Fill.go (weight : Nat → Nat) : Nat → Nat → Nat → Fill → Fill
  | 0, _, _, f => f
  | fuel + 1, slots, idle, f =>
    if slots = 0 ∨ 11 ≤ idle then f
    else
      let c := f.l.wrrChan
      let next := c % 5 + 1
      let passed := if c = 5 then 0 else f.l.wrrLeft
      let pass := { f with l := { f.l with wrrChan := next, wrrLeft := passed + weight next } }
      if f.l.wrrLeft = 0 ∨ weight c = 0 then Fill.go weight fuel slots (idle + 1) pass
      else match f.take c with
        | none => Fill.go weight fuel slots (idle + 1) pass
        | some f => Fill.go weight fuel (slots - 1) 0 { f with l := { f.l with wrrLeft := f.l.wrrLeft - 1 } }

/-! ### Headers and flits (R156 to R160) -/

/-- The GMAP field, for the payload from granule 1 on (R157, R158). -/
def gmapOf : Nat → List (Nat × MGran) → Nat
  | _, [] => 0
  | g, (c, x) :: t => fld (5 * g - 5) 5 (4 * c + 2 * ofBool x.som + ofBool x.eom) + gmapOf (g + 1) t

/-- The header granule's data (R157). -/
def headerData (gmap credit mark lanes nakSeq ackSeq seq : Nat) (degraded nak replay : Bool) (type : Nat) : Nat :=
  fld 181 75 gmap + fld 85 96 credit + fld 53 32 mark + fld 44 9 lanes + fld 32 12 nakSeq + fld 20 12 ackSeq + fld 8 12 seq
    + fld 6 1 (ofBool degraded) + fld 5 1 (ofBool nak) + fld 4 1 (ofBool replay) + type % 16

/-- TX_MARK: the counter nanoseconds, held non-decreasing, and never before the QTIME of a message it may carry (R160, R177). -/
def State.txMark (s : State) (v : Bool) (p : Die) : Nat × Nat :=
  let l := s.link v p
  let k := s.partTicks (endPart v p)
  let m := holdMark (s.ns (endPart v p)) k l.txMark
  ((holdMark m.1 k l.lastQtime).1, m.2)

/-- The bits of a flit's sixteen codewords in the order of R156. -/
def flitBits (cws : List Nat) : Nat := (cws.mapIdx fun i c => fld (288 * i) 288 c).sum

/-- The flit's bits join the stream, and a codeword that they fill goes out over the active lanes (R154, R155). -/
def State.encodeFlit (s : State) (v : Bool) (p : Die) (cws : List Nat) : State :=
  let l := s.link v p
  let bs := l.txBits + flitBits cws * 2 ^ l.txCount
  let n := l.txCount + 4608
  if n < 5140 then s.setLink v p { l with txBits := bs, txCount := n }
  else
    let lanes := (List.range 9).filter fun i => bitAt (s.lrd v p kLanes) i
    let s := s.setLink v p { l with txBits := bs / 2 ^ 5140, txCount := n - 5140, cwTx := (l.cwTx + 1) % 2 ^ 48 }
    s.emit (.fecWord v p.val (distribute lanes (rsEncode (bs % 2 ^ 5140))))

/-- The sender runs on seven lanes (R157). -/
def State.onSeven (s : State) (v : Bool) (p : Die) : Bool := popCount 9 (s.lrd v p kLanes) == 7

/-- A flit leaves: header and 15 payload granules, each under K288 (R156, R160). -/
def State.sendFlit (s : State) (v : Bool) (p : Die) (payload : List (Nat × MGran)) (seq : Nat) (replay : Bool) (type : Nat) : State :=
  let mark := s.txMark v p
  let l := s.link v p
  let hdr := headerData (if type = 3 then 0 else gmapOf 1 payload) l.creditField mark.1 (s.lrd v p kLanes) l.rxNext
    ((l.rxNext + 4095) % 4096) seq (s.onSeven v p) l.nak replay type
  let pads := payload ++ List.replicate (15 - payload.length) (0, ({} : MGran))
  let cws := k288Encode hdr false :: pads.map fun e => k288Encode e.2.data e.2.poison
  let s := s.setLink v p { l with txMark := some mark, ctlGap := if type = 3 then 0 else l.ctlGap + 1 }
  let s := if type = 1 then s.lbump v p kFlitsTx 64 else s
  (s.emit (.flit v p.val cws)).encodeFlit v p cws

/-- A time word's TX_TIME is its sender's counter as the flit leaves (R55, R56). -/
def State.stampTime (s : State) (v : Bool) (p : Die) (word : Nat) : Nat :=
  word % 2 ^ 192 + fld 192 64 (s.counter (endPart v p))

/-- The payload of a new DATA flit, or nothing where no granule is ready: a waiting time word in granule 1, then the other
channels (R167, R176); in PAIRING the control channel alone (R484). Also the end after it and the records left. -/
def State.fillFlit (s : State) (v : Bool) (p : Die) : Fill :=
  let l := s.link v p
  let up := s.linkUp v p
  let holding := if v || !up then [] else (s.cap p).holding
  let f : Fill := { l := l, holding := holding }
  let f := match up, l.timeWords with
    | true, w :: t =>
      if l.creditFor 6 = 0 then f
      else
        let l := { l with timeWords := t, sent := Tbl.set z0 l.sent 6 ((Tbl.get z0 l.sent 6 + 1) % 2 ^ 16) }
        { f with l := l, items := [(6, { data := s.stampTime v p w, som := true, eom := true })] }
    | _, _ => f
  let weight := fun c => if up || c == 1 then s.ob (endPart v p) (kWeights v p) (c - 1) else 0
  Fill.go weight 200 (15 - f.items.length) 0 f

/-- In a replay, filler takes the slot that held a time word (R167). -/
def replayPayload (l : List (Nat × MGran)) : List (Nat × MGran) := l.map fun e => if e.1 = 6 then (0, ({} : MGran)) else e

/-! ### Forwarding into the control queue -/

/-- A record in the layout of R535. -/
def recordNumber (tag : Nat) (r : Record) : Nat :=
  fld 448 64 tag + fld 384 64 r.seq + fld 320 64 r.time + fld 288 32 r.opHours + fld 276 12 r.opSeconds + fld 240 32 r.powerCycles
    + fld 176 64 r.value + fld 80 96 r.detail + fld 72 8 r.node + fld 69 3 r.tstate + fld 68 1 (ofBool r.timeValid)
    + fld 65 3 r.severity + fld 48 16 r.code + fld 16 16 r.sseq + 0x78

/-- A record as its 64 bytes are read (R535). -/
def readRecord (x : Nat) : Record :=
  { code := bits x 63 48, value := bits x 239 176, detail := bits x 175 80, severity := bits x 67 65, node := bits x 79 72,
    tstate := bits x 71 69, timeValid := bitAt x 68, time := bits x 383 320, opHours := bits x 319 288, opSeconds := bits x 287 276,
    powerCycles := bits x 271 240, seq := bits x 447 384, sseq := bits x 31 16 }

/-- A record's two granules, as a Staris forwards it (R535, R539). -/
def recordGranules (r : Record) : List Nat := [recordNumber 0 r % 2 ^ 256, recordNumber 0 r / 2 ^ 256]

/-- R539: the oldest record not yet forwarded goes out as an EVENT message while the link carries messages. -/
def State.forwardEvents (s : State) (d : Die) : State :=
  let r := (s.die d).recorder
  match r.ring.drop (r.ring.length - r.unsent) with
  | [] => s
  | x :: _ =>
    let s := s.setDie d { s.die d with recorder := { r with unsent := r.unsent - 1 } }
    (s.sendControl false d 0x03 0 (recordGranules x)).starisLost d

end Sys2Proof.Machine
end

