-- ==== Sys2Proof/Machine/Info.lean ====
section
/-! DEFINITION. Machine/Info.lean: the dictionary's descriptors (R501, R503, R528): for each object its type, size, access, world,
role and the range that its Effect states, from the object tables of the spec. -/

namespace Sys2Proof.Machine
open Sys2Proof

/-- The range that an object's Effect states (RANGE of R510): any value; an interval; an interval and one value more; multiples
of a number in an interval; such multiples and 0; bytes that each are one value or lie in an interval; 16-bit words with a greatest
sum; pairs of 64-bit base and size that are multiples of a number, with a greatest sum of sizes; or a field with a greatest value. -/
inductive RangeRule where
  | any
  | span (lo hi : Int)
  | oneOr (x lo hi : Int)
  | mult (k lo hi : Nat)
  | zeroMult (k lo hi : Nat)
  | bytes (x lo hi : Nat)
  | words (top : Nat)
  | ranges (k top : Nat)
  | field (hi lo top : Nat)
deriving DecidableEq, Repr

/-- The descriptor of one sub-index (R528): TYPE, SIZE and ACCESS as R528 codes them; the world, 0 NS, 1 S, and where it varies
2 by R72, 3 by R110, 4 by CH_WORLD; the bits that are not reserved. -/
structure SubInfo where
  sub : Nat
  type : Nat
  size : Nat
  access : Nat := 0
  world : Nat := 0
  role : Role := .host
  seg : Bool := false
  persist : Bool := false
  mask : Nat := 2 ^ 64 - 1
  rule : RangeRule := .any
deriving DecidableEq, Repr

/-- The descriptors of `count` indices from `base` on, which have the same sub-indices. -/
structure IdxInfo where
  base : Nat
  count : Nat
  subs : List SubInfo
deriving DecidableEq, Repr

/-- Objects of Staris, part 0 of the table. -/
def starisInfo0 : List IdxInfo := [
  { base := 0x1000, count := 1, subs := [
     { sub := 1, type := 10, size := 16, access := 4 },
     { sub := 2, type := 10, size := 16, access := 4 },
     { sub := 3, type := 3, size := 2, access := 4 },
     { sub := 4, type := 9, size := 16, access := 4 },
     { sub := 5, type := 3, size := 2, access := 4 },
     { sub := 6, type := 4, size := 4 },
     { sub := 7, type := 9, size := 48 },
     { sub := 8, type := 4, size := 4, access := 4 }] },
  { base := 0x1010, count := 1, subs := [
     { sub := 1, type := 4, size := 4, access := 1, mask := 0xFFFFFF },
     { sub := 2, type := 5, size := 8 },
     { sub := 3, type := 4, size := 4 }] },
  { base := 0x1011, count := 1, subs := [
     { sub := 1, type := 5, size := 8 },
     { sub := 2, type := 5, size := 8 },
     { sub := 3, type := 4, size := 4 },
     { sub := 4, type := 4, size := 4 },
     { sub := 5, type := 4, size := 4 },
     { sub := 6, type := 4, size := 4 }] },
  { base := 0x1020, count := 1, subs := [
     { sub := 1, type := 4, size := 4, access := 1 },
     { sub := 2, type := 2, size := 1 },
     { sub := 3, type := 9, size := 16 },
     { sub := 4, type := 9, size := 16 },
     { sub := 5, type := 3, size := 2 },
     { sub := 6, type := 3, size := 2 }] },
  { base := 0x2000, count := 1, subs := [
     { sub := 1, type := 5, size := 8 },
     { sub := 2, type := 4, size := 4 }] },
  { base := 0x2001, count := 1, subs := [
     { sub := 1, type := 5, size := 8, access := 1, world := 1, role := .fleet, mask := 0xFFFFFFFFFF, rule := .span 4290672329 4299262263 },
     { sub := 2, type := 2, size := 1, access := 1, world := 1, role := .fleet, rule := .span 0 1 }] },
  { base := 0x2002, count := 1, subs := [
     { sub := 1, type := 2, size := 1 },
     { sub := 2, type := 1, size := 1 },
     { sub := 3, type := 4, size := 4 },
     { sub := 4, type := 4, size := 4 },
     { sub := 5, type := 4, size := 4 },
     { sub := 6, type := 4, size := 4 },
     { sub := 7, type := 4, size := 4 }] },
  { base := 0x2003, count := 1, subs := [
     { sub := 1, type := 6, size := 4, access := 2, world := 1, role := .fleet },
     { sub := 2, type := 4, size := 4, access := 1, world := 1, role := .fleet, rule := .span 1000 1000000 }] },
  { base := 0x2010, count := 32, subs := [
     { sub := 1, type := 4, size := 4, access := 1, world := 2 },
     { sub := 2, type := 4, size := 4, access := 1, world := 2 },
     { sub := 3, type := 2, size := 1, access := 1, world := 2, rule := .span 0 7 },
     { sub := 4, type := 3, size := 2, access := 1, world := 2 },
     { sub := 5, type := 1, size := 1, access := 1, world := 2 },
     { sub := 6, type := 2, size := 1, world := 2 },
     { sub := 7, type := 5, size := 8, world := 2 }] },
  { base := 0x3000, count := 1, subs := [
     { sub := 1, type := 4, size := 4, access := 1, world := 1, role := .operator, rule := .span 100 10000000 },
     { sub := 2, type := 9, size := 512, access := 1, world := 1, role := .operator },
     { sub := 3, type := 9, size := 512 },
     { sub := 4, type := 9, size := 512 },
     { sub := 5, type := 9, size := 512 },
     { sub := 6, type := 9, size := 512, access := 2, world := 1, role := .operator },
     { sub := 7, type := 9, size := 4096, access := 1, world := 1, role := .operator }] },
  { base := 0x3001, count := 1, subs := [
     { sub := 1, type := 9, size := 2048, world := 1, role := .operator }] },
  { base := 0x3010, count := 1, subs := [
     { sub := 1, type := 3, size := 2, access := 1 },
     { sub := 2, type := 5, size := 8, access := 1 },
     { sub := 3, type := 5, size := 8 },
     { sub := 4, type := 1, size := 1, access := 2 },
     { sub := 5, type := 9, size := 2048 }] }]

/-- Objects of Staris, part 1 of the table. -/
def starisInfo1 : List IdxInfo := [
  { base := 0x3020, count := 1, subs := [
     { sub := 1, type := 2, size := 1 },
     { sub := 2, type := 5, size := 8, world := 1, role := .operator },
     { sub := 3, type := 2, size := 1, world := 1, role := .operator },
     { sub := 4, type := 4, size := 4, world := 1, role := .operator },
     { sub := 5, type := 1, size := 1, access := 2, world := 1, role := .operator },
     { sub := 6, type := 2, size := 1, access := 1, world := 1, role := .operator, rule := .span 0 1 },
     { sub := 7, type := 4, size := 4, world := 1, role := .operator },
     { sub := 8, type := 3, size := 2, access := 1, world := 1, role := .operator },
     { sub := 9, type := 9, size := 2048, world := 1, role := .operator },
     { sub := 10, type := 1, size := 1, access := 1, world := 1, role := .operator }] },
  { base := 0x3030, count := 1, subs := [
     { sub := 1, type := 9, size := 128 },
     { sub := 2, type := 9, size := 64 },
     { sub := 3, type := 9, size := 32 },
     { sub := 4, type := 9, size := 32 },
     { sub := 5, type := 9, size := 32, access := 1, world := 1, role := .fleet },
     { sub := 6, type := 6, size := 4, access := 1, world := 1, role := .operator },
     { sub := 7, type := 9, size := 64, access := 1, world := 1, role := .operator }] },
  { base := 0x3031, count := 1, subs := [
     { sub := 1, type := 9, size := 128, access := 1, world := 1, role := .operator },
     { sub := 2, type := 9, size := 16 },
     { sub := 3, type := 9, size := 512 },
     { sub := 4, type := 9, size := 16, access := 2, world := 1, role := .operator }] },
  { base := 0x3032, count := 1, subs := [
     { sub := 1, type := 9, size := 256, access := 1, world := 1, role := .operator },
     { sub := 2, type := 9, size := 32 },
     { sub := 3, type := 9, size := 256 }] },
  { base := 0x3040, count := 4, subs := [
     { sub := 1, type := 9, size := 32, access := 1, world := 1, role := .operator },
     { sub := 2, type := 2, size := 1, access := 1, world := 1, role := .operator, rule := .span 0 32 },
     { sub := 3, type := 4, size := 4, access := 1, world := 1, role := .operator },
     { sub := 4, type := 4, size := 4 }] },
  { base := 0x3050, count := 1, subs := [
     { sub := 1, type := 2, size := 1, access := 1, world := 1, role := .operator, mask := 7 },
     { sub := 2, type := 4, size := 4, access := 1, world := 1, role := .operator },
     { sub := 3, type := 4, size := 4, access := 1, world := 1, role := .operator },
     { sub := 4, type := 4, size := 4, access := 1, world := 1, role := .operator },
     { sub := 5, type := 9, size := 32 },
     { sub := 6, type := 9, size := 64 },
     { sub := 7, type := 9, size := 32, access := 1, world := 1, role := .fleet },
     { sub := 8, type := 9, size := 32, access := 1, world := 1, role := .fleet },
     { sub := 9, type := 4, size := 4, access := 1, world := 1, role := .operator },
     { sub := 10, type := 4, size := 4 }] },
  { base := 0x3060, count := 1, subs := [
     { sub := 1, type := 3, size := 2, access := 1 },
     { sub := 2, type := 4, size := 4, access := 1 },
     { sub := 3, type := 3, size := 2, access := 1 },
     { sub := 4, type := 4, size := 4, access := 1 },
     { sub := 5, type := 1, size := 1, access := 1 },
     { sub := 6, type := 3, size := 2 },
     { sub := 8, type := 4, size := 4, access := 1 },
     { sub := 9, type := 1, size := 1, access := 1 },
     { sub := 10, type := 5, size := 8 },
     { sub := 11, type := 4, size := 4 },
     { sub := 12, type := 4, size := 4 }] },
  { base := 0x3070, count := 16, subs := [
     { sub := 1, type := 4, size := 4, access := 1 },
     { sub := 2, type := 4, size := 4, access := 1 },
     { sub := 3, type := 4, size := 4, access := 1 },
     { sub := 4, type := 2, size := 1, access := 1, mask := 7 },
     { sub := 5, type := 5, size := 8, access := 1, rule := .mult 32 0 18446744073709551615 },
     { sub := 6, type := 5, size := 8, access := 1, rule := .mult 32 0 18446744073709551615 },
     { sub := 7, type := 1, size := 1, access := 1 },
     { sub := 8, type := 2, size := 1 },
     { sub := 9, type := 5, size := 8 }] },
  { base := 0x3080, count := 1, subs := [
     { sub := 1, type := 4, size := 4, access := 1, world := 1, role := .operator }] },
  { base := 0x3090, count := 8, subs := [
     { sub := 1, type := 9, size := 2048, access := 1, world := 3 },
     { sub := 2, type := 2, size := 1, access := 2, world := 3, rule := .span 1 2 },
     { sub := 3, type := 2, size := 1, world := 3 },
     { sub := 4, type := 2, size := 1, world := 3 },
     { sub := 5, type := 9, size := 16, world := 3 },
     { sub := 6, type := 2, size := 1, world := 3 },
     { sub := 7, type := 2, size := 1, world := 3 },
     { sub := 8, type := 4, size := 4, world := 3 }] },
  { base := 0x3400, count := 1, subs := [
     { sub := 1, type := 2, size := 1, access := 1, role := .operator, rule := .span 0 1 },
     { sub := 2, type := 2, size := 1, access := 1, role := .operator, rule := .span 8 16 },
     { sub := 3, type := 4, size := 4, access := 1, role := .operator, rule := .span 100 1000000 },
     { sub := 4, type := 2, size := 1 },
     { sub := 5, type := 2, size := 1 },
     { sub := 6, type := 5, size := 8, role := .operator },
     { sub := 7, type := 4, size := 4, role := .operator },
     { sub := 8, type := 4, size := 4, role := .operator },
     { sub := 9, type := 1, size := 1, role := .operator }] },
  { base := 0x3401, count := 1, subs := [
     { sub := 1, type := 9, size := 32, access := 4 },
     { sub := 2, type := 9, size := 256, access := 4 },
     { sub := 3, type := 9, size := 64, access := 1, role := .operator },
     { sub := 4, type := 9, size := 1024, role := .operator },
     { sub := 5, type := 9, size := 32, role := .operator },
     { sub := 6, type := 9, size := 32, access := 2, role := .operator }] }]

/-- Objects of Staris, part 2 of the table. -/
def starisInfo2 : List IdxInfo := [
  { base := 0x3410, count := 4, subs := [
     { sub := 1, type := 9, size := 32, access := 1, role := .operator },
     { sub := 2, type := 3, size := 2, access := 1, role := .operator },
     { sub := 3, type := 3, size := 2, access := 1, role := .operator },
     { sub := 4, type := 2, size := 1, access := 1, role := .operator },
     { sub := 5, type := 2, size := 1, access := 2, role := .operator, rule := .span 1 2 },
     { sub := 6, type := 2, size := 1 }] },
  { base := 0x3420, count := 16, subs := [
     { sub := 1, type := 5, size := 8, access := 1, role := .operator },
     { sub := 2, type := 3, size := 2, access := 1, role := .operator, rule := .oneOr 65535 0 255 },
     { sub := 3, type := 4, size := 4, role := .operator }] },
  { base := 0x3430, count := 8, subs := [
     { sub := 1, type := 5, size := 8, access := 1, role := .operator },
     { sub := 2, type := 5, size := 8, access := 1, role := .operator },
     { sub := 3, type := 3, size := 2, access := 1, role := .operator, rule := .oneOr 65535 0 255 }] },
  { base := 0x3440, count := 1, subs := [
     { sub := 1, type := 3, size := 2, access := 1, role := .operator },
     { sub := 2, type := 3, size := 2, access := 1, role := .operator },
     { sub := 3, type := 3, size := 2, access := 1, role := .operator },
     { sub := 4, type := 3, size := 2, access := 1, role := .operator },
     { sub := 5, type := 3, size := 2 },
     { sub := 6, type := 3, size := 2 }] },
  { base := 0x3450, count := 1, subs := [
     { sub := 1, type := 2, size := 1, access := 1, role := .operator, rule := .span 0 2 },
     { sub := 2, type := 1, size := 1, access := 1, role := .operator },
     { sub := 3, type := 5, size := 8, access := 1, role := .operator, rule := .mult 4096 0 18446744073709551615 },
     { sub := 4, type := 5, size := 8, access := 1, role := .operator, rule := .mult 4096 65536 1099511627776 },
     { sub := 5, type := 5, size := 8 },
     { sub := 6, type := 1, size := 1 },
     { sub := 7, type := 1, size := 1, access := 2, role := .operator },
     { sub := 8, type := 4, size := 4, access := 1, role := .operator },
     { sub := 9, type := 9, size := 4096, role := .operator }] },
  { base := 0x3460, count := 1, subs := [
     { sub := 1, type := 3, size := 2, access := 1, role := .operator },
     { sub := 2, type := 4, size := 4, access := 1, role := .operator },
     { sub := 3, type := 1, size := 1, access := 1, role := .operator },
     { sub := 4, type := 1, size := 1, access := 2, role := .operator },
     { sub := 5, type := 2, size := 1 },
     { sub := 6, type := 5, size := 8, role := .operator },
     { sub := 7, type := 5, size := 8, role := .operator },
     { sub := 8, type := 5, size := 8, role := .operator },
     { sub := 9, type := 4, size := 4, role := .operator },
     { sub := 10, type := 3, size := 2, access := 1, role := .operator }] },
  { base := 0x3800, count := 1, subs := [
     { sub := 1, type := 2, size := 1 },
     { sub := 2, type := 3, size := 2 },
     { sub := 3, type := 2, size := 1 },
     { sub := 4, type := 5, size := 8 },
     { sub := 5, type := 5, size := 8 },
     { sub := 6, type := 4, size := 4 },
     { sub := 7, type := 4, size := 4 },
     { sub := 8, type := 9, size := 36 },
     { sub := 9, type := 4, size := 4 },
     { sub := 10, type := 4, size := 4 },
     { sub := 11, type := 9, size := 5, access := 1, world := 1, role := .fleet },
     { sub := 12, type := 9, size := 12 },
     { sub := 13, type := 4, size := 4 },
     { sub := 14, type := 9, size := 48, access := 4 },
     { sub := 15, type := 4, size := 4 }] },
  { base := 0x5000, count := 1, subs := [
     { sub := 1, type := 2, size := 1, access := 1, world := 1, role := .fleet, mask := 7 },
     { sub := 2, type := 4, size := 4, access := 1, world := 1, role := .fleet, rule := .span 100 1000000 },
     { sub := 3, type := 4, size := 4, access := 1, world := 1, role := .fleet, rule := .span 10 100000 },
     { sub := 4, type := 3, size := 2 }] },
  { base := 0x5001, count := 1, subs := [
     { sub := 1, type := 5, size := 8, world := 1, role := .operator },
     { sub := 2, type := 4, size := 4, world := 1, role := .operator },
     { sub := 3, type := 4, size := 4, world := 1, role := .operator },
     { sub := 4, type := 5, size := 8, world := 1, role := .operator },
     { sub := 5, type := 4, size := 4, world := 1, role := .operator },
     { sub := 6, type := 9, size := 32, world := 1, role := .operator }] },
  { base := 0x5010, count := 4, subs := [
     { sub := 1, type := 4, size := 4, access := 1, world := 1, role := .fleet, rule := .span 1 4294967295 },
     { sub := 2, type := 9, size := 32, access := 2, world := 1, role := .fleet },
     { sub := 3, type := 2, size := 1 },
     { sub := 4, type := 1, size := 1, access := 2, world := 1, role := .fleet },
     { sub := 5, type := 5, size := 8 },
     { sub := 6, type := 4, size := 4 },
     { sub := 7, type := 4, size := 4 },
     { sub := 8, type := 5, size := 8 },
     { sub := 9, type := 4, size := 4 },
     { sub := 10, type := 4, size := 4 },
     { sub := 11, type := 4, size := 4 },
     { sub := 12, type := 4, size := 4 }] },
  { base := 0x5020, count := 1, subs := [
     { sub := 1, type := 4, size := 4, world := 1, role := .operator },
     { sub := 2, type := 4, size := 4, world := 1, role := .operator },
     { sub := 3, type := 4, size := 4, world := 1, role := .operator },
     { sub := 4, type := 4, size := 4, world := 1, role := .operator }] },
  { base := 0x5030, count := 1, subs := [
     { sub := 1, type := 4, size := 4, world := 1, role := .operator },
     { sub := 2, type := 4, size := 4, world := 1, role := .operator }] }]

/-- Objects of Staris, part 3 of the table. -/
def starisInfo3 : List IdxInfo := [
  { base := 0x5400, count := 1, subs := [
     { sub := 1, type := 5, size := 8, access := 1, world := 1, role := .fleet },
     { sub := 2, type := 9, size := 256, access := 1, world := 1, role := .operator },
     { sub := 3, type := 9, size := 8, access := 1, world := 1, role := .operator, rule := .bytes 0 7 20 },
     { sub := 4, type := 2, size := 1, access := 1, world := 1, role := .operator, rule := .oneOr 0 7 20 },
     { sub := 5, type := 5, size := 8, access := 1, world := 1, role := .fleet, rule := .mult 4096 0 18446744073709551615 },
     { sub := 6, type := 5, size := 8, access := 1, world := 1, role := .fleet, rule := .zeroMult 4096 67108864 17179869184 },
     { sub := 7, type := 4, size := 4, access := 1, world := 1, role := .operator, rule := .mult 32 0 33554432 },
     { sub := 8, type := 5, size := 8, access := 1 },
     { sub := 9, type := 2, size := 1, access := 1, rule := .span 7 20 },
     { sub := 10, type := 4, size := 4 }] },
  { base := 0x5401, count := 1, subs := [
     { sub := 1, type := 5, size := 8 },
     { sub := 2, type := 5, size := 8 },
     { sub := 3, type := 9, size := 32 },
     { sub := 4, type := 4, size := 4 },
     { sub := 5, type := 4, size := 4 },
     { sub := 6, type := 4, size := 4 },
     { sub := 7, type := 4, size := 4 },
     { sub := 8, type := 4, size := 4 },
     { sub := 9, type := 5, size := 8 },
     { sub := 10, type := 4, size := 4 }] },
  { base := 0x5410, count := 16, subs := [
     { sub := 1, type := 5, size := 8, access := 1, world := 1, role := .operator },
     { sub := 2, type := 4, size := 4, world := 1, role := .operator }] },
  { base := 0x5800, count := 1, subs := [
     { sub := 1, type := 2, size := 1 },
     { sub := 2, type := 4, size := 4 },
     { sub := 3, type := 4, size := 4 },
     { sub := 4, type := 4, size := 4 },
     { sub := 5, type := 4, size := 4, access := 1, world := 1, role := .fleet, rule := .span 1000 600000000 },
     { sub := 6, type := 4, size := 4 },
     { sub := 7, type := 4, size := 4 },
     { sub := 8, type := 5, size := 8 },
     { sub := 9, type := 5, size := 8 },
     { sub := 10, type := 4, size := 4 },
     { sub := 11, type := 2, size := 1 },
     { sub := 12, type := 3, size := 2 }] },
  { base := 0x5810, count := 64, subs := [
     { sub := 1, type := 5, size := 8, access := 1, world := 1, role := .operator, rule := .mult 32 0 18446744073709551615 },
     { sub := 2, type := 5, size := 8, access := 1, world := 1, role := .operator, rule := .mult 32 0 18446744073709551615 },
     { sub := 3, type := 4, size := 4, access := 1, world := 1, role := .operator },
     { sub := 4, type := 2, size := 1, access := 1, world := 1, role := .operator },
     { sub := 5, type := 2, size := 1, access := 1, world := 1, role := .operator, mask := 3 },
     { sub := 6, type := 3, size := 2 }] },
  { base := 0x6000, count := 1, subs := [
     { sub := 1, type := 1, size := 1, access := 1, world := 1, role := .fleet },
     { sub := 2, type := 2, size := 1, access := 3, world := 1, role := .fleet, rule := .span 0 3 },
     { sub := 3, type := 4, size := 4, access := 3, world := 1, role := .fleet, rule := .span 1000 200000 },
     { sub := 4, type := 3, size := 2 },
     { sub := 5, type := 9, size := 48 },
     { sub := 7, type := 4, size := 4, access := 3, world := 1, role := .fleet },
     { sub := 8, type := 4, size := 4, access := 3, world := 1, role := .fleet },
     { sub := 9, type := 4, size := 4, access := 3, world := 1, role := .fleet }] },
  { base := 0x6001, count := 1, subs := [
     { sub := 1, type := 9, size := 128, access := 3, world := 1, role := .fleet },
     { sub := 2, type := 9, size := 32, access := 3, world := 1, role := .fleet },
     { sub := 3, type := 9, size := 32, access := 3, world := 1, role := .fleet },
     { sub := 4, type := 8, size := 8, access := 3, world := 1, role := .fleet }] },
  { base := 0x6002, count := 1, subs := [
     { sub := 1, type := 9, size := 128, access := 3, world := 1, role := .fleet },
     { sub := 2, type := 9, size := 4096, access := 3, world := 1, role := .fleet },
     { sub := 3, type := 9, size := 4096, access := 3, world := 1, role := .fleet },
     { sub := 4, type := 9, size := 16384, access := 3, world := 1, role := .fleet }] },
  { base := 0x6003, count := 1, subs := [
     { sub := 1, type := 9, size := 16, access := 2 },
     { sub := 2, type := 4, size := 4 },
     { sub := 3, type := 2, size := 1 },
     { sub := 4, type := 3, size := 2, access := 1 },
     { sub := 5, type := 9, size := 32 }] },
  { base := 0x6004, count := 1, subs := [
     { sub := 1, type := 4, size := 4 },
     { sub := 2, type := 3, size := 2 },
     { sub := 3, type := 4, size := 4 },
     { sub := 4, type := 4, size := 4 },
     { sub := 5, type := 9, size := 256, world := 1, role := .operator },
     { sub := 6, type := 9, size := 16, world := 1, role := .operator },
     { sub := 7, type := 9, size := 16, world := 1, role := .operator },
     { sub := 8, type := 9, size := 16, world := 1, role := .operator },
     { sub := 9, type := 1, size := 1, access := 2, world := 1, role := .fleet },
     { sub := 10, type := 4, size := 4 },
     { sub := 11, type := 4, size := 4 },
     { sub := 12, type := 4, size := 4 }] },
  { base := 0x6800, count := 4, subs := [
     { sub := 1, type := 9, size := 64, access := 1, world := 4 },
     { sub := 2, type := 2, size := 1, access := 2, world := 4, rule := .span 1 5 },
     { sub := 3, type := 2, size := 1, world := 4 },
     { sub := 4, type := 9, size := 64, world := 4 },
     { sub := 5, type := 1, size := 1, world := 4 },
     { sub := 6, type := 5, size := 8, world := 4 },
     { sub := 7, type := 4, size := 4, world := 4 },
     { sub := 8, type := 5, size := 8, world := 4 },
     { sub := 9, type := 5, size := 8, world := 4 },
     { sub := 10, type := 3, size := 2, access := 1, world := 4 },
     { sub := 11, type := 2, size := 1, access := 1, world := 1, role := .fleet, rule := .span 0 1 },
     { sub := 12, type := 4, size := 4, world := 4 },
     { sub := 13, type := 2, size := 1, world := 4 },
     { sub := 14, type := 2, size := 1 }] },
  { base := 0x7000, count := 1, subs := [
     { sub := 1, type := 1, size := 1, access := 1, world := 1, role := .fleet },
     { sub := 2, type := 2, size := 1, access := 1, world := 1, role := .fleet, rule := .span 1 16 },
     { sub := 3, type := 4, size := 4, access := 1, world := 1, role := .fleet, rule := .span 60 2592000 },
     { sub := 4, type := 2, size := 1 },
     { sub := 5, type := 2, size := 1 },
     { sub := 6, type := 1, size := 1, access := 2, world := 1, role := .fleet },
     { sub := 7, type := 4, size := 4 },
     { sub := 8, type := 9, size := 128 },
     { sub := 9, type := 4, size := 4 },
     { sub := 10, type := 1, size := 1, access := 2, world := 1, role := .fleet },
     { sub := 11, type := 4, size := 4 },
     { sub := 12, type := 4, size := 4, access := 1, world := 1, role := .fleet, rule := .span 1000 10000000 },
     { sub := 13, type := 4, size := 4, access := 1, world := 1, role := .fleet, rule := .span 1 10000 }] }]

/-- Objects of Staris, part 4 of the table. -/
def starisInfo4 : List IdxInfo := [
  { base := 0x7010, count := 16, subs := [
     { sub := 1, type := 9, size := 32, access := 1, world := 1, role := .fleet },
     { sub := 2, type := 2, size := 1, access := 1, world := 1, role := .operator, rule := .span 0 2 },
     { sub := 3, type := 2, size := 1, access := 1, world := 1, role := .operator, mask := 3 },
     { sub := 4, type := 4, size := 4, access := 1, world := 1, role := .operator, rule := .oneOr 0 1000 600000000 },
     { sub := 5, type := 1, size := 1, access := 1, world := 1, role := .operator },
     { sub := 6, type := 9, size := 64, access := 1, world := 1, role := .operator, rule := .ranges 32 16777216 },
     { sub := 7, type := 2, size := 1 },
     { sub := 8, type := 2, size := 1, access := 2, world := 1, role := .operator, rule := .span 1 3 },
     { sub := 9, type := 9, size := 32 },
     { sub := 10, type := 4, size := 4 }] },
  { base := 0x7030, count := 1, subs := [
     { sub := 1, type := 4, size := 4, access := 1, world := 1, role := .fleet },
     { sub := 2, type := 4, size := 4, access := 1, world := 1, role := .fleet },
     { sub := 3, type := 4, size := 4, access := 1, world := 1, role := .fleet },
     { sub := 4, type := 4, size := 4, access := 1, world := 1, role := .fleet },
     { sub := 5, type := 9, size := 64 },
     { sub := 6, type := 4, size := 4 }] },
  { base := 0x7040, count := 1, subs := [
     { sub := 1, type := 9, size := 32 }] },
  { base := 0x7400, count := 1, subs := [
     { sub := 1, type := 2, size := 1, access := 4 },
     { sub := 2, type := 1, size := 1, access := 1, world := 1, role := .operator },
     { sub := 3, type := 1, size := 1, access := 1, world := 1, role := .fleet },
     { sub := 4, type := 4, size := 4, access := 1, world := 1, role := .operator, rule := .span 1 86400 },
     { sub := 5, type := 4, size := 4 },
     { sub := 6, type := 4, size := 4 },
     { sub := 7, type := 9, size := 2048, access := 4 },
     { sub := 8, type := 3, size := 2, access := 4 },
     { sub := 9, type := 1, size := 1, access := 1, world := 1, role := .fleet }] },
  { base := 0x7401, count := 1, subs := [
     { sub := 1, type := 9, size := 192, access := 2, world := 1, role := .fleet },
     { sub := 2, type := 9, size := 256, world := 1, role := .fleet },
     { sub := 3, type := 2, size := 1 },
     { sub := 4, type := 4, size := 4 }] },
  { base := 0x7410, count := 8, subs := [
     { sub := 1, type := 5, size := 8, access := 1, world := 1, role := .fleet },
     { sub := 2, type := 5, size := 8, access := 1, world := 1, role := .fleet },
     { sub := 3, type := 2, size := 1, access := 1, world := 1, role := .fleet, rule := .span 0 1 },
     { sub := 4, type := 1, size := 1, access := 1, world := 1, role := .fleet }] },
  { base := 0x7800, count := 1, subs := [
     { sub := 1, type := 5, size := 8, role := .operator },
     { sub := 2, type := 5, size := 8, role := .operator },
     { sub := 3, type := 5, size := 8, access := 1, role := .operator },
     { sub := 4, type := 9, size := 256, role := .operator },
     { sub := 5, type := 3, size := 2 },
     { sub := 6, type := 4, size := 4 }] },
  { base := 0x7C00, count := 1, subs := [
     { sub := 1, type := 2, size := 1 },
     { sub := 2, type := 9, size := 4 },
     { sub := 3, type := 4, size := 4, access := 1, world := 1, role := .fleet, rule := .span 10 1000000 },
     { sub := 4, type := 4, size := 4, access := 1, world := 1, role := .fleet, rule := .span 1 3600000 }] },
  { base := 0x7C08, count := 4, subs := [
     { sub := 1, type := 4, size := 4, access := 1, world := 1, role := .operator },
     { sub := 2, type := 1, size := 1, access := 2 },
     { sub := 3, type := 4, size := 4 },
     { sub := 4, type := 5, size := 8 }] }]

/-- The objects that Staris implements, as its object tables give them. -/
def starisInfo : List IdxInfo :=
  starisInfo0 ++ starisInfo1 ++ starisInfo2 ++ starisInfo3 ++ starisInfo4

/-- Objects of Vager, part 0 of the table. -/
def vagerInfo0 : List IdxInfo := [
  { base := 0x1000, count := 1, subs := [
     { sub := 1, type := 10, size := 16, access := 4 },
     { sub := 2, type := 10, size := 16, access := 4 },
     { sub := 3, type := 3, size := 2, access := 4 },
     { sub := 4, type := 9, size := 16, access := 4 },
     { sub := 5, type := 3, size := 2, access := 4 },
     { sub := 6, type := 4, size := 4 },
     { sub := 7, type := 9, size := 48 },
     { sub := 8, type := 4, size := 4, access := 4 }] },
  { base := 0x1010, count := 1, subs := [
     { sub := 1, type := 4, size := 4, access := 1, mask := 0xFFFFFF },
     { sub := 2, type := 5, size := 8 },
     { sub := 3, type := 4, size := 4 }] },
  { base := 0x1011, count := 1, subs := [
     { sub := 1, type := 5, size := 8 },
     { sub := 2, type := 5, size := 8 },
     { sub := 3, type := 4, size := 4 },
     { sub := 4, type := 4, size := 4 },
     { sub := 5, type := 4, size := 4 },
     { sub := 6, type := 4, size := 4 }] },
  { base := 0x1020, count := 1, subs := [
     { sub := 1, type := 4, size := 4, access := 1 },
     { sub := 2, type := 2, size := 1 },
     { sub := 3, type := 9, size := 16 },
     { sub := 4, type := 9, size := 16 },
     { sub := 5, type := 3, size := 2 },
     { sub := 6, type := 3, size := 2 }] },
  { base := 0x1030, count := 16, subs := [
     { sub := 1, type := 5, size := 8 },
     { sub := 2, type := 4, size := 4 },
     { sub := 3, type := 4, size := 4 },
     { sub := 4, type := 3, size := 2 },
     { sub := 5, type := 4, size := 4 }] },
  { base := 0x1100, count := 1, subs := [
     { sub := 1, type := 9, size := 6, access := 4 },
     { sub := 2, type := 2, size := 1 },
     { sub := 3, type := 2, size := 1, access := 1, world := 1, role := .fleet, persist := true, rule := .span 1 2 },
     { sub := 4, type := 9, size := 16, access := 1, world := 1, role := .fleet, persist := true },
     { sub := 5, type := 2, size := 1, access := 1, world := 1, role := .fleet, persist := true, rule := .span 1 128 },
     { sub := 6, type := 9, size := 16, access := 1, world := 1, role := .fleet, persist := true },
     { sub := 7, type := 4, size := 4, access := 1, world := 1, role := .fleet, persist := true },
     { sub := 8, type := 2, size := 1, access := 1, world := 1, role := .fleet, persist := true, rule := .span 1 32 },
     { sub := 9, type := 4, size := 4, access := 1, world := 1, role := .fleet, persist := true },
     { sub := 10, type := 3, size := 2, access := 1, world := 1, role := .fleet, persist := true, rule := .span 0 4094 },
     { sub := 11, type := 1, size := 1, access := 2, world := 1, role := .fleet }] },
  { base := 0x1101, count := 1, subs := [
     { sub := 1, type := 3, size := 2, access := 1, world := 1, role := .fleet },
     { sub := 2, type := 3, size := 2, access := 1, world := 1, role := .fleet, rule := .span 1280 9000 },
     { sub := 3, type := 4, size := 4, access := 1, world := 1, role := .fleet, rule := .span 1000 1000000 },
     { sub := 4, type := 2, size := 1, access := 4 },
     { sub := 5, type := 4, size := 4, access := 1, world := 1, role := .fleet, rule := .span 60 2592000 },
     { sub := 6, type := 4, size := 4, access := 1, world := 1, role := .operator }] },
  { base := 0x1102, count := 1, subs := [
     { sub := 1, type := 2, size := 1 },
     { sub := 2, type := 5, size := 8 },
     { sub := 3, type := 4, size := 4 }] },
  { base := 0x2100, count := 1, subs := [
     { sub := 1, type := 5, size := 8 },
     { sub := 2, type := 8, size := 8 },
     { sub := 3, type := 4, size := 4 },
     { sub := 4, type := 5, size := 8, access := 2, world := 1, role := .fleet }] },
  { base := 0x2101, count := 1, subs := [
     { sub := 1, type := 2, size := 1 },
     { sub := 2, type := 2, size := 1, access := 1, world := 1, role := .fleet, rule := .span 0 3 },
     { sub := 3, type := 8, size := 8 },
     { sub := 4, type := 9, size := 8 },
     { sub := 5, type := 7, size := 8 },
     { sub := 6, type := 7, size := 8 },
     { sub := 7, type := 4, size := 4 },
     { sub := 8, type := 4, size := 4 }] },
  { base := 0x2102, count := 1, subs := [
     { sub := 1, type := 2, size := 1, access := 1, world := 1, role := .fleet, rule := .span 0 127 },
     { sub := 2, type := 2, size := 1, access := 1, world := 1, role := .fleet, rule := .span 0 1 },
     { sub := 3, type := 2, size := 1, access := 1, world := 1, role := .fleet, rule := .span 0 2 },
     { sub := 4, type := 6, size := 4, access := 1, world := 1, role := .fleet, rule := .span (-7) 0 },
     { sub := 5, type := 6, size := 4, access := 1, world := 1, role := .fleet, rule := .span (-7) 0 },
     { sub := 6, type := 2, size := 1, access := 1, world := 1, role := .fleet, rule := .span 2 10 },
     { sub := 7, type := 2, size := 1, access := 1, world := 1, role := .fleet },
     { sub := 8, type := 2, size := 1, access := 1, world := 1, role := .fleet },
     { sub := 9, type := 2, size := 1, access := 1, world := 1, role := .fleet },
     { sub := 10, type := 1, size := 1, access := 1, world := 1, role := .fleet },
     { sub := 11, type := 2, size := 1, access := 1, world := 1, role := .fleet, rule := .span 0 1 }] },
  { base := 0x2103, count := 1, subs := [
     { sub := 1, type := 4, size := 4, access := 1, world := 1, role := .fleet },
     { sub := 2, type := 4, size := 4, access := 1, world := 1, role := .fleet, rule := .span 1000 1000000 },
     { sub := 3, type := 4, size := 4, access := 1, world := 1, role := .fleet },
     { sub := 4, type := 2, size := 1, access := 1, world := 1, role := .fleet, rule := .span 4 255 },
     { sub := 5, type := 4, size := 4, access := 1, world := 1, role := .fleet },
     { sub := 6, type := 5, size := 8 }] }]

/-- Objects of Vager, part 1 of the table. -/
def vagerInfo1 : List IdxInfo := [
  { base := 0x2104, count := 1, subs := [
     { sub := 1, type := 1, size := 1, access := 1, world := 1, role := .operator },
     { sub := 2, type := 4, size := 4, access := 1, world := 1, role := .operator, rule := .span 100 900000000 },
     { sub := 3, type := 6, size := 4, access := 1, world := 1, role := .operator, rule := .span (-500000000) 500000000 },
     { sub := 4, type := 2, size := 1, access := 1, world := 1, role := .operator, rule := .span 0 1 },
     { sub := 5, type := 8, size := 8 },
     { sub := 6, type := 4, size := 4 },
     { sub := 7, type := 6, size := 4, access := 1, world := 1, role := .operator },
     { sub := 8, type := 4, size := 4 }] },
  { base := 0x2105, count := 1, subs := [
     { sub := 1, type := 2, size := 1 },
     { sub := 2, type := 3, size := 2 },
     { sub := 3, type := 2, size := 1 },
     { sub := 4, type := 8, size := 8 },
     { sub := 5, type := 1, size := 1, access := 2 },
     { sub := 6, type := 4, size := 4 },
     { sub := 7, type := 1, size := 1, access := 2 },
     { sub := 8, type := 2, size := 1 }] },
  { base := 0x2106, count := 1, subs := [
     { sub := 1, type := 3, size := 2, access := 1, world := 1, role := .fleet, rule := .span 64 8192 }] },
  { base := 0x2110, count := 16, subs := [
     { sub := 1, type := 6, size := 4 },
     { sub := 2, type := 4, size := 4 },
     { sub := 3, type := 6, size := 4, access := 1, world := 1, role := .fleet },
     { sub := 4, type := 4, size := 4 },
     { sub := 5, type := 4, size := 4 },
     { sub := 6, type := 2, size := 1 },
     { sub := 7, type := 5, size := 8 }] },
  { base := 0x3580, count := 1, subs := [
     { sub := 1, type := 5, size := 8, access := 1, world := 1, role := .fleet, rule := .mult 4096 0 64000000000 },
     { sub := 2, type := 5, size := 8, role := .operator }] },
  { base := 0x3590, count := 16, subs := [
     { sub := 1, type := 5, size := 8, access := 1, role := .operator },
     { sub := 2, type := 5, size := 8, access := 1, role := .operator },
     { sub := 3, type := 5, size := 8 },
     { sub := 4, type := 1, size := 1 },
     { sub := 5, type := 1, size := 1 },
     { sub := 6, type := 5, size := 8, access := 1, role := .operator },
     { sub := 7, type := 9, size := 4096, role := .operator, seg := true },
     { sub := 8, type := 1, size := 1, access := 2, role := .operator },
     { sub := 9, type := 5, size := 8 },
     { sub := 10, type := 4, size := 4, role := .operator }] },
  { base := 0x3810, count := 16, subs := [
     { sub := 1, type := 2, size := 1 },
     { sub := 2, type := 3, size := 2 },
     { sub := 3, type := 2, size := 1 },
     { sub := 4, type := 5, size := 8 },
     { sub := 5, type := 5, size := 8 },
     { sub := 6, type := 4, size := 4 },
     { sub := 7, type := 4, size := 4 },
     { sub := 8, type := 9, size := 36 },
     { sub := 9, type := 4, size := 4 },
     { sub := 10, type := 4, size := 4 },
     { sub := 11, type := 9, size := 5, access := 1, world := 1, role := .fleet },
     { sub := 12, type := 9, size := 12, access := 1, world := 1, role := .fleet, rule := .words 16656 },
     { sub := 13, type := 4, size := 4 },
     { sub := 14, type := 4, size := 4 },
     { sub := 15, type := 9, size := 48 },
     { sub := 16, type := 2, size := 1 },
     { sub := 17, type := 1, size := 1, access := 1, world := 1, role := .fleet },
     { sub := 18, type := 4, size := 4 },
     { sub := 19, type := 4, size := 4 },
     { sub := 20, type := 9, size := 6, access := 1, world := 1, role := .fleet },
     { sub := 21, type := 1, size := 1, access := 2, world := 1, role := .fleet },
     { sub := 22, type := 3, size := 2 },
     { sub := 23, type := 1, size := 1, access := 2, world := 1, role := .fleet },
     { sub := 24, type := 4, size := 4 }] },
  { base := 0x3840, count := 1, subs := [
     { sub := 1, type := 4, size := 4, access := 1, world := 1, role := .fleet, rule := .span 1000 60000000 },
     { sub := 2, type := 4, size := 4, access := 1, world := 1, role := .fleet },
     { sub := 3, type := 4, size := 4, access := 1, world := 1, role := .fleet, rule := .span 5 10000 },
     { sub := 4, type := 2, size := 1, access := 1, world := 1, role := .fleet, rule := .span 2 16 },
     { sub := 5, type := 2, size := 1, access := 1, world := 1, role := .fleet, rule := .span 1 16 }] },
  { base := 0x4000, count := 1, subs := [
     { sub := 1, type := 4, size := 4, access := 1, mask := 0xFFFFF },
     { sub := 2, type := 9, size := 16 },
     { sub := 3, type := 9, size := 64 },
     { sub := 4, type := 9, size := 4096 },
     { sub := 5, type := 1, size := 1, access := 2, role := .operator }] },
  { base := 0x4001, count := 1, subs := [
     { sub := 1, type := 5, size := 8 },
     { sub := 2, type := 5, size := 8 },
     { sub := 3, type := 5, size := 8 },
     { sub := 4, type := 5, size := 8 },
     { sub := 5, type := 4, size := 4 },
     { sub := 6, type := 9, size := 64 }] },
  { base := 0x4002, count := 1, subs := [
     { sub := 1, type := 2, size := 1, access := 1, world := 1, role := .operator, rule := .span 0 15 },
     { sub := 2, type := 4, size := 4, world := 1, role := .operator },
     { sub := 3, type := 8, size := 8, world := 1, role := .operator },
     { sub := 4, type := 2, size := 1, world := 1, role := .operator },
     { sub := 5, type := 3, size := 2, access := 1, world := 1, role := .operator },
     { sub := 6, type := 9, size := 2048, world := 1, role := .operator },
     { sub := 7, type := 3, size := 2 },
     { sub := 8, type := 4, size := 4 }] },
  { base := 0x4100, count := 64, subs := [
     { sub := 1, type := 4, size := 4 },
     { sub := 2, type := 2, size := 1 },
     { sub := 3, type := 8, size := 8 },
     { sub := 4, type := 8, size := 8 },
     { sub := 5, type := 4, size := 4 },
     { sub := 6, type := 1, size := 1, access := 2, world := 1, role := .fleet }] }]

/-- Objects of Vager, part 2 of the table. -/
def vagerInfo2 : List IdxInfo := [
  { base := 0x4140, count := 1, subs := [
     { sub := 1, type := 4, size := 4, access := 1, world := 1, role := .fleet, rule := .span 1000 600000000 },
     { sub := 2, type := 2, size := 1 }] },
  { base := 0x4200, count := 1, subs := [
     { sub := 1, type := 3, size := 2, access := 1, mask := 0x3FF },
     { sub := 2, type := 5, size := 8 },
     { sub := 3, type := 7, size := 8 },
     { sub := 4, type := 5, size := 8 },
     { sub := 5, type := 8, size := 8 },
     { sub := 6, type := 4, size := 4 },
     { sub := 7, type := 4, size := 4 },
     { sub := 8, type := 5, size := 8 },
     { sub := 9, type := 4, size := 4 },
     { sub := 10, type := 4, size := 4 },
     { sub := 11, type := 4, size := 4 },
     { sub := 12, type := 4, size := 4 }] },
  { base := 0x4280, count := 1, subs := [
     { sub := 1, type := 3, size := 2, access := 1, mask := 0x3FF },
     { sub := 2, type := 5, size := 8 },
     { sub := 3, type := 9, size := 32 },
     { sub := 4, type := 9, size := 2368 },
     { sub := 5, type := 8, size := 8 },
     { sub := 6, type := 3, size := 2 },
     { sub := 7, type := 5, size := 8 },
     { sub := 8, type := 4, size := 4 },
     { sub := 9, type := 9, size := 96 },
     { sub := 10, type := 4, size := 4 }] },
  { base := 0x4300, count := 1, subs := [
     { sub := 1, type := 3, size := 2, access := 1, world := 1, role := .fleet, rule := .span 0 8191 },
     { sub := 2, type := 3, size := 2, access := 1, world := 1, role := .fleet, rule := .oneOr 65535 0 8191 },
     { sub := 3, type := 9, size := 16, access := 1, world := 1, role := .fleet },
     { sub := 4, type := 3, size := 2, access := 1, world := 1, role := .fleet, rule := .oneOr 65535 0 8191 },
     { sub := 5, type := 9, size := 16, access := 1, world := 1, role := .fleet },
     { sub := 6, type := 2, size := 1, access := 1, world := 1, role := .fleet, rule := .span 0 7 },
     { sub := 7, type := 3, size := 2, access := 1, world := 1, role := .fleet },
     { sub := 8, type := 4, size := 4, access := 1, world := 1, role := .fleet, rule := .span 100 100000 },
     { sub := 9, type := 2, size := 1, access := 1, world := 1, role := .fleet, rule := .span 2 16 },
     { sub := 10, type := 4, size := 4 },
     { sub := 11, type := 4, size := 4, access := 1, world := 1, role := .fleet },
     { sub := 12, type := 2, size := 1 },
     { sub := 13, type := 4, size := 4 },
     { sub := 14, type := 4, size := 4 },
     { sub := 15, type := 4, size := 4 },
     { sub := 16, type := 1, size := 1, access := 2, world := 1, role := .fleet },
     { sub := 17, type := 4, size := 4 }] },
  { base := 0x4310, count := 64, subs := [
     { sub := 1, type := 3, size := 2, access := 1, world := 1, role := .fleet, rule := .oneOr 65535 0 8191 },
     { sub := 2, type := 9, size := 16, access := 1, world := 1, role := .fleet },
     { sub := 3, type := 3, size := 2, access := 1, world := 1, role := .fleet },
     { sub := 4, type := 2, size := 1 },
     { sub := 5, type := 4, size := 4 },
     { sub := 6, type := 4, size := 4 }] },
  { base := 0x4350, count := 1, subs := [
     { sub := 1, type := 9, size := 4128, access := 2, world := 1, role := .fleet },
     { sub := 2, type := 4, size := 4 },
     { sub := 3, type := 2, size := 1 },
     { sub := 4, type := 9, size := 32 },
     { sub := 5, type := 3, size := 2 },
     { sub := 6, type := 3, size := 2 }] },
  { base := 0x4360, count := 4, subs := [
     { sub := 1, type := 9, size := 67108864, access := 1, world := 1, seg := true },
     { sub := 2, type := 4, size := 4, access := 1, world := 1, rule := .mult 32 0 67108864 },
     { sub := 3, type := 9, size := 32, access := 1, world := 1, role := .fleet },
     { sub := 4, type := 9, size := 32 },
     { sub := 5, type := 2, size := 1 },
     { sub := 6, type := 4, size := 4 }] },
  { base := 0x4368, count := 1, subs := [
     { sub := 1, type := 2, size := 1 },
     { sub := 2, type := 2, size := 1 },
     { sub := 3, type := 4, size := 4 }] },
  { base := 0x4370, count := 32, subs := [
     { sub := 1, type := 3, size := 2 },
     { sub := 2, type := 3, size := 2 },
     { sub := 3, type := 2, size := 1 },
     { sub := 4, type := 4, size := 4 },
     { sub := 5, type := 4, size := 4 }] },
  { base := 0x4800, count := 1, subs := [
     { sub := 1, type := 1, size := 1, access := 1, world := 1, role := .fleet },
     { sub := 2, type := 9, size := 4 },
     { sub := 3, type := 9, size := 4 },
     { sub := 4, type := 9, size := 9 },
     { sub := 5, type := 9, size := 8 },
     { sub := 6, type := 9, size := 4 },
     { sub := 7, type := 5, size := 8 },
     { sub := 8, type := 4, size := 4, access := 1, world := 1, role := .fleet, rule := .span 100 100000 },
     { sub := 9, type := 4, size := 4 },
     { sub := 10, type := 4, size := 4 },
     { sub := 11, type := 4, size := 4 }] },
  { base := 0x4810, count := 1, subs := [
     { sub := 1, type := 4, size := 4, access := 1, mask := 0xFFFFF },
     { sub := 2, type := 5, size := 8, access := 1, world := 1, role := .operator },
     { sub := 3, type := 9, size := 128 },
     { sub := 4, type := 1, size := 1, access := 2, world := 1, role := .operator },
     { sub := 5, type := 8, size := 8 },
     { sub := 6, type := 2, size := 1 }] },
  { base := 0x4820, count := 1, subs := [
     { sub := 1, type := 5, size := 8 },
     { sub := 2, type := 5, size := 8 },
     { sub := 3, type := 4, size := 4 },
     { sub := 4, type := 4, size := 4 }] }]

/-- Objects of Vager, part 3 of the table. -/
def vagerInfo3 : List IdxInfo := [
  { base := 0x4830, count := 1, subs := [
     { sub := 1, type := 4, size := 4, access := 1, mask := 0x3FFFFF },
     { sub := 2, type := 9, size := 32, access := 1, world := 1, role := .operator },
     { sub := 3, type := 9, size := 32 },
     { sub := 4, type := 1, size := 1, access := 2, world := 1, role := .operator },
     { sub := 5, type := 5, size := 8 },
     { sub := 6, type := 4, size := 4 },
     { sub := 7, type := 2, size := 1 },
     { sub := 8, type := 4, size := 4 },
     { sub := 9, type := 4, size := 4, access := 1, mask := 0xFFFFF },
     { sub := 10, type := 4, size := 4 }] },
  { base := 0x4838, count := 1, subs := [
     { sub := 1, type := 3, size := 2, access := 1, rule := .span 0 16383 },
     { sub := 2, type := 4, size := 4, access := 1, world := 1, role := .operator, rule := .span 1000 3600000000 },
     { sub := 3, type := 9, size := 4096 },
     { sub := 4, type := 4, size := 4 }] },
  { base := 0x4840, count := 1, subs := [
     { sub := 1, type := 2, size := 1, access := 1 },
     { sub := 2, type := 7, size := 8, access := 1, world := 1, role := .operator },
     { sub := 3, type := 4, size := 4, access := 1, world := 1, role := .operator, mask := 0x7FFFF, rule := .field 18 16 3 },
     { sub := 4, type := 8, size := 8 },
     { sub := 5, type := 1, size := 1 }] },
  { base := 0x4880, count := 64, subs := [
     { sub := 1, type := 2, size := 1 },
     { sub := 2, type := 2, size := 1, access := 1, world := 1, role := .operator, mask := 0xF },
     { sub := 3, type := 2, size := 1, access := 2, world := 1, role := .operator, rule := .span 1 2 },
     { sub := 4, type := 8, size := 8, access := 1, world := 1, role := .operator },
     { sub := 5, type := 2, size := 1, access := 1, world := 1, role := .operator, rule := .oneOr 255 0 63 },
     { sub := 6, type := 4, size := 4, access := 1, world := 1, role := .operator },
     { sub := 7, type := 4, size := 4, access := 1, world := 1, role := .operator },
     { sub := 8, type := 4, size := 4, access := 1, world := 1, role := .operator, rule := .oneOr 0 10 60000000 },
     { sub := 9, type := 8, size := 8, access := 1, world := 1, role := .operator },
     { sub := 10, type := 3, size := 2, access := 1, world := 1, role := .operator },
     { sub := 11, type := 1, size := 1, access := 1, world := 1, role := .operator },
     { sub := 12, type := 9, size := 32 },
     { sub := 13, type := 4, size := 4 },
     { sub := 14, type := 9, size := 4 },
     { sub := 15, type := 2, size := 1 },
     { sub := 16, type := 2, size := 1 },
     { sub := 17, type := 4, size := 4 },
     { sub := 18, type := 4, size := 4 },
     { sub := 19, type := 8, size := 8 },
     { sub := 20, type := 8, size := 8 },
     { sub := 21, type := 4, size := 4 },
     { sub := 22, type := 9, size := 16 }] },
  { base := 0x4900, count := 256, subs := [
     { sub := 1, type := 6, size := 4, access := 1, world := 1, role := .operator },
     { sub := 2, type := 6, size := 4, access := 1, world := 1, role := .operator },
     { sub := 3, type := 2, size := 1, access := 1, world := 1, role := .operator, rule := .span 1 127 },
     { sub := 4, type := 4, size := 4, access := 1, world := 1, role := .operator, mask := 0x1FFFF },
     { sub := 5, type := 3, size := 2, access := 1, world := 1, role := .operator },
     { sub := 6, type := 3, size := 2, access := 1, world := 1, role := .operator },
     { sub := 7, type := 4, size := 4 },
     { sub := 8, type := 4, size := 4 }] },
  { base := 0x4A00, count := 1, subs := [
     { sub := 1, type := 9, size := 67108864, access := 1, world := 1, role := .operator, seg := true },
     { sub := 2, type := 4, size := 4, access := 1, world := 1, role := .operator, rule := .mult 32 0 67108864 }] },
  { base := 0x4A10, count := 1, subs := [
     { sub := 1, type := 4, size := 4 },
     { sub := 2, type := 4, size := 4, access := 1 },
     { sub := 3, type := 9, size := 4096 },
     { sub := 4, type := 4, size := 4 }] },
  { base := 0x4A20, count := 1, subs := [
     { sub := 1, type := 4, size := 4, access := 1, mask := 0x3FFFFFF },
     { sub := 2, type := 9, size := 32 },
     { sub := 3, type := 4, size := 4 }] },
  { base := 0x5080, count := 1, subs := [
     { sub := 1, type := 9, size := 64 },
     { sub := 2, type := 9, size := 64 },
     { sub := 3, type := 9, size := 64 },
     { sub := 4, type := 9, size := 64 }] },
  { base := 0x5081, count := 1, subs := [
     { sub := 1, type := 9, size := 64, world := 1, role := .operator },
     { sub := 2, type := 9, size := 32, world := 1, role := .operator },
     { sub := 3, type := 2, size := 1, world := 1, role := .operator }] },
  { base := 0x5440, count := 1, subs := [
     { sub := 1, type := 1, size := 1, access := 1, world := 1, role := .fleet },
     { sub := 2, type := 9, size := 18 },
     { sub := 3, type := 2, size := 1 },
     { sub := 4, type := 2, size := 1 },
     { sub := 5, type := 3, size := 2, access := 1, world := 1, role := .fleet, rule := .span 1 1024 },
     { sub := 6, type := 4, size := 4, access := 1, world := 1, role := .fleet, rule := .span 20 10000 },
     { sub := 7, type := 4, size := 4, access := 1, world := 1, role := .fleet, rule := .span 1000 10000000 },
     { sub := 8, type := 5, size := 8 },
     { sub := 9, type := 5, size := 8 }] },
  { base := 0x5441, count := 1, subs := [
     { sub := 1, type := 9, size := 128 },
     { sub := 2, type := 9, size := 64 },
     { sub := 3, type := 4, size := 4 },
     { sub := 4, type := 5, size := 8 },
     { sub := 5, type := 9, size := 72 },
     { sub := 6, type := 4, size := 4 },
     { sub := 7, type := 9, size := 72 },
     { sub := 8, type := 9, size := 64 },
     { sub := 9, type := 9, size := 144 }] }]

/-- Objects of Vager, part 4 of the table. -/
def vagerInfo4 : List IdxInfo := [
  { base := 0x5450, count := 16, subs := [
     { sub := 1, type := 9, size := 64, access := 1, world := 1, role := .fleet },
     { sub := 2, type := 2, size := 1 },
     { sub := 3, type := 2, size := 1 },
     { sub := 4, type := 9, size := 32 },
     { sub := 5, type := 1, size := 1, access := 2, world := 1, role := .fleet },
     { sub := 6, type := 5, size := 8 }] },
  { base := 0x5470, count := 1, subs := [
     { sub := 1, type := 4, size := 4 },
     { sub := 2, type := 4, size := 4, access := 1 },
     { sub := 3, type := 9, size := 4096 },
     { sub := 4, type := 4, size := 4 },
     { sub := 5, type := 3, size := 2, access := 1, world := 1, role := .operator }] },
  { base := 0x5478, count := 1, subs := [
     { sub := 1, type := 5, size := 8, access := 1, role := .operator, mask := 0xFFFFFFFFF },
     { sub := 2, type := 2, size := 1, role := .operator },
     { sub := 3, type := 1, size := 1, access := 1, world := 1, role := .operator },
     { sub := 4, type := 5, size := 8, access := 1, role := .operator },
     { sub := 5, type := 9, size := 4096, role := .operator, seg := true }] },
  { base := 0x5480, count := 1, subs := [
     { sub := 1, type := 9, size := 67108864, access := 1, world := 1, role := .operator, seg := true },
     { sub := 2, type := 4, size := 4, access := 1, world := 1, role := .operator, rule := .mult 32 0 67108864 },
     { sub := 3, type := 2, size := 1, access := 1, world := 1, role := .operator, rule := .oneOr 255 0 17 },
     { sub := 4, type := 1, size := 1, access := 2, world := 1, role := .operator },
     { sub := 5, type := 2, size := 1, role := .operator },
     { sub := 6, type := 2, size := 1, role := .operator },
     { sub := 7, type := 4, size := 4, role := .operator },
     { sub := 8, type := 5, size := 8, role := .operator },
     { sub := 9, type := 9, size := 67108864, role := .operator, seg := true }] },
  { base := 0x5880, count := 1, subs := [
     { sub := 1, type := 5, size := 8, access := 1, world := 1, role := .fleet, rule := .mult 4096 0 572000000000 },
     { sub := 2, type := 3, size := 2 },
     { sub := 3, type := 2, size := 1 },
     { sub := 4, type := 9, size := 32, access := 2, world := 1, role := .fleet },
     { sub := 5, type := 2, size := 1 },
     { sub := 6, type := 2, size := 1 },
     { sub := 7, type := 1, size := 1, access := 2, world := 1, role := .fleet },
     { sub := 8, type := 9, size := 32 },
     { sub := 9, type := 3, size := 2, access := 1, world := 1, role := .fleet },
     { sub := 10, type := 9, size := 48 }] },
  { base := 0x5881, count := 1, subs := [
     { sub := 1, type := 4, size := 4 },
     { sub := 2, type := 4, size := 4 },
     { sub := 3, type := 4, size := 4 },
     { sub := 4, type := 2, size := 1 },
     { sub := 5, type := 9, size := 32 },
     { sub := 6, type := 8, size := 8 },
     { sub := 7, type := 4, size := 4 }] },
  { base := 0x5882, count := 1, subs := [
     { sub := 1, type := 4, size := 4 },
     { sub := 2, type := 4, size := 4 },
     { sub := 3, type := 4, size := 4 },
     { sub := 4, type := 5, size := 8 },
     { sub := 5, type := 4, size := 4 },
     { sub := 6, type := 4, size := 4 },
     { sub := 7, type := 4, size := 4 },
     { sub := 8, type := 4, size := 4 },
     { sub := 9, type := 4, size := 4 },
     { sub := 10, type := 3, size := 2 },
     { sub := 11, type := 9, size := 32 },
     { sub := 12, type := 4, size := 4 },
     { sub := 13, type := 9, size := 128 }] },
  { base := 0x5883, count := 1, subs := [
     { sub := 1, type := 4, size := 4, access := 1, world := 1, role := .fleet, rule := .span 10000 60000000 },
     { sub := 2, type := 4, size := 4, access := 1, world := 1, role := .fleet, rule := .span 10000 10000000 },
     { sub := 3, type := 4, size := 4, access := 1, world := 1, role := .fleet, rule := .span 1000000 4000000000 },
     { sub := 4, type := 3, size := 2, access := 1, world := 1, role := .fleet },
     { sub := 5, type := 5, size := 8, access := 1, world := 1, role := .fleet, rule := .span 100000000 200000000000 },
     { sub := 6, type := 3, size := 2, access := 1, world := 1, role := .fleet, rule := .span 1 1024 },
     { sub := 7, type := 10, size := 223, access := 1, world := 1, role := .fleet }] },
  { base := 0x5884, count := 1, subs := [
     { sub := 1, type := 2, size := 1, access := 1, world := 1, role := .fleet },
     { sub := 2, type := 9, size := 512, access := 1, world := 1, role := .fleet },
     { sub := 3, type := 9, size := 4096, access := 1, world := 1, role := .fleet }] },
  { base := 0x5888, count := 8, subs := [
     { sub := 1, type := 2, size := 1, access := 1, world := 1, role := .fleet, rule := .span 0 2 },
     { sub := 2, type := 9, size := 16, access := 1, world := 1, role := .fleet },
     { sub := 3, type := 3, size := 2, access := 1, world := 1, role := .fleet },
     { sub := 4, type := 10, size := 223, access := 1, world := 1, role := .fleet },
     { sub := 5, type := 4, size := 4, access := 1, world := 1, role := .fleet },
     { sub := 6, type := 3, size := 2 },
     { sub := 7, type := 2, size := 1 },
     { sub := 8, type := 4, size := 4 }] },
  { base := 0x5890, count := 1, subs := [
     { sub := 1, type := 3, size := 2, access := 1, rule := .span 0 1023 },
     { sub := 2, type := 9, size := 32, access := 1, world := 1, role := .fleet },
     { sub := 3, type := 9, size := 32, access := 1, world := 1, role := .fleet },
     { sub := 4, type := 9, size := 32, access := 1, world := 1, role := .fleet }] },
  { base := 0x5898, count := 1, subs := [
     { sub := 1, type := 5, size := 8, access := 1, world := 1, role := .fleet, rule := .mult 4096 0 18446744073709551615 },
     { sub := 2, type := 5, size := 8, access := 1, world := 1, role := .fleet, rule := .mult 4096 8388608 18446744073709551615 },
     { sub := 3, type := 5, size := 8 },
     { sub := 4, type := 5, size := 8, access := 1 },
     { sub := 5, type := 3, size := 2, access := 1, world := 1, role := .operator }] }]

/-- Objects of Vager, part 5 of the table. -/
def vagerInfo5 : List IdxInfo := [
  { base := 0x58A0, count := 1, subs := [
     { sub := 1, type := 2, size := 1 },
     { sub := 2, type := 3, size := 2 },
     { sub := 3, type := 3, size := 2 },
     { sub := 4, type := 9, size := 36, access := 2, world := 1, role := .fleet },
     { sub := 5, type := 9, size := 32 }] },
  { base := 0x58B0, count := 1, subs := [
     { sub := 1, type := 9, size := 64, access := 2, world := 1, role := .fleet },
     { sub := 2, type := 2, size := 1 },
     { sub := 3, type := 2, size := 1 },
     { sub := 4, type := 9, size := 64 },
     { sub := 5, type := 9, size := 262176, access := 1, world := 1, seg := true },
     { sub := 6, type := 9, size := 8388608, access := 1, world := 1, seg := true },
     { sub := 7, type := 1, size := 1, access := 2, world := 1 },
     { sub := 8, type := 4, size := 4, access := 2, world := 1, role := .fleet },
     { sub := 9, type := 4, size := 4, access := 2, world := 1 },
     { sub := 10, type := 4, size := 4 },
     { sub := 11, type := 3, size := 2 },
     { sub := 12, type := 5, size := 8 },
     { sub := 13, type := 4, size := 4 }] },
  { base := 0x6080, count := 1, subs := [
     { sub := 1, type := 4, size := 4, access := 1, world := 1, role := .fleet, rule := .span 1000 60000000 },
     { sub := 2, type := 4, size := 4, access := 1, world := 1, role := .fleet, rule := .span 1 1048576 },
     { sub := 3, type := 5, size := 8, access := 1, world := 1, role := .fleet, rule := .mult 4096 67108864 18446744073709551615 },
     { sub := 4, type := 3, size := 2, access := 1, world := 1, role := .operator },
     { sub := 5, type := 9, size := 2048 },
     { sub := 6, type := 3, size := 2 }] },
  { base := 0x6081, count := 1, subs := [
     { sub := 1, type := 5, size := 8 },
     { sub := 2, type := 5, size := 8 },
     { sub := 3, type := 5, size := 8, access := 1 },
     { sub := 4, type := 5, size := 8, access := 1 },
     { sub := 5, type := 9, size := 4096, seg := true },
     { sub := 6, type := 4, size := 4 },
     { sub := 7, type := 5, size := 8, access := 2 },
     { sub := 8, type := 4, size := 4 }] },
  { base := 0x6082, count := 1, subs := [
     { sub := 1, type := 9, size := 64 },
     { sub := 2, type := 9, size := 64 },
     { sub := 3, type := 5, size := 8 },
     { sub := 4, type := 4, size := 4 },
     { sub := 5, type := 9, size := 64 },
     { sub := 6, type := 4, size := 4 }] },
  { base := 0x6400, count := 1, subs := [
     { sub := 1, type := 9, size := 8, access := 1, world := 1, role := .fleet, rule := .bytes 0 0 7 }] },
  { base := 0x6410, count := 2, subs := [
     { sub := 1, type := 2, size := 1 },
     { sub := 2, type := 9, size := 16, access := 1, world := 1, role := .fleet },
     { sub := 3, type := 2, size := 1, access := 1, world := 1, role := .fleet, rule := .span 1 128 },
     { sub := 4, type := 9, size := 16, access := 1, world := 1, role := .fleet },
     { sub := 5, type := 3, size := 2, access := 1, world := 1, role := .fleet, rule := .span 0 4094 },
     { sub := 6, type := 9, size := 8, access := 1, world := 1, role := .fleet, rule := .bytes 0 0 7 },
     { sub := 7, type := 2, size := 1, access := 1, world := 1, role := .operator, rule := .span 0 64 }] },
  { base := 0x6420, count := 2, subs := [
     { sub := 1, type := 9, size := 8192, access := 1, world := 1, role := .operator },
     { sub := 2, type := 3, size := 2, access := 1, world := 1, role := .operator },
     { sub := 3, type := 2, size := 1, access := 1, world := 1, role := .operator, mask := 3 },
     { sub := 4, type := 3, size := 2, access := 1, world := 1, role := .operator },
     { sub := 5, type := 4, size := 4, access := 1, world := 1, role := .operator },
     { sub := 6, type := 4, size := 4, access := 1, world := 1, role := .operator, rule := .span 10000 600000000 },
     { sub := 7, type := 8, size := 8, access := 1, world := 1, role := .operator },
     { sub := 8, type := 2, size := 1, access := 2, world := 1, role := .operator, rule := .span 1 2 },
     { sub := 9, type := 2, size := 1 },
     { sub := 10, type := 2, size := 1 },
     { sub := 11, type := 9, size := 8192 },
     { sub := 12, type := 3, size := 2 },
     { sub := 13, type := 2, size := 1 },
     { sub := 14, type := 8, size := 8 },
     { sub := 15, type := 3, size := 2 },
     { sub := 16, type := 2, size := 1 },
     { sub := 17, type := 5, size := 8 },
     { sub := 18, type := 4, size := 4 },
     { sub := 19, type := 4, size := 4 },
     { sub := 20, type := 1, size := 1 },
     { sub := 21, type := 8, size := 8 }] },
  { base := 0x6440, count := 16, subs := [
     { sub := 1, type := 1, size := 1, access := 1, world := 1, role := .operator },
     { sub := 2, type := 5, size := 8, access := 1, world := 1, role := .operator, rule := .span 1000000 800000000000 },
     { sub := 3, type := 7, size := 8, access := 1, world := 1, role := .operator },
     { sub := 4, type := 7, size := 8, access := 1, world := 1, role := .operator },
     { sub := 5, type := 2, size := 1, access := 1, world := 1, role := .operator, rule := .span 0 1 },
     { sub := 6, type := 7, size := 8 },
     { sub := 7, type := 5, size := 8 },
     { sub := 8, type := 5, size := 8 },
     { sub := 9, type := 4, size := 4 }] },
  { base := 0x6460, count := 2, subs := [
     { sub := 1, type := 5, size := 8 },
     { sub := 2, type := 5, size := 8 },
     { sub := 3, type := 4, size := 4 }] },
  { base := 0x6840, count := 16, subs := [
     { sub := 1, type := 9, size := 64, access := 1, world := 4 },
     { sub := 2, type := 2, size := 1, access := 2, world := 4, rule := .span 1 5 },
     { sub := 3, type := 2, size := 1, world := 4 },
     { sub := 4, type := 9, size := 64, world := 4 },
     { sub := 5, type := 1, size := 1, world := 4 },
     { sub := 6, type := 5, size := 8, world := 4 },
     { sub := 7, type := 4, size := 4, world := 4 },
     { sub := 8, type := 5, size := 8, world := 4 },
     { sub := 9, type := 5, size := 8, world := 4 },
     { sub := 10, type := 3, size := 2, access := 1, world := 4 },
     { sub := 11, type := 2, size := 1, access := 1, world := 1, role := .fleet, rule := .span 0 1 },
     { sub := 12, type := 4, size := 4, world := 4 },
     { sub := 13, type := 2, size := 1, world := 4 },
     { sub := 14, type := 2, size := 1 }] },
  { base := 0x7080, count := 1, subs := [
     { sub := 1, type := 4, size := 4 },
     { sub := 2, type := 4, size := 4, access := 1 },
     { sub := 3, type := 9, size := 4096 },
     { sub := 4, type := 4, size := 4 },
     { sub := 5, type := 1, size := 1, access := 1, world := 1, role := .fleet },
     { sub := 6, type := 3, size := 2, access := 1, world := 1, role := .operator }] }]

/-- Objects of Vager, part 6 of the table. -/
def vagerInfo6 : List IdxInfo := [
  { base := 0x7090, count := 5, subs := [
     { sub := 1, type := 4, size := 4, access := 1, world := 1, role := .fleet },
     { sub := 2, type := 4, size := 4, access := 1, world := 1, role := .fleet },
     { sub := 3, type := 4, size := 4, access := 1, world := 1, role := .fleet },
     { sub := 4, type := 4, size := 4, access := 1, world := 1, role := .fleet, rule := .span 1 4000000 },
     { sub := 5, type := 3, size := 2, access := 4 },
     { sub := 6, type := 3, size := 2, access := 4 },
     { sub := 7, type := 3, size := 2 },
     { sub := 8, type := 2, size := 1 },
     { sub := 9, type := 4, size := 4 },
     { sub := 10, type := 5, size := 8 }] },
  { base := 0x70A0, count := 1, subs := [
     { sub := 1, type := 4, size := 4, access := 1, mask := 0xFFFFFF },
     { sub := 2, type := 4, size := 4 },
     { sub := 3, type := 2, size := 1 },
     { sub := 4, type := 4, size := 4 },
     { sub := 5, type := 1, size := 1, access := 2, world := 1, role := .fleet }] },
  { base := 0x70B0, count := 1, subs := [
     { sub := 1, type := 3, size := 2 },
     { sub := 2, type := 3, size := 2, access := 1 },
     { sub := 3, type := 5, size := 8 },
     { sub := 4, type := 9, size := 12 }] },
  { base := 0x70C0, count := 16, subs := [
     { sub := 1, type := 2, size := 1 },
     { sub := 2, type := 9, size := 48 },
     { sub := 3, type := 1, size := 1, access := 2, world := 1, role := .fleet },
     { sub := 4, type := 2, size := 1 },
     { sub := 5, type := 9, size := 32 },
     { sub := 6, type := 5, size := 8, access := 1, role := .operator },
     { sub := 7, type := 9, size := 4096, role := .operator, seg := true },
     { sub := 8, type := 1, size := 1, access := 2, role := .operator },
     { sub := 9, type := 4, size := 4 }] },
  { base := 0x70F0, count := 1, subs := [
     { sub := 1, type := 9, size := 64 }] },
  { base := 0x7100, count := 1, subs := [
     { sub := 1, type := 1, size := 1, access := 2, world := 1, role := .fleet },
     { sub := 2, type := 2, size := 1 },
     { sub := 3, type := 4, size := 4 }] },
  { base := 0x7440, count := 1, subs := [
     { sub := 1, type := 9, size := 8192, access := 4 },
     { sub := 2, type := 3, size := 2, access := 4 },
     { sub := 3, type := 9, size := 48, access := 4 }] },
  { base := 0x7441, count := 1, subs := [
     { sub := 1, type := 2, size := 1, access := 4 },
     { sub := 2, type := 2, size := 1, access := 4 },
     { sub := 3, type := 1, size := 1, access := 4 }] },
  { base := 0x7442, count := 1, subs := [
     { sub := 1, type := 1, size := 1, access := 1, world := 1, role := .fleet },
     { sub := 2, type := 4, size := 4, access := 1, world := 1, role := .fleet, rule := .span 1 86400 },
     { sub := 3, type := 4, size := 4 },
     { sub := 4, type := 4, size := 4 }] },
  { base := 0x7443, count := 1, subs := [
     { sub := 1, type := 1, size := 1, access := 1, world := 1, role := .fleet }] },
  { base := 0x7448, count := 16, subs := [
     { sub := 1, type := 5, size := 8, access := 1, world := 1, role := .fleet },
     { sub := 2, type := 5, size := 8, access := 1, world := 1, role := .fleet },
     { sub := 3, type := 2, size := 1, access := 1, world := 1, role := .fleet, rule := .span 0 1 },
     { sub := 4, type := 1, size := 1, access := 1, world := 1, role := .fleet }] },
  { base := 0x7460, count := 8, subs := [
     { sub := 1, type := 9, size := 2048, access := 1, world := 1, role := .fleet, persist := true },
     { sub := 2, type := 3, size := 2, access := 1, world := 1, role := .fleet, persist := true },
     { sub := 3, type := 2, size := 1, access := 1, world := 1, role := .fleet, persist := true, rule := .span 0 4 },
     { sub := 4, type := 2, size := 1, access := 1, world := 1, role := .fleet, persist := true, rule := .span 0 1 },
     { sub := 5, type := 2, size := 1, persist := true }] }]

/-- Objects of Vager, part 7 of the table. -/
def vagerInfo7 : List IdxInfo := [
  { base := 0x7470, count := 1, subs := [
     { sub := 1, type := 9, size := 1024 },
     { sub := 2, type := 3, size := 2 },
     { sub := 3, type := 9, size := 2048, access := 1, world := 1, role := .fleet },
     { sub := 4, type := 3, size := 2, access := 1, world := 1, role := .fleet },
     { sub := 5, type := 2, size := 1 }] },
  { base := 0x7478, count := 1, subs := [
     { sub := 1, type := 3, size := 2 },
     { sub := 2, type := 4, size := 4 },
     { sub := 3, type := 3, size := 2, access := 1, world := 1, role := .fleet, rule := .span 1 64 },
     { sub := 4, type := 4, size := 4, access := 1, world := 1, role := .fleet, rule := .span 10 86400 },
     { sub := 5, type := 3, size := 2 }] },
  { base := 0x7480, count := 1, subs := [
     { sub := 1, type := 3, size := 2, access := 1, world := 1, role := .fleet, rule := .oneOr 65535 0 8191 },
     { sub := 2, type := 2, size := 1 },
     { sub := 3, type := 4, size := 4 },
     { sub := 4, type := 3, size := 2 },
     { sub := 5, type := 4, size := 4 }] },
  { base := 0x7490, count := 1, subs := [
     { sub := 1, type := 2, size := 1, access := 1, world := 1, role := .fleet, mask := 3 },
     { sub := 2, type := 5, size := 8 },
     { sub := 3, type := 2, size := 1, access := 1 },
     { sub := 4, type := 9, size := 128 }] },
  { base := 0x7840, count := 1, subs := [
     { sub := 1, type := 5, size := 8, role := .operator },
     { sub := 2, type := 5, size := 8, role := .operator },
     { sub := 3, type := 5, size := 8, access := 1, role := .operator },
     { sub := 4, type := 9, size := 256, role := .operator },
     { sub := 5, type := 1, size := 1, access := 1, role := .operator },
     { sub := 6, type := 4, size := 4, access := 1, world := 1, role := .fleet, rule := .span 1 3600 },
     { sub := 7, type := 3, size := 2 },
     { sub := 8, type := 4, size := 4 },
     { sub := 9, type := 1, size := 1, access := 2, world := 1, role := .fleet },
     { sub := 10, type := 4, size := 4, role := .operator },
     { sub := 11, type := 2, size := 1 }] },
  { base := 0x7841, count := 1, subs := [
     { sub := 1, type := 4, size := 4 },
     { sub := 2, type := 4, size := 4 },
     { sub := 3, type := 5, size := 8 }] },
  { base := 0x7848, count := 1, subs := [
     { sub := 1, type := 2, size := 1 },
     { sub := 2, type := 4, size := 4 },
     { sub := 3, type := 4, size := 4, access := 1, world := 1, role := .fleet, rule := .span 10 60000 },
     { sub := 4, type := 2, size := 1, access := 1, world := 1, role := .fleet, rule := .span 2 16 },
     { sub := 5, type := 4, size := 4, access := 1, world := 1, role := .fleet, rule := .span 60 86400 },
     { sub := 6, type := 2, size := 1 },
     { sub := 7, type := 1, size := 1, access := 2, world := 1, role := .fleet }] },
  { base := 0x7850, count := 1, subs := [
     { sub := 1, type := 9, size := 48 },
     { sub := 2, type := 9, size := 24 },
     { sub := 3, type := 6, size := 4, access := 1, world := 1, role := .operator },
     { sub := 4, type := 3, size := 2 }] },
  { base := 0x7860, count := 1, subs := [
     { sub := 1, type := 9, size := 2 },
     { sub := 2, type := 9, size := 4 },
     { sub := 3, type := 9, size := 16777216, access := 1, world := 1, role := .fleet, seg := true },
     { sub := 4, type := 4, size := 4, access := 1, world := 1, role := .fleet },
     { sub := 5, type := 2, size := 1 },
     { sub := 6, type := 2, size := 1 },
     { sub := 7, type := 1, size := 1, access := 1, world := 1, role := .fleet },
     { sub := 8, type := 2, size := 1, access := 2, world := 1, role := .fleet, rule := .span 1 2 },
     { sub := 9, type := 1, size := 1, access := 2, world := 1, role := .fleet },
     { sub := 10, type := 4, size := 4, access := 1, world := 1, role := .fleet, rule := .span 60 86400 },
     { sub := 11, type := 3, size := 2 },
     { sub := 12, type := 1, size := 1, access := 1, world := 1, role := .fleet },
     { sub := 13, type := 9, size := 16 }] },
  { base := 0x7C40, count := 1, subs := [
     { sub := 1, type := 2, size := 1 },
     { sub := 2, type := 9, size := 40 },
     { sub := 3, type := 4, size := 4, access := 1, world := 1, role := .fleet, rule := .span 10 1000000 },
     { sub := 4, type := 4, size := 4, access := 1, world := 1, role := .fleet, rule := .span 1 3600000 },
     { sub := 5, type := 2, size := 1, access := 1, world := 1, role := .fleet, rule := .span 0 16 },
     { sub := 6, type := 4, size := 4 },
     { sub := 7, type := 2, size := 1 }] },
  { base := 0x7C48, count := 3, subs := [
     { sub := 1, type := 4, size := 4, access := 1, world := 1, role := .operator },
     { sub := 2, type := 1, size := 1, access := 2 },
     { sub := 3, type := 4, size := 4 },
     { sub := 4, type := 5, size := 8 }] },
  { base := 0x7C60, count := 32, subs := [
     { sub := 1, type := 2, size := 1 },
     { sub := 2, type := 4, size := 4 },
     { sub := 3, type := 5, size := 8 },
     { sub := 4, type := 8, size := 8 }] }]

/-- The objects that Vager implements, as its object tables give them. -/
def vagerInfo : List IdxInfo :=
  vagerInfo0 ++ vagerInfo1 ++ vagerInfo2 ++ vagerInfo3 ++ vagerInfo4 ++ vagerInfo5 ++ vagerInfo6 ++ vagerInfo7

/-- The descriptors of a part. -/
def partInfo : Part → List IdxInfo
  | .vager => vagerInfo
  | .staris _ => starisInfo

/-- The descriptors of index `i`, if the part implements it. -/
def idxInfo (p : Part) (i : Nat) : Option IdxInfo :=
  (partInfo p).find? fun x => decide (x.base ≤ i) && decide (i < x.base + x.count)

/-- The highest implemented sub-index (R503). -/
def IdxInfo.top (x : IdxInfo) : Nat := (x.subs.map SubInfo.sub).foldl max 0

/-- Every sub-index has one type: the whole index is an ARRAY, and otherwise a RECORD (R501, R503). -/
def IdxInfo.isArray (x : IdxInfo) : Bool :=
  match x.subs with
  | [] => false
  | a :: t => t.all fun b => b.type == a.type && b.size == a.size

/-- Sub-index 0x00 (R503). -/
def IdxInfo.zero (x : IdxInfo) : SubInfo := { sub := 0, type := if x.isArray then 0x0C else 0x0B, size := x.top }

/-- The descriptor of sub-index `sub`, sub-index 0x00 included. -/
def IdxInfo.find (x : IdxInfo) (sub : Nat) : Option SubInfo :=
  if sub = 0 then some x.zero else x.subs.find? fun y => y.sub == sub

/-- The descriptor of an object of a part. -/
def subInfo (p : Part) (index sub : Nat) : Option SubInfo := (idxInfo p index).bind fun x => x.find sub

/-- The key of an object. -/
def objKey (index sub : Nat) : Nat := 256 * index + sub

/-- TYPE is OCTETS or STRING (R501). -/
def SubInfo.isOctets (x : SubInfo) : Bool := x.type == 9 || x.type == 10

/-- The implemented object after (index, sub), if there is one (0x1010:03). -/
def nextObject (p : Part) (index sub : Nat) : Option (Nat × Nat) :=
  let here := match idxInfo p index with
    | some x => ((x.subs.map SubInfo.sub).filter fun y => decide (sub < y)).head?
    | none => none
  match here with
  | some y => some (index, y)
  | none =>
    match (partInfo p).find? fun x => decide (index + 1 < x.base + x.count) with
    | some x => some (max x.base (index + 1), 0)
    | none => none

/-- The words of `k` bytes that bytes hold, the last padded with zeros. -/
def wordsOf (k : Nat) (data : List Nat) : List Nat :=
  (List.range ((data.length + k - 1) / k)).map fun i => ofBytes ((data.drop (k * i)).take k)

/-- The second, fourth and every other even member of a list. -/
def oddOnes : List Nat → List Nat
  | _ :: x :: t => x :: oddOnes t
  | _ => []

/-- A value, read as its type gives it, lies in the range that the object's Effect states (R510). -/
def SubInfo.inRange (x : SubInfo) (data : List Nat) : Bool :=
  let n := ofBytes data
  let v : Int := if x.type = 6 then toSigned 32 n else if x.type = 7 then toSigned 64 n else (n : Int)
  match x.rule with
  | .any => x.type != 1 || decide (n ≤ 1)
  | .span lo hi => decide (lo ≤ v) && decide (v ≤ hi)
  | .oneOr y lo hi => v == y || (decide (lo ≤ v) && decide (v ≤ hi))
  | .mult k lo hi => n % k == 0 && decide (lo ≤ n) && decide (n ≤ hi)
  | .zeroMult k lo hi => n == 0 || (n % k == 0 && decide (lo ≤ n) && decide (n ≤ hi))
  | .bytes y lo hi => data.all fun b => b == y || (decide (lo ≤ b) && decide (b ≤ hi))
  | .words top => decide ((wordsOf 2 data).sum ≤ top)
  | .ranges k top =>
    let ws := wordsOf 8 data
    ws.all (fun x => x % k == 0) && decide ((oddOnes ws).sum ≤ top)
  | .field hi lo top => decide (bits n hi lo ≤ top)

end Sys2Proof.Machine
end

