-- ==== Sys2Proof/Machine/Gates.lean ====
section
/-! DEFINITION. Machine/Gates.lean: the egress gates and shapers of the two fabric ports (chapter 12). -/

namespace Sys2Proof.Machine
open Sys2Proof

/-- Fabric port `q` beyond its objects. -/
def State.gate (s : State) (q : Nat) : GatePort := Tbl.get (fun _ => {}) s.vager.gates q

/-- Fabric port `q` replaced. -/
def State.setGate (s : State) (q : Nat) (g : GatePort) : State :=
  s.setVager { s.vager with gates := Tbl.set (fun _ => {}) s.vager.gates q g }

/-- The queue of class `c`. -/
def GatePort.queue (g : GatePort) (c : Nat) : List Frame := Tbl.get (fun _ => []) g.queues c

/-- The queue of class `c` replaced. -/
def GatePort.setQueue (g : GatePort) (c : Nat) (l : List Frame) : GatePort :=
  { g with queues := Tbl.set (fun _ => []) g.queues c l }

/-- The shaper of class `c`. -/
def GatePort.shaper (g : GatePort) (c : Nat) : Shaper := Tbl.get (fun _ => {}) g.shapers c

/-- The shaper of class `c` replaced. -/
def GatePort.setShaper (g : GatePort) (c : Nat) (x : Shaper) : GatePort :=
  { g with shapers := Tbl.set (fun _ => {}) g.shapers c x }

/-! ### Gate control lists (R415 to R419) -/

/-- Entry `i` of a list of R415 held in octet object `k`. -/
def State.gclEntry (s : State) (k i : Nat) : Nat := s.elem .vager k 8 i

/-- INTERVAL of an entry. -/
def gclInterval (e : Nat) : Nat := bits e 39 8

/-- GATES of an entry. -/
def gclGates (e : Nat) : Nat := bits e 7 0

/-- The entries in use of the operational list of port `q`. -/
def State.operList (s : State) (q : Nat) : List Nat :=
  (List.range (s.rd .vager (O.OPER_LENGTH_6420 q))).map (s.gclEntry (O.OPER_LIST_6420 q))

/-- The list runs in STEP mode and has not fallen back to TIME mode (R417, R418). -/
def State.stepping (s : State) (q : Nat) : Bool :=
  bitAt (s.rd .vager (O.OPER_MODE_6420 q)) 0 && s.rd .vager (O.ANCHOR_FREE_6420 q) == 0

/-- GATE_ENABLE of the operational mode (R419). -/
def State.gateEnabled (s : State) (q : Nat) : Bool := bitAt (s.rd .vager (O.OPER_MODE_6420 q)) 1

/-- Class `c` is open in the gates in force at port `q`. -/
def State.gateOpen (s : State) (q c : Nat) : Bool := bitAt (s.rd .vager (O.OPER_GATES_6420 q)) c

/-- Entry `i` of the operational list comes into force at extended time `t` (R414, R419). -/
def State.enterEntry (s : State) (q i t : Nat) : State :=
  let e := s.gclEntry (O.OPER_LIST_6420 q) i
  let s := s.wr .vager (O.OPER_ENTRY_6420 q) i
  let s := s.wr .vager (O.OPER_GATES_6420 q) (if s.gateEnabled q then gclGates e else 0xFF)
  let s := if i = 0 then s.wr .vager (O.OPER_BASE_6420 q) t else s
  s.setGate q { s.gate q with entryEnd := some (t + gclInterval e) }

/-- Whether a list of entries closes class `c` from one that begins at `t`; the instant at which it first does. `wrap` is
the whole list again, while the list runs in a cycle. -/
def closesAt (c : Nat) : Nat → List Nat → List Nat → Option Nat
  | _, [], _ => none
  | t, e :: es, wrap =>
    if bitAt (gclGates e) c then
      match es with
      | [] => match wrap with
        | [] => none
        | w :: ws => if bitAt (gclGates w) c then closesIn c (t + gclInterval e + gclInterval w) ws else some (t + gclInterval e)
      | _ => closesAt c (t + gclInterval e) es wrap
    else some t
where
  /-- the same, with no further cycle -/
  closesIn (c : Nat) : Nat → List Nat → Option Nat
    | _, [] => none
    | t, e :: es => if bitAt (gclGates e) c then closesIn c (t + gclInterval e) es else some t

/-- The next instant at which the gate of class `c` of port `q` closes, as the operational list stands (R413). -/
def State.nextClose (s : State) (q c : Nat) : Option Nat :=
  let l := s.operList q
  let listed := if s.gateEnabled q then
      match (s.gate q).entryEnd with
      | none => none
      | some t =>
        let rest := l.drop (s.rd .vager (O.OPER_ENTRY_6420 q) + 1)
        let wrap := if s.stepping q then [] else l
        match rest with
        | [] => closesAt c t wrap []
        | _ => closesAt c t rest wrap
    else none
  let a := s.gclEntry (O.ADMIN_LIST_6420 q) 0
  let pend := if s.rd .vager (O.CHANGE_STATE_6420 q) = 1 ∧ bitAt (s.rd .vager (O.ADMIN_MODE_6420 q)) 1
      ∧ bitAt (gclGates a) c = false then some (s.rd .vager (O.CHANGE_TIME_6420 q)) else none
  match listed, pend with
  | none, p => p
  | some t, none => some t
  | some t, some p => some (min t p)

/-- A frame of `len` bytes passes the guard rule (R413). -/
def State.guardPasses (s : State) (q c len : Nat) : Bool :=
  match s.nextClose q c with
  | none => true
  | some t => decide (s.extNow * 100 + len + s.rd .vager (O.OVERHEAD_6410 q) ≤ t * 100)

/-! ### Credit (R423, R424) -/

/-- One unit of bit of credit in the units of `Shaper.credit`. -/
def creditBit : Int := 65536 * 1000000000

/-- Credit held to the shaper's limits (R423). -/
def Shaper.clamp (x : Shaper) : Shaper := { x with credit := max (x.lo * creditBit) (min (x.hi * creditBit) x.credit) }

/-- Credit of a class that is not in transmission after `dt` ns (R423). -/
def Shaper.elapse (x : Shaper) (isOpen : Bool) (q : List Frame) (dt : Nat) : Shaper :=
  if x.enable = false ∨ isOpen = false then x
  else
    let up := x.credit + (x.slope : Int) * 65536 * dt
    match q with
    | f :: _ => if f.held then x else { x with credit := up }.clamp
    | [] => { x with credit := if 0 < x.credit then 0 else min 0 up }.clamp

/-- The credit of every class of port `q` is brought to now (log entry 31). -/
def State.accrue (s : State) (q : Nat) : State :=
  let g := s.gate q
  let dt := s.extNow - g.creditAt
  let busy := g.tx.map Prod.fst
  let g := (List.range 8).foldl (fun g c =>
    if busy = some c then g else g.setShaper c ((g.shaper c).elapse (s.gateOpen q c) (g.queue c) dt)) g
  s.setGate q { g with creditAt := s.extNow }

/-- The key of a shaper object of class `c` of port `q`. -/
def cbsIndex (q c : Nat) : Nat := 8 * q + c

/-- The written settings of class `c` take effect and its credit is reset (R424). -/
def State.applyCbs (s : State) (q c : Nat) : State :=
  let n := cbsIndex q c
  let hi := toSigned 64 (s.rd .vager (O.CREDIT_HI_6440 n))
  let lo := toSigned 64 (s.rd .vager (O.CREDIT_LO_6440 n))
  s.setGate q ((s.gate q).setShaper c
    { enable := s.rd .vager (O.CBS_ENABLE_6440 n) == 1
      slope := s.rd .vager (O.IDLE_SLOPE_6440 n)
      hi := hi
      lo := lo
      credit := if s.rd .vager (O.CREDIT_RESET_6440 n) = 1 then hi * creditBit else 0 })

/-- The credit that a frame of `len` bytes of a class costs in all, in the units of `Shaper.credit` (R423). -/
def State.frameCost (s : State) (q : Nat) (x : Shaper) (len : Nat) : Int :=
  ((len + s.rd .vager (O.OVERHEAD_6410 q)) * 8 : Nat) * (800000000000 - (x.slope : Int)) * creditBit / 800000000000

/-- The credit of class `c` of port `q` now; that of the class in transmission has fallen since its frame started (R423). -/
def State.creditNow (s : State) (q c : Nat) : Int :=
  let g := (s.accrue q).gate q
  let x := g.shaper c
  match g.tx with
  | none => x.credit
  | some (b, len) =>
    if b = c ∧ x.enable then
      let fall := (s.extNow - g.txAt : Nat) * (800000000000 - (x.slope : Int)) * 65536
      { x with credit := x.credit - min fall (s.frameCost q x len) }.clamp.credit
    else x.credit

/-- The frame in transmission ends: it is counted and its class pays for it (R423). -/
def State.endFrame (s : State) (q : Nat) : State :=
  match (s.gate q).tx with
  | none => s
  | some (c, len) =>
    let n := cbsIndex q c
    let g := s.gate q
    let x := g.shaper c
    let x := if x.enable then { x with credit := x.credit - s.frameCost q x len }.clamp else x
    let s := s.setGate q { g.setShaper c x with tx := none }
    ((s.bump .vager (O.FRAMES_TX_6440 n) 64).bump .vager (O.BYTES_TX_6440 n) 64 len).bump .vager
      (O.PORT_FRAMES_TX_6460 q) 64

/-- Class `c` has a head frame that its gate and shaper let go (R412). -/
def State.eligible (s : State) (q c : Nat) : Bool :=
  let g := s.gate q
  let x := g.shaper c
  !(g.queue c).isEmpty && s.gateOpen q c && (!x.enable || decide (0 ≤ x.credit))

/-- The head frame of class `c` is held by the guard rule, and counted once (R413). -/
def State.guardHold (s : State) (q c : Nat) : State :=
  let g := s.gate q
  match g.queue c with
  | [] => s
  | f :: fs =>
    let s := s.setGate q (g.setQueue c ({ f with held := true, counted := true } :: fs))
    if f.counted then s else s.bump .vager (O.GUARD_HOLDS_6460 q) 64

/-- A head frame that the guard rule held and lets pass, as the list stands now, is held no more (R413, R423). -/
def State.guardFrees (s : State) (q : Nat) : State :=
  let free := fun (g : GatePort) c => match g.queue c with
    | [] => g
    | f :: fs => if f.held && s.gateOpen q c && s.guardPasses q c f.len then g.setQueue c ({ f with held := false } :: fs) else g
  s.setGate q ((List.range 8).foldl free (s.gate q))

/-- The port starts the head frame of the highest class that R412 allows, trying the classes listed in order. -/
def State.startFrame (s : State) (q : Nat) : List Nat → State
  | [] => s
  | c :: cs =>
    let g := s.gate q
    match g.queue c with
    | [] => s.startFrame q cs
    | f :: fs =>
      if s.eligible q c then
        if s.guardPasses q c f.len then
          ((s.setGate q { g.setQueue c fs with tx := some (c, f.len), txAt := s.extNow }).wr .vager (O.QUEUE_FRAMES_6440 (cbsIndex q c))
            fs.length).emit (.frame q c f)
        else (s.guardHold q c).startFrame q cs
      else s.startFrame q cs

/-- An idle port that is up starts a frame where one may go (R412). -/
def State.serve (s : State) (q : Nat) : State :=
  let s := s.guardFrees q
  if (s.gate q).tx.isNone ∧ s.rd .vager (O.PORT_STATE_6410 q) = 1 then s.startFrame q [7, 6, 5, 4, 3, 2, 1, 0] else s

/-! ### Routes (R411) -/

/-- An IPv6 address from sixteen bytes, the first most significant. -/
def ipv6 (bs : List Nat) : Nat := ofBytes bs.reverse

/-- The address of fabric port `q`, 0 for a port not in use (R411, R556). -/
def State.portAddr (s : State) (q : Nat) : Nat := ipv6 (s.bytesAt .vager (O.PORT_ADDR_6410 q) 0 16)

/-- The router of fabric port `q`, 0 for none. -/
def State.portRouter (s : State) (q : Nat) : Nat := ipv6 (s.bytesAt .vager (O.PORT_ROUTER_6410 q) 0 16)

/-- Fabric port `q` is in use and its prefix holds the address `a`. -/
def State.inPrefix (s : State) (q a : Nat) : Bool :=
  let w := 128 - s.rd .vager (O.PORT_PREFIX_LEN_6410 q)
  s.portAddr q != 0 && s.portAddr q / 2 ^ w == a / 2 ^ w

/-- The port and the next hop for a destination: directly where a prefix holds it, port 0's before port 1's, and otherwise through a
router; none where there is none (R411; log entry 161). -/
def State.route (s : State) (a : Nat) : Option (Nat × Nat) :=
  match [0, 1].find? fun q => s.inPrefix q a with
  | some q => some (q, a)
  | none => ([0, 1].find? fun q => s.portAddr q != 0 && s.portRouter q != 0).map fun q => (q, s.portRouter q)

/-- An IP packet of `n` bytes of traffic `kind` joins the queue of its class at port `q`, in a frame tagged where the port has a VLAN
(R409 to R411). -/
def State.enqueueFrame (s : State) (q kind n hop : Nat) (msg : Option Datagram) : State :=
  let c := s.ob .vager O.CLASS_MAP_6400 kind % 8
  let vlan := s.rd .vager (O.VLAN_ID_6410 q)
  let tag := if vlan = 0 then none else some (vlan, s.ob .vager (O.PCP_MAP_6410 q) c % 8)
  let f : Frame := { kind := kind, len := n + 18 + (if vlan = 0 then 0 else 4), hop := hop, tag := tag, msg := msg }
  let s := s.accrue q
  let g := s.gate q
  let l := g.queue c ++ [f]
  ((s.setGate q (g.setQueue c l)).wr .vager (O.QUEUE_FRAMES_6440 (cbsIndex q c)) l.length).serve q

/-- The IP header of a packet for address `a`: IPv4 where it is an IPv4-mapped address (R212). -/
def ipHeader (a : Nat) : Nat := if a / 2 ^ 32 = 0xFFFF then 20 else 40

/-- A datagram leaves by the fabric port that reaches `a`, under its DTLS association; where nothing reaches it, it goes nowhere
(R212, R366, R411; log entry 162). -/
def State.sendDatagram (s : State) (a kind : Nat) (m : Datagram) : State :=
  match s.route a with
  | none => s
  | some (q, hop) => s.enqueueFrame q kind (ipHeader a + 8 + Config.dtlsOverhead + 32 * m.granules.length) hop (some m)

/-- The tray that a frame's datagram goes to, if it carries one. -/
def Frame.tray (f : Frame) : Option Nat := f.msg.map Datagram.tray

/-- FRAME_ENQUEUE. An IP packet of at most 9,000 bytes whose producer is not among the rules here joins the queue of its kind's class
(R409 to R411; log entry 32): LINK traffic at the port it is about, any other at the port that reaches its destination. -/
def execFrameEnqueue (kind : Fin 6) (q : Fin 2) (dst len : Nat) (s : State) : Result :=
  if 9000 < len then .next s
  else if kind.val = 0 then .next (s.enqueueFrame q.val 0 len dst none)
  else match s.route dst with
    | none => .next s
    | some (q, hop) => .next (s.enqueueFrame q kind.val len hop none)

/-- FRAME_TX_DONE. The frame in transmission, if any, ends; settings that wait take effect; the next frame starts (R412 to
R414, R423, R424). -/
def execFrameTxDone (q : Fin 2) (s : State) : Result :=
  let s := (s.accrue q.val).endFrame q.val
  let s := (List.range 8).foldl (fun s c =>
    if ((s.gate q.val).shaper c).pendingSet then s.applyCbs q.val c else s) s
  .next (s.serve q.val)

/-- R414: a frame in transmission whose gate a restart or takeover has closed is counted; `before` is the state before. -/
def State.countOverrun (s : State) (q : Nat) (before : State) : State :=
  match (s.gate q).tx with
  | none => s
  | some (c, _) =>
    if before.gateOpen q c && !s.gateOpen q c then s.bump .vager (O.OVERRUNS_6460 q) 32 else s

/-- GATE_ENTRY_END. The entry in force ends: the next takes effect, a cycle begins again, or a STEP list holds its last entry
(R416, R417). -/
def execGateEntryEnd (q : Fin 2) (s : State) : Result :=
  let n := q.val
  match (s.gate n).entryEnd with
  | none => .next s
  | some t =>
    if s.extNow < t then .next s
    else
      let s := s.accrue n
      let i := s.rd .vager (O.OPER_ENTRY_6420 n) + 1
      if i < s.rd .vager (O.OPER_LENGTH_6420 n) then .next ((s.enterEntry n i t).serve n)
      else if s.stepping n then .next (s.setGate n { s.gate n with entryEnd := none })
      else .next ((s.enterEntry n 0 t).serve n)

/-- ANCHOR_SCHEDULE: the close of this Vager's own tray partial of a round of group `cg`, in an OPEN context, sets the next
anchor instant; one still pending is dropped (R417, R418). -/
def State.scheduleAnchors (s : State) (cg : Nat) : State :=
  [0, 1].foldl (fun s q =>
    let g := s.gate q
    if bitAt (s.rd .vager (O.OPER_MODE_6420 q)) 0 ∧ g.anchorGroup = cg ∧ s.rd .vager (O.CTX_STATE_4100 (cg / 16)) = 2 then
      s.setGate q { g with anchorAt := some (s.extNow + g.anchorOffset) }
    else s) s

/-- ANCHOR_LOSS_EXPIRY. ANCHOR_LOSS has passed without an anchor: the list restarts at entry 0 in TIME mode (R418). -/
def execAnchorLossExpiry (q : Fin 2) (s : State) : Result :=
  let n := q.val
  if s.stepping n ∧ (s.gate n).lastAnchor + 1000 * s.rd .vager (O.ANCHOR_LOSS_6420 n) ≤ s.extNow then
    let t := (s.gate n).lastAnchor + 1000 * s.rd .vager (O.ANCHOR_LOSS_6420 n)
    let s := (s.accrue n).wr .vager (O.ANCHOR_FREE_6420 n) 1
    .next ((s.enterEntry n 0 t).serve n)
  else .next s

/-! ### Changing a list (R420 to R422) -/

/-- The longest time that class `c` is closed without a break in a list run round and round: the closed time at its start,
the longest run, and the run at its end; none where the class never opens. -/
def closedRun (c : Nat) : List Nat → Nat × Nat × Option Nat
  | [] => (0, 0, none)
  | e :: es =>
    let (tail, best, first) := closedRun c es
    if bitAt (gclGates e) c then (if first.isNone then tail else tail, max best (first.getD tail), some 0)
    else match first with
      | none => (tail + gclInterval e, best, none)
      | some f => (tail, best, some (f + gclInterval e))

/-- The longest continuous closure of class `c` across the wrap, in ns; none where the class is never open. -/
def longestClosed (c : Nat) (l : List Nat) : Option Nat :=
  match closedRun c l with
  | (_, _, none) => none
  | (tail, best, some f) => some (max best (f + tail))

/-- Code 7 of R420 for one list under one class map: LINK or TREE_CTL would be starved. -/
def State.starves (s : State) (l : List Nat) (stepMode : Bool) (map : List Nat) : Bool :=
  let limit := (s.rd .vager O.TREE_DEAD_COUNT_4300 - 1) * s.rd .vager O.TREE_HEARTBEAT_4300 * 1000
  [map.getD 0 0 % 8, map.getD 1 0 % 8].any fun c =>
    (match longestClosed c l with
      | none => true
      | some t => decide (limit < t))
    || (stepMode && !bitAt (gclGates (l.getLastD 0)) c)

/-- Bytes 0 to 5 of CLASS_MAP. -/
def State.classMap (s : State) : List Nat := s.bytesAt .vager O.CLASS_MAP_6400 0 6

/-- The code of R420 that refuses a takeover of port `q` now; 0 where none applies. -/
def State.changeRefusal (s : State) (q : Nat) : Nat :=
  let n := s.rd .vager (O.ADMIN_LENGTH_6420 q)
  let l := (List.range n).map (s.gclEntry (O.ADMIN_LIST_6420 q))
  let mode := s.rd .vager (O.ADMIN_MODE_6420 q)
  let cg := s.rd .vager (O.ADMIN_ANCHOR_GROUP_6420 q)
  let x := s.rd .vager (O.CTX_STATE_4100 (cg / 16))
  let named := decide (cg < 1024) && (x == 1 || x == 2) && (match Tbl.find s.vager.groups cg with
    | none => false
    | some g => bits g.cfg 15 14 == 1)
  if s.rd .vager (O.CHANGE_STATE_6420 q) = 1 then 1
  else if n = 0 ∨ 1024 < n then 2
  else if (l.any fun e => decide (2 ^ 40 ≤ e) || decide (gclInterval e < 1000)) then 3
  else if 60000000000 < (l.map gclInterval).sum then 4
  else if s.rd .vager (O.CHANGE_TIME_6420 q) < s.extNow + 1000000 then 5
  else if bitAt mode 0 && !named then 6
  else if bitAt mode 1 && s.starves l (bitAt mode 0) s.classMap then 7
  else 0

/-- CHANGE_SCHEDULE. Schedules a takeover at CHANGE_TIME, or refuses it with its code (R420). -/
def execChangeSchedule (w : Writer) (q : Fin 2) (s : State) : Result :=
  .next (s.writeBy w true .operator fun s =>
    let code := s.changeRefusal q.val
    let s := s.wr .vager (O.CHANGE_REFUSE_6420 q.val) code
    if code = 0 then (s.wr .vager (O.CHANGE_STATE_6420 q.val) 1).answer stOk
    else if code = 1 then s.answer stRefused
    else (s.wr .vager (O.CHANGE_STATE_6420 q.val) 2).answer stRefused)

/-- CHANGE_CANCEL. Cancels a pending takeover (R420). -/
def execChangeCancel (w : Writer) (q : Fin 2) (s : State) : Result :=
  .next (s.writeBy w true .operator fun s =>
    (if s.rd .vager (O.CHANGE_STATE_6420 q.val) = 1 then s.wr .vager (O.CHANGE_STATE_6420 q.val) 0 else s).answer stOk)

/-- The operational list, mode, anchor group and offset of port `n` take the administrative values at `t`, and the new list begins
at entry 0 (R421). -/
def State.takeAdmin (s : State) (n t : Nat) : State :=
  let v := Part.vager
  let s := s.writeOctets v (O.OPER_LIST_6420 n) 8192 (s.bytesAt v (O.ADMIN_LIST_6420 n) 0 8192)
  let s := s.wr v (O.OPER_LENGTH_6420 n) (s.rd v (O.ADMIN_LENGTH_6420 n))
  let s := s.wr v (O.OPER_MODE_6420 n) (s.rd v (O.ADMIN_MODE_6420 n))
  let s := s.wr v (O.CYCLE_TIME_6420 n) ((s.operList n).map gclInterval).sum
  let s := ((s.bump v (O.CHANGES_6420 n) 32).wr v (O.LAST_CHANGE_6420 n) t).wr v (O.CHANGE_STATE_6420 n) 3
  let s := s.wr v (O.ANCHOR_FREE_6420 n) 0
  let s := s.setGate n { s.gate n with
    anchorGroup := s.rd v (O.ADMIN_ANCHOR_GROUP_6420 n)
    anchorOffset := s.rd v (O.ADMIN_ANCHOR_OFFSET_6420 n)
    lastAnchor := t }
  s.enterEntry n 0 t

/-- The pending takeover, if its CHANGE_TIME is no later than `t` (R421). -/
def State.takeoverBy (s : State) (n t : Nat) : State :=
  let c := s.rd .vager (O.CHANGE_TIME_6420 n)
  if s.rd .vager (O.CHANGE_STATE_6420 n) = 1 ∧ c ≤ t then s.takeAdmin n c else s

/-- GATE_TAKEOVER. At CHANGE_TIME the operational list, mode, anchor group, offset and GATE_ENABLE take the administrative
values together, and the new list begins at entry 0 (R421). -/
def execGateTakeover (q : Fin 2) (s : State) : Result :=
  let n := q.val
  let v := Part.vager
  let t := s.rd v (O.CHANGE_TIME_6420 n)
  if s.rd v (O.CHANGE_STATE_6420 n) = 1 ∧ t ≤ s.extNow then
    .next ((((s.accrue n).takeAdmin n t).countOverrun n (s.accrue n)).serve n)
  else .next s

/-- ANCHOR_INSTANT. A takeover that is due by then is applied first; then the pending anchor instant restarts the list at entry 0 and
returns it to STEP mode (R417, R418, R421). -/
def execAnchorInstant (q : Fin 2) (s : State) : Result :=
  let n := q.val
  match (s.gate n).anchorAt with
  | none => .next s
  | some t =>
    if s.extNow < t then .next s
    else
      let old := s.accrue n
      let s := old.takeoverBy n t
      let s := s.setGate n { s.gate n with anchorAt := none }
      if bitAt (s.rd .vager (O.OPER_MODE_6420 n)) 0 then
        let s := (s.bump .vager (O.ANCHORS_6420 n) 32).wr .vager (O.ANCHOR_FREE_6420 n) 0
        let s := s.enterEntry n 0 t
        .next (((s.setGate n { s.gate n with lastAnchor := t }).countOverrun n old).serve n)
      else .next ((s.countOverrun n old).serve n)

/-- CLASS_MAP_WRITE. The map, refused where an operational list would starve LINK or TREE_CTL under it (R409, R422). -/
def execClassMapWrite (w : Writer) (map : List Nat) (s : State) : Result :=
  .next (s.writeBy w true .fleet fun s =>
    if 8 < map.length then s.answer stLength
    else if ((map.take 6).any fun c => decide (7 < c)) then s.answer stRange
    else if ([0, 1].any fun q => s.gateEnabled q &&
        s.starves (s.operList q) (bitAt (s.rd .vager (O.OPER_MODE_6420 q)) 0) map) then s.answer stRefused
    else (s.writeOctets .vager O.CLASS_MAP_6400 8 (map.take 6)).answer stOk)

/-- CBS_CONFIG_WRITE. A shaper setting: checked, and in force at the end of the frame in transmission, or at once on an idle
port (R424, R425). -/
def execCbsConfigWrite (w : Writer) (q : Fin 2) (c : Fin 8) (field : Fin 5) (value : Int) (s : State) : Result :=
  .next (s.writeBy w true .operator fun s =>
    let n := cbsIndex q.val c.val
    let key := O.CBS_ENABLE_6440 n + field.val
    let v := value.toNat
    let slope := fun i => s.rd .vager (O.IDLE_SLOPE_6440 (cbsIndex q.val i))
    let on := fun i => s.rd .vager (O.CBS_ENABLE_6440 (cbsIndex q.val i))
    let others := (((List.range 8).filter fun i => i != c.val && on i == 1).map slope).sum
    let mine := if field.val = 0 then v * slope c.val else if field.val = 1 then on c.val * v else 0
    let range := match field.val with
      | 0 => decide (value = 0 ∨ value = 1)
      | 1 => decide (1000000 ≤ value ∧ value ≤ 800000000000)
      | 4 => decide (value = 0 ∨ value = 1)
      | _ => decide (-(2 ^ 63) ≤ value ∧ value < 2 ^ 63)
    if range = false then s.answer stRange
    else if (field.val = 2 ∧ value < 0) ∨ (field.val = 3 ∧ 0 < value) then s.answer stRefused
    else if field.val < 2 ∧ 800000000000 < others + mine then s.answer stRefused
    else
      let s := (s.accrue q.val).wr .vager key (ofSigned 64 value)
      let g := s.gate q.val
      let s := if g.tx.isNone then s.applyCbs q.val c.val
        else s.setGate q.val (g.setShaper c.val { g.shaper c.val with pendingSet := true })
      s.answer stOk)

/-- FABRIC_LINK_UP. The port is up, and every class's credit is reset (R424). -/
def execFabricLinkUp (q : Fin 2) (s : State) : Result :=
  let s := (s.accrue q.val).wr .vager (O.PORT_STATE_6410 q.val) 1
  .next (((List.range 8).foldl (fun s c => s.applyCbs q.val c) s).serve q.val)

end Sys2Proof.Machine
end

