-- ==== Sys2Proof/Machine/TreeOps.lean ====
section
/-! DEFINITION. Machine/TreeOps.lean: this Vager's neighbours in the pod tree, the messages it sends them, and the answers to
broadcasts (R213 to R217, R224, R226). -/

namespace Sys2Proof.Machine
open Sys2Proof

/-! ### The tree: neighbours and messages (R213 to R217) -/

/-- Tray of slot `k`: child slots 0 to 63, adoption slots 64 to 95. -/
def State.kidTray (s : State) (k : Nat) : Nat :=
  if k < 64 then (Tbl.get (fun _ => (0xFFFF, 0)) s.vager.tree.kids k).1 else s.rd .vager (O.ADOPT_TRAY_4370 (k - 64))

/-- Cover of slot `k`. -/
def State.kidCover (s : State) (k : Nat) : Nat :=
  if k < 64 then (Tbl.get (fun _ => (0xFFFF, 0)) s.vager.tree.kids k).2 else s.rd .vager (O.ADOPT_COVER_4370 (k - 64))

/-- State of slot `k`: 0 EMPTY, 1 LIVE, 2 DEAD, 3 ADOPTED (0x4310+k:04, 0x4370+a:03). -/
def State.kidState (s : State) (k : Nat) : Nat :=
  if k < 64 then s.rd .vager (O.CHILD_STATE_4310 k) else s.rd .vager (O.ADOPT_STATE_4370 (k - 64))

/-- The slots in state LIVE or ADOPTED. -/
def State.liveKids (s : State) : List Nat := (List.range 96).filter fun k => s.kidState k == 1 || s.kidState k == 3

/-- The slots in state DEAD. -/
def State.deadKids (s : State) : List Nat := (List.range 96).filter fun k => s.kidState k == 2

/-- This Vager is the root. -/
def State.isRoot (s : State) : Bool := s.vager.tree.parent == 0xFFFF

/-- The neighbour that takes this Vager's partials, if there is one (R217, R229). -/
def State.treeUp (s : State) : Option Nat :=
  match s.rd .vager O.TREE_STATE_4300 with
  | 1 => if s.isRoot then none else some s.vager.tree.parent
  | 3 => some s.vager.tree.fallback
  | _ => none

/-- An orphan of `c` trays joins the first dead slot listed that has room for it, if one has. -/
def placeOrphan (rooms : List (Nat × Nat)) (k c : Nat) : List (Nat × Nat) × Option Nat :=
  match rooms.find? fun r => r.1 != k && decide (c ≤ r.2) with
  | some r => (rooms.map fun x => if x.1 = r.1 then (x.1, x.2 - c) else x, some r.1)
  | none => (rooms, none)

/-- The DEAD slot whose orphan each adoptee is taken to be: the greatest cover first, each to the dead slot of the lowest tray whose
cover less one it still fits. It depends on which have died and which have come, and not on their order (R22, R227; log
entry 164). -/
def State.orphanage (s : State) : List (Nat × Nat) :=
  let dead := sortBy (fun a b => decide (s.kidTray a ≤ s.kidTray b)) s.deadKids
  let kids := sortBy (fun a b => decide (s.kidCover b < s.kidCover a) ||
    (s.kidCover a == s.kidCover b && decide (s.kidTray a ≤ s.kidTray b))) s.vager.tree.adoptees
  (kids.foldl (fun (r : List (Nat × Nat) × List (Nat × Nat)) k =>
    let (rooms, x) := placeOrphan r.1 k (s.kidCover k)
    (rooms, match x with
      | some d => r.2 ++ [(k, d)]
      | none => r.2)) (dead.map fun k => (k, s.kidCover k - 1), [])).2

/-- The dead slot that adoptee `k` comes from, if one is known. -/
def State.originOf (s : State) (k : Nat) : Option Nat := (s.orphanage.find? fun e => e.1 == k).map Prod.snd

/-- The cover that slot `k` stands for when nothing comes from it: of a DEAD slot what its adopted orphans leave, and the whole cover
of any other (R224, R227). -/
def State.lostCover (s : State) (k : Nat) : Nat :=
  if s.kidState k = 2 then s.kidCover k - ((s.orphanage.filter fun e => e.2 == k).map fun e => s.kidCover e.1).sum else s.kidCover k

/-- This Vager's cover (R227; log entry 34). -/
def State.ownCover (s : State) : Nat :=
  1 + (((List.range 96).filter fun k => s.kidState k != 0).map s.lostCover).sum

/-- Slot `k` is an adoptee whose dead parent is among the trays `had`, whose answer or partial stands for it (R227). -/
def State.stoodFor (s : State) (had : List Nat) (k : Nat) : Bool :=
  match s.originOf k with
  | some x => had.contains (s.kidTray x)
  | none => false

/-- The tree state replaced. -/
def State.setTree (s : State) (t : Tree) : State := s.setVager { s.vager with tree := t }

/-- The header granule of a tree message (R213). -/
def treeHeader (self dst ty round epoch bseq missing cover group len : Nat) (standing resend : Bool) : Nat :=
  fld 192 64 round + fld 160 32 epoch + fld 128 32 bseq + fld 80 14 missing + fld 66 14 cover + fld 53 13 self
    + fld 40 13 dst + fld 32 8 group + fld 16 12 len + fld 9 1 (ofBool resend) + fld 8 1 (ofBool standing) + fld 0 8 ty

/-- The traffic kind of a tree message (R409). -/
def treeKind (ty : Nat) : Nat := if ty = 0x11 ∨ ty = 0x12 then 2 else 1

/-- A message to tray `dst` at the IPv6 address `addr` (R212, R213). -/
def State.sendTreeTo (s : State) (addr dst ty round epoch bseq missing cover group : Nat) (standing resend : Bool)
    (body : List Nat) : State :=
  let h := treeHeader s.vager.tree.self dst ty round epoch bseq missing cover group body.length standing resend
  s.sendDatagram addr (treeKind ty) { tray := dst, udp := s.rd .vager O.TREE_UDP_PORT_4300, granules := h :: body }

/-- The IPv6 address of a neighbour: a child's, the parent's or the fallback's as committed (R217, R227). -/
def State.treeAddr (s : State) (tray : Nat) : Nat :=
  let t := s.vager.tree
  match s.liveKids.find? fun k => s.kidTray k == tray with
  | some k => Tbl.get (fun _ => 0) t.kidAddrs k
  | none => if tray = t.parent then t.parentAddr else if tray = t.fallback then t.fallbackAddr else 0

/-- A message to the neighbour `dst`. -/
def State.sendTree (s : State) (dst ty round epoch bseq missing cover group : Nat) (standing resend : Bool)
    (body : List Nat) : State :=
  s.sendTreeTo (s.treeAddr dst) dst ty round epoch bseq missing cover group standing resend body

/-! ### Broadcasts and their answers (R221 to R226, R231) -/

/-- The body granule of a BACK (R224): HITS, MISSES, NAKS and the first refusal. -/
def backBody (hits misses naks tray code : Nat) : Nat :=
  fld 58 14 hits + fld 44 14 misses + fld 30 14 naks + fld 17 13 tray + fld 0 8 code

/-- The sum of two answers; the FIRST fields are those of the lowest tray that refused (R224). -/
def addBack (a b : Nat × Nat × Nat × Nat × Nat) : Nat × Nat × Nat × Nat × Nat :=
  let (h, m, n, t, c) := a
  let (h', m', n', t', c') := b
  let first := if n = 0 then (t', c') else if n' = 0 then (t, c) else if t' < t then (t', c') else (t, c)
  (h + h', m + m', n + n', first.1, first.2)

/-- An answer read from the body of a BACK (R224). -/
def readBack (g : Nat) : Nat × Nat × Nat × Nat × Nat := (bits g 71 58, bits g 57 44, bits g 43 30, bits g 29 17, bits g 7 0)

/-- A broadcast in hand replaced. -/
def State.putBcast (s : State) (b : Bcast) : State :=
  let t := s.vager.tree
  let l := t.bcasts.map fun x => if x.bseq = b.bseq then b else x
  s.setTree { t with bcasts := l }

/-- BACK of a broadcast: sent, or shown at the root, once this Vager has applied or refused it and every LIVE or ADOPTED slot
has answered, and no adoption is awaited of a slot that had not answered it before it died. An answer that a child gave before it
died stands for its orphans (R224, R226 and the failure table of R228). -/
def State.tryBack (s : State) (bseq : Nat) : State :=
  match s.vager.tree.bcasts.find? fun b => b.bseq == bseq && !b.sent with
  | none => s
  | some b =>
    match b.own with
    | none => s
    | some own =>
      let had := b.kids.map Prod.fst
      if (s.liveKids.any fun k => !had.contains (s.kidTray k) && !s.stoodFor had k)
          || (s.vager.tree.awaiting.any fun x => !had.contains (s.kidTray x)) then s
      else
        let (h, m, n, t, c) := b.kids.foldl (fun x e => addBack x (readBack e.2.2.2)) own
        let cover := 1 + (b.kids.map fun e => e.2.1).sum
        let dead := s.deadKids.filter fun k => !had.contains (s.kidTray k) && !s.stoodFor had k
        let missing := (b.kids.map fun e => e.2.2.1).sum + (dead.map s.lostCover).sum
        let body := backBody h m n t c
        let s := s.putBcast { b with sent := true }
        let tr := s.vager.tree
        let s := s.setTree { tr with backs := ((bseq, b.epoch, cover, missing, body) :: tr.backs).take 8 }
        if s.isRoot then
          if tr.fleet = some bseq then
            let s := (s.wr .vager O.BCAST_STATE_4350 2).setBytes .vager O.BCAST_ACK_4350 0 (toBytes 32 body)
            (s.wr .vager O.BCAST_COVER_4350 cover).wr .vager O.BCAST_MISSING_4350 missing
          else s
        else match s.treeUp with
          | some up => s.sendTree up 0x22 0 b.epoch bseq missing cover 0 false false [body]
          | none => s

/-- Every broadcast in hand is tried again. -/
def State.tryBacks (s : State) : State := s.vager.tree.bcasts.foldl (fun s b => s.tryBack b.bseq) s

end Sys2Proof.Machine
end

