-- ==== Sys2Proof/Machine/SheetOps.lean ====
section
/-! DEFINITION. Machine/SheetOps.lean: Sheet messages as bytes, answers to requests, staged groups as they form and leave pending,
and the proxy of each port (chapter 16). -/

namespace Sys2Proof.Machine
open Sys2Proof

/-! ### Messages as bytes (R507, R508) -/

/-- Bytes padded with zeros to a multiple of eight (R508). -/
def padTo8 (l : List Nat) : List Nat := l ++ List.replicate ((8 - l.length % 8) % 8) 0

/-- The operations whose request entries carry a segment word (R508). -/
def isSegOp (op : Nat) : Bool := op == 5 || op == 6

/-- The 16-byte header (R507). `fromHalyard` is PWORLD and PROLE, which a message on Halyard alone carries. -/
def sheetHeader (op tid mstatus count length : Nat) (response stop resend : Bool) (fromHalyard : Nat) : List Nat :=
  toBytes 16 (fld 96 5 fromHalyard + fld 80 16 length + fld 64 16 count + fld 32 32 tid + fld 24 8 mstatus
    + fld 18 1 (ofBool resend) + fld 17 1 (ofBool stop) + fld 16 1 (ofBool response) + fld 8 8 op + 1)

/-- PWORLD and PROLE of an access (R507, R519). -/
def accessCode (w : Writer) : Nat :=
  16 * ofBool w.secure + (match w.role with
    | .fleet => 1
    | .operator => 2
    | .host => 3)

/-- A request entry (R508). -/
def reqEntryBytes (seg : Bool) (e : SheetEntry) : List Nat :=
  toBytes 8 (fld 32 16 e.len + fld 24 8 e.node + fld 16 8 e.sub + e.index % 2 ^ 16)
    ++ (if seg then toBytes 8 (e.offset % 2 ^ 40) else []) ++ padTo8 e.data

/-- A response entry (R508): its data, and a map of its poisoned granules where it has any. -/
def respEntryBytes (e : RespEntry) : List Nat :=
  let mask := (e.data.length + 31) / 32
  toBytes 8 (fld 56 8 e.status + fld 51 1 (ofBool e.staged) + fld 49 1 (ofBool e.last) + fld 48 1 (ofBool (e.poison != 0))
      + fld 32 16 e.data.length + fld 24 8 e.node + fld 16 8 e.sub + e.index % 2 ^ 16)
    ++ padTo8 e.data ++ (if e.poison = 0 then [] else padTo8 (toBytes ((mask + 7) / 8) e.poison))

/-- A request as it travels to a Staris in a DICT_REQ (R519). -/
def reqBytes (r : SheetReq) (w : Writer) : List Nat :=
  let body := (r.entries.map (reqEntryBytes (isSegOp r.op))).flatten
  sheetHeader r.op r.tid 0 r.entries.length body.length false r.stop r.resend (accessCode w) ++ body

/-- A response (R507). -/
def respBytes (r : SheetResp) : List Nat :=
  let body := (r.entries.map respEntryBytes).flatten
  sheetHeader r.op r.tid r.mstatus r.entries.length body.length true false false 0 ++ body

/-- The response entries that bytes hold (R508). -/
def readRespEntries : Nat → List Nat → List RespEntry
  | 0, _ => []
  | n + 1, bs =>
    let h := ofBytes (bs.take 8)
    let len := bits h 47 32
    let marks := if bitAt h 48 then ((len + 31) / 32 + 63) / 64 * 8 else 0
    let body := bs.drop 8
    let pad := (len + 7) / 8 * 8
    { index := bits h 15 0, sub := bits h 23 16, node := bits h 31 24, status := bits h 63 56, staged := bitAt h 51,
      last := bitAt h 49, data := body.take len, poison := ofBytes ((body.drop pad).take marks) }
      :: readRespEntries n (body.drop (pad + marks))

/-- A response read from bytes (R507). -/
def readResp (bs : List Nat) : SheetResp :=
  let h := ofBytes (bs.take 16)
  { op := bits h 15 8, tid := bits h 63 32, mstatus := bits h 31 24, entries := readRespEntries (bits h 79 64) (bs.drop 16) }

/-- The entries of a WRITE request that bytes hold, and the bytes left (R508). -/
def readWriteEntries : Nat → List Nat → List SheetEntry × List Nat
  | 0, bs => ([], bs)
  | n + 1, bs =>
    let h := ofBytes (bs.take 8)
    let len := bits h 47 32
    let body := bs.drop 8
    let e : SheetEntry := { index := bits h 15 0, sub := bits h 23 16, node := bits h 31 24, len := len, offset := 0,
                            data := body.take len }
    let (es, rest) := readWriteEntries n (body.drop ((len + 7) / 8 * 8))
    (e :: es, rest)

/-- The WRITE message of a DICT_WRITE broadcast (R521), and whether LENGTH and COUNT agree with the content. -/
def readWrite (bs : List Nat) : Bool × List SheetEntry :=
  let h := ofBytes (bs.take 16)
  let body := (bs.drop 16).take (bits h 95 80)
  let (es, rest) := readWriteEntries (bits h 79 64) body
  let whole := (es.map (reqEntryBytes false)).flatten.length == bits h 95 80
  (bits h 7 0 == 1 && bits h 15 8 == 2 && body.length == bits h 95 80 && rest.isEmpty && whole, es)

/-- A dictionary message enters the control queue: its first 24 bytes in the BODY field, the rest in whole granules (R519). -/
def State.sendDict (s : State) (v : Bool) (p : Die) (mtype : Nat) (bs : List Nat) : State :=
  let rest := bs.drop 24
  let gs := (List.range (granulesOf rest.length)).map fun i => ofBytes ((rest.drop (32 * i)).take 32)
  s.sendControl v p mtype (ofBytes (bs.take 24)) gs

/-! ### Objects and the access that may reach them (R475, R510) -/

/-- Whether an object is in the secure world, and its role (R72, R110, R444). -/
def State.objWorld (s : State) (p : Part) (i : IdxInfo) (index : Nat) (x : SubInfo) : Bool × Role :=
  match x.world with
  | 0 => (false, x.role)
  | 1 => (true, x.role)
  | 2 => if index - i.base < 16 then (false, .host) else (true, .operator)
  | 3 => if index - i.base < 4 then (false, .host) else (true, .operator)
  | _ => (s.rd p (objKey index 0x0B) == 0, x.role)

/-- The tests of a write that depend on no state but the world in force (R502, R510, R511): a status. `stage` asks for the
test of a staged entry (R597). -/
def State.judge (s : State) (p : Part) (w : Writer) (stage : Bool) (index sub : Nat) (data : List Nat) : Nat :=
  match idxInfo p index with
  | none => stNoObject
  | some i =>
    match i.find sub with
    | none => stNoSub
    | some x =>
      let (sec, role) := s.objWorld p i index x
      if mayReach w sec role = false then stAccess
      else if x.access = 0 ∨ x.access = 4 then (if stage then stNotStageable else stAccessKind)
      else if x.seg then stSegment
      else if (if x.isOctets then data.isEmpty || decide (x.size < data.length) else data.length != x.size) then stLength
      else if x.inRange data = false then stRange
      else stOk

/-! ### Mailboxes and answers (R507, R512, R525, R526) -/

/-- Vager's Sheet side replaced. -/
def State.setSheet (s : State) (x : Sheet) : State := s.setVager { s.vager with sheet := x }

/-- The mailbox of an aperture (R525). -/
def State.mailbox (s : State) : Aperture → Mailbox
  | .bar0 => s.vager.sheet.bar0
  | .bar2 => s.vager.sheet.bar2
  | .low d => (s.die d).sheet.low
  | .high d => (s.die d).sheet.high

/-- The mailbox of an aperture replaced. -/
def State.setMailbox (s : State) (a : Aperture) (m : Mailbox) : State :=
  match a with
  | .bar0 => s.setSheet { s.vager.sheet with bar0 := m }
  | .bar2 => s.setSheet { s.vager.sheet with bar2 := m }
  | .low d => s.setDie d { s.die d with sheet := { (s.die d).sheet with low := m } }
  | .high d => s.setDie d { s.die d with sheet := { (s.die d).sheet with high := m } }

/-- The part whose vectors an aperture uses. -/
def aperturePart : Aperture → Part
  | .bar0 => .vager
  | .bar2 => .vager
  | .low d => .staris d
  | .high d => .staris d

/-- The most bytes that a response may have (R506, R526). -/
def State.respLimit (s : State) : SheetSource → Nat
  | .session _ => s.rd .vager O.SHEET_MTU_1101 - 96
  | .mailbox _ => 32768

/-- Entries whose data would take the response past `limit` bytes give up their data: TOO_LARGE for a READ, and for a mailbox
(R510, R511, R526); SEGMENT for a SEG_READ of a session. -/
def fitEntries (status limit : Nat) : Nat → List RespEntry → List RespEntry
  | _, [] => []
  | used, e :: t =>
    let n := (respEntryBytes e).length - 8
    if n = 0 ∨ used + n ≤ limit then e :: fitEntries status limit (used + n) t
    else { e with status := status, last := false, data := [], poison := 0 } :: fitEntries status limit used t

/-- A response reaches whoever asked: a session keeps it for 64 TIDs (R512); a mailbox shows it, and MB_SEQ and the vector
follow (R525). -/
def State.respond (s : State) (src : SheetSource) (r : SheetResp) : State :=
  let code := match src with
    | .session _ => if r.op = 5 then stSegment else stTooLarge
    | .mailbox _ => stTooLarge
  let r := { r with entries := fitEntries code (s.respLimit src) (16 + 8 * r.entries.length) r.entries }
  match src with
  | .session id =>
    let keep := fun (x : Session) => if x.id = id then { x with kept := ((r.tid, r) :: x.kept).take 64 } else x
    (s.setVager { s.vager with sessions := s.vager.sessions.map keep }).emit (.sheet id r)
  | .mailbox a =>
    let m := s.mailbox a
    let s := s.setMailbox a { m with state := 2, seq := (m.seq + 1) % 2 ^ 64, response := some r }
    s.msix (aperturePart a) m.vector

/-- A request all of whose entries are answered is answered (R510). -/
def State.tryRespond (s : State) (n : Nat) : State :=
  match s.vager.sheet.waits.find? fun x => x.number == n with
  | none => s
  | some x =>
    if x.entries.all Option.isSome then
      let s := s.setSheet { s.vager.sheet with waits := s.vager.sheet.waits.filter fun y => y.number != n }
      s.respond x.source { op := x.op, tid := x.tid, mstatus := 0, entries := x.entries.filterMap id }
    else s

/-- Answers take their places in the response of request `n` (R510). -/
def State.placeEntries (s : State) (n : Nat) (l : List (Nat × RespEntry)) : State :=
  let put := fun (x : SheetWait) =>
    if x.number = n then { x with entries := l.foldl (fun es e => es.set e.1 (some e.2)) x.entries } else x
  (s.setSheet { s.vager.sheet with waits := s.vager.sheet.waits.map put }).tryRespond n

/-- An answer to an entry that carries a status alone. -/
def statusEntry (e : SheetEntry) (status : Nat) : RespEntry :=
  { index := e.index, sub := e.sub, node := e.node, status := status, staged := false, last := false, data := [], poison := 0 }

/-- A request's entries enter the counts of the dictionary that carries them out (0x1011:02, 03). -/
def State.countEntries (s : State) (p : Part) (statuses : List Nat) : State :=
  let bad := (statuses.filter fun x => x != 0).length
  match p with
  | .vager => (s.bump p O.ENTRIES_1011 64 statuses.length).bump p O.ENTRY_ERRORS_1011 32 bad
  | .staris _ => (s.bump p O.ENTRIES_1011 64 statuses.length).bump p O.ENTRY_ERRORS_1011 32 bad

/-! ### Staged groups (R514 to R518) -/

/-- The staging tables of a part. -/
def State.staging (s : State) : Part → Staging
  | .vager => s.vager.sheet.staging
  | .staris d => (s.die d).sheet.staging

/-- The staging tables of a part replaced. -/
def State.setStaging (s : State) (p : Part) (x : Staging) : State :=
  match p with
  | .vager => s.setSheet { s.vager.sheet with staging := x }
  | .staris d => s.setDie d { s.die d with sheet := { (s.die d).sheet with staging := x } }

/-- Groups and entries that a part may hold pending (R518). -/
def stagingRoom : Part → Nat × Nat
  | .vager => (256, 1024)
  | .staris _ => (32, 128)

/-- Entries pending (R518). -/
def Staging.held (x : Staging) : Nat := (x.groups.map fun g => g.entries.length).sum

/-- A part has room for a group of `n` entries (R518). -/
def State.stageRoom (s : State) (p : Part) (n : Nat) : Bool :=
  let x := s.staging p
  decide (x.groups.length < (stagingRoom p).1) && decide (x.held + n ≤ (stagingRoom p).2)

/-- A group is formed under the next GROUP number, which is answered (R514). -/
def State.newGroup (s : State) (p : Part) (g : SGroup) : Nat × State :=
  let x := s.staging p
  let n := (x.last + 1) % 2 ^ 32
  (n, s.setStaging p { x with last := n, groups := x.groups ++ [{ g with group := n, made := s.extNow }] })

/-- The part of a node (R499). -/
def nodePart (n : Nat) : Part := if h : 1 ≤ n ∧ n ≤ 16 then .staris ⟨n - 1, by omega⟩ else .vager

/-- The port of a Staris node's link. -/
def nodeDie (n : Nat) : Die := if h : 1 ≤ n ∧ n ≤ 16 then ⟨n - 1, by omega⟩ else 0

/-- The statuses of the entries of a group that some entry keeps from forming (R597). -/
def notFormed (sts : List Nat) : List Nat := sts.map fun x => if x = 0 then stNotTried else x

/-- STAGE on one node (R518, R597): the group joins the staging table of `holder`, and its entries are judged as objects of the
node. The statuses of the entries, that of the copy of the stage entry, and GROUP. -/
def State.formGroup (s : State) (holder : Part) (g : SGroup) (target : Part) : (List Nat × Nat × Nat) × State :=
  let n := g.entries.length
  let sts := g.entries.map fun e => s.judge target g.w true e.index e.sub e.data
  if sts.any fun x => x != 0 then ((notFormed sts, stNotTried, 0), s)
  else if s.stageRoom holder n = false then ((List.replicate n stBusy, stBusy, 0), s)
  else
    let (k, s) := s.newGroup holder g
    ((sts, stOk, k), s)

/-- 0x1020:04 (R518): `time` is the extended time at Vager and the counter nanoseconds at a Staris. -/
def outcomeBytes (group state bad status time : Nat) : List Nat :=
  toBytes 4 group ++ [state % 256, bad % 256, status % 256, 0] ++ toBytes 8 time

/-- A group's last entry in the broadcast that formed it (R521): the tray's answer once the last of its groups has left pending. -/
def State.settleBcast (s : State) (b : Bcast) : State :=
  if b.groups.isEmpty then
    let own := match b.failed with
      | none => (0, 0, 0, 0, 0)
      | some f => (0, 0, 1, s.vager.tree.self, 0x40 + f)
    (s.putBcast { b with own := some own }).tryBack b.bseq
  else s.putBcast b

/-- A group of a broadcast has left pending, with the STATUS that failed it or 0 (R521). -/
def State.bcastGroupLeft (s : State) (g : SGroup) (status : Nat) : State :=
  match g.bseq with
  | none => s
  | some q =>
    match s.vager.tree.bcasts.find? fun b => b.bseq == q && b.own.isNone with
    | none => s
    | some b =>
      s.settleBcast { b with
        groups := b.groups.erase g.group
        failed := if b.failed.isSome ∨ status = 0 then b.failed else some status }

/-- STAGE_OUTCOME_NOTIFY: a group leaves pending with a STAGE_STATE, the first failing entry and its STATUS (R518). Vager notifies
its sessions; a Staris sends a DICT_RESP of TID 0. The recorder's DETAIL holds bytes 4 to 15 of the outcome, GROUP its VALUE. -/
def State.groupLeaves (s : State) (p : Part) (g : SGroup) (state bad status time : Nat) : State :=
  let x := s.staging p
  let o : SOutcome := { group := g.group, kind := g.kind, time := g.time, state := state, bad := bad, status := status, when := time }
  let s := s.setStaging p { x with groups := x.groups.filter fun y => y.group != g.group, outcomes := (o :: x.outcomes).take 64 }
  let bs := outcomeBytes g.group state bad status time
  let s := if state = 3 ∨ state = 5 then s.record p 0x0050 g.group (ofBytes (bs.drop 4)) else s
  match p with
  | .vager => (s.notify 1 g.node 0x1020 4 bs).bcastGroupLeft g status
  | .staris d =>
    let e : RespEntry := { index := 0x1020, sub := 4, node := d.val + 1, status := 0, staged := false, last := false, data := bs,
                           poison := 0 }
    s.sendDict false d 2 (respBytes { op := 1, tid := 0, mstatus := 0, entries := [e] })

/-- The time that a part puts into an outcome (R518). -/
def State.outcomeTime (s : State) : Part → Nat
  | .vager => s.extNow
  | .staris d => s.ns (.staris d)

/-! ### The proxy of a port (R519, R520) -/

/-- The proxy of port `p`. -/
def State.proxy (s : State) (p : Nat) : Proxy := Tbl.get (fun _ => {}) s.vager.sheet.proxies p

/-- The proxy of port `p` replaced. -/
def State.setProxy (s : State) (p : Nat) (x : Proxy) : State :=
  s.setSheet { s.vager.sheet with proxies := Tbl.set (fun _ => {}) s.vager.sheet.proxies p x }

/-- The answer to the STAGE that forwarded a held group (R518, R520): the GROUP it has there, or the STATUS that refused it. -/
def State.forwardAnswered (s : State) (n : Nat) (es : List RespEntry) : State :=
  let x := s.staging .vager
  match x.groups.find? fun g => g.group == n with
  | none => s
  | some g =>
    let first := es.headD { index := 0, sub := 0, node := 0, status := stNodeDown, staged := false, last := false, data := [],
                            poison := 0 }
    if first.status = 0 then
      let k := ofBytes ((first.data.drop 4).take 4)
      let put := fun (y : SGroup) => if y.group = n then { y with remote := some k } else y
      s.setStaging .vager { x with groups := x.groups.map put }
    else
      let bad := (es.drop 1).findIdx fun e => e.status != 0 && e.status != stNotTried
      let i := if bad < (es.drop 1).length then bad else 0
      let st := match (es.drop 1)[bad]? with
        | some e => e.status
        | none => first.status
      s.groupLeaves .vager g 3 i st s.extNow

/-- A DICT_REQ is answered: its entries take their places, or the group it forwarded learns its fate. -/
def State.proxyAnswered (s : State) (x : ProxyItem) (es : List RespEntry) : State :=
  match x.group, x.wait with
  | some g, _ => s.forwardAnswered g es
  | none, some n => s.placeEntries n (x.places.zip es)
  | none, none => s

/-- Every entry of a DICT_REQ receives one status (R520). -/
def State.proxyFailed (s : State) (x : ProxyItem) (status : Nat) : State :=
  s.proxyAnswered x (x.req.entries.map fun e => statusEntry e status)

/-- DICT_REQs leave the queue while fewer than sixteen are outstanding (R520). -/
def State.proxyPump : Nat → State → Die → State
  | 0, s, _ => s
  | n + 1, s, p =>
    let x := s.proxy p.val
    match x.queue with
    | [] => s
    | i :: t =>
      if 16 ≤ x.outstanding.length then s
      else
        let tid := x.nextTid
        let i := { i with tid := tid, req := { i.req with tid := tid }, sent := s.extNow }
        let s := s.setProxy p.val { outstanding := x.outstanding ++ [i], queue := t, nextTid := tid % (2 ^ 32 - 1) + 1 }
        let s := (s.bump .vager (O.PROXY_REQUESTS_1030 p.val) 64).sendDict true p 1 (reqBytes i.req i.w)
        State.proxyPump n s p

/-- A DICT_REQ for a port: NODE_DOWN where its link is not UP or UP_7, BUSY where the queue is full (R510, R520). -/
def State.proxySubmit (s : State) (p : Die) (i : ProxyItem) : State :=
  let x := s.proxy p.val
  if s.linkUp true p = false then s.proxyFailed i stNodeDown
  else if 16 ≤ x.outstanding.length ∧ 256 ≤ x.queue.length then s.proxyFailed i stBusy
  else State.proxyPump 1 (s.setProxy p.val { x with queue := x.queue ++ [i] }) p

/-- The link has left UP and UP_7: what is unanswered receives NODE_DOWN (R520). -/
def State.proxyDown (s : State) (p : Die) : State :=
  let x := s.proxy p.val
  let s := s.setProxy p.val { x with outstanding := [], queue := [] }
  (x.outstanding ++ x.queue).foldl (fun s i => s.proxyFailed i stNodeDown) s

end Sys2Proof.Machine
end

