-- ==== Sys2Proof/Machine/Domains.lean ====
section
/-! DEFINITION. Machine/Domains.lean: moving a power domain from one state to another (R556 to R558, R562, R564 to R566). -/

namespace Sys2Proof.Machine
open Sys2Proof

/-- The function that owns a domain of Vager, where one does (R556, R559). -/
def vagerFunction (d : Nat) : Option Nat :=
  if d < 18 then some 0 else if d < 22 then some 1 else if d < 28 then some 2 else none

/-- The function that owns a domain of a Staris (R557, R559). -/
def dieFunction (d : Nat) : Option Nat := if d = 0 then none else some (d - 1)

/-- Domain `d` of Vager takes state `st`: 0 ON, 5 WAKING, otherwise a sleeping state. After a thermal trip none moves (R595). -/
def State.moveVager (s : State) (d st : Nat) : State :=
  let v := Part.vager
  let old := s.rd v (O.DOM_STATE_7C60 d)
  if old = st ∨ s.vager.crow.tripped then s
  else
    let s := (s.wr v (O.DOM_STATE_7C60 d) st).wr v (O.DOM_LAST_CHANGE_7C60 d) s.extNow
    let p := s.vager.power
    let s := if old = 0 then s.setVager { s.vager with power := { p with offAt := Tbl.insert p.offAt d s.vager.ticks } } else s
    let s := if st = 5 then
        let s := s.bump v (O.DOM_WAKES_7C60 d) 32
        match vagerFunction d with
        | some f => s.bump v (O.WAKES_7C48 f) 32
        | none => s
      else s
    if st = 0 then
      let n := s.vager.ticks - (Tbl.find p.offAt d).getD s.vager.ticks
      let s := s.setVager { s.vager with power := { p with offAt := Tbl.erase p.offAt d } }
      let s := s.bump v (O.DOM_TIME_NOT_ON_7C60 d) 64 n
      match vagerFunction d with
      | some f => s.bump v (O.TIME_NOT_ON_7C48 f) 64 n
      | none => s
    else s

/-- Domain `i` of the Staris of die `d` takes state `st`. -/
def State.moveDie (s : State) (d : Die) (i st : Nat) : State :=
  let v := Part.staris d
  let old := s.ob v O.DOMAIN_STATE_7C00 i
  if old = st then s
  else
    let s := s.setOb v O.DOMAIN_STATE_7C00 i st
    let x := s.die d
    let s := if old = 0 then s.setDie d { x with power := { x.power with offAt := Tbl.insert x.power.offAt i x.ticks } } else s
    let f := i - 1
    let s := if st = 5 then s.bump v (O.WAKES_7C08 f) 32 else s
    if st = 0 then
      let n := x.ticks - (Tbl.find x.power.offAt i).getD x.ticks
      let s := s.setDie d { s.die d with power := { x.power with offAt := Tbl.erase x.power.offAt i } }
      s.bump v (O.TIME_NOT_ON_7C08 f) 64 n
    else s

/-- A demand wakes a domain of Vager that sleeps (R558). -/
def State.wakeVager (s : State) (d : Nat) : State :=
  let st := s.rd .vager (O.DOM_STATE_7C60 d)
  if st = 0 ∨ st = 5 then s else s.moveVager d 5

/-- A demand wakes a domain of a Staris that sleeps (R558). -/
def State.wakeDie (s : State) (d : Die) (i : Nat) : State :=
  let st := s.ob (.staris d) O.DOMAIN_STATE_7C00 i
  if st = 0 ∨ st = 5 then s else s.moveDie d i 5

end Sys2Proof.Machine
end

