-- ==== Sys2Proof/Machine/Fp.lean ====
section
/-! DEFINITION. Machine/Fp.lean: the arithmetic of a Shroud profile (R311, R319, R323, R326, R327): element formats, exact
sums, rounding, folds and conversion. -/

namespace Sys2Proof.Machine
open Sys2Proof

/-- A number of R326: a NaN by its binary32 bits, an infinity, or a finite number, its magnitude `mant` times `2^exp`. -/
inductive FVal where
  | nan (bits : Nat)
  | inf (neg : Bool)
  | fin (neg : Bool) (mant : Nat) (exp : Int)
deriving DecidableEq, Repr

/-- The NaN that something other than an element makes (log entry 35): 0 an invalid operation, 1 a NaN scale. -/
def madeNan (kind : Nat) : FVal :=
  .nan (fld 31 1 (Config.freeNan kind / 2 ^ 22) + 0x7FC00000 + Config.freeNan kind % 2 ^ 22)

/-! ### Element formats (R319) -/

/-- The width in bits of an element of input format `f`. -/
def fmtWidth (f : Nat) : Nat :=
  match f with
  | 3 => 6
  | 4 => 6
  | 5 => 4
  | 7 => 16
  | 8 => 16
  | _ => 8

/-- The width in bits of an element of output format `o`. -/
def outWidth (o : Nat) : Nat := if o = 1 ∨ o = 2 then 16 else 32

/-- Input format `f` is an MX format. -/
def fmtMx (f : Nat) : Bool := decide (1 ≤ f) && decide (f ≤ 5)

/-- Exponent and mantissa bits of input format `f`. -/
def fmtShape (f : Nat) : Nat × Nat :=
  match f with
  | 1 => (4, 3)
  | 2 => (5, 2)
  | 3 => (2, 3)
  | 4 => (3, 2)
  | 5 => (2, 1)
  | 7 => (8, 7)
  | _ => (5, 10)

/-- A floating-point number of `eb` exponent and `mb` mantissa bits. `kind` 0 has IEEE infinities and NaNs, 1 only the NaN of
all ones, 2 neither. -/
def decodeFp (eb mb kind : Nat) (flush : Bool) (x : Nat) : FVal :=
  let neg := bitAt x (eb + mb)
  let e := bits x (eb + mb - 1) mb
  let m := x % 2 ^ mb
  let bias : Int := 2 ^ (eb - 1) - 1
  let nan := FVal.nan (fld 31 1 (ofBool neg) + 0x7FC00000 + fld (23 - mb) (mb - 1) m)
  if kind = 0 ∧ e = 2 ^ eb - 1 then (if m = 0 then .inf neg else nan)
  else if kind = 1 ∧ e = 2 ^ eb - 1 ∧ m = 2 ^ mb - 1 then nan
  else if e = 0 then .fin neg (if flush then 0 else m) (1 - bias - mb)
  else .fin neg (m + 2 ^ mb) (e - bias - mb)

/-- An element of input format `f` (R311, R319). -/
def decodeElem (f : Nat) (flush : Bool) (x : Nat) : FVal :=
  if f = 6 then
    let i := toSigned 8 x
    .fin (decide (i < 0)) i.natAbs 0
  else
    let sh := fmtShape f
    decodeFp sh.1 sh.2 (if f = 1 then 1 else if f = 3 ∨ f = 4 ∨ f = 5 then 2 else 0) flush x

/-- A binary32 number. -/
def decode32 (x : Nat) : FVal := decodeFp 8 23 0 false x

/-! ### Exact arithmetic -/

/-- The exact product. -/
def FVal.mul : FVal → FVal → FVal
  | .nan b, _ => .nan b
  | _, .nan b => .nan b
  | .inf a, .inf b => .inf (a != b)
  | .inf a, .fin b m _ => if m = 0 then madeNan 0 else .inf (a != b)
  | .fin a m _, .inf b => if m = 0 then madeNan 0 else .inf (a != b)
  | .fin a m e, .fin b n f => .fin (a != b) (m * n) (e + f)

/-- The exact sum. A sum of zeros of one sign keeps it; every other zero sum is positive. -/
def FVal.add : FVal → FVal → FVal
  | .nan b, _ => .nan b
  | _, .nan b => .nan b
  | .inf a, .inf b => if a = b then .inf a else madeNan 0
  | .inf a, .fin _ _ _ => .inf a
  | .fin _ _ _, .inf b => .inf b
  | .fin a m e, .fin b n f =>
    let g := min e f
    let x : Int := (m * 2 ^ (e - g).toNat : Nat)
    let y : Int := (n * 2 ^ (f - g).toNat : Nat)
    let z := (if a then -x else x) + (if b then -y else y)
    if z = 0 then .fin (a && b && decide (m = 0) && decide (n = 0)) 0 0 else .fin (decide (z < 0)) z.natAbs g

/-- A product with a power of two. -/
def FVal.scale (x : FVal) (s : Int) : FVal :=
  match x with
  | .fin a m e => .fin a m (e + s)
  | y => y

/-! ### Rounding and conversion (R323, R326) -/

/-- `m / 2^d` rounded: mode 0 nearest-even, 1 toward zero, 2 nearest with ties away. -/
def roundMant (mode m d : Nat) : Nat :=
  let q := m / 2 ^ d
  let r := 2 * (m % 2 ^ d)
  if mode = 1 then q
  else if 2 ^ d < r then q + 1
  else if r = 2 ^ d ∧ (mode = 2 ∨ q % 2 = 1) then q + 1
  else q

/-- A number rounded to `eb` exponent and `mb` mantissa bits; `flush` turns subnormal results to zero and `sat` an overflow
to the largest finite value. -/
def FVal.round (eb mb mode : Nat) (flush sat : Bool) : FVal → FVal
  | .fin a m e =>
    if m = 0 then .fin a 0 0
    else
      let bias : Int := 2 ^ (eb - 1) - 1
      let emin := 1 - bias
      let q := max (e + (Nat.log2 m : Int)) emin - mb
      let k := if q ≤ e then m * 2 ^ (e - q).toNat else roundMant mode m (q - e).toNat
      let top := q + (Nat.log2 k : Int)
      if k = 0 then .fin a 0 0
      else if bias < top then
        (if sat ∨ mode = 1 then .fin a (2 ^ (mb + 1) - 1) (bias - mb) else .inf a)
      else if top < emin ∧ flush then .fin a 0 0
      else .fin a k q
  | x => x

/-- The bits of a number that `eb` exponent and `mb` mantissa bits hold exactly. -/
def encodeFp (eb mb : Nat) : FVal → Nat
  | .nan b => fld (eb + mb) 1 (b / 2 ^ 31) + (2 ^ eb - 1) * 2 ^ mb + bits b 22 (23 - mb)
  | .inf a => fld (eb + mb) 1 (ofBool a) + (2 ^ eb - 1) * 2 ^ mb
  | .fin a m e =>
    let bias : Int := 2 ^ (eb - 1) - 1
    let emin := 1 - bias
    let top := e + (Nat.log2 m : Int)
    let at_ := fun (q : Int) => if q ≤ e then m * 2 ^ (e - q).toNat else m / 2 ^ (q - e).toNat
    let low := if m = 0 then 0 else if top < emin then at_ (emin - mb)
      else (top + bias).toNat * 2 ^ mb + at_ (top - mb) % 2 ^ mb
    fld (eb + mb) 1 (ofBool a) + low

/-! ### A profile (R323) -/

/-- The fields of a profile that R326 uses. -/
structure Prof where
  mxblk : Nat
  group : Nat
  tree : Nat
  ksplit : Nat
  rndInner : Nat
  rndOuter : Nat
  rndOut : Nat
  addendFirst : Bool
  scalePoint : Bool
  subIn : Bool
  subAcc : Bool
  subOut : Bool
  ovf : Nat
  nanCanon : Bool
  intSat : Bool
deriving DecidableEq, Repr

/-- A profile record's fields (R323). -/
def readProf (x : Nat) : Prof :=
  { mxblk := 16 * 2 ^ bits x 241 240, group := bits x 239 237, tree := bits x 236 235, ksplit := bits x 234 232,
    rndInner := bits x 231 230, rndOuter := bits x 229 228, rndOut := bits x 227 226, addendFirst := bitAt x 225,
    scalePoint := bitAt x 224, subIn := bitAt x 223, subAcc := bitAt x 222, subOut := bitAt x 221, ovf := bits x 220 219,
    nanCanon := bitAt x 218, intSat := bitAt x 217 }

/-- The first failing code of a profile record, 0 where it holds (R324). -/
def profCode (x : Nat) : Nat :=
  let mask := bits x 255 248
  if bits x 447 256 ≠ 0 ∨ x % 2 ^ 217 ≠ 0 ∨ bits x 241 240 = 3 ∨ bits x 236 235 = 3 ∨ bits x 231 230 = 3
      ∨ bits x 229 228 = 3 ∨ bits x 227 226 = 3 ∨ bits x 220 219 = 3 ∨ bits x 239 237 = 7 ∨ bits x 234 232 = 7 then 1
  else if mask % 32 ≠ 0 ∧ 16 * 2 ^ bits x 241 240 < 2 ^ bits x 239 237 then 2
  else if bits mask 7 6 ≠ 0 ∧ bits x 239 237 ≠ 0 then 3
  else 0

/-! ### Operands (R319 to R321) -/

/-- A block with its section header (R320). -/
structure Section where
  hdr : Nat
  data : List (Nat × Bool)
  /-- the section header granule is poisoned -/
  spoilt : Bool := false
deriving DecidableEq, Repr

/-- The sections of a message, at most `n` (R319, R320). -/
def sectionsOf : Nat → List (Nat × Bool) → List Section
  | 0, _ => []
  | _, [] => []
  | n + 1, (h, spoilt) :: t =>
    let len := bits h 159 136
    { hdr := h, data := t.take len, spoilt := spoilt } :: sectionsOf n (t.drop len)

/-- A granule of the section is poisoned (R36, R318). -/
def Section.poisoned (x : Section) : Bool := x.spoilt || x.data.any fun g => g.2

/-- A section's ROLE. -/
def Section.role (x : Section) : Nat := bits x.hdr 135 132

/-- The data of a section as one number, byte 0 least significant (R321). -/
def packed : List (Nat × Bool) → Nat
  | [] => 0
  | (g, _) :: t => g % 2 ^ 256 + 2 ^ 256 * packed t

/-- A sample's operands. -/
structure Operands where
  m : Nat
  n : Nat
  k : Nat
  fa : Nat
  fb : Nat
  outf : Nat
  op : Nat
  a : Nat
  sa : Nat
  b : Nat
  sb : Nat
  c0 : Nat
  d : Nat
deriving DecidableEq, Repr

/-- The operands of a sample message: its header granule and its sections. -/
def readOperands (h : Nat) (ss : List Section) : Operands :=
  let of := fun r => match ss.find? fun x => x.role == r with
    | some x => packed x.data
    | none => 0
  { m := bits h 127 112 + 1, n := bits h 111 96 + 1, k := bits h 95 76 + 1, fa := bits h 75 72, fb := bits h 71 68,
    outf := bits h 67 66, op := bits h 65 64, a := of 0, sa := of 1, b := of 2, sb := of 3, c0 := of 4, d := of 5 }

/-- Element `i` of `w` bits of a packed block (R321). -/
def elemAt (x w i : Nat) : Nat := x / 2 ^ (w * i) % 2 ^ w

/-- Both inputs are INT8. -/
def Operands.isInt (x : Operands) : Bool := x.fa == 6 && x.fb == 6

/-! ### Folds (R326) -/

/-- ((L0 + L1) + L2) + ... -/
def foldSeq {α : Type} (add : α → α → α) : List α → Option α
  | [] => none
  | a :: t => some (t.foldl add a)

/-- One round of PAIRWISE. -/
def pairStep {α : Type} (add : α → α → α) : List α → List α
  | a :: b :: t => add a b :: pairStep add t
  | l => l

/-- PAIRWISE, in at most `n` rounds. -/
def foldPair {α : Type} (add : α → α → α) : Nat → List α → Option α
  | _, [] => none
  | _, [a] => some a
  | 0, a :: _ => some a
  | n + 1, l => foldPair add n (pairStep add l)

/-- The fold of TREE. -/
def foldTree {α : Type} (add : α → α → α) (tree : Nat) (l : List α) : Option α :=
  match tree with
  | 0 => foldSeq add l
  | 1 => foldPair add l.length l
  | _ => foldSeq add l.reverse

/-- The accumulators and the final sum (R326), over partials `ps`. -/
def accumulate {α : Type} (add : α → α → α) (p : Prof) (ps : List α) (first last : Option α) : Option α :=
  let n := 2 ^ p.ksplit
  let idx := ps.mapIdx fun i x => (i, x)
  let accs := (List.range n).filterMap fun a =>
    let l := (idx.filter fun e => e.1 % n == a).map Prod.snd
    foldTree add p.tree (if a = 0 then first.toList ++ l else l)
  match foldSeq add accs, last with
  | some r, some c => some (add r c)
  | r, _ => r

/-! ### An output element (R326, R327) -/

/-- A sum in INT32 (INT_SAT). -/
def addInt (sat : Bool) (a b : Int) : Int :=
  if sat then max (-(2 ^ 31)) (min (2 ^ 31 - 1) (a + b)) else toSigned 32 (ofSigned 32 (a + b))

/-- Output element (m, n) of an INT8 sample. -/
def elemInt (p : Prof) (x : Operands) (m n : Nat) : Nat :=
  let g := 2 ^ p.group
  let term := fun k => if k < x.k then toSigned 8 (elemAt x.a 8 (m * x.k + k)) * toSigned 8 (elemAt x.b 8 (n * x.k + k)) else 0
  let ps := (List.range ((x.k + g - 1) / g)).map fun i =>
    ((List.range g).map fun j => term (i * g + j)).foldl (addInt p.intSat) 0
  let c := toSigned 32 (elemAt x.c0 32 (m * x.n + n))
  let acc := x.op == 1
  let r := accumulate (addInt p.intSat) p ps (if acc && p.addendFirst then some c else none)
    (if acc && !p.addendFirst then some c else none)
  ofSigned 32 (r.getD 0)

/-- The scale of a row or column block: none for the NaN scale (R311, R321). -/
def scaleAt (x : Nat) (mx : Bool) (k bs i g : Nat) : Option Int :=
  if mx then
    let e := elemAt x 8 (i * ((k + bs - 1) / bs) + g / bs)
    if e = 0xFF then none else some ((e : Int) - 127)
  else some 0

/-- The floating-point sum of output element (m, n), before conversion. -/
def sumFp (p : Prof) (x : Operands) (m n : Nat) : FVal :=
  let g := 2 ^ p.group
  let r32 := fun mode (v : FVal) => v.round 8 23 mode p.subAcc (p.ovf == 1)
  let term := fun k =>
    if k < x.k then
      (decodeElem x.fa p.subIn (elemAt x.a (fmtWidth x.fa) (m * x.k + k))).mul
        (decodeElem x.fb p.subIn (elemAt x.b (fmtWidth x.fb) (n * x.k + k)))
    else .fin false 0 0
  let part := fun i =>
    let t := match (List.range g).map fun j => term (i * g + j) with
      | [] => FVal.fin false 0 0
      | a :: l => l.foldl FVal.add a
    match scaleAt x.sa (fmtMx x.fa) x.k p.mxblk m (i * g), scaleAt x.sb (fmtMx x.fb) x.k p.mxblk n (i * g), t with
    | _, _, .nan b => .nan b
    | some a, some b, _ =>
      if p.scalePoint then r32 p.rndInner ((r32 p.rndInner t).scale (a + b)) else r32 p.rndInner (t.scale (a + b))
    | _, _, _ => madeNan 1
  let ps := (List.range ((x.k + g - 1) / g)).map part
  let c := decode32 (elemAt x.c0 32 (m * x.n + n))
  let acc := x.op == 1
  let add := fun a b => r32 p.rndOuter (FVal.add a b)
  (accumulate add p ps (if acc && p.addendFirst then some c else none)
    (if acc && !p.addendFirst then some c else none)).getD (.fin false 0 0)

/-- convert(r, OUTF, RND_OUT) of R326 for the floating-point outputs. -/
def convertOut (p : Prof) (outf : Nat) (r : FVal) : Nat :=
  let go := fun eb mb canon =>
    match r with
    | .nan b => if p.nanCanon then canon else encodeFp eb mb (.nan b)
    | v => encodeFp eb mb (v.round eb mb p.rndOut p.subOut (decide (1 ≤ p.ovf)))
  match outf with
  | 1 => go 8 7 0x7FC0
  | 2 => go 5 10 0x7E00
  | _ => go 8 23 0x7FC00000

/-- Output element (m, n) of a sample. -/
def elemOut (p : Prof) (x : Operands) (m n : Nat) : Nat :=
  if x.isInt then
    let i := elemInt p x m n
    if x.outf = 3 then i
    else
      let v := toSigned 32 i
      convertOut p x.outf (.fin (decide (v < 0)) v.natAbs 0)
  else convertOut p x.outf (sumFp p x m n)

/-- Every output element, (m, n) at m × N + n (R321). -/
def computeSample (p : Prof) (x : Operands) : List Nat :=
  (List.range (x.m * x.n)).map fun i => elemOut p x (i / x.n) (i % x.n)

/-- The elements of the die's result D, or of a recompute E. -/
def resultOf (x : Operands) (d : Nat) : List Nat := (List.range (x.m * x.n)).map fun i => elemAt d (outWidth x.outf) i

/-- Indices at which two results differ. -/
def differing (a b : List Nat) : List Nat := (List.range a.length).filter fun i => a.getD i 0 != b.getD i 0

/-! ### The profile's family and tolerance mode (R325, R327) -/

/-- FMT_A, FMT_B or OP is reserved (R327). -/
def Operands.reserved (x : Operands) : Bool :=
  x.fa == 0 || decide (8 < x.fa) || x.fb == 0 || decide (8 < x.fb) || decide (1 < x.op)

/-- The sample lies in the family of profile record `prof` (R325). -/
def Operands.inFamily (x : Operands) (prof : Nat) : Bool :=
  let mask := bits prof 255 248
  let mx := fmtMx x.fa && fmtMx x.fb
  bitAt mask (x.fa - 1) && bitAt mask (x.fb - 1) && (mx || (x.fa == x.fb && decide (6 ≤ x.fa)))
    && bitAt (bits prof 247 244) x.outf && (x.outf == 3) == (x.fa == 6) && bitAt (bits prof 243 242) x.op
    && (!mx || x.k % (readProf prof).mxblk == 0)

/-- The arithmetic of tolerance mode, with the MX block size of the profile (R327). -/
def tolerantProf (mxblk : Nat) : Prof := { readProf 0 with mxblk := mxblk }

/-- A floating-point output's place among the values of its format, in units in the last place; none for a NaN. -/
def ulpPlace (outf x : Nat) : Option Int :=
  let eb := if outf = 2 then 5 else 8
  let mb := if outf = 1 then 7 else if outf = 2 then 10 else 23
  let mag : Nat := x % 2 ^ (eb + mb)
  if (2 ^ eb - 1) * 2 ^ mb < mag then none else some (if bitAt x (eb + mb) then -(mag : Int) else mag)

/-- The distance of two elements in tolerance mode, saturating at 2^24 - 1 (R327). -/
def tolerance (outf a b : Nat) : Nat :=
  if outf = 3 then min (2 ^ 24 - 1) (toSigned 32 a - toSigned 32 b).natAbs
  else match ulpPlace outf a, ulpPlace outf b with
    | some x, some y => min (2 ^ 24 - 1) (x - y).natAbs
    | none, none => 0
    | _, _ => 2 ^ 24 - 1

/-- The largest distance between two results. -/
def maxTolerance (outf : Nat) (a b : List Nat) : Nat :=
  (List.range a.length).foldl (fun m i => max m (tolerance outf (a.getD i 0) (b.getD i 0))) 0

end Sys2Proof.Machine
end

