-- ==== Sys2Proof/Machine/ShroudOps.lean ====
section
/-! DEFINITION. Machine/ShroudOps.lean: operations of the Shroud array (chapter 09) that other chapters call: selection at a
Staris, the sample ring, the pool, the clusters and their retirement. -/

namespace Sys2Proof.Machine
open Sys2Proof

/-! ### The Staris side (R313 to R318, R322) -/

/-- The Shroud side of die `d`. -/
def State.shd (s : State) (d : Die) : ShroudDie := (s.die d).shroud

/-- The Shroud side of die `d` replaced. -/
def State.setShd (s : State) (d : Die) (x : ShroudDie) : State := s.setDie d { s.die d with shroud := x }

/-- x of R313: the finaliser over (TAG, STEP) and SEED. -/
def selHash (tag step seed : Nat) : Nat :=
  let x := Nat.xor (fld 32 32 tag + step % 2 ^ 32) (seed % 2 ^ 64)
  let x := Nat.xor x (x / 2 ^ 33) * 0xFF51AFD7ED558CCD % 2 ^ 64
  let x := Nat.xor x (x / 2 ^ 33) * 0xC4CEB9FE1A85EC53 % 2 ^ 64
  Nat.xor x (x / 2 ^ 33)

/-- selected(TAG, STEP, F) of R313. -/
def selected (tag step seed f : Nat) : Bool :=
  f != 0 && tag % 2 ^ 32 != 0 && decide (selHash tag step seed % 2 ^ 20 < 2 ^ (20 - f))

/-- F of an engine slot (R314). -/
def State.fraction (s : State) (d : Die) (slot : Nat) : Nat :=
  let p := Part.staris d
  let m := s.ob p O.SH_SLOT_MAP_5400 slot
  let boost := s.rd p O.SH_BOOST_5400
  if bitAt m 3 ∧ boost ≠ 0 then boost else s.ob p O.SH_FRACTION_5400 (m % 8)

/-- A NOTICE granule (R322). -/
def noticeGranule (tag step epoch sid slot code : Nat) : Nat :=
  fld 224 32 tag + fld 192 32 step + fld 160 32 epoch + fld 128 32 sid + fld 56 8 slot + fld 40 8 code + 0x54

/-- Granules leave on the tensor-tap channel while the link carries messages. -/
def State.sendTap (s : State) (d : Die) (gs : List (Nat × Bool)) : State :=
  if s.linkUp false d then s.send false d 4 (gs.map fun g => { data := g.1, poison := g.2 }) else s

/-- A notice about a selection (R322). -/
def State.notice (s : State) (d : Die) (x : ShSel) (code : Nat) : State :=
  s.sendTap d [(noticeGranule x.tag x.step x.epoch x.sid x.slot code, false)]

/-- A selection is skipped with a code (R316, R322). -/
def State.shSkip (s : State) (d : Die) (x : ShSel) (code : Nat) : State :=
  let p := Part.staris d
  let n := s.elem p O.SKIPS_5401 4 code
  (s.setElem p O.SKIPS_5401 4 code ((n + 1) % 2 ^ 32)).notice d x code

/-- SHROUD_SELECT: whether the descriptor is selected, and the state after: a forced entry, or the keyed hash (R313, R315). While
Staris is ABSORBING or RESTORING the selection is answered with a skip of code CUT (R316, R353). -/
def State.shroudSelect (s : State) (d : Die) (c : CdtWord) : Bool × State :=
  let p := Part.staris d
  if s.rd p O.SH_RING_BYTES_5400 = 0 ∨ s.linkUp false d = false then (false, s)
  else
    let key := fld 32 32 c.tag + c.step % 2 ^ 32
    let forced := if c.tag % 2 ^ 32 = 0 then [] else (List.range 16).filter fun f => s.rd p (O.FORCE_KEY_5410 f) == key
    let s := forced.foldl (fun s f => s.bump p (O.FORCE_HITS_5410 f) 32) s
    if forced.isEmpty ∧ selected c.tag c.step (s.rd p O.SH_SEED_5400) (s.fraction d c.slot) = false then (false, s)
    else
      let x := s.shd d
      let sel : ShSel := { sid := x.nextSid, tag := c.tag, step := c.step, epoch := c.epoch, slot := c.slot }
      let s := s.bump p O.SELECTED_5401 64
      let x := { x with nextSid := (x.nextSid + 1) % 2 ^ 32 }
      if s.rd p O.STAY_STATE_5800 = 2 ∨ s.rd p O.STAY_STATE_5800 = 3 then (false, (s.setShd d x).shSkip d sel 3)
      else (true, s.setShd d { x with sels := x.sels ++ [sel] })

/-- The space of freed entries returns once every older entry is free (R577). -/
def dropFreed : List ShEntry → List ShEntry
  | [] => []
  | e :: t => if e.freed then dropFreed t else e :: t

/-- The held entries that `p` picks are discarded and counted (R317, R461). -/
def State.discardEntries (s : State) (d : Die) (p : ShEntry → Bool) : State :=
  let x := s.shd d
  let gone := x.ring.filter fun e => !e.freed && p e
  let ring := x.ring.map fun e => if e.freed = false ∧ p e then { e with freed := true, waiting := none } else e
  let s := s.setShd d { x with ring := dropFreed ring }
  let s := gone.foldl (fun s e => s.emit (.shrFree d.val e.sid)) s
  s.bump (.staris d) O.RING_DISCARDED_5401 32 gone.length

/-- Entries that waited for the absorption to end are sent (R316). -/
def State.shroudResume (s : State) (d : Die) : State :=
  let x := s.shd d
  let msgs := x.ring.filterMap fun e => e.waiting
  let s := s.setShd d { x with ring := x.ring.map fun e => { e with waiting := none } }
  msgs.foldl (fun s m => (s.bump (.staris d) O.SENT_5401 64).sendTap d m) s

/-! ### Vager: pool and clusters (R309, R312, R339) -/

/-- The Shroud array. -/
def State.sh (s : State) : Shroud := s.vager.shroud

/-- The Shroud array replaced. -/
def State.setSh (s : State) (x : Shroud) : State := s.setVager { s.vager with shroud := x }

/-- A cluster's state code (R312). -/
def State.clState (s : State) (c : Nat) : Nat := s.ob .vager O.CLUSTER_STATE_5440 c

/-- The clusters in the states listed. -/
def State.clustersIn (s : State) (sts : List Nat) : List Nat := (List.range 18).filter fun c => sts.contains (s.clState c)

/-- A cluster takes a state; SPARES_LEFT and SH_STATE follow (R312). One that R560 has turned OFF counts as ACTIVE. -/
def State.setClState (s : State) (c st : Nat) : State :=
  let v := Part.vager
  let s := s.setOb v O.CLUSTER_STATE_5440 c st
  let spares := (s.clustersIn [2]).length
  let state := if (s.clustersIn [0, 1]).isEmpty then 2 else if 2 < (s.clustersIn [3]).length then 1 else 0
  (s.wr v O.SPARES_LEFT_5440 spares).wr v O.SH_STATE_5440 state

/-- A cluster beyond its state. -/
def State.cluster (s : State) (c : Nat) : Cluster := Tbl.get (fun _ => {}) s.sh.clusters c

/-- A cluster replaced. -/
def State.setCluster (s : State) (c : Nat) (x : Cluster) : State :=
  s.setSh { s.sh with clusters := Tbl.set (fun _ => {}) s.sh.clusters c x }

/-- The sample of a port and SID in the pool. -/
def State.sample (s : State) (port sid : Nat) : Option Sample :=
  s.sh.pool.find? fun x => x.port == port && x.sid == sid && !x.released

/-- A sample replaced. -/
def State.setSample (s : State) (x : Sample) : State :=
  let put := fun (y : Sample) => if y.port = x.port ∧ y.sid = x.sid ∧ y.released = false then x else y
  s.setSh { s.sh with pool := s.sh.pool.map put }

/-- A sample's header granule. -/
def Sample.header (x : Sample) : Nat := (x.msg.headD (0, false)).1

/-- A sample's sections. -/
def Sample.sections (x : Sample) : List Section := sectionsOf (bits x.header 31 24) (x.msg.drop 1)

/-- A sample's operands. -/
def Sample.operands (x : Sample) : Operands := readOperands x.header x.sections

/-- Bytes the pool holds (R339). -/
def Shroud.fill (x : Shroud) : Nat := 32 * (x.pool.map fun y => y.msg.length).sum

/-- POOL_FILL and POOL_PEAK follow the pool. -/
def State.poolChanged (s : State) : State :=
  let n := s.sh.fill
  let s := s.wr .vager O.POOL_FILL_5440 n
  s.wr .vager O.POOL_PEAK_5440 (max n (s.rd .vager O.POOL_PEAK_5440))

/-- A verdict is settled and waits for its release (R328). -/
def State.settle (s : State) (x : Sample) (verdict ndiff : Nat) : State :=
  s.setSample { x with phase := .done, verdict := some verdict, ndiff := min ndiff (2 ^ 24 - 1) }

/-- A Shroud command of R331 goes to the sample's Staris. -/
def State.shCommand (s : State) (x : Sample) (btag verdict cmd : Nat) : State :=
  let h := x.header
  let body := fld 160 32 x.sid + fld 128 32 (bits h 255 224) + fld 96 32 (bits h 223 192) + fld 64 32 btag
    + fld 56 8 verdict + fld 48 8 (bits h 56 49) + fld 32 8 cmd
  if hp : x.port < 16 then s.command ⟨x.port, hp⟩ body else s

/-- The sample asks the die for a recompute: step 3 of R332. -/
def State.askRecompute (s : State) (x : Sample) : State :=
  let x := { x with phase := .waitE, steps := setBit x.steps 2 true }
  (s.setSample x).shCommand x 0 0 0x52

/-- A self-test begins on a cluster (R336, R337). -/
def State.startKat (s : State) (c : Nat) : State :=
  let s := s.setCluster c { s.cluster c with testing := true, named := false }
  let mark := fun (x : Sample) => { x with wait := x.wait.map fun e => if e.1 = c then (e.1, true) else e }
  let s := s.setSh { s.sh with pool := s.sh.pool.map mark }
  s.bump .vager O.KAT_RUNS_5441 64

/-- An OFF cluster is woken, which begins its self-test in TESTING (R312, R556, R560). -/
def State.wakeCluster (s : State) (c : Nat) : State :=
  if s.clState c = 0 ∧ s.vager.crow.tripped = false then ((s.wakeVager c).setClState c 4).startKat c else s

/-- The second cluster of arbitration: the first ACTIVE one after `c1`, wrapping (R332). -/
def State.secondCluster (s : State) (c1 : Nat) : Option Nat :=
  ((List.range 17).map fun i => (c1 + 1 + i) % 18).find? fun c => s.clState c == 1 || s.clState c == 0

/-- Step 2 of R332: a second cluster is chosen, or none is left and S is the first result. -/
def State.enterSecond (s : State) (x : Sample) : State :=
  match s.secondCluster (x.c1.getD 0) with
  | none => s.askRecompute { x with unconfirmed := true, agreed := some x.s1 }
  | some c =>
    (s.setSample { x with phase := .second c }).wakeCluster c

/-- A cluster begins a sample. -/
def State.startRun (s : State) (c : Nat) (x : Sample) (second : Bool) : State :=
  let s := s.setCluster c { s.cluster c with job := some (x.port, x.sid), since := s.vager.ticks }
  s.setSample { x with phase := .running c second }

/-- Idle ACTIVE clusters, and those whose due self-test can begin, take up work: at most `n` moves. A sample for which no idle
cluster is ON wakes the lowest-numbered one that is OFF (R560). Which of several idle clusters a sample takes is free. -/
def State.shroudDispatch : Nat → State → State
  | 0, s => s
  | n + 1, s =>
    let free := (s.clustersIn [1]).filter fun c => (s.cluster c).job.isNone && !(s.cluster c).testing && s.sh.replay != some c
    match free.find? fun c => (s.cluster c).named with
    | some c => State.shroudDispatch n (s.startKat c)
    | none =>
      let waiting := s.sh.pool.find? fun x => match x.phase with
        | .second c => free.contains c
        | _ => false
      match waiting with
      | some x => (match x.phase with
        | .second c => State.shroudDispatch n (s.startRun c x true)
        | _ => s)
      | none =>
        match s.sh.pool.find? fun x => decide (x.phase = .queued) with
        | none => s
        | some x =>
          match free with
          | [] => (match s.clustersIn [0] with
            | [] => s
            | c :: _ => s.wakeCluster c)
          | [c] => State.shroudDispatch n (s.startRun c x false)
          | c :: _ =>
            let (k, s) := s.takeNat
            State.shroudDispatch n (s.startRun (free.getD (k % free.length) c) x false)

/-- With no ACTIVE cluster every sample that waits for one is skipped (R312), and a sample that waits for a second cluster goes
on without (R332). -/
def State.noCluster (s : State) : State :=
  if (s.clustersIn [0, 1]).isEmpty then
    s.sh.pool.foldl (fun s x => match x.phase with
      | .queued => s.settle x 4 7
      | .second _ => s.askRecompute { x with unconfirmed := true, agreed := some x.s1 }
      | _ => s) s
  else s

/-- A sample whose cluster is gone: a first computation queues again, a second chooses another cluster. -/
def State.loseCluster (s : State) (c : Nat) (x : Sample) : State :=
  match x.phase with
  | .running k second => if k = c then (if second then s.enterSecond x else s.setSample { x with phase := .queued }) else s
  | .second k => if k = c then s.enterSecond x else s
  | _ => s

/-- Every result that a cluster has produced since its last passing test is void: each sample that used one runs again from its
first computation (R337). -/
def State.voidResults (s : State) (c : Nat) : State :=
  (s.sh.pool.filter fun x => !x.released && (x.wait.any fun e => e.1 == c)).foldl (fun s x =>
    let again : Sample := { port := x.port, sid := x.sid, msg := x.msg, steps := setBit 0 3 true, pinned := x.pinned }
    (s.bump .vager O.VOIDED_5441 32).setSample again) s

/-- A replay whose cluster is retired ends as refused (R312, R340; log entry 171). -/
def State.loseReplay (s : State) (c : Nat) : State :=
  if s.sh.replay = some c then (s.setSh { s.sh with replay := none }).wr .vager O.REPLAY_STATE_5480 3 else s

/-- A cluster is retired (R312): its results since its last passing test are void, since no later self-test can pass (R337; log entry
171), and the lowest-numbered SPARE enters TESTING. -/
def State.retireCluster (s : State) (c : Nat) : State :=
  let s := ((s.setCluster c {}).loseReplay c).voidResults c
  let s := s.moveVager c 2
  let s := s.setClState c 3
  let s := match s.clustersIn [2] with
    | k :: _ => ((s.wakeVager k).setClState k 4).startKat k
    | [] => s
  let s := s.sh.pool.foldl (fun s x => s.loseCluster c x) s
  (s.noCluster).shroudDispatch 40

/-- The SIDs of a port arrive in order; a gap is counted (R317). -/
def State.noteSid (s : State) (p : Die) (sid : Nat) : State :=
  let due := Tbl.get (fun _ => 0) s.sh.expect p.val
  if reached sid due then
    let s := s.setSh { s.sh with expect := Tbl.set (fun _ => 0) s.sh.expect p.val ((sid + 1) % 2 ^ 32) }
    if sid % 2 ^ 32 = due then s
    else
      let n := s.elem .vager O.SID_GAPS_5441 4 p.val
      s.setElem .vager O.SID_GAPS_5441 4 p.val ((n + 1) % 2 ^ 32)
  else s

/-- A sample message cut short as the link of port `p` leaves UP and UP_7: its SID is skipped with reason LINK (R328). -/
def State.shroudCut (s : State) (p : Die) (gs : List MGran) : State :=
  match gs with
  | g :: _ =>
    if g.data % 256 = 0x51 then
      let x : Sample := { port := p.val, sid := bits g.data 159 128, msg := [(g.data, g.poison)] }
      let x := { x with phase := .done, verdict := some 4, ndiff := 5 }
      let s := s.noteSid p x.sid;
      (s.setSh { s.sh with pool := s.sh.pool ++ [x] }).poolChanged
    else s
  | [] => s

end Sys2Proof.Machine
end

