-- ==== Sys2Proof/Machine/Pass.lean ====
section
/-! DEFINITION. Machine/Pass.lean: Tell-tale models, lane groups, evaluation and passes (R251 to R276): the operations. -/

namespace Sys2Proof.Machine
open Sys2Proof

/-- Model slot `m`. -/
def State.mslot (s : State) (m : Nat) : MSlot := Tbl.get (fun _ => {}) s.vager.models m

/-- Model slot `m` replaced. -/
def State.setMslot (s : State) (m : Nat) (x : MSlot) : State :=
  s.setVager { s.vager with models := Tbl.set (fun _ => {}) s.vager.models m x }

/-- Lane group `g`. -/
def State.laneGroup (s : State) (g : Nat) : LaneGroup := Tbl.get (fun _ => {}) s.vager.laneGroups g

/-- Lane group `g` replaced. -/
def State.setLaneGroup (s : State) (g : Nat) (x : LaneGroup) : State :=
  s.setVager { s.vager with laneGroups := Tbl.set (fun _ => {}) s.vager.laneGroups g x }

/-- The state of slot `m` (R268). -/
def State.mdlState (s : State) (m : Nat) : Nat := s.rd .vager (O.MDL_STATE_4880 m)

/-- The state of slot `m` replaced. -/
def State.setMdlState (s : State) (m st : Nat) : State := s.wr .vager (O.MDL_STATE_4880 m) st

/-- The active lanes of a group: 0 to 15, and 16 once it has taken a retired lane's place (R251, R275). -/
def LaneGroup.active (g : LaneGroup) : List Nat :=
  (List.range 17).filter fun i => !g.retired.contains i && (i < 16 || g.spareTaken)

/-- No lane is left (R275). -/
def LaneGroup.gone (g : LaneGroup) : Bool := g.active.isEmpty

/-- Stage-memory blocks that may be in use: 48 while spares make good the spoilt ones (R252, R276). -/
def LaneGroup.capacity (g : LaneGroup) : Nat := min 48 (50 - g.dead.length)

/-- Free blocks (R262). -/
def LaneGroup.free (g : LaneGroup) : Nat := g.capacity - g.used.length

/-- Spare blocks left (R252). -/
def LaneGroup.spares (g : LaneGroup) : Nat := 2 - g.dead.length

/-- The lowest `n` blocks not in use and not spoilt. -/
def LaneGroup.pick (g : LaneGroup) (n : Nat) : List Nat :=
  ((List.range 50).filter fun b => !g.used.contains b && !g.dead.contains b).take n

/-- The number of score entries in use (R262). -/
def State.scoresUsed (s : State) : Nat :=
  (s.vager.models.map fun e => match e.2.model with
    | some x => (s.rd .vager (O.MDL_ROW_LAST_4880 e.1) + 1 - s.rd .vager (O.MDL_ROW_FIRST_4880 e.1)) * x.nout
    | none => 0).sum

/-! ### Images (R263, R264) -/

/-- The `n` bytes of an image from byte `i` on, as a number. -/
def imgField (img : List Nat) (i n : Nat) : Nat := ofBytes ((img.drop i).take n)

/-- The nodes of the blocks that follow one another from byte `i` of an image on. -/
def imgNodes (img : List Nat) : Nat → Nat → List (Nat × Nat) → Tbl Nat
  | _, _, [] => []
  | i, b, (_, n) :: bs =>
    ((List.range n).map fun k => (b * 2 ^ 14 + k, imgField img (i + 16 * k) 16)) ++
      imgNodes img (i + 32 * ((n + 1) / 2)) (b + 1) bs

/-- An image: the code of R266 that its header or digest raises, else the model it spells. -/
def parseImage (img : List Nat) : Nat × Model :=
  let h := imgField img 0 32
  let nt := bits h 207 192
  let nb := bits h 191 184
  let nout := bits h 183 176
  let size := bits h 159 128
  let tt := 96
  let bt := tt + 32 * ((nt + 7) / 8)
  let data := bt + 32 * ((nb + 7) / 8)
  let tree := fun i => imgField img (tt + 4 * i) 4
  let block := fun i => imgField img (bt + 4 * i) 4
  let blocks := (List.range nb).map fun i => (bits (block i) 3 0, bits (block i) 18 4)
  let trees := (List.range nt).map fun i => (bits (tree i) 19 0, bits (tree i) 21 20)
  let total := data + 32 * (blocks.map fun b => (b.2 + 1) / 2).sum
  let bias := imgField img 64 32
  if bits h 255 224 ≠ 0x314C544B ∨ bits h 223 208 ≠ 1 ∨ nt = 0 ∨ 32768 < nt ∨ nb = 0 ∨ 48 < nb ∨ nout = 0 ∨ 4 < nout
      ∨ size ≠ img.length ∨ size ≠ total
      ∨ (blocks.any fun b => b.2 == 0 || decide (16384 < b.2)) ∨ (trees.any fun t => decide (nout ≤ t.2)) then (1, {})
  else if sha256 (img.drop 64) ≠ (img.drop 32).take 32 then (2, {})
  else
    (0, { nout := nout
          mask := bits h 175 168
          bias := (List.range 4).map fun o => toSigned 32 (bias / 2 ^ (32 * o))
          trees := trees
          blocks := blocks
          nodes := imgNodes img data 0 blocks
          digest := (img.drop 32).take 32
          name := (img.take 16) })

/-- The node at an image reference; 0, an empty slot, where there is none (R253). -/
def Model.node (x : Model) (ref : Nat) : Nat := Tbl.get (fun _ => 0) x.nodes ref

/-- KIND of a node (R253). -/
def nodeKind (n : Nat) : Nat := bits n 127 124

/-- The references a node holds (R253). -/
def nodeKids (n : Nat) : List Nat :=
  match nodeKind n with
  | 1 => [bits n 19 0, bits n 39 20]
  | 2 => [bits n 19 0]
  | 3 => [bits n 19 0, bits n 39 20]
  | _ => []

/-- The stage of the block of an image reference, if the reference lies in the image. -/
def Model.stageOf (x : Model) (ref : Nat) : Option Nat :=
  match x.blocks[ref / 2 ^ 14]? with
  | some (st, n) => if ref % 2 ^ 14 < n then some st else none
  | none => none

/-- A node of stage `st` obeys R253 and R254. -/
def Model.nodeOk (x : Model) (st n : Nat) : Bool :=
  let k := nodeKind n
  decide (k ≤ 4) && (decide (k = 0 ∨ k = 4) || decide (st < 15)) && (k != 2 || decide (st ≤ 13)) &&
    ((nodeKids n).all fun r => x.stageOf r == some (st + 1))

/-- The references reached from a list of roots, stage by stage. -/
def Model.reach (x : Model) : Nat → List Nat → List Nat
  | 0, l => l
  | fuel + 1, l =>
    let next := (l.flatMap fun r => nodeKids (x.node r)).eraseDups
    l ++ (if next.isEmpty then [] else x.reach fuel next)

/-- Code 6 of R266 does not apply: kinds, references, placement, and no empty slot in reach. -/
def Model.nodesOk (x : Model) : Bool :=
  (x.nodes.all fun e => match x.stageOf e.1 with
    | some st => x.nodeOk st e.2
    | none => false) &&
  (x.trees.all fun t => x.stageOf t.1 == some 0) &&
  ((x.reach 16 (x.trees.map Prod.fst).eraseDups).all fun r => nodeKind (x.node r) != 0)

/-- The largest |SCORE| below a reference (R256). -/
def Model.bound (x : Model) : Nat → Nat → Nat
  | 0, _ => 0
  | fuel + 1, ref =>
    let n := x.node ref
    if nodeKind n = 4 then (toSigned 32 n).natAbs
    else ((nodeKids n).map (x.bound fuel)).foldl max 0

/-- The bound of R256 holds for every output. -/
def Model.boundOk (x : Model) : Bool :=
  (List.range x.nout).all fun o =>
    decide ((x.bias.getD o 0).natAbs + (((x.trees.filter fun t => t.2 == o).map fun t => x.bound 16 t.1).sum)
      ≤ 2147483647)

/-- Nodes of stage `st`. -/
def Model.stageNodes (x : Model) (st : Nat) : Nat := ((x.blocks.filter fun b => b.1 == st).map Prod.snd).sum

/-- Blocks of stage memory that the nodes of stage `st` need (R262). -/
def Model.stageBlocks (x : Model) (st : Nat) : Nat := (x.stageNodes st + 16383) / 16384

/-- Blocks a model needs in each group (R262). -/
def Model.need (x : Model) : Nat := ((List.range 16).map x.stageBlocks).sum

/-- Where the loader places the node of an image reference: the number of the model's block × 2^14 + slot. The nodes of a stage follow
one another in table order, 16,384 to a block (R262, R264, R265). -/
def Model.place (x : Model) (ref : Nat) : Nat :=
  let b := ref / 2 ^ 14
  let st := (x.blocks.getD b (0, 0)).1
  let ahead := (((x.blocks.take b).filter fun e => e.1 == st).map Prod.snd).sum
  ((List.range st).map x.stageBlocks).sum * 2 ^ 14 + ahead + ref % 2 ^ 14

/-! ### Evaluation (R255 to R257) -/

/-- What one tree gives: its score, none where it is INVALID, and whether a DEF bit was followed. -/
structure TreeResult where
  score : Option Int := none
  dflt : Bool := false
deriving DecidableEq, Repr

/-- eval of R255 from reference `ref`: `half` is the sum and the NaN of the last first half read, if one has been, and `spoilt` is the
granule of stage memory read as poison. A second half that follows none has free values in their place (log entry 55). -/
def Model.evalTree (x : Model) (row : Nat → Nat) (spoilt : Option Nat) :
    Nat → Nat → Option (Int × Bool) → Bool → TreeResult
  | 0, _, _, d => { dflt := d }
  | fuel + 1, ref, half, d =>
    let n := x.node ref
    let go := fun (isNan lt : Bool) =>
      let left := if isNan then !bitAt n 123 else lt
      x.evalTree row spoilt fuel (if left then bits n 19 0 else bits n 39 20) half (d || isNan)
    if spoilt = some (x.place ref / 2) then { dflt := d }
    else match nodeKind n with
    | 4 => { score := some (toSigned 32 n), dflt := d }
    | 1 =>
      let c := row (bits n 117 112)
      go (c == 0xFFFF) (decide (c < bits n 111 96))
    | 2 =>
      let ts := (List.range (bits n 123 122 + 1)).map fun t =>
        (row (bits n (6 * t + 101) (6 * t + 96)), toSigned 8 (bits n (8 * t + 71) (8 * t + 64)))
      x.evalTree row spoilt fuel (bits n 19 0)
        (some ((ts.map fun t => t.2 * (t.1 : Int)).sum, ts.any fun t => t.1 == 0xFFFF)) d
    | 3 =>
      let (acc, nan) := half.getD (Config.strayHalf n)
      go nan (decide (acc < toSigned 32 (bits n 103 72)))
    | _ => { dflt := d }

/-- The outputs of one row (R256, R257). -/
def Model.evalRow (x : Model) (row : Nat → Nat) (poison : Bool) (spoilt : Option Nat) : List Score :=
  (List.range x.nout).map fun o =>
    let rs := (x.trees.filter fun t => t.2 == o).map fun t => x.evalTree row spoilt 17 t.1 none false
    let bad := rs.any fun r => r.score.isNone
    { score := if bad then 0 else x.bias.getD o 0 + (rs.map fun r => r.score.getD 0).sum
      invalid := bad
      poison := poison
      dflt := rs.any TreeResult.dflt }

/-! ### Alarm records (R269, R271) -/

/-- Alarm objects of output `o` of slot `m` stand at this index. -/
def almIndex (m o : Nat) : Nat := 4 * m + o

/-- An alarm record joins the ring, or is dropped and counted where the ring is full (R271). -/
def State.alarmRecord (s : State) (rec : Nat) : State :=
  let w := s.rd .vager O.RING_WRITE_4A10
  if subMod 32 w (s.rd .vager O.RING_READ_4A10) ≥ 65536 then s.bump .vager O.RING_DROPPED_4A10 32
  else (s.setVager { s.vager with alarms := Tbl.insert s.vager.alarms (w % 65536) rec }).bump .vager O.RING_WRITE_4A10 32

/-- A RAISE or CLEAR of row `r`, output `o` of slot `m` (R269, R271). -/
def State.alarm (s : State) (m o r : Nat) (raise : Bool) (x : Score) (swap : Bool) (start : Nat) : State :=
  let a := almIndex m o
  let limit := s.rd .vager (if raise then O.ALM_RAISE_4900 a else O.ALM_CLEAR_4900 a)
  let word := fld 192 64 start + fld 160 32 (ofSigned 32 x.score) + fld 128 32 limit + fld 108 20 r
    + fld 76 32 (s.frow r).desc + fld 32 32 (s.rd .vager (O.MDL_PASSES_4880 m)) + fld 26 6 m + fld 24 2 o
    + fld 10 1 (ofBool swap) + fld 9 1 (ofBool x.poison) + fld 8 1 (ofBool x.dflt) + (if raise then 0x41 else 0x42)
  let s := s.bump .vager (O.ALM_TRANSITIONS_4900 a) 32
  let n := s.rd .vager (O.ALM_RAISED_4900 a)
  (s.wr .vager (O.ALM_RAISED_4900 a) (if raise then n + 1 else n - 1)).alarmRecord word

/-! ### Slots and passes (R258 to R268) -/

/-- A slot's blocks and score entries are free and the slot is EMPTY (R268). -/
def State.freeSlot (s : State) (m : Nat) : State :=
  let x := s.mslot m
  let s := x.held.foldl (fun s g =>
    let lg := s.laneGroup g
    let mine := (x.phys.filter fun e => e.1 / 64 == g).map Prod.snd
    s.setLaneGroup g { lg with
      used := lg.used.filter fun b => !mine.contains b
      filling := lg.filling.filter fun b => !mine.contains b }) s
  let s := (List.range 4).foldl (fun s o => s.wr .vager (O.ALM_RAISED_4900 (almIndex m o)) 0) s
  (s.setMslot m {}).setMdlState m 0

/-- A RETIRING slot whose last started pass has been released is freed (R267, R268). -/
def State.freeIfRetired (s : State) (m : Nat) : State :=
  if s.mdlState m = 4 ∧ (s.mslot m).pass.isNone then s.freeSlot m else s

/-- The alarms raised under slot `k` are cleared with SWAP at a takeover (R267). -/
def State.swapClear (s : State) (k start : Nat) : State :=
  (s.mslot k).scores.foldl (fun s e =>
    (List.range e.2.length).foldl (fun s o =>
      let x := e.2.getD o {}
      if x.raised then s.alarm k o e.1 false x true start else s) s) s

/-- MODEL_ACTIVATE: a LOADED slot becomes ACTIVE at a pass start, taking over the slot it replaces (R267). -/
def State.activate (s : State) (m start : Nat) : State :=
  let s := s.setMdlState m 3
  let k := s.rd .vager (O.MDL_REPLACES_4880 m)
  if 64 ≤ k ∨ k = m ∨ s.mdlState k ≠ 3 then s
  else
    let v := Part.vager
    let nout := fun i => match (s.mslot i).model with
      | some x => x.nout
      | none => 0
    let same := s.rd v (O.MDL_ROW_FIRST_4880 m) == s.rd v (O.MDL_ROW_FIRST_4880 k)
      && s.rd v (O.MDL_ROW_LAST_4880 m) == s.rd v (O.MDL_ROW_LAST_4880 k) && nout m == nout k
    let s := s.setMdlState k 4
    let s := if s.rd v (O.MDL_KEEP_ALARMS_4880 m) = 1 ∧ same then
        let sc := (s.mslot k).scores.map fun e => (e.1, e.2.map fun x => { ({} : Score) with count := x.count, raised := x.raised })
        let s := s.setMslot m { s.mslot m with scores := sc }
        (List.range (nout m)).foldl (fun s o =>
          s.wr v (O.ALM_RAISED_4900 (almIndex m o)) (s.rd v (O.ALM_RAISED_4900 (almIndex k o)))) s
      else
        let s := s.swapClear k start
        let sc := (s.mslot k).scores.map fun e => (e.1, e.2.map fun x => { x with raised := false, count := 0 })
        s.setMslot k { s.mslot k with scores := sc }
    s.freeIfRetired k

/-- The rows a pass evaluates, with the group of each (R259). -/
def State.passItems (s : State) (m : Nat) : List (Nat × Nat) :=
  let x := s.mslot m
  let lo := s.rd .vager (O.MDL_ROW_FIRST_4880 m)
  let hi := s.rd .vager (O.MDL_ROW_LAST_4880 m)
  let mask := match x.model with
    | some y => y.mask
    | none => 0
  let wanted := s.vager.rows.filter fun e =>
    decide (lo ≤ e.1) && decide (e.1 ≤ hi) && e.2.kind != 0 && bitAt mask e.2.kind
  wanted.map fun e => (x.held.getD ((e.1 - lo) % x.held.length) 0, e.1)

/-- The work items of group `g` that no lane has done, in the order of R259: pass start, slot, row. -/
def State.groupQueue (s : State) (g : Nat) : List (Nat × Nat × Nat) :=
  let items := s.vager.models.flatMap fun e => match e.2.pass with
    | some p => (p.todo.filter fun x => x.1 == g).map fun x => (p.start, e.1, x.2)
    | none => []
  sortBy (fun a b => decide (a.1 < b.1) || (a.1 == b.1 &&
    (decide (a.2.1 < b.2.1) || (a.2.1 == b.2.1 && decide (a.2.2 ≤ b.2.2))))) items

/-- A lane of group `g` holds row `row` of slot `m`: every free lane takes the next item, so the lanes hold the first of the queue (R259;
log entry 167). -/
def State.inLane (s : State) (g m row : Nat) : Bool :=
  ((s.groupQueue g).take (s.laneGroup g).active.length).any fun x => x.2.1 == m && x.2.2 == row

/-- Lane `lane` of group `g` is idle: no item waits, and no end-of-pass probe is due on it (R274). -/
def State.laneIdle (s : State) (g lane : Nat) : Bool :=
  (s.groupQueue g).isEmpty && !(s.vager.models.any fun e => match e.2.pass with
    | some p => p.probing.contains (17 * g + lane)
    | none => false)

/-- A pass start of slot `m` at extended time `t` (R258, R259, R261, R267). -/
def State.passStart (s : State) (m t : Nat) (triggered : Bool) : State :=
  if s.ttOn = false then s
  else
    let s := if s.mdlState m = 2 ∧ s.rd .vager (O.MDL_ACTIVATE_AT_4880 m) ≤ t then s.activate m t else s
    if s.mdlState m ≠ 3 then s
    else
      let x := s.mslot m
      let s := s.setMslot m { x with lastStart := some t }
      match x.pass with
      | some _ => s.bump .vager (O.MDL_OVERRUNS_4880 m) 32
      | none => s.setMslot m { s.mslot m with pass := some { start := t, triggered := triggered, todo := s.passItems m } }

/-- The periodic start of slot `m` that has come: the last ANCHOR + k × PERIOD not after now (R258). -/
def State.dueStart (s : State) (m : Nat) : Option Nat :=
  let a := s.rd .vager (O.MDL_ANCHOR_4880 m)
  let p := 1000 * s.rd .vager (O.MDL_PERIOD_4880 m)
  let now := s.extNow
  if p = 0 ∨ now < a then none
  else
    let t := a + (now - a) / p * p
    match (s.mslot m).lastStart with
    | some l => if t ≤ l then none else some t
    | none => some t

/-- TRIGGERED_PASS_START: this Vager has closed its own tray partial of a round of group `cg` (R258). Where two slots start
together, those that activate do so first. -/
def State.triggerPasses (s : State) (cg : Nat) : State :=
  if s.rd .vager (O.CTX_STATE_4100 (cg / 16)) ≠ 2 then s
  else
    let now := s.extNow
    let mine := (List.range 64).filter fun m =>
      s.rd .vager (O.MDL_PERIOD_4880 m) == 0 && s.rd .vager (O.MDL_TRIGGER_4880 m) == cg
    let s := if s.ttOn then mine.foldl (fun s m =>
        if s.mdlState m = 2 ∧ s.rd .vager (O.MDL_ACTIVATE_AT_4880 m) ≤ now then s.activate m now else s) s
      else s
    mine.foldl (fun s m => s.passStart m now true) s

/-! ### Lanes and blocks lost (R275, R276) -/

/-- Slot `m` leaves group `g`: its rows of a pass go to the other groups that hold it; with none left it fails (R275, R276). -/
def State.leaveGroup (s : State) (m g : Nat) : State :=
  let x := s.mslot m
  if x.held.contains g then
    let lo := s.rd .vager (O.MDL_ROW_FIRST_4880 m)
    let held := x.held.erase g
    let mine := (x.phys.filter fun e => e.1 / 64 == g).map Prod.snd
    let lg := s.laneGroup g
    let s := s.setLaneGroup g { lg with used := lg.used.filter fun b => !mine.contains b }
    let move := fun (e : Nat × Nat) => if e.1 = g then (held.getD ((e.2 - lo) % held.length) 0, e.2) else e
    let shift := fun (p : Pass) =>
      let redo := (p.done.filter fun d => d.group == g && p.probing.contains (17 * g + d.lane)).map fun d => (g, d.row)
      { p with
        todo := if held.isEmpty then [] else (p.todo ++ redo).map move
        done := p.done.filter fun d => !(redo.contains (g, d.row))
        probing := p.probing.filter fun l => l / 17 != g }
    let st := s.mdlState m
    let s := s.setMslot m { x with
      held := held
      phys := x.phys.filter fun e => e.1 / 64 != g
      pass := if held.isEmpty then none else x.pass.map shift }
    if held.isEmpty ∧ 2 ≤ st ∧ st ≤ 4 then (s.setMdlState m 6).recordV 0x0025 m else s
  else s

/-- The items of lane `lane` of group `g` run again (R274): on the group's other lanes, or where it has none on another group that
holds the model, `others`; where there is no other either, on the lane itself (log entry 166). -/
def Pass.redo (p : Pass) (lg : LaneGroup) (others : List Nat) (g lane : Nat) : Pass :=
  let again := p.done.filter fun d => d.group == g && d.lane == lane
  let left := lg.active.any fun l => l != lane
  let home := if left then g else others.headD g
  { p with
    todo := p.todo ++ again.map fun d => (home, d.row)
    done := p.done.filter fun d => !(d.group == g && d.lane == lane)
    barred := if left then p.barred ++ again.map fun d => (d.row, 17 * g + lane) else p.barred
    probing := p.probing.erase (17 * g + lane) }

/-- The items that lane `lane` of group `g` has done run again, in every pass that `which` names (R274). -/
def State.redoLane (s : State) (g lane : Nat) (which : Pass → Bool) : State :=
  let lg := s.laneGroup g
  let fix := fun (x : MSlot) => { x with
    pass := x.pass.map fun p => if which p then p.redo lg (x.held.filter fun h => h != g) g lane else p }
  s.setVager { s.vager with models := s.vager.models.map fun e => (e.1, fix e.2) }

/-- A Tell-tale lane declared permanent is retired; the spare takes its place, and a group with no lane left is retired
(R275). -/
def State.retireTtLane (s : State) (g lane : Nat) : State :=
  let lg := s.laneGroup g
  let takes := decide (lane < 16) && !lg.spareTaken && !lg.retired.contains 16
  let lg := { lg with retired := lg.retired ++ [lane], spareTaken := lg.spareTaken || takes }
  let s := s.setLaneGroup g lg
  let s := s.redoLane g lane fun _ => true
  if lg.gone then (List.range 64).foldl (fun s m => s.leaveGroup m g) s else s

/-- A stage-memory block declared permanent: a spare takes its place and is filled, or every model with nodes in it leaves the
group (R276). -/
def State.retireBlock (s : State) (g b : Nat) : State :=
  let lg := s.laneGroup g
  let had := lg.spares
  let used := lg.used.contains b
  let lg := { lg with dead := lg.dead ++ [b], used := lg.used.erase b }
  let s := s.setLaneGroup g lg
  if used = false then s
  else if 0 < had then
    match lg.pick 1 with
    | [n] =>
      let swap := fun (x : MSlot) =>
        { x with phys := x.phys.map fun e => if e.1 / 64 = g ∧ e.2 = b then (e.1, n) else e }
      let s := s.setVager { s.vager with models := s.vager.models.map fun e => (e.1, swap e.2) }
      s.setLaneGroup g { lg with used := lg.used ++ [n], filling := lg.filling ++ [n] }
    | _ => s
  else
    ((List.range 64).filter fun m => (s.mslot m).phys.any fun e => e.1 / 64 == g && e.2 == b).foldl
      (fun s m => s.leaveGroup m g) s

end Sys2Proof.Machine
end

