-- ==== Sys2Proof/Machine/Reduce.lean ====
section
/-! DEFINITION. Machine/Reduce.lean: stream intake, snapshots, partials and their merge, rounds, results, and what this Vager
sends to its neighbours in the pod tree (chapter 06). -/

namespace Sys2Proof.Machine
open Sys2Proof

/-! ### Partials (R202 to R205, R209) -/

/-- The fields of a group's configuration word (R199). -/
def grpFirst (c : Nat) : Nat := bits c 63 48
def grpLast (c : Nat) : Nat := bits c 47 32
def grpMask (c : Nat) : Nat := bits c 31 16
def grpKeymode (c : Nat) : Nat := bits c 15 14
def grpTime (c : Nat) : Bool := bitAt c 13
def grpSigned (c : Nat) : Bool := bitAt c 12
def grpDelta (c : Nat) : Bool := bitAt c 11
def grpSketch (c : Nat) : Bool := bitAt c 10
def grpHist (c : Nat) : Bool := bitAt c 9
def grpDown (c : Nat) : Bool := bitAt c 8
def grpEnable (c : Nat) : Bool := bitAt c 7

/-- An operand as it is compared (R199, R209). -/
def asOperand (signed : Bool) (x : Nat) : Int := if signed then toSigned 64 x else (x % 2 ^ 64 : Nat)

/-- pick of R209; `up` asks for the greater. -/
def pick (signed up : Bool) (x kx y ky : Nat) : Nat × Nat :=
  let a := asOperand signed x
  let b := asOperand signed y
  if (if up then b < a else a < b) then (x, kx)
  else if (if up then a < b else b < a) then (y, ky)
  else if kx < ky then (x, kx) else (y, ky)

/-- Words added, saturating; the Bool says that one did saturate (R209). -/
def addWords (a b : Tbl Nat) : Tbl Nat × Bool :=
  b.foldl (fun r e =>
    let w := Tbl.get (fun _ => 0) r.1 e.1 + e.2
    (Tbl.set (fun _ => 0) r.1 e.1 (min w (2 ^ 32 - 1)), r.2 || decide (2 ^ 32 ≤ w))) (a, false)

/-- merge of R209. COVER and MISSING are those of the first. -/
def Partial.merge (signed : Bool) (a b : Partial) : Partial :=
  if a.count = 0 then
    { b with flags := Nat.lor a.flags b.flags, expect := a.expect + b.expect, cover := a.cover, missing := a.missing }
  else if b.count = 0 then { a with flags := Nat.lor a.flags b.flags, expect := a.expect + b.expect }
  else
    let (mx, mxa) := pick signed true a.max a.maxArg b.max b.maxArg
    let (mn, mna) := pick signed false a.min a.minArg b.min b.minArg
    let (sk, s1) := addWords a.sk b.sk
    let (h, s2) := addWords a.hist b.hist
    let n := a.count + b.count
    let f := Nat.lor (Nat.lor a.flags b.flags) (Nat.lor (if s1 || s2 then 16 else 0) (if 2 ^ 31 < n then 1 else 0))
    { a with
      sum := (a.sum + b.sum) % 2 ^ 96
      count := n
      expect := a.expect + b.expect
      max := mx
      maxArg := mxa
      min := mn
      minArg := mna
      sk := sk
      hist := h
      flags := f }

/-- An operand joins the own tray partial: x, its argument, what the sketch and histogram take, and whether its record had
LOCKED 0 (R201 to R205). -/
def Partial.add (p : Partial) (cfg x arg : Nat) (v : Option Int) (unlocked : Bool) : Partial :=
  let signed := grpSigned cfg
  let one : Partial := { sum := ofSigned 96 (asOperand signed x), count := 1, max := x, maxArg := arg, min := x, minArg := arg,
                         flags := if unlocked then 32 else 0 }
  let p := p.merge signed one
  match v with
  | none => p
  | some v =>
    let (sk, s1) := if grpSketch cfg then addWord p.sk (skIndex v) else (p.sk, false)
    let (h, s2) := if grpHist cfg then addWord p.hist (histIndex v) else (p.hist, false)
    { p with
      sk := sk
      hist := h
      flags := Nat.lor p.flags (if s1 || s2 then 16 else 0) }

/-- Granules of 32-bit words, `n` granules from word 0. -/
def wordGranules (t : Tbl Nat) (n : Nat) : List Nat :=
  (List.range n).map fun g => ((List.range 8).map fun i => fld (32 * i) 32 (Tbl.get (fun _ => 0) t (8 * g + i))).sum

/-- The granules of a partial (R202, R203). -/
def Partial.granules (p : Partial) (sketch hist : Bool) : List Nat :=
  let none33 := 0x1FFFFFFFF
  let e := p.count == 0
  [fld 160 96 p.sum + fld 96 64 p.count + fld 56 40 p.expect + fld 0 8 p.flags,
   fld 192 64 (if e then 0 else p.max) + fld 128 64 (if e then 0 else p.min)
     + fld 95 33 (if e then none33 else p.maxArg) + fld 62 33 (if e then none33 else p.minArg)]
  ++ (if sketch then wordGranules p.sk 64 else []) ++ (if hist then wordGranules p.hist 8 else [])

/-- The words of granules. -/
def granuleWords (gs : List Nat) : Tbl Nat :=
  (List.range (8 * gs.length)).filterMap fun i =>
    let w := bits (gs.getD (i / 8) 0) (32 * (i % 8) + 31) (32 * (i % 8))
    if w = 0 then none else some (i, w)

/-- A partial read from the body of a message (R202, R203). -/
def readPartial (body : List Nat) (sketch hist : Bool) (cover missing : Nat) : Partial :=
  let a := body.getD 0 0
  let b := body.getD 1 0
  let skn := if sketch then 64 else 0
  let p : Partial := { sum := bits a 255 160, count := bits a 159 96, expect := bits a 95 56, flags := bits a 7 0,
                       cover := cover, missing := missing }
  if p.count = 0 then p
  else
    { p with
      max := bits b 255 192
      min := bits b 191 128
      maxArg := bits b 127 95
      minArg := bits b 94 62
      sk := if sketch then granuleWords ((body.drop 2).take 64) else []
      hist := if hist then granuleWords ((body.drop (2 + skn)).take 8) else [] }

/-! ### Partials sent up (R213, R214) -/

/-- A PARTIAL goes to the neighbour above, if there is one (R213, R214). -/
def State.sendTreeUp (s : State) (u : UpPartial) (resend : Bool) : State :=
  match s.treeUp with
  | none => s
  | some dst => s.sendTree dst 0x11 u.round u.epoch 0 u.part.missing u.part.cover u.group u.standing resend
      (u.part.granules u.sketch u.hist)

/-- A PARTIAL is sent and kept until it is acknowledged; one that four newer rounds of its group have overtaken is kept no
longer (R214). -/
def State.sendPartial (s : State) (u : UpPartial) : State :=
  let t := s.vager.tree
  let age := fun (x : UpPartial) =>
    if x.epoch = u.epoch ∧ x.group = u.group ∧ x.standing = false ∧ x.round < u.round then { x with newer := x.newer + 1 } else x
  let up := (t.up.map age).filter fun x => decide (x.newer < 4)
  (s.setTree { t with up := up ++ [u] }).sendTreeUp u false

/-! ### Forwarding broadcasts (R223, R231) -/

/-- A broadcast in hand is forwarded to every LIVE or ADOPTED slot (R223). -/
def State.forwardBcast (s : State) (bseq : Nat) (resend : Bool) : State :=
  match s.vager.tree.bcasts.find? fun b => b.bseq == bseq with
  | none => s
  | some b =>
    let ts := s.liveKids.map s.kidTray
    let s := s.putBcast { b with waiting := ts }
    ts.foldl (fun s t => s.sendTree t 0x21 0 b.epoch b.bseq 0 0 0 false resend b.body) s

/-- A broadcast is taken in BSEQ order: it stands in hand, and the last BSEQ is its own (R223). The last eight and the last
fleet broadcast stay in hand for those who lack them. -/
def State.takeBcast (s : State) (b : Bcast) : State :=
  let t := s.vager.tree
  let old := t.bcasts.filter fun x => x.bseq != b.bseq
  let extra := (old.take (old.length - 7)).filter fun x => x.sent && t.fleet != some x.bseq
  let keep := old.filter fun x => !(extra.any fun y => y.bseq == x.bseq)
  (s.setTree { t with bcasts := keep ++ [b] }).wr .vager O.TREE_LAST_BSEQ_4300 b.bseq

/-- Context × 16 + group of epoch `e` and group `g`, in a context not FREE. -/
def State.ctxOf (s : State) (e : Nat) : Option Nat :=
  (List.range 64).find? fun x => s.rd .vager (O.CTX_STATE_4100 x) != 0 && s.rd .vager (O.CTX_EPOCH_4100 x) == e

/-- The context that holds epoch `e`, or that held it last and has not been reused since: its results stay (R218, R231). -/
def State.heldCtx (s : State) (e : Nat) : Option Nat :=
  match s.ctxOf e with
  | some x => some x
  | none =>
    let old := (List.range 64).filter fun x => e != 0 && s.rd .vager (O.CTX_EPOCH_4100 x) == e
    old.foldl (fun b x => match b with
      | none => some x
      | some y => if s.rd .vager (O.CTX_OPEN_TIME_4100 y) < s.rd .vager (O.CTX_OPEN_TIME_4100 x) then some x else some y) none

/-- RESULT_APPLY: a RESULT broadcast's round is stored in RES_DOWN, and the reference registers that follow its group are
loaded (R231, R250). -/
def State.applyResult (s : State) (gs : List Nat) : State :=
  let h := gs.getD 0 0
  match s.heldCtx (bits h 191 160) with
  | none => s
  | some x =>
    let cg := 16 * x + bits h 39 32 % 16
    let s := s.setVager { s.vager with down := Tbl.insert s.vager.down cg (gs.take 3) }
    s.loadRefs cg (readPartial (gs.drop 1) false false 0 0)

/-- R231: the root broadcasts a closed round under the next BSEQ. -/
def State.broadcastResult (s : State) (g : Group) (header : Nat) (p : Partial) : State :=
  let bseq := (s.rd .vager O.TREE_LAST_BSEQ_4300 + 1) % 2 ^ 32
  let epoch := bits header 191 160
  let res := header :: p.granules false false
  let first := fld 160 32 epoch + fld 147 13 g.trayLo + fld 134 13 g.trayHi + 4
  let b : Bcast := { bseq := bseq, epoch := epoch, body := first :: res, own := some (0, 0, 0, 0, 0) }
  let s := (s.takeBcast b).applyResult res
  (s.forwardBcast bseq false).tryBack bseq

/-! ### Groups and contexts (R199, R200, R218) -/

/-- Group `cg` = context × 16 + group. -/
def State.group (s : State) (cg : Nat) : Group := Tbl.get (fun _ => {}) s.vager.groups cg

/-- Group `cg` replaced. -/
def State.setGroup (s : State) (cg : Nat) (g : Group) : State :=
  s.setVager { s.vager with groups := Tbl.set (fun _ => {}) s.vager.groups cg g }

/-- State of context `x` (R218). -/
def State.ctxState (s : State) (x : Nat) : Nat := s.rd .vager (O.CTX_STATE_4100 x)

/-- State of context `x` replaced; CTX_FREE_COUNT follows. -/
def State.setCtxState (s : State) (x st : Nat) : State :=
  let s := s.wr .vager (O.CTX_STATE_4100 x) st
  s.wr .vager O.CTX_FREE_COUNT_4140 ((List.range 64).filter fun i => s.ctxState i == 0).length

/-- Extended time `t` lies in the interval of context `x`, which is OPEN or DRAINING (R200). -/
def State.inContext (s : State) (x t : Nat) : Bool :=
  let st := s.ctxState x
  let c := s.rd .vager (O.CTX_CLOSE_TIME_4100 x)
  (st == 2 || st == 3) && decide (s.rd .vager (O.CTX_OPEN_TIME_4100 x) ≤ t) && (c == 0 || decide (t < c))

/-- Stream or counter `l` of die `d` is a member of the group (R200). -/
def Group.member (g : Group) (d l : Nat) : Bool :=
  grpEnable g.cfg && g.inside && bitAt (grpMask g.cfg) d && decide (grpFirst g.cfg ≤ l) && decide (l ≤ grpLast g.cfg)

/-- Members of the group on this tray (R202, 0x4200:08). -/
def Group.expect (g : Group) : Nat :=
  if grpEnable g.cfg && g.inside then popCount 16 (grpMask g.cfg) * (grpLast g.cfg + 1 - grpFirst g.cfg) else 0

/-- The group whose context's interval holds `t` and of which stream (d, l) is a member (R200, R220). -/
def State.groupFor (s : State) (d l t : Nat) : Option Nat :=
  (s.vager.groups.find? fun e => grpKeymode e.2.cfg != 2 && e.2.member d l && s.inContext (e.1 / 16) t).map Prod.fst

/-- A context is FREE: its rounds are gone, its results stay (R218). -/
def State.freeContext (s : State) (x : Nat) : State :=
  let clear := fun (g : Group) => { g with rounds := [], standing := [], primed := [] }
  let gs := s.vager.groups.map fun e => (e.1, if e.1 / 16 = x then clear e.2 else e.2)
  (s.setVager { s.vager with groups := gs }).setCtxState x 0

/-- CONTEXT_DRAIN_END: a DRAINING context is freed once every round has closed and every PARTIAL is acknowledged (R218). -/
def State.checkDrain (s : State) (x : Nat) : State :=
  let busy := s.vager.groups.any fun e => e.1 / 16 == x && !e.2.rounds.isEmpty
  let epoch := s.rd .vager (O.CTX_EPOCH_4100 x)
  let waits := s.vager.tree.up.any fun u => u.ctx == x && u.epoch == epoch
  if s.ctxState x = 3 ∧ busy = false ∧ waits = false then s.freeContext x else s

/-! ### Rounds (R207, R208, R230) -/

/-- A round of group `cg` replaced. -/
def State.setRound (s : State) (cg : Nat) (r : Round) : State :=
  let g := s.group cg
  let l := g.rounds.map fun x => if x.key = r.key then r else x
  s.setGroup cg { g with rounds := l }

/-- The open round of group `cg` with key `key`. -/
def State.round (s : State) (cg key : Nat) : Option Round := (s.group cg).rounds.find? fun r => r.key == key

/-- The deadline of the own tray partial (R207). -/
def Group.deadline (g : Group) (r : Round) : Nat :=
  (if grpKeymode g.cfg = 1 then r.first else g.anchor + (r.key + 1) * g.window) + 1000 * g.trayWait

/-- The own tray partial closes: passes that it triggers start, and anchor instants are set (R207, R258, R417). -/
def State.closeOwn (s : State) (cg key : Nat) : State :=
  match s.round cg key with
  | none => s
  | some r =>
    if r.ownClosed then s
    else
      let g := s.group cg
      let s := s.setRound cg { r with ownClosed := true, own := { r.own with expect := g.expect } }
      (s.triggerPasses cg).scheduleAnchors cg

/-- The merged partial of a round is complete (R207). -/
def State.complete (s : State) (cg : Nat) (r : Round) : Bool :=
  let g := s.group cg
  r.ownClosed && s.vager.tree.awaiting.isEmpty &&
    (s.liveKids.all fun k => (Tbl.find r.kids (s.kidTray k)).isSome || (Tbl.find g.standing (s.kidTray k)).isSome)

/-- The slots that brought nothing to the round (R216, R228, R230). -/
def State.missingKids (s : State) (cg : Nat) (r : Round) : List Nat :=
  let g := s.group cg
  (List.range 96).filter fun k =>
    let st := s.kidState k
    let t := s.kidTray k
    (Tbl.find r.kids t).isNone && (st == 2 || ((st == 1 || st == 3) && (Tbl.find g.standing t).isNone))

/-- One bit for each number listed. -/
def bitSet (l : List Nat) : Nat := (l.map fun k => 2 ^ k).sum

/-- The merged partial of a round closes with `flags` added: folded in ascending tray order, held as the result, and sent up
or, at the root, down (R209, R218, R230, R231). -/
def State.closeRound (s : State) (cg key flags : Nat) : State :=
  let s := s.closeOwn cg key
  match s.round cg key with
  | none => s
  | some r =>
    let g := s.group cg
    let x := cg / 16
    let signed := grpSigned g.cfg
    let kids := sortBy (fun a b => decide (a.1 ≤ b.1)) r.kids
    let live := (s.liveKids.map s.kidTray).filter fun t => (Tbl.find r.kids t).isNone
    let miss := s.missingKids cg r
    let p := kids.foldl (fun p e => p.merge signed e.2) r.own
    let cover := 1 + (r.kids.map fun e => e.2.cover).sum + (live.map fun t => Tbl.get (fun _ => 0) g.standing t).sum
    let had := r.kids.map Prod.fst
    let lost := (miss.filter fun k => !s.stoodFor had k).map s.lostCover
    let missing := (r.kids.map fun e => e.2.missing).sum + lost.sum
    let p := { p with flags := Nat.lor p.flags flags, cover := cover, missing := missing }
    let lacking := (List.range 16).filter fun d =>
      bitAt (grpMask g.cfg) d &&
        decide ((r.got.filter fun i => i / 65536 == d).length < grpLast g.cfg + 1 - grpFirst g.cfg)
    let body := p.granules (grpSketch g.cfg) (grpHist g.cfg)
    let epoch := s.rd .vager (O.CTX_EPOCH_4100 x)
    let dst := (s.treeUp).getD 0
    let header := treeHeader s.vager.tree.self dst 0x11 key epoch 0 missing cover (cg % 16) body.length false false
    let res : RoundResult := {
      round := key
      header := header
      body := body
      closeTime := s.extNow
      missingDies := if grpKeymode g.cfg = 1 && g.inside then bitSet lacking else 0
      missingKids := bitSet (miss.filter fun k => decide (k < 64))
      missingAdopt := bitSet ((miss.filter fun k => decide (64 ≤ k)).map fun k => k - 64) }
    let s := s.setVager { s.vager with results := Tbl.insert s.vager.results cg res }
    let g := { g with
      rounds := g.rounds.filter fun q => q.key != key
      closedHi := some (max key (g.closedHi.getD 0))
      done := ((key, r.kids.map Prod.fst) :: g.done).take 8
      closedCount := g.closedCount + 1 }
    let s := s.setGroup cg g
    let s := if s.isRoot then (if grpDown g.cfg then s.broadcastResult g header p else s)
      else s.sendPartial { ctx := x, epoch := epoch, group := cg % 16, round := key, standing := false, part := p,
                           sketch := grpSketch g.cfg, hist := grpHist g.cfg }
    s.checkDrain x

/-- An input for key `key` of group `cg`: the state with its round open, or none where the input is late. An input newer than
four open rounds closes the oldest with FORCED (R208). -/
def State.openRound (s : State) (cg key : Nat) : Option State :=
  let g := s.group cg
  let late := match g.closedHi with
    | some h => decide (key ≤ h)
    | none => false
  match s.round cg key with
  | some _ => some s
  | none =>
    if late then none
    else
      let fresh := fun (s : State) =>
        let g := s.group cg
        let below := g.rounds.filter fun r => decide (r.key < key)
        let above := g.rounds.filter fun r => decide (key < r.key)
        s.setGroup cg { g with rounds := below ++ [{ key := key, first := s.extNow }] ++ above }
      if g.rounds.length < 4 then some (fresh s)
      else if (g.rounds.all fun r => decide (r.key < key)) then
        match g.rounds with
        | r :: _ =>
          let s := s.closeRound cg r.key 4
          let g := s.group cg
          some (fresh (s.setGroup cg { g with forced := (g.forced + 1) % 2 ^ 32 }))
        | [] => some (fresh s)
      else none

/-- R215: a Vager with no member streams in a group, and a standing notice from every LIVE or ADOPTED slot, sends one standing
PARTIAL up. -/
def State.checkStanding (s : State) (cg : Nat) : State :=
  let g := s.group cg
  let live := s.liveKids.map s.kidTray
  let st := s.ctxState (cg / 16)
  if grpEnable g.cfg = false ∨ g.stood ∨ 0 < g.expect ∨ s.isRoot ∨ st = 0
      ∨ (live.any fun k => (Tbl.find g.standing k).isNone) then s
  else
    let s := s.setGroup cg { g with stood := true }
    let cover := 1 + (live.map fun k => Tbl.get (fun _ => 0) g.standing k).sum
    s.sendPartial { ctx := cg / 16, epoch := s.rd .vager (O.CTX_EPOCH_4100 (cg / 16)), group := cg % 16, round := 0,
                    standing := true, part := { cover := cover }, sketch := grpSketch g.cfg, hist := grpHist g.cfg }

/-! ### Stream intake (R191 to R195, R200, R201, R243) -/

/-- Stream `sid`. -/
def State.vstream (s : State) (sid : Nat) : VStream := Tbl.get (fun _ => {}) s.vager.streams sid

/-- Stream `sid` replaced. -/
def State.setVstream (s : State) (sid : Nat) (x : VStream) : State :=
  s.setVager { s.vager with streams := Tbl.set (fun _ => {}) s.vager.streams sid x }

/-- What the sketch and histogram take from `x` when the previous operand is `prev` (R201). -/
def sketchOperand (cfg base x : Nat) (prev : Option Nat) : Option Int :=
  if grpDelta cfg then prev.map fun q => toSigned 64 (ofSigned 64 ((x : Int) - q - base))
  else some (toSigned 64 (ofSigned 64 ((x : Int) - base)))

/-- A record of stream (d, l) outside every context, or before ANCHOR (R200, R207). -/
def State.countUnbound (s : State) (sid : Nat) : State :=
  let x := s.vstream sid
  (s.setVstream sid { x with unbound := (x.unbound + 1) % 2 ^ 32 }).bump .vager O.RECORDS_UNBOUND_4001 64

/-- A record whose round had closed (R208). -/
def State.countLate (s : State) (sid : Nat) : State :=
  let x := s.vstream sid
  (s.setVstream sid { x with late := (x.late + 1) % 2 ^ 32 }).bump .vager O.RECORDS_LATE_4001 64

/-- The pod stream key of stream or counter `l` of die `d` (R37). -/
def State.podKey (s : State) (sid : Nat) : Nat := s.vager.tree.self * 2 ^ 20 + sid

/-- A record reaches the reduction group of its context (R201, R207, R208). -/
def State.offer (s : State) (cg sid value t : Nat) (unlocked : Bool) : State :=
  let g := s.group cg
  let c := g.cfg
  if grpKeymode c = 0 ∧ t < g.anchor then s.countUnbound sid
  else
    let key := if grpKeymode c = 1 then value % 2 ^ 32 else (t - g.anchor) / g.window
    match s.openRound cg key with
    | none => s.countLate sid
    | some s =>
      match s.round cg key with
      | none => s
      | some r =>
        if grpKeymode c = 1 ∧ r.got.contains sid then s.bump .vager O.STEP_DUPLICATES_4001 32
        else if r.ownClosed then s.countLate sid
        else
          let g := s.group cg
          let x := if grpTime c then t else value
          let vs := s.vstream sid
          let prev := if (Tbl.find g.primed sid).isSome then some vs.prevOperand else none
          let r := { r with
            own := r.own.add c x (s.podKey sid) (sketchOperand c g.base x prev) unlocked
            got := if r.got.contains sid then r.got else r.got ++ [sid] }
          let s := s.setGroup cg { g with primed := Tbl.insert g.primed sid x }
          (s.setVstream sid { vs with prevOperand := x % 2 ^ 64 }).setRound cg r

/-- A stream sample record of die `d` enters intake (R191 to R195): the stream's state, the builders, then the reduction group
of the context whose interval holds its extended time (R200, R220, R243). -/
def State.applyRecord (s : State) (d rec : Nat) (spoilt : List Nat) : State :=
  let l := bits rec 31 16
  let sid := d * 65536 + l
  let value := bits rec 127 64
  let seq := bits rec 15 8
  let t := s.extend (bits rec 63 32)
  let locked := bitAt rec 5
  let x := s.vstream sid
  let missed := (seq + 255 - x.lastSeq) % 256
  let s := (s.bump .vager O.RECORDS_IN_4001 64).bump .vager O.SEQ_GAPS_4001 64 missed
  let s := s.setVstream sid { x with
    lastValue := value
    lastTime := bits rec 63 32
    lastSeq := seq
    seen := true
    kind := bits rec 3 0
    gap := x.gap || missed != 0
    ovr := x.ovr || bitAt rec 6
    unlocked := x.unlocked || !locked
    wrap := x.wrap || bitAt rec 4
    records := (x.records + 1) % 2 ^ 64
    gaps := (x.gaps + missed) % 2 ^ 32
    lastExt := t
    lastRecord := rec % 2 ^ 128 }
  let s := s.runBuilders sid (toSigned 64 value) t (bitAt rec 6) spoilt
  match s.groupFor d l t with
  | none => s.countUnbound sid
  | some cg => s.offer cg sid value t (!locked)

/-- Local stream `l` is claimed by an alarm output (R272). -/
def State.claimed (s : State) (l : Nat) : Bool :=
  (List.range 256).any fun a =>
    let w := s.rd .vager (O.ALM_STREAM_4900 a)
    bitAt w 16 && bits w 15 0 == l

/-- STREAM_CLEAR. Clears RECORDS, GAPS, LATE, UNBOUND and hot [3:0] of the selected stream (0x4000:05). -/
def execStreamClear (w : Writer) (s : State) : Result :=
  .next (s.writeBy w false .operator fun s =>
    let sid := s.rd .vager O.STREAM_SELECT_4000 % 2 ^ 20
    (s.setVstream sid { s.vstream sid with
      records := 0, gaps := 0, late := 0, unbound := 0, gap := false, ovr := false, unlocked := false, wrap := false }).answer
      stOk)

/-! ### Freeze snapshots (R197, R198, R201) -/

/-- The current snapshot of port `p` contributes to group `cg` (R201, R207). -/
def State.offerSnapshot (s : State) (cg p : Nat) (sn : Snapshot) : State :=
  let g := s.group cg
  let c := g.cfg
  let t := sn.time
  if t < g.anchor then s.bump .vager O.RECORDS_UNBOUND_4001 64
  else
    let key := (t - g.anchor) / g.window
    match s.openRound cg key with
    | none => s.bump .vager O.RECORDS_LATE_4001 64
    | some s =>
      match s.round cg key with
      | none => s
      | some r =>
        if r.ownClosed then s.bump .vager O.RECORDS_LATE_4001 64
        else
          let g := s.group cg
          let ns := (List.range (grpLast c + 1 - grpFirst c)).map fun i => grpFirst c + i
          let count := fun n => Tbl.get (fun _ => 0) sn.counts n % 2 ^ 48
          let own := ns.foldl (fun (q : Partial) n =>
            let sid := p * 65536 + n
            q.add c (count n) (s.podKey sid) (sketchOperand c g.base (count n) (Tbl.find g.primed sid)) false) r.own
          let primed := ns.foldl (fun t n => Tbl.insert t (p * 65536 + n) (count n)) g.primed
          let s := s.setGroup cg { g with primed := primed }
          s.setRound cg { r with own := own, got := r.got ++ ns.map fun n => p * 65536 + n }

/-- A SNAPSHOT message of port `p` (R197): its part joins the set of its SNAP_SEQ; the eighth part makes the set current and
offers it to the groups with KEYMODE 2 (R198, R201). `head` holds the fields of the first granule from bit 64 up. -/
def State.snapshotPart (s : State) (p head : Nat) (body : List Nat) : State :=
  let seq := bits head 127 96
  let part := bits head 95 88 % 8
  let none0 : Snapshot := { seq := seq, time := s.extend (bits head 191 160), state := bits head 87 85 }
  let (a, s) := match Tbl.find s.vager.snapIn p with
    | none => (none0, s)
    | some a => if a.seq = seq then (a, s) else (none0, s.bump .vager O.SNAP_DISCARDED_4002 32)
  let entry := fun i => bits (body.getD (i / 4) 0) (64 * (i % 4) + 63) (64 * (i % 4))
  let counts := (List.range 8192).foldl (fun t i => Tbl.set (fun _ => 0) t (8192 * part + i) (entry i)) a.counts
  let a := { a with parts := if a.parts.contains part then a.parts else a.parts ++ [part], counts := counts }
  if a.parts.length < 8 then s.setVager { s.vager with snapIn := Tbl.insert s.vager.snapIn p a }
  else
    let s := s.setVager { s.vager with snapIn := Tbl.erase s.vager.snapIn p, snaps := Tbl.insert s.vager.snaps p a }
    let s := s.wr .vager O.SNAP_COMPLETE_4002 (setBit (s.rd .vager O.SNAP_COMPLETE_4002) p true)
    (s.vager.groups.filter fun e =>
      grpKeymode e.2.cfg == 2 && e.2.member p (grpFirst e.2.cfg) && s.inContext (e.1 / 16) a.time).foldl
      (fun s e => s.offerSnapshot e.1 p a) s

/-! ### Closing rounds (R207, R209, R211) -/

/-- TRAY_PARTIAL_CLOSE. The own tray partial of a round closes: when every member of a STEP group has contributed, or at its
deadline (R207). -/
def execTrayPartialClose (x : Fin 64) (g : Fin 16) (round : Nat) (s : State) : Result :=
  let cg := 16 * x.val + g.val
  match s.round cg round with
  | none => .next s
  | some r =>
    let gr := s.group cg
    if (grpKeymode gr.cfg = 1 ∧ gr.expect ≤ r.got.length) ∨ gr.deadline r ≤ s.extNow then .next (s.closeOwn cg round)
    else .next s

/-- MERGED_ROUND_CLOSE. The merged partial of a round closes: when complete, or at its deadline with DEADLINE set (R207). -/
def execMergedRoundClose (x : Fin 64) (g : Fin 16) (round : Nat) (s : State) : Result :=
  let cg := 16 * x.val + g.val
  match s.round cg round with
  | none => .next s
  | some r =>
    let gr := s.group cg
    if s.complete cg r then .next (s.closeRound cg round 0)
    else if gr.deadline r + s.vager.tree.level * gr.hopWait * 1000 ≤ s.extNow then
      let t := s.closeOwn cg round
      let full := match t.round cg round with
        | some r => t.complete cg r
        | none => false
      .next (t.closeRound cg round (if full then 0 else 2))
    else .next s

end Sys2Proof.Machine
end

