-- ==== Sys2Proof/Machine/StayOps.lean ====
section
/-! DEFINITION. Machine/StayOps.lean: operations of Stay (chapter 10): regions and slots, the cut's states, ownership, the drain,
the commit and what ends a cut. -/

namespace Sys2Proof.Machine
open Sys2Proof

/-! ### Names -/

/-- Stay at Vager. -/
def State.stay (s : State) : Stay := s.vager.stay

/-- Stay at Vager replaced. -/
def State.setStay (s : State) (x : Stay) : State := s.setVager { s.vager with stay := x }

/-- Stay at the Staris of die `d`. -/
def State.std (s : State) (d : Die) : StayDie := (s.die d).stay

/-- Stay at the Staris of die `d` replaced. -/
def State.setStd (s : State) (d : Die) (x : StayDie) : State := s.setDie d { s.die d with stay := x }

/-- The cut state (R357) and the restore state (R376). -/
def State.cutState (s : State) : Nat := s.rd .vager O.CUT_STATE_5880
def State.rstState (s : State) : Nat := s.rd .vager O.RST_STATE_58B0

/-- The accepted arm as one number, and its fields (R348). -/
def State.arm (s : State) : Nat := s.elem .vager O.CUT_PARAMS_5880 32 0
def armCut (a : Nat) : Nat := bits a 31 0
def armEpoch (a : Nat) : Nat := bits a 63 32
def armStep (a : Nat) : Nat := bits a 95 64
def armLo (a : Nat) : Nat := bits a 108 96
def armHi (a : Nat) : Nat := bits a 124 112
def armMask (a : Nat) : Nat := bits a 143 128
def armCoord (a : Nat) : Nat := bits a 159 144
def armArea (a : Nat) : Nat := bits a 167 160

/-- The cut state is 0 or 6 to 8, in which Stay's settings can be written (R364, R384). -/
def State.cutIdle (s : State) : Bool := s.cutState == 0 || (decide (6 ≤ s.cutState) && decide (s.cutState ≤ 8))

/-- Dies of a DIE_MASK. -/
def maskDies (mask : Nat) : List Die := (List.finRange 16).filter fun d => bitAt mask d.val

/-! ### Regions, chunks and slots (R343, R345, R346) -/

/-- Bytes of a chunk slot. -/
def chunkBytes : Nat := 4194304

/-- A region of a Staris is enabled. -/
def State.regOn (s : State) (d : Die) (r : Nat) : Bool := bitAt (s.rd (.staris d) (O.REG_FLAGS_5810 r)) 0

/-- Chunks of a region. -/
def State.regChunks (s : State) (d : Die) (r : Nat) : Nat :=
  if s.regOn d r then (s.rd (.staris d) (O.REG_BYTES_5810 r) + chunkBytes - 1) / chunkBytes else 0

/-- The first slot of a region (R346). -/
def State.regFirst (s : State) (d : Die) (r : Nat) : Nat := ((List.range r).map fun i => s.regChunks d i).sum

/-- Slots the enabled regions of a die need. -/
def State.slotsNeeded (s : State) (d : Die) : Nat := s.regFirst d 64

/-- Data granules of chunk `c` of a region. -/
def State.chunkLen (s : State) (d : Die) (r c : Nat) : Nat :=
  min chunkBytes (s.rd (.staris d) (O.REG_BYTES_5810 r) - c * chunkBytes) / 32

/-- (region, chunk) of a die in slot order (R346). -/
def State.slotOrder (s : State) (d : Die) : List (Nat × Nat) :=
  (List.range 64).flatMap fun r => (List.range (s.regChunks d r)).map fun c => (r, c)

/-- The tray shape digest (R367): RTAG, BYTES, RKIND and DEDUP of each enabled region, in the widths of their objects (log entry
36). -/
def State.shapeDigest (s : State) (mask : Nat) : List Nat :=
  sha256 ((maskDies mask).flatMap fun d => ((List.range 64).filter fun r => s.regOn d r).flatMap fun r =>
    let p := Part.staris d
    toBytes 4 (s.rd p (O.REG_TAG_5810 r)) ++ toBytes 8 (s.rd p (O.REG_BYTES_5810 r)) ++ [s.rd p (O.REG_KIND_5810 r) % 256]
      ++ [ofBool (bitAt (s.rd p (O.REG_FLAGS_5810 r)) 1)])

/-- The shadow slot number of a die's slot. -/
def State.slotNumber (s : State) (d : Die) (i : Nat) : Nat := d.val * s.rd .vager O.CHUNK_SLOTS_5880 + i

/-- The granules of a shadow slot. -/
def State.slotData (s : State) (slot len : Nat) : List Gran :=
  (List.range len).map fun i => s.hbmAt (s.stayBase + slot * 131072 + i)

/-- Granules written into a shadow slot. -/
def State.fillSlot (s : State) (slot : Nat) (data : List (Nat × Bool)) : State :=
  (data.mapIdx fun i g => (i, g)).foldl (fun s e =>
    s.setHbm (s.stayBase + slot * 131072 + e.1) { data := e.2.1 % 2 ^ 256, poison := e.2.2 }) s

/-- SHA-256 of granules (R355). -/
def granulesDigest (gs : List Nat) : List Nat := sha256 (gs.flatMap (toBytes 32))

/-- A chunk descriptor (R361). -/
def chunkDescriptor (c : Chunk) (holder owner lba target : Nat) : Nat :=
  fld 224 32 c.rtag + fld 200 24 c.chunk + fld 176 24 c.len + fld 128 48 lba + fld 120 8 target + fld 103 17 holder
    + fld 86 17 owner + fld 80 6 c.region + fld 76 4 c.rkind + fld 75 1 (ofBool c.dedup) + fld 74 1 (ofBool c.poison)
    + fld 73 1 (ofBool c.handed)

/-- A pod die number (R37). -/
def podDie (tray die : Nat) : Nat := tray * 16 + die

/-! ### Messages (R366) -/

/-- The IPv6 address that this Vager sends Stay messages for tray `t` to: a peer's from PEER_ADDRS, a tree neighbour's from the pod
tree, and of any other tray a value that no object here gives (R358, R369; log entry 163). -/
def State.stayAddr (s : State) (t : Nat) : Nat :=
  let v := Part.vager
  match (List.range (min 256 (s.rd v O.PEER_COUNT_5884))).find? fun i => s.elem v O.PEER_TRAYS_5884 2 i == t with
  | some i => ipv6 (s.bytesAt v O.PEER_ADDRS_5884 (16 * i) 16)
  | none => if s.treeAddr t = 0 then Config.trayAddress t else s.treeAddr t

/-- A Stay peer message of cut `cut` leaves in a datagram of kind 3 (R366, R409). -/
def State.sendStay (s : State) (dst cut epoch ty arg0 arg1 : Nat) (last resend : Bool) (body : List Nat) : State :=
  let h := fld 224 32 cut + fld 192 32 epoch + fld 160 32 arg0 + fld 136 24 arg1 + fld 123 13 s.vager.tree.self + fld 110 13 dst
    + fld 102 1 (ofBool last) + fld 103 1 (ofBool resend) + fld 8 8 body.length + ty % 256
  s.sendDatagram (s.stayAddr dst) 3 { tray := dst, udp := s.rd .vager O.STAY_UDP_PORT_5883, granules := h :: body }

/-- A Stay command to the Staris of die `d` (R350). -/
def State.stayCommand (s : State) (d : Die) (cmd : Nat) : State :=
  let a := s.arm
  s.command d (fld 160 32 (armCut a) + fld 128 32 (armStep a) + fld 96 32 (armEpoch a)
    + fld 80 16 (s.rd .vager O.CHUNK_SLOTS_5880) + fld 32 8 cmd)

/-! ### Entering a cut state (R357) -/

/-- The cut takes a state; CUT_TIMES holds the time of entry at place `i`. The host path claims or releases DMA channel 15 (R429). -/
def State.setCut (s : State) (st : Nat) (i : Nat) : State :=
  ((s.wr .vager O.CUT_STATE_5880 st).setElem .vager O.CUT_TIMES_5880 8 i s.extNow).dmaSettle .vager 15

/-- Drain target and first LBA of an item for the cut's area (R362, R365, R367, R368). -/
def State.mapEntry (s : State) (rtag : Nat) : Option Nat :=
  ((List.range 1024).map fun i => s.elem .vager O.MAP_ENTRY_5890 32 i).find? fun e => rtag != 0 && e % 2 ^ 32 == rtag

/-- TARGET and LBA of a location for an area. -/
def locOf (e area : Nat) (first : Nat) : Nat × Nat := (bits e (first + 7) first, if area = 0 then bits e 127 64 else bits e 191 128)

/-- Target, first LBA and length in granules of a drain item. -/
def State.itemPlace (s : State) (i : DrainItem) : Nat × Nat :=
  let v := Part.vager
  let area := armArea s.arm
  match i with
  | .manifest => locOf (s.elem v O.MAN_LOC_5890 32 0) area 0
  | .record => locOf (s.elem v O.REC_LOC_5890 32 0) area 0
  | .chunk n =>
    let c := Tbl.get (fun _ => {}) s.stay.chunks n
    match s.mapEntry c.rtag with
    | none => (0xFF, 0)
    | some e =>
      let p := locOf e area 32
      (p.1, p.2 + c.chunk * (chunkBytes / max 1 (s.rd v (O.TGT_LBA_BYTES_5888 p.1))))

/-- The commit record (R368). -/
def State.commitRecord (s : State) : List Nat :=
  let a := s.arm
  let h := fld 224 32 0x5243534B + fld 192 32 (armCut a) + fld 160 32 (armEpoch a) + fld 128 32 (armStep a)
    + fld 115 13 (armLo a) + fld 102 13 (armHi a) + fld 86 16 (armMask a) + fld 85 1 (armArea a) + 1
  h :: (List.range (armHi a + 1 - armLo a)).map fun j => ofBytes (Tbl.get (fun _ => []) s.stay.coord.digests j)

/-- The tray manifest (R367). -/
def State.makeManifest (s : State) : List Nat :=
  let a := s.arm
  let me := s.vager.tree.self
  let h := fld 224 32 0x4D54534B + fld 192 32 (armCut a) + fld 160 32 (armEpoch a) + fld 128 32 (armStep a) + fld 115 13 me
    + fld 102 13 (me - armLo a) + fld 89 13 (armLo a) + fld 76 13 (armHi a) + fld 60 16 (armMask a) + fld 59 1 (armArea a)
    + fld 32 24 s.stay.chunks.length + fld 16 16 1
  let ready := s.stay.ends.map fun e => e.2.1
  let first := ready.foldl min (ready.headD 0)
  let last := (s.stay.ends.map fun e => e.2.2).foldl max 0
  [h, ofBytes (s.shapeDigest (armMask a)), fld 192 64 first + fld 128 64 last] ++ s.stay.chunks.flatMap fun e =>
    let c := e.2
    let pl := s.itemPlace (.chunk e.1)
    [ofBytes (c.digest.getD []), chunkDescriptor c (podDie me c.die) (c.owner.getD 0) pl.2 pl.1]

/-- The granules an item carries (R362, R367, R368). -/
def State.itemData (s : State) (i : DrainItem) : List Gran :=
  match i with
  | .chunk n => s.slotData n (Tbl.get (fun _ => {}) s.stay.chunks n).len
  | .manifest => s.stay.manifest.map fun g => { data := g }
  | .record => s.commitRecord.map fun g => { data := g }

/-! ### What ends a cut (R352, R357, R369, R372) -/

/-- Drain writes, records and handoffs of a cut end with it. -/
def State.stopDrain (s : State) : State :=
  s.setStay { s.stay with writes := [], queue := [], hostRecs := [], handoffs := [] }

/-- The cut is ABANDONED with a code; each Staris that has not sent END is cancelled (R357). -/
def State.abandonCut (s : State) (code : Nat) : State :=
  let open_ := if s.cutState ≤ 2 then (maskDies (armMask s.arm)).filter fun d => (Tbl.find s.stay.ends d.val).isNone else []
  let s := (s.setCut 8 5).wr .vager O.CUT_ABORT_CODE_5880 code
  let s := open_.foldl (fun s d => s.stayCommand d 0x62) s
  s.stopDrain

/-- ABORT from the coordinator (R357, R372). -/
def State.takeAbort (s : State) : State :=
  if 1 ≤ s.cutState ∧ s.cutState ≤ 5 then s.abandonCut 11 else s

/-- The other trays of the job. -/
def State.jobPeers (s : State) : List Nat :=
  let a := s.arm
  ((List.range (armHi a + 1 - armLo a)).map fun i => armLo a + i).filter fun t => t != s.vager.tree.self

/-- ABORT goes to every tray of the job (R369). -/
def State.sendAborts (s : State) (code : Nat) (resend : Bool) : State :=
  let a := s.arm
  s.jobPeers.foldl (fun s t => s.sendStay t (armCut a) (armEpoch a) 0x79 code 0 false resend []) s

/-- UNUSABLE reaches the coordinator: every tray is told, and the commit stops (R369). -/
def State.coordUnusable (s : State) (code : Nat) : State :=
  if s.rd .vager O.COORD_STATE_58A0 = 1 then
    let s := s.wr .vager O.COORD_STATE_58A0 3
    let s := s.setStay { s.stay with coord := { s.stay.coord with aborting := some code } }
    (s.sendAborts code false).takeAbort
  else s

/-- UNUSABLE is sent to the coordinator (R357, R369, R373). -/
def State.sendUnusable (s : State) (code : Nat) : State :=
  let a := s.arm
  let c := s.rd .vager O.COORD_TRAY_5880
  if c = s.vager.tree.self then s.coordUnusable code
  else s.sendStay c (armCut a) (armEpoch a) 0x76 code 0 false false []

/-- The cut is DISCARDED with a code (R357). -/
def State.discardCut (s : State) (code : Nat) : State :=
  let s := (s.setCut 7 5).wr .vager O.CUT_ABORT_CODE_5880 code
  (s.stopDrain).sendUnusable code

/-- The link of port `p` has left UP and UP_7: an absorption that its die takes part in is discarded (R357). -/
def State.stayLinkLost (s : State) (p : Die) : State :=
  if s.cutState = 2 ∧ bitAt (armMask s.arm) p.val then s.discardCut 7 else s

/-- The cut is unusable for its job (R373). -/
def State.unusable (s : State) (code : Nat) : State :=
  (s.wr .vager O.CUT_ABORT_CODE_5880 code).sendUnusable code

/-! ### At a Staris -/

/-- An END granule (R354). -/
def endGranule (epoch step cut ready release chunks code ty : Nat) : Nat :=
  fld 224 32 epoch + fld 192 32 step + fld 160 32 cut + fld 128 32 ready + fld 96 32 release + fld 72 24 chunks + fld 64 8 code + ty % 256

/-- A Staris ends its cut with a code: END is sent, the die is released and the Staris is IDLE. T_READY is 0 where no CUT_READY has
come (R352, R354). -/
def State.endCut (s : State) (d : Die) (chunks code : Nat) : State :=
  let p := Part.staris d
  let was := s.rd p O.STAY_STATE_5800
  let now := s.ns p
  let ready := if was = 2 ∨ code = 2 then s.rd p O.LAST_READY_5800 else 0
  let s := if code = 0 then s else (s.bump p O.ABORTS_5800 32).wr p O.LAST_ABORT_5800 code
  let s := (s.wr p O.LAST_RELEASE_5800 now).emit (.cutRelease d.val)
  let g := endGranule (s.rd p O.ARM_EPOCH_5800) (s.rd p O.ARM_STEP_5800) (s.rd p O.ARM_CUT_5800) ready now chunks code 0x63
  let s := if s.linkUp false d then s.send false d 5 [{ data := g }] else s
  (s.wr p O.STAY_STATE_5800 0).dmaSettle p 2

/-- A Staris whose cut is in progress ends it with a code (R352). -/
def State.abortDieCut (s : State) (d : Die) (code : Nat) : State :=
  let st := s.rd (.staris d) O.STAY_STATE_5800
  if st = 1 ∨ st = 2 then s.endCut d 0 code else s

end Sys2Proof.Machine
end

