-- ==== Sys2Proof/Machine/LinkOps.lean ====
section
/-! DEFINITION. Machine/LinkOps.lean: what takes a link out of UP, retrains it or fails it (R166, R170, R181, R188, R601), and
retiring a lane (R186, R187, R448, R600). -/

namespace Sys2Proof.Machine
open Sys2Proof

/-- A sample that the end of the link's messages has cut short is skipped, and what was received of it is dropped (R328). -/
def State.cutShort (s : State) (v : Bool) (p : Die) : State :=
  if v then
    let s := s.shroudCut p (Tbl.get (fun _ => []) (s.link true p).asm 4)
    let l := s.link true p
    s.setLink true p { l with asm := Tbl.set (fun _ => []) l.asm 4 [] }
  else s

/-- What follows when one end of a link leaves UP and UP_7: at Vager an absorption is discarded (R357), the port stops counting in the
merge (R179), and proxied entries receive NODE_DOWN (R520); what it last learned of the Staris is kept (R496); at a Staris held ring
entries are discarded (R317) and a time state of ACQUIRING or LOCKED gives way to HOLDOVER (R603). -/
def State.linkLeft (s : State) (v : Bool) (p : Die) : State :=
  if v then
    let s := s.setLink true p { s.link true p with
      counted := false
      seenFw := s.bytesAt (.staris p) O.FW_DIGEST_1000 0 48, seenAuth := s.rd (.staris p) O.TRACE_AUTH_3400 }
    (s.stayLinkLost p).proxyDown p
  else (s.discardEntries p fun _ => true).starisHoldover p

/-- One end takes a link state, with what follows where it leaves UP and UP_7. -/
def State.goLink (s : State) (v : Bool) (p : Die) (st : Nat) : State :=
  let was := s.linkUp v p
  let s := s.setLinkState v p st
  if was ∧ st ≠ 3 ∧ st ≠ 4 then s.linkLeft v p else s

/-- LINK_CTL items and lane changes of an end are forgotten. -/
def LinkEnd.clearCtl (l : LinkEnd) : LinkEnd := { l with ctl := [], ctlTurn := 0, change := none, deskew := false, toRetire := [] }

/-- An end enters FAILED: Vager reports it (R188, R454). -/
def State.failLink (s : State) (v : Bool) (p : Die) : State :=
  if s.linkState v p = 6 then s
  else
    let s := (s.goLink v p 6).cutShort v p
    let s := s.setLink v p { (s.link v p).clearCtl with keepState := false }
    if v then
      s.report { code := 0x10, severity := 4, die := p.val, dieValid := true, detail := s.rd .vager (O.LANES_RETIRED_3810 p.val) }
    else s

/-- RETRAIN_ENTER: an end goes to RETRAIN, or to FAILED after RETRAIN_LIMIT retrains in succession (R166, R170, R181, R601). -/
def State.retrain (s : State) (v : Bool) (p : Die) : State :=
  let l := s.link v p
  if s.linkUp v p = false then s
  else if s.rd .vager O.RETRAIN_LIMIT_3840 ≤ l.retrains then s.failLink v p
  else
    let s := s.setLink v p { l with retrains := l.retrains + 1, ctl := [], ctlTurn := 0 }
    (s.goLink v p 5).lbump v p kRetrains 32

/-- A protocol error: counted, and the link goes to RETRAIN with its credit state kept (R170). -/
def State.protocolError (s : State) (v : Bool) (p : Die) : State := (s.lbump v p kFraming 32).retrain v p

/-! ### Retiring a lane (R186, R187, R448, R600) -/

/-- The codeword at which a change takes effect: 4,096 ahead of this end's transmit count (R186). -/
def State.changeAt (s : State) (p : Die) : Nat := (s.codewords true p + 4096) % 2 ^ 48

/-- LANE_SWAP or LANE_DROP is issued for lane `a` with a new CTL_SEQ (R186, R187). -/
def State.issueChange (s : State) (p : Die) (drop : Bool) (a b : Nat) : State :=
  let l := s.link true p
  let cw := s.changeAt p
  let c : LaneChange := { drop := drop, laneA := a, laneB := b, cw := cw, seq := l.ctlSeq }
  let s := s.setLink true p { l with change := some c }
  s.pushItem true p { code := if drop then ctlLaneDrop else ctlLaneSwap, laneA := a, laneB := if drop then 0 else b, cw := cw }

/-- What a retirement came to: the spare that came in, a function degraded, or one retired (R448, R449). -/
inductive Outcome where
  | spared (n : Nat)
  | degraded
  | gone
deriving DecidableEq, Repr

/-- A change to the active lanes: issued in UP and UP_7; in PAIRING and RETRAIN it waits for them; before the end of training it
needs none, since the lane will not train (R186 to R188). -/
def State.wantChange (s : State) (p : Die) (drop : Bool) (lane spare : Nat) : State :=
  let st := s.linkState true p
  if s.linkUp true p then s.issueChange p drop lane spare
  else if st = 2 ∨ st = 5 then s.setLink true p { s.link true p with toRetire := (s.link true p).toRetire ++ [lane] }
  else s

/-- The next lane that waits is retired (R448): the spare itself simply goes (R600), an active lane is swapped or dropped, and a
lane lost in UP_7 fails the link. -/
def State.retireNow (s : State) (p : Die) (lane : Nat) : Outcome × State :=
  let k := Part.vager
  let spare := s.rd k (O.SPARE_LANE_3810 p.val)
  let active := bitAt (s.rd k (O.LANES_ACTIVE_3810 p.val)) lane
  if lane = spare then (.degraded, s.wr k (O.SPARE_LANE_3810 p.val) 0xFF)
  else if active = false then (.degraded, s)
  else if spare < 9 then (.spared spare, s.wantChange p false lane spare)
  else if s.linkState true p = 4 then (.gone, s.failLink true p)
  else (.degraded, s.wantChange p true lane 0)

/-- A Halyard lane declared permanent: it stays retired from now on (R188); a change already in progress goes first. -/
def State.retireHalyardLane (s : State) (p : Die) (lane : Nat) : Outcome × State :=
  let k := Part.vager
  let l := s.link true p
  let s := s.setLink true p { l with retired := setBit l.retired lane true }
  let s := s.wr k (O.LANES_RETIRED_3810 p.val) (setBit (s.rd k (O.LANES_RETIRED_3810 p.val)) lane true)
  if l.change.isSome ∨ l.toRetire ≠ [] then (.degraded, s.setLink true p { s.link true p with toRetire := l.toRetire ++ [lane] })
  else s.retireNow p lane

end Sys2Proof.Machine
end

