-- ==== Sys2Proof/Machine/Faults.lean ====
section
/-! DEFINITION. Machine/Faults.lean: the channel-class classifier (R446 to R451). -/

namespace Sys2Proof.Machine
open Sys2Proof

/-- The classifier. -/
def State.clf (s : State) : Classifier := s.vager.classifier

/-- The classifier replaced. -/
def State.setClf (s : State) (x : Classifier) : State := s.setVager { s.vager with classifier := x }

/-- The key of instance `i` of class `k` (R446). -/
def instKey (k i : Nat) : Nat := 65536 * k + i

/-- Spare banks of a Vager SRAM array (R451). Arrays take numbers in the table's order: 0 to 3 the stage memories, 4 the
feature cache, 5 the stream hot state, 6 on any other (log entry 38). -/
def arraySpares (a : Nat) : Nat := if a < 5 then 2 else 1

/-- BAD_PAGE_RELOCATE: pages of a row join the bad-page list and move to the reserve of 4,096 pages, or stay poisoned once it is
full (R450). -/
def State.relocate (s : State) (pages : List Nat) : Outcome × State :=
  let c := s.clf
  let fresh := pages.filter fun g => !c.badPages.contains g
  let fits := decide (c.badPages.length + fresh.length ≤ 4096)
  if fits then
    let s := s.setClf { c with badPages := c.badPages ++ fresh }
    (.degraded, s.wr .vager O.BAD_PAGES_70B0 (c.badPages.length + fresh.length))
  else (.gone, s.setClf { c with dead := c.dead ++ fresh.map (· / 4096) })

/-- The row with the most events of a pseudo-channel since its last repair. -/
def worstRow (rows : Tbl Nat) (pc : Nat) : Nat :=
  let mine := rows.filter fun e => e.1 / 2 ^ 32 == pc
  (mine.foldl (fun (b : Nat × Nat) e => if b.2 < e.2 then (e.1 % 2 ^ 32, e.2) else b) (0, 0)).1

/-- An HBM pseudo-channel declared permanent: the row is repaired while its stack has a spare row, and otherwise the pages
it touches are relocated (R450). `row` is the declaring row, where its event was uncorrectable, and `pages` the pages it touches. -/
def State.retireRow (s : State) (pc : Nat) (row : Option Nat) (pages : List Nat) : Outcome × State :=
  let c := s.clf
  let r := row.getD (worstRow c.rows pc)
  let left := s.elem .vager O.PPR_LEFT_70B0 2 (pc / 64)
  if 0 < left then
    let s := s.setElem .vager O.PPR_LEFT_70B0 2 (pc / 64) (left - 1)
    (.spared (left - 1), s.setClf { s.clf with repairs := c.repairs ++ [(pc, r)] })
  else
    let (o, s) := s.relocate pages
    (o, s.setClf { s.clf with levels := Tbl.set (fun _ => 0) s.clf.levels (instKey 1 pc) 0 })

/-- A Vager SRAM bank declared permanent (R451, R276). -/
def State.retireBank (s : State) (i : Nat) : Outcome × State :=
  let a := i / 256
  let lost := (s.clf.retired.filter fun x => x / 256 == instKey 2 0 / 256 + a).length
  let s := if a < 4 then s.retireBlock a (i % 256) else s
  if lost ≤ arraySpares a then (.spared (lost - 1), s)
  else if a < 6 then (.degraded, s) else (.gone, s)

/-- What the class of a permanent fault does about it, and what becomes of the instance: spared, degraded or gone (R448, R449). -/
def State.retireOne (s : State) (k i : Nat) (row : Option Nat) (pages : List Nat) : Outcome × State :=
  match k with
  | 0 => if h : i / 9 < 16 then s.retireHalyardLane ⟨i / 9, h⟩ (i % 9) else (.degraded, s)
  | 1 => s.retireRow i row pages
  | 2 => s.retireBank i
  | 3 =>
    let spare := (s.clustersIn [2]).head?
    let s := s.retireCluster i
    (match spare with
      | some n => .spared n
      | none => if s.rd .vager O.SH_STATE_5440 = 2 then .gone else .degraded, s)
  | _ =>
    let g := i / 17
    let had := (s.laneGroup g).spareTaken
    let s := s.retireTtLane g (i % 17)
    (if (s.laneGroup g).gone then .gone else if had = false ∧ (s.laneGroup g).spareTaken then .spared (17 * g + 16)
      else .degraded, s)

/-- The report and the class state that the end of a permanent fault makes (R452, R454). -/
def State.reportOutcome (s : State) (k i : Nat) (o : Outcome) : State :=
  let v := Part.vager
  let die := if k = 0 then i / 9 else 0
  match o with
  | .spared n => s.report { code := 1, detail := n, inst := i, cls := k, die := die, dieValid := k == 0 }
  | .degraded =>
    let s := s.wr v (O.CLS_STATE_7090 k) (max 1 (s.rd v (O.CLS_STATE_7090 k)))
    s.report { code := 2, severity := 1, inst := i, cls := k, die := die, dieValid := k == 0 }
  | .gone =>
    (s.wr v (O.CLS_STATE_7090 k) 2).report { code := 3, severity := 2, inst := i, cls := k, die := die, dieValid := k == 0 }

/-- PERMANENT_DECLARE: the instance is retired and the class's spare brought in, which is reported (R448, R449, R452, R454). -/
def State.permanent (s : State) (k i : Nat) (row : Option Nat) (pages : List Nat) : State :=
  let c := s.clf
  let s := if k = 1 then s else s.setClf { c with retired := c.retired ++ [instKey k i] }
  let s := s.bump .vager (O.CLS_RETIRED_7090 k) 32
  let (o, s) := s.retireOne k i row pages
  s.reportOutcome k i o

/-- An error event reaches the classifier (R447): `ue` says that it is uncorrectable. -/
def State.classify (s : State) (k i : Nat) (ue : Bool) (row : Option Nat := none) (pages : List Nat := []) : State :=
  let v := Part.vager
  let key := instKey k i
  let s := s.bump v (O.CLS_EVENTS_7090 k) 64
  let s := if k = 0 ∧ i < 144 then s.bump v (O.LANE_EVENTS_3810 (i / 9)) 32 else s
  let c := s.clf
  let c := { c with events := Tbl.set (fun _ => 0) c.events key ((Tbl.get (fun _ => 0) c.events key + 1) % 2 ^ 32) }
  let c := match k, row with
    | 1, some r =>
      let rk := i * 2 ^ 32 + r
      { c with rows := Tbl.set (fun _ => 0) c.rows rk (Tbl.get (fun _ => 0) c.rows rk + 1) }
    | _, _ => c
  let s := s.setClf c
  if c.retired.contains key then s
  else
    let w := if ue then s.rd v (O.CLS_WEIGHT_UE_7090 k) else s.rd v (O.CLS_WEIGHT_CE_7090 k)
    let l := min (Tbl.get (fun _ => 0) c.levels key + 1000 * w) (2 ^ 32 - 1)
    let s := s.setClf { c with levels := Tbl.set (fun _ => 0) c.levels key l }
    if 1000 * s.rd v (O.CLS_LIMIT_7090 k) ≤ l then s.permanent k i (if ue then row else none) pages else s

/-- Levels after one leak interval (R447). -/
def leakLevels (leak : Nat → Nat) (t : Tbl Nat) : Tbl Nat :=
  (t.map fun e => (e.1, e.2 - leak e.1)).filter fun e => e.2 != 0

/-- What a decoded HBM granule `g` is taken as, and the error event that it makes (R33, R35, R446). -/
def State.takeCoded (s : State) (g : Gran) (e : HbmError) : K288 → Gran × State
  | .good d => ({ data := d }, s)
  | .poison d => ({ data := d, poison := true }, s)
  | .corrected d => ({ data := d }, s.classify 1 e.channel false (some e.row) e.pages)
  | .uncorrectable => ({ data := g.data, poison := true }, s.classify 1 e.channel true (some e.row) e.pages)

/-- A granule of HBM is read, its stored codeword in error by `e` (R30, R33, R35): what is delivered, and the state that has noted a
corrected or an uncorrectable error. -/
def State.readCoded (s : State) (g : Gran) (e : Option HbmError) : Gran × State :=
  match e with
  | none => (g, s)
  | some e => s.takeCoded g e (k288Decode (Nat.xor (k288Encode g.data g.poison) (e.flips % 2 ^ 288)))

/-- The working region of HBM, its first 4 GB (R25). -/
def workingRegion : Nat := 125000000

/-- Granule `i` of HBM is read. A granule that met an error is written back as it was delivered (R449; log entry 168). What a granule of
the working region holds is a free value, for no rule lays it out (R26; log entry 169). -/
def State.hbmRead (s : State) (i : Nat) (e : Option HbmError) : Gran × State :=
  if i < workingRegion then
    let x := s.takeNat
    x.2.readCoded { data := x.1 % 2 ^ 256, poison := bitAt x.1 256 } e
  else
    let r := s.readCoded (s.hbmAt i) e
    (r.1, if e.isNone then r.2 else r.2.setHbm i r.1)

/-! ### Staris SRAM banks (R446 to R451) -/

/-- Spare banks of a Staris SRAM array, numbered in the order of R451: 0 the counters, 1 the snapshot bank, 2 the Pennant buffer, 3 on
any other (log entry 38). -/
def dieSpares (a : Nat) : Nat := if a < 2 then 2 else 1

/-- Staris SRAM bank `i` is spent without a spare: counters read 0, a freeze leaves their entries at 0, and the trace buffer shrinks
(R451). -/
def State.spendBank (s : State) (d : Die) (i : Nat) : State :=
  let p := Part.staris d
  let out := fun n => n / 1024 != i % 256
  let c := s.cap d
  match i / 256 with
  | 0 => s.setCap d { c with counters := c.counters.filter fun e => out e.1 }
  | 1 => s.setCap d { c with snap := c.snap.filter fun e => out e.1 }
  | 2 => s.wr p O.TRACE_BUFFER_BYTES_7030 (s.rd p O.TRACE_BUFFER_BYTES_7030 - 262144)
  | _ => s

/-- A Staris SRAM bank is declared permanent: a spare takes its place, or R451 says what is lost. Vager hears of it in a FAULT message,
whose action of R449 has no code given (R448, R455; log entry 139). -/
def State.retireDieBank (s : State) (d : Die) (i : Nat) : State :=
  let p := Part.staris d
  let x := s.die d
  let a := i / 256
  let banks := x.faults.retired ++ [i]
  let s := s.setDie d { x with faults := { x.faults with retired := banks } }
  let n := (banks.filter fun b => b / 256 == a).length
  let st := if n ≤ dieSpares a then 0 else if a < 3 then 1 else 2
  let s := if a < 16 then s.setElem p O.SRAM_BANKS_7030 4 a (fld 24 8 st + fld 16 8 (dieSpares a - n) + n % 2 ^ 16) else s
  let s := if st = 0 then s else s.spendBank d i
  let (act, s) := s.takeNat
  s.sendControl false d 0x06 0 [fld 240 16 i + fld 232 8 st + fld 224 8 act + 0x71]

/-- An error event of SRAM bank `i` of a Staris (R447). -/
def State.classifyDie (s : State) (d : Die) (i : Nat) (ue : Bool) : State :=
  let p := Part.staris d
  let x := s.die d
  if x.faults.retired.contains i then s
  else
    let w := s.rd p (if ue then O.SRAM_WEIGHT_UE_7030 else O.SRAM_WEIGHT_CE_7030)
    let l := min (Tbl.get (fun _ => 0) x.faults.levels i + 1000 * w) (2 ^ 32 - 1)
    let s := s.setDie d { x with faults := { x.faults with levels := Tbl.set (fun _ => 0) x.faults.levels i l } }
    if 1000 * s.rd p O.SRAM_LIMIT_7030 ≤ l then s.retireDieBank d i else s

/-- An error that a part's memories met in a read of their own (log entry 137). -/
def State.memError (s : State) (p : Part) (e : MemError) : State :=
  match p, e with
  | .vager, .sram i ue => s.classify 2 i ue
  | .vager, .hbm g e => (s.hbmRead g (some e)).2
  | .staris d, .sram i ue => s.classifyDie d i ue
  | .staris _, .hbm _ _ => s

/-- CLASSIFIER_LEAK. 3.6 s of a part's uptime have passed; the errors that the part's memories have met since the last are taken first
(R447). -/
def execClassifierLeak (p : Part) (errors : List MemError) (s : State) : Result :=
  let s := errors.foldl (fun s e => s.memError p e) s
  match p with
  | .vager =>
    let c := s.clf
    .next (s.setClf { c with levels := leakLevels (fun k => s.rd .vager (O.CLS_LEAK_7090 (k / 65536))) c.levels })
  | .staris d =>
    let x := s.die d
    let leak := s.rd p O.SRAM_LEAK_7030
    .next (s.setDie d { x with faults := { x.faults with levels := leakLevels (fun _ => leak) x.faults.levels } })

/-- HBM_ROW_REPAIR_DONE. The oldest repair in hand ends: the row's granules are written back and its level is zero (R450). -/
def execHbmRowRepairDone (s : State) : Result :=
  let c := s.clf
  match c.repairs with
  | [] => .next s
  | (pc, r) :: t =>
    .next (s.setClf { c with
      repairs := t
      rows := Tbl.set (fun _ => 0) c.rows (pc * 2 ^ 32 + r) 0
      levels := Tbl.set (fun _ => 0) c.levels (instKey 1 pc) 0 })

/-- INST_CLEAR. The selected unit's level becomes 0; a retirement stays (0x70A0:05). -/
def execInstClear (w : Writer) (s : State) : Result :=
  .next (s.writeBy w true .fleet fun s =>
    let sel := s.rd .vager O.INST_SELECT_70A0
    let c := s.clf
    let key := instKey (bits sel 23 16) (bits sel 15 0)
    (s.setClf { c with levels := Tbl.set (fun _ => 0) c.levels key 0 }).answer stOk)

end Sys2Proof.Machine
end

