-- ==== Sys2Proof/Machine/Dma.lean ====
section
/-! DEFINITION. Machine/Dma.lean: the commands of the DMA channels of Staris and Vager (chapter 13). -/

namespace Sys2Proof.Machine
open Sys2Proof

/-! ### Commands -/

/-- A software access to a channel (R445): its objects lie in the world of CH_WORLD. -/
def State.dmaBy (s : State) (p : Part) (n : Nat) (w : Writer) (k : State → State) : State :=
  if n < dmaCount p then s.writeBy w (s.dmaSecure p n) .host k else s.answer stNoObject

/-- A CONTROL write is refused with a code (R437). -/
def State.dmaRefuse (s : State) (p : Part) (n code : Nat) : State :=
  (s.wr p (O.DMA_CONTROL_REFUSED (dmaIndex p n)) code).answer stRefused

/-- SHADOW_DESC_WRITE. Refused with code 2 while SHADOW_VALID is 1 (R437). -/
def execShadowDescWrite (p : Part) (n : Fin 16) (w : Writer) (desc : Nat) (s : State) : Result :=
  let i := dmaIndex p n
  .next (s.dmaBy p n w fun s =>
    if s.rd p (O.DMA_SHADOW_VALID i) = 1 then s.dmaRefuse p n 2
    else (s.setElem p (O.DMA_SHADOW_DESC i) 64 0 desc).answer stOk)

/-- DMA_ARM. CONTROL 1 (R437): an IDLE channel takes the shadow at once. -/
def execDmaArm (p : Part) (n : Fin 16) (w : Writer) (s : State) : Result :=
  let i := dmaIndex p n
  .next (s.dmaBy p n w fun s =>
    if s.dmaState p n = 3 then s.dmaRefuse p n 1
    else if s.rd p (O.DMA_SHADOW_VALID i) = 1 then s.dmaRefuse p n 2
    else
      let s := s.wr p (O.DMA_SHADOW_VALID i) 1
      (if s.dmaState p n = 0 then s.dmaTake p n else s).answer stOk)

/-- DMA_CANCEL. CONTROL 2 (R437). -/
def execDmaCancel (p : Part) (n : Fin 16) (w : Writer) (s : State) : Result :=
  .next (s.dmaBy p n w fun s =>
    if s.dmaState p n = 3 then s.dmaRefuse p n 1
    else (s.wr p (O.DMA_SHADOW_VALID (dmaIndex p n)) 0).answer stOk)

/-- DMA_ABORT. CONTROL 3 (R437): the transfer stops after its granules in flight. A transfer that has not moved a granule ends
at once, and one that has moved its last is at its natural end, which the ABORT leaves as it is (R438). -/
def execDmaAbort (p : Part) (n : Fin 16) (w : Writer) (s : State) : Result :=
  .next (s.dmaBy p n w fun s =>
    if s.dmaState p n = 3 then s.dmaRefuse p n 1
    else
      let c := s.dmaCh p n
      (if s.dmaState p n = 1 then
        if c.live then
          if c.moved < s.dmaEnd p n then s.setDmaCh p n { c with stopAt := some (c.stopAt.getD (c.moved + 64)) } else s
        else (s.dmaAborted p n).dmaNext p n
      else s).answer stOk)

/-- DMA_CLEAR. CONTROL 4 (R437): leaves HALTED and takes the shadow if it is valid. -/
def execDmaClear (p : Part) (n : Fin 16) (w : Writer) (s : State) : Result :=
  .next (s.dmaBy p n w fun s =>
    if s.dmaState p n = 2 then (s.dmaNext p n).answer stOk else s.dmaRefuse p n 3)

/-- DMA_RESET. CONTROL 5 (R437): stops the channel as ABORT does, clears SHADOW_VALID and goes to IDLE. -/
def execDmaReset (p : Part) (n : Fin 16) (w : Writer) (s : State) : Result :=
  .next (s.dmaBy p n w fun s =>
    if s.dmaState p n = 3 then s.dmaRefuse p n 1
    else
      let s := if s.dmaState p n = 1 then s.dmaAborted p n else s
      ((s.wr p (O.DMA_SHADOW_VALID (dmaIndex p n)) 0).dmaNext p n).answer stOk)

/-- DMA_TRANSFER_START. The descriptor that has entered the active set is checked before any byte moves (R439). -/
def execDmaTransferStart (p : Part) (n : Fin 16) (s : State) : Result :=
  let c := s.dmaCh p n
  if s.dmaState p n = 1 ∧ c.live = false ∧ n < dmaCount p then
    match descFault p (s.dmaActive p n) with
    | some (code, addr) => .next (s.dmaFault p n code addr)
    | none => .next (s.setDmaCh p n { c with live := true, moved := 0, poison := false })
  else .next s

/-- A channel reads granule `g` of HBM: one that the same transfer has written returns either the old value or the new one, as a free value
says (R434). -/
def State.dmaHbmRead (s : State) (n g : Nat) (e : Option HbmError) : Gran × State :=
  match Tbl.find (s.dmaCh .vager n).old g with
  | none => s.hbmRead g e
  | some before =>
    let (x, s) := s.takeNat
    if x % 2 = 1 then (before, s) else s.hbmRead g e

/-- What granule `g` of HBM held before the first write of the channel's transfer is kept (R434). -/
def State.dmaKeepOld (s : State) (p : Part) (n sp g : Nat) : State :=
  let c := s.dmaCh p n
  if p = .vager ∧ sp = 0 ∧ (Tbl.find c.old g).isNone then s.setDmaCh p n { c with old := Tbl.insert c.old g (s.hbmAt g) } else s

/-- One granule of a live transfer is read and written, or the first failure halts the channel (R433, R435, R439). -/
def State.dmaMove (s : State) (p : Part) (n : Nat) (a : DmaAccess) : State :=
  let i := dmaIndex p n
  let c := s.dmaCh p n
  let x := s.dmaActive p n
  let zero := descOp x == 1
  let sa := descAddr x false c.moved
  let da := descAddr x true c.moved
  let ssp := descSrcSpace x
  match (if zero then none else s.dmaAddrFault p n ssp sa) with
  | some code => s.dmaFault p n code sa
  | none =>
    if !zero && a.readRefused then s.dmaFault p n 4 sa
    else
      let (g, s) := if zero then (({} : Gran), s)
        else if p = .vager ∧ ssp = 0 then s.dmaHbmRead n (sa / 32) a.error
        else ({ data := a.data, poison := a.poison }, s)
      match s.dmaAddrFault p n (descDstSpace x) da with
      | some code => s.dmaFault p n code da
      | none =>
        if a.writeRefused then s.dmaFault p n 4 da
        else
          let s := (s.dmaKeepOld p n (descDstSpace x) (da / 32)).dmaWrite p n (descDstSpace x) da g.data g.poison
          let s := s.wr p (O.DMA_BYTES_DONE i) (32 * (c.moved + 1))
          let s := if g.poison then s.bump p (O.DMA_POISON_GRANULES i) 32 else s
          s.setDmaCh p n { s.dmaCh p n with moved := c.moved + 1, poison := c.poison || g.poison }

/-- DMA_ACCESS_DONE. A granule of the transfer moves (R433 to R435, R439). On Staris channel 3 while trace holds it, a write of
the trace sink ends (R138, R142). After an ABORT, of a transfer's granules at most the 64 that the channel has in flight still
move (R434, R437). A channel that moves to or from host memory stands still in D3hot (R561). -/
def execDmaAccessDone (p : Part) (n : Fin 16) (a : DmaAccess) (s : State) : Result :=
  let c := s.dmaCh p n
  let x := s.dmaActive p n
  if s.dmaState p n = 1 ∧ c.live ∧ c.moved < s.dmaEnd p n then
    let host := p = .vager ∧ (descDstSpace x = 1 ∨ (descOp x = 0 ∧ descSrcSpace x = 1))
    if host ∧ bits (s.rd .vager O.PCIE_STATE_7C40) 1 0 ≠ 0 then .next s
    else .next (s.dmaMove p n a)
  else
    match p with
    | .staris d => if n.val = 3 ∧ (s.tr d).outstanding ≠ [] then .next (s.traceDmaDone d a.writeRefused) else .next s
    | .vager => .next s

/-- DMA_TRANSFER_END. The transfer has moved its last granule, or those in flight at an ABORT, and its barrier is met: it is
signalled, and the channel goes on; one whose record could not be written is a fault, which halts the channel (R438 to R441; log entry
97). -/
def execDmaTransferEnd (p : Part) (n : Fin 16) (recordOk : Bool) (s : State) : Result :=
  let c := s.dmaCh p n
  let x := s.dmaActive p n
  let whole := descTotal x ≤ c.moved
  if s.dmaState p n = 1 ∧ c.live ∧ (whole ∨ c.stopAt.isSome) then
    let s := s.dmaSignal p n x (if whole then 0 else 1) 0 (32 * c.moved) c.poison recordOk
    if bits (s.rd p (O.DMA_LAST_STATUS (dmaIndex p n))) 7 0 = 2 then
      .next (((s.wr p (O.DMA_STATE (dmaIndex p n)) 2).wr p (O.DMA_FAULT_ADDR (dmaIndex p n)) (descCrecAddr x)).setDmaCh p n
        { s.dmaCh p n with live := false, stopAt := none })
    else .next (s.dmaNext p n)
  else .next s

/-- DMA_CHANNEL_CLAIM. The unit that R429 gives the channel claims it, if it has not when what holds the channel began (R430). -/
def execDmaChannelClaim (p : Part) (n : Fin 16) (s : State) : Result :=
  .next (if s.dmaHeld p n then s.dmaSettle p n else s)

/-- DMA_CHANNEL_RELEASE. The unit no longer holds the channel (R429, R436). -/
def execDmaChannelRelease (p : Part) (n : Fin 16) (s : State) : Result :=
  .next (if s.dmaHeld p n then s else s.dmaSettle p n)

end Sys2Proof.Machine
end

