-- ==== Sys2Proof/Machine/Shroud.lean ====
section
/-! DEFINITION. Machine/Shroud.lean: the Shroud re-execution array (chapter 09). -/

namespace Sys2Proof.Machine
open Sys2Proof

/-! ### Staris: notices, skips and answers (R315 to R322, R331 to R334, R576) -/

/-- The class of a section over its granules: 0 GOOD, 1 BAD, 2 POISONED; one poisoned granule is enough (R281, R318). -/
def sectionClass (x : Section) : Nat :=
  let c := crc64 (x.data.flatMap fun g => toBytes 32 g.1) (bits x.hdr 191 160)
  let check := bits x.hdr 255 192
  if x.poisoned ∨ check = Nat.xor c crcPoison then 2 else if check = c then 0 else 1

/-- Sections with CLASS set. -/
def classed (xs : List Section) : List (Section × Nat) := xs.map fun x => (x, sectionClass x)

/-- Sections as they travel, each header with its CLASS and its own poison (R36, R320). -/
def sectionGranules (xs : List (Section × Nat)) : List (Nat × Bool) :=
  xs.flatMap fun e => (setFld e.1.hdr 130 2 e.2, e.1.spoilt) :: e.1.data

/-- A header granule with INPUT_BAD and HAS_POISON set (R318, R319). -/
def flagHeader (h : Nat) (xs : List (Section × Nat)) : Nat :=
  setBit (setBit h 9 (xs.any fun e => e.2 == 1)) 8 (xs.any fun e => e.2 == 2)

/-- An entry fits the ring's free space: no part of it lies in an entry not yet given back (R316, R577). -/
def ringFits (ring : List ShEntry) (total offset bytes : Nat) : Bool :=
  decide (offset + bytes ≤ total) && !(ring.any fun e => decide (offset < e.offset + e.bytes) && decide (e.offset < offset + bytes))

/-- A sample's header granule as Staris sends it: PROFILE and the engine class of slot `slot` from SH_SLOT_MAP, and the flags that
its sections give (R314, R319, R577; log entry 170). -/
def State.sampleHeader (s : State) (d : Die) (slot h : Nat) (xs : List (Section × Nat)) : Nat :=
  let m := s.ob (.staris d) O.SH_SLOT_MAP_5400 slot
  flagHeader (setFld (setFld h 60 4 (m / 16)) 57 3 (m % 8)) xs

/-- Staris reads the ring entry of a selection of engine slot `slot`, classes its sections, counts it, holds it in the ring and sends
it; it waits while an absorption is in progress. The header granule keeps its poison (R36, R315, R316, R318). -/
def State.sendSample (s : State) (d : Die) (slot sid offset bytes : Nat) (entry : List (Nat × Bool)) : State :=
  let p := Part.staris d
  let s := s.emit (.scratchpadRead d.val (s.rd p O.SH_RING_BASE_5400 + offset) (bytes / 32))
  let (h, spoilt) := entry.headD (0, false)
  let xs := classed (sectionsOf (bits h 31 24) (entry.drop 1))
  let h := s.sampleHeader d slot h xs
  let msg := (h, spoilt) :: sectionGranules xs
  let s := if bitAt h 9 then s.bump p O.INPUT_BAD_5401 32 else s
  let s := if bitAt h 8 then s.bump p O.POISONED_5401 32 else s
  let wait := s.rd p O.STAY_STATE_5800 == 2
  let e : ShEntry := { sid := sid, offset := offset, bytes := bytes, header := h, waiting := if wait then some msg else none }
  let y := s.shd d
  let s := s.setShd d { y with ring := y.ring ++ [e] }
  if wait then s else (s.bump p O.SENT_5401 64).sendTap d msg

/-- SAMPLE_NOTICE. The die announces a ring entry: Staris reads, classes and sends it, or skips it as too large or as not
fitting the ring (R315, R316, R318); entries wait while an absorption is in progress. -/
def execSampleNotice (d : Die) (sid offset bytes : Nat) (entry : List (Nat × Bool)) (s : State) : Result :=
  let p := Part.staris d
  let x := s.shd d
  match x.sels.find? fun y => y.sid == sid with
  | none => .next s
  | some sel =>
    let s := s.setShd d { x with sels := x.sels.erase sel }
    let total := s.rd p O.SH_RING_BYTES_5400
    if s.linkUp false d = false then
      .next ((s.bump p O.RING_DISCARDED_5401 32).emit (.shrFree d.val sid))
    else if s.rd p O.SH_MAX_SAMPLE_5400 < bytes then .next ((s.shSkip d sel 2).emit (.shrFree d.val sid))
    else if ringFits x.ring total offset bytes = false then .next ((s.shSkip d sel 1).emit (.shrFree d.val sid))
    else
      .next (s.sendSample d sel.slot sid offset bytes entry)

/-- SAMPLE_SKIP. The die posts a skip for a selection (R315, R322). -/
def execSampleSkip (d : Die) (sid code : Nat) (s : State) : Result :=
  let x := s.shd d
  match x.sels.find? fun y => y.sid == sid with
  | none => .next s
  | some sel => .next ((s.setShd d { x with sels := x.sels.erase sel }).shSkip d sel code)

/-- A held entry of the ring. -/
def State.heldEntry (s : State) (d : Die) (sid : Nat) : Option ShEntry := (s.shd d).ring.find? fun e => e.sid == sid && !e.freed

/-- A selection's fields as an entry's header gives them. -/
def entrySel (e : ShEntry) : ShSel :=
  { sid := e.sid, tag := bits e.header 255 224, step := bits e.header 223 192, epoch := bits e.header 191 160,
    slot := bits e.header 56 49 }

/-- RECOMPUTE_ANSWER. The die returns E or declines (R333). -/
def execRecomputeAnswer (d : Die) (sid : Nat) (declined : Bool) (result : List (Nat × Bool)) (s : State) : Result :=
  let p := Part.staris d
  match s.heldEntry d sid with
  | none => .next s
  | some e =>
    if declined then .next ((s.bump p O.RECOMPUTE_DECLINED_5401 32).notice d (entrySel e) 0x10)
    else
      let xs := classed (sectionsOf 1 result)
      let h := setBit (setFld (setFld e.header 24 8 1) 0 8 0x52) 48 true
      .next ((s.bump p O.RECOMPUTES_5401 32).sendTap d ((flagHeader h xs, false) :: sectionGranules xs))

/-- POISON_REQUEST_ANSWER. The die's report on the oldest poison request is forwarded (R334). -/
def execPoisonRequestAnswer (d : Die) (resident : Bool) (s : State) : Result :=
  let x := s.shd d
  match x.asks with
  | [] => .next s
  | a :: t => .next ((s.setShd d { x with asks := t }).notice d a (if resident then 0x20 else 0x21))

/-- VERDICT_COMMAND. CMD 0x51 releases the ring entry of its SID (R317, R331). -/
def execVerdictCommand (d : Die) (granule : Nat) (s : State) : Result :=
  let sid := bits granule 255 224
  match s.heldEntry d sid with
  | none => .next s
  | some _ =>
    let x := s.shd d
    let free := fun (e : ShEntry) => if e.sid = sid then { e with freed := true, waiting := none } else e
    .next ((s.setShd d { x with ring := dropFreed (x.ring.map free) }).emit (.shrFree d.val sid))

/-- RECOMPUTE_COMMAND. CMD 0x52 asks the die for a recompute that avoids SLOT; one for an entry that is not held is declined
(R333, R461). -/
def execRecomputeCommand (d : Die) (granule : Nat) (s : State) : Result :=
  let sid := bits granule 255 224
  match s.heldEntry d sid with
  | some _ => .next (s.emit (.shrRecompute d.val sid (bits granule 119 112)))
  | none =>
    let sel : ShSel := { sid := sid, tag := bits granule 223 192, step := bits granule 191 160, epoch := 0, slot := bits granule 119 112 }
    .next ((s.bump (.staris d) O.RECOMPUTE_DECLINED_5401 32).notice d sel 0x10)

/-- POISON_REQ_COMMAND. CMD 0x53 is presented at the die's poison-request port (R334). -/
def execPoisonReqCommand (d : Die) (granule : Nat) (s : State) : Result :=
  let sid := bits granule 255 224
  let tag := bits granule 223 192
  let step := bits granule 191 160
  let epoch := match s.heldEntry d sid with
    | some e => bits e.header 191 160
    | none => 0
  let sel : ShSel := { sid := sid, tag := tag, step := step, epoch := epoch, slot := bits granule 119 112 }
  let x := s.shd d
  let s := (s.setShd d { x with asks := x.asks ++ [sel] }).bump (.staris d) O.POISON_REQS_5401 32
  .next (s.emit (.poisonRequest d.val tag step (bits granule 159 128)))

/-! ### Vager: intake (R325, R327, R328, R339) -/

/-- The profile record of a slot. -/
def State.profData (s : State) (j : Nat) : Nat := s.elem .vager (O.PROF_DATA_5450 j) 64 0

/-- The profile slot of a sample is VALID. -/
def State.profValid (s : State) (j : Nat) : Bool := s.rd .vager (O.PROF_STATE_5450 j) == 1

/-- The sample runs in tolerance mode (R327). -/
def State.tolerant (s : State) (x : Sample) : Bool :=
  let j := bits x.header 63 60
  !(s.profValid j && x.operands.inFamily (s.profData j))

/-- The first check of a sample at intake that settles it at once, as (verdict, NDIFF) (R316, R318, R327, R328, R339). -/
def State.intakeVerdict (s : State) (x : Sample) : Option (Nat × Nat) :=
  let h := x.header
  if s.rd .vager O.SH_ENABLE_5440 = 0 then some (4, 8)
  else if bitAt h 8 ∨ x.msg.any (fun g => g.2) then some (5, 0)
  else if bitAt h 9 then some (6, 1)
  else if x.operands.reserved then some (4, 9)
  else if (s.clustersIn [0, 1]).isEmpty then some (4, 7)
  else none

/-- The pool lacks room for a message of `n` granules (R328). -/
def State.poolFull (s : State) (n : Nat) : Bool :=
  decide (2 ^ 30 < s.sh.fill + 32 * n) && s.rd .vager O.SH_ENABLE_5440 != 0

/-- A sample in the pool goes on as the intake check says: to its verdict, or to a cluster. -/
def State.sampleIn (s : State) (x : Sample) : State :=
  match s.intakeVerdict x with
  | some (v, n) => s.settle x v n
  | none => s.shroudDispatch 40

/-- A tensor-tap message that holds poison is counted at Vager (R302). -/
def State.tapPoison (s : State) (p : Die) (msg : List (Nat × Bool)) : State :=
  if msg.any fun g => g.2 then s.countPort O.TAP_POISON_5080 p.val else s

/-- SHROUD_SAMPLE_RX. A sample arrives: it joins the pool and queues for a cluster, or its verdict is settled at once; one for
which the pool lacks room is discarded as OVERLOAD (R327, R328, R339, R560). One that holds poison is counted (R302). -/
def execShroudSampleRx (p : Die) (msg : List (Nat × Bool)) (s : State) : Result :=
  let sid := bits (msg.headD (0, false)).1 159 128
  let s := (s.tapPoison p msg).noteSid p sid
  let x : Sample := { port := p.val, sid := sid, msg := msg }
  let full := s.poolFull msg.length
  let x := if full then { x with msg := msg.take 1 } else x
  let s := (s.setSh { s.sh with pool := s.sh.pool ++ [x] }).poolChanged
  .next (if full then s.settle x 4 6 else s.sampleIn x)

/-- SHROUD_NOTICE_RX. A skip settles its SID as SKIPPED with its code; RECOMPUTE_DECLINED counts as no E (R328, R332). -/
def execShroudNoticeRx (p : Die) (granule : Nat) (s : State) : Result :=
  let code := bits granule 47 40
  let sid := bits granule 159 128
  if 1 ≤ code ∧ code ≤ 4 then
    let s := s.noteSid p sid
    let h := fld 128 128 (granule / 2 ^ 128) + fld 49 8 (bits granule 63 56) + 0x51
    let x : Sample := { port := p.val, sid := sid, msg := [(h, false)] }
    let s := (s.setSh { s.sh with pool := s.sh.pool ++ [x] }).poolChanged
    .next (s.settle x 4 code)
  else if code = 0x10 then
    match s.sample p.val sid with
    | some x => .next (if x.phase = .waitE then s.settle x 0x0A x.ndiff else s)
    | none => .next s
  else .next s

/-! ### Vager: computing and arbitration (R326, R332, R336 to R338) -/

/-- An error event of arbitration on a cluster goes to the classifier (R338). -/
def State.outvoted (s : State) (c : Nat) : State :=
  let n := s.elem .vager O.OUTVOTED_5441 4 c
  (s.setElem .vager O.OUTVOTED_5441 4 c ((n + 1) % 2 ^ 32)).classify 3 c true

/-- A self-test of cluster `c` falls due: it begins between samples (R336). -/
def State.nameCluster (s : State) (c : Nat) : State := s.setCluster c { s.cluster c with named := true }

/-- The result of a first computation is compared with D (R326, R327, R332). -/
def State.firstResult (s : State) (x : Sample) (c : Nat) (r : List Nat) : State :=
  let j := bits x.header 63 60
  let o := x.operands
  let d := resultOf o o.d
  let s := s.bump .vager (O.PROF_SAMPLES_5450 j) 64
  if s.tolerant x then
    if o.outf = 3 ∧ o.isInt = false then
      let (n, s) := s.takeNat
      s.settle x 3 (n % 2 ^ 24)
    else s.settle x 3 (maxTolerance o.outf d r)
  else
    let n := (differing d r).length
    if n = 0 then s.settle x 1 0
    else
      let x := { x with phase := .reverify, s1 := r, ndiff := min n (2 ^ 24 - 1) }
      ((s.bump .vager O.ARBITRATIONS_5441 32).setSample x).nameCluster c

/-- The result of the second cluster (R332, step 2), whose self-test follows (R335, R336). -/
def State.secondResult (s : State) (x : Sample) (c1 c2 : Nat) (r : List Nat) : State :=
  let o := x.operands
  let s := s.nameCluster c2
  let x := { x with steps := setBit x.steps 1 true }
  if (differing (resultOf o o.d) r).isEmpty then (s.settle x 2 x.ndiff).outvoted c1
  else if (differing x.s1 r).isEmpty then s.askRecompute { x with agreed := some x.s1 }
  else ((s.askRecompute { x with agreed := none }).outvoted c1).outvoted c2

/-- The elements a cluster computes for a sample (R326, R327). -/
def State.compute (s : State) (x : Sample) : List Nat :=
  let pr := readProf (s.profData (bits x.header 63 60))
  let blk := if s.profValid (bits x.header 63 60) then pr.mxblk else 32
  computeSample (if s.tolerant x then tolerantProf blk else pr) x.operands

/-- The result of cluster `c` joins its sample, as the first or the second computation. One whose sample runs elsewhere since, after
a void or a retirement, is dropped (R326, R332, R337). -/
def State.takeResult (s : State) (c port sid : Nat) (wrong : Option (List Nat)) : State :=
  match s.sample port sid with
  | none => s
  | some x =>
    let r := wrong.getD (s.compute x)
    let kept := x.wait.filter fun (e : Nat × Bool) => e.1 != c
    let y := { x with wait := kept ++ [(c, false)] }
    match x.phase with
    | .running k true => if k = c then s.secondResult { y with c2 := some c } (x.c1.getD 0) c r else s
    | .running k false => if k = c then s.firstResult { y with c1 := some c } c r else s
    | _ => s

/-- Cluster `c` ends one computation: it is free, and its self-test falls due after KAT_SAMPLES samples or KAT_TIME of work
(R336). -/
def State.runEnds (s : State) (c : Nat) : State :=
  let v := Part.vager
  let k := s.cluster c
  let work := k.work + (s.vager.ticks - k.since)
  let due := k.named || decide (s.rd v O.KAT_SAMPLES_5440 ≤ k.samples + 1) || decide (1000 * s.rd v O.KAT_TIME_5440 ≤ work)
  let s := s.setCluster c { k with job := none, samples := k.samples + 1, work := work, named := due }
  let n := s.elem v O.CLUSTER_SAMPLES_5441 8 c
  s.setElem v O.CLUSTER_SAMPLES_5441 8 c ((n + 1) % 2 ^ 64)

/-- CLUSTER_RUN_DONE. A cluster ends a sample: its result joins the sample, and what waits for a cluster moves on (R326, R332,
R336, R337). -/
def execClusterRunDone (c : Fin 18) (wrong : Option (List Nat)) (s : State) : Result :=
  match (s.cluster c.val).job with
  | none => .next s
  | some (port, sid) => .next (((s.runEnds c.val).takeResult c.val port sid wrong).shroudDispatch 40)

/-- ARBITRATION_REVERIFY_DONE. Step 1 of R332: a section whose CHECK fails over Vager's copy is INPUT_BAD; otherwise a second
cluster computes. -/
def execArbitrationReverifyDone (p : Die) (sid : Nat) (s : State) : Result :=
  match s.sample p.val sid with
  | none => .next s
  | some x =>
    if x.phase = .reverify then
      let x := { x with steps := setBit x.steps 0 true }
      if (x.sections.any fun y => sectionClass y != 0) then .next ((s.settle x 6 2).shroudDispatch 40)
      else .next ((s.enterSecond x).shroudDispatch 40)
    else .next s

/-- The die's result is to be poisoned (R332, R334). -/
def State.poisonD (s : State) (x : Sample) : State :=
  let btag := match x.sections.find? fun y => y.role == 5 with
    | some y => bits y.hdr 191 160
    | none => 0
  s.shCommand x btag 0 0x53

/-- E of a recompute message, where it counts: its section is GOOD and no granule is poisoned (R333). -/
def goodE (o : Operands) (msg : List (Nat × Bool)) : Option (List Nat) :=
  match msg with
  | [] => none
  | h :: t =>
    match sectionsOf 1 t with
    | [] => none
    | y :: _ => if bits y.hdr 131 130 ≠ 0 ∨ y.poisoned ∨ h.2 then none else some (resultOf o (packed y.data))

/-- SHROUD_RECOMPUTE_RX. E arrives: the majority of D, S and E; a BAD or POISONED one counts as none. One that holds poison is
counted (R302, R332, R333). -/
def execShroudRecomputeRx (p : Die) (msg : List (Nat × Bool)) (s : State) : Result :=
  let sid := bits (msg.headD (0, false)).1 159 128
  let s := s.tapPoison p msg
  match s.sample p.val sid with
  | none => .next s
  | some x =>
    if x.phase ≠ .waitE then .next s
    else
      let o := x.operands
      match goodE o msg with
      | none => .next (s.settle x 0x0A x.ndiff)
      | some e =>
        if (differing (resultOf o o.d) e).isEmpty then .next (s.settle x (if x.agreed.isNone then 0x0B else 7) x.ndiff)
        else if (x.agreed.any fun r => (differing r e).isEmpty) then .next ((s.settle x 8 x.ndiff).poisonD x)
        else .next ((s.settle x 9 x.ndiff).poisonD x)

/-- RECOMPUTE_TIMEOUT. No E has come within RECOMPUTE_TIMEOUT (R332). -/
def execRecomputeTimeout (p : Die) (sid : Nat) (s : State) : Result :=
  match s.sample p.val sid with
  | some x => .next (if x.phase = .waitE then s.settle x 0x0A x.ndiff else s)
  | none => .next s

/-- KAT_DUE. A cluster has done KAT_SAMPLES samples or KAT_TIME of work, the run under way counted: its self-test begins between
samples (R336). -/
def execKatDue (c : Fin 18) (s : State) : Result :=
  let v := Part.vager
  let k := s.cluster c.val
  let work := if k.job.isSome then k.work + (s.vager.ticks - k.since) else k.work
  let due := s.rd v O.KAT_SAMPLES_5440 ≤ k.samples ∨ 1000 * s.rd v O.KAT_TIME_5440 ≤ work
  if s.clState c.val ≠ 1 ∨ k.testing ∨ ¬due then .next s else .next ((s.nameCluster c.val).shroudDispatch 40)

/-- KAT_DONE. A self-test ends: on a pass the cluster is ACTIVE and verdicts that waited for it may be released; on a failure
it is retired at once, which voids its results (R312, R337). -/
def execKatDone (c : Fin 18) (pass : Bool) (s : State) : Result :=
  let v := Part.vager
  let k := s.cluster c.val
  if k.testing = false then .next s
  else if pass then
    let s := s.setCluster c.val { k with testing := false, samples := 0, work := 0 }
    let clear := fun (x : Sample) => { x with wait := x.wait.filter fun e => !(e.1 == c.val && e.2) }
    let s := s.setSh { s.sh with pool := s.sh.pool.map clear }
    let s := if s.clState c.val = 4 then s.setClState c.val 1 else s
    .next (s.shroudDispatch 40)
  else
    let n := s.elem v O.KAT_FAILS_5441 4 c.val
    let s := s.setElem v O.KAT_FAILS_5441 4 c.val ((n + 1) % 2 ^ 32)
    let s := s.permanent 3 c.val none []
    .next (s.classify 3 c.val true)

/-! ### Vager: release (R328 to R331, R337) -/

/-- The verdict record of a sample (R329). -/
def verdictRecord (x : Sample) (now : Nat) : Nat :=
  let h := x.header
  fld 128 128 (h / 2 ^ 128) + fld 64 64 now + fld 40 24 x.ndiff + fld 35 5 (x.c1.getD 31) + fld 30 5 (x.c2.getD 31)
    + fld 26 4 x.port + fld 23 3 (bits h 59 57) + fld 15 8 (bits h 56 49) + fld 11 4 x.steps + fld 8 1 (ofBool x.unconfirmed)
    + (x.verdict.getD 0) % 256

/-- The verdict `code` of the sample `x` is released: record, counts, VERDICT command, MSI-X, recorder entry and fault report
(R328 to R331). -/
def State.releaseVerdict (s : State) (x : Sample) (code : Nat) : State :=
  let v := Part.vager
  let w := s.rd v O.VR_WRITE_5470
  let s := if subMod 32 w (s.rd v O.VR_READ_5470) ≥ 65536 then s.bump v O.VR_DROPPED_5470 32
    else
      let t := Tbl.insert s.sh.verdicts (w % 65536) (verdictRecord x s.extNow);
      (s.setSh { s.sh with verdicts := t }).bump v O.VR_WRITE_5470 32
  let s := s.setElem v O.VERDICT_COUNTS_5441 8 code ((s.elem v O.VERDICT_COUNTS_5441 8 code + 1) % 2 ^ 64)
  let s := if code = 4 then s.setElem v O.SKIP_COUNTS_5441 4 x.ndiff ((s.elem v O.SKIP_COUNTS_5441 4 x.ndiff + 1) % 2 ^ 32)
    else s
  let s := s.shCommand x 0 code 0x51
  let h := x.header
  let severe := code == 8 || code == 9
  let s := if 6 ≤ code ∧ code ≤ 0x0B then s.msix v (s.rd v O.VR_VECTOR_5470) else s
  let s := if code = 2 ∨ (6 ≤ code ∧ code ≤ 0x0B) then
      s.recordV 0x0022 code (fld 64 32 x.sid + fld 32 32 (bits h 255 224) + bits h 223 192) (if severe then 4 else 0)
    else s
  let s := if 8 ≤ code ∧ code ≤ 0x0A then
      s.report { code := 0x30, severity := if severe then 4 else 0, die := x.port, dieValid := true, epoch := bits h 191 160,
                 detail := fld 32 8 code + x.sid % 2 ^ 32 }
    else s
  let s := if x.pinned then s.setSample { x with released := true }
    else s.setSh { s.sh with pool := s.sh.pool.filter fun y => !(y.port == x.port && y.sid == x.sid && !y.released) }
  s.poolChanged

/-! ### Profiles, pins and replay (R324, R339, R340) -/

/-- A profile slot holds a sample in the pool (R324). -/
def State.profBusy (s : State) (j : Nat) : Bool := s.sh.pool.any fun x => decide (1 < x.msg.length) && bits x.header 63 60 == j

/-- VERDICT_RELEASE. A settled verdict whose clusters have each passed a later self-test is released: record, counts, VERDICT
command, MSI-X, recorder entry and fault report (R328 to R331, R337). -/
def execVerdictRelease (p : Die) (sid : Nat) (s : State) : Result :=
  match s.sample p.val sid with
  | none => .next s
  | some x =>
    match x.verdict with
    | none => .next s
    | some code =>
      if x.wait.isEmpty = false then .next s
      else
        .next (s.releaseVerdict x code)

/-- PROF_DATA_WRITE. A profile is validated and the slot becomes VALID or REFUSED; a slot that holds a sample stays as it is
(R324). -/
def execProfDataWrite (w : Writer) (j : Fin 16) (data : List Nat) (s : State) : Result :=
  let v := Part.vager
  .next (s.writeBy w true .fleet fun s =>
    if 64 < data.length then s.answer stLength
    else
      let code := profCode (ofBytes data)
      if code ≠ 0 then ((s.wr v (O.PROF_STATE_5450 j.val) 2).wr v (O.PROF_REFUSE_5450 j.val) code).answer stRefused
      else if s.profBusy j.val then (s.wr v (O.PROF_REFUSE_5450 j.val) 4).answer stRefused
      else
        let s := s.writeOctets v (O.PROF_DATA_5450 j.val) 64 data
        let s := s.setBytes v (O.PROF_DIGEST_5450 j.val) 0 (sha256 (s.bytesAt v (O.PROF_DATA_5450 j.val) 0 64))
        ((s.wr v (O.PROF_STATE_5450 j.val) 1).wr v (O.PROF_REFUSE_5450 j.val) 0).answer stOk)

/-- PROF_CLEAR. The slot becomes EMPTY; refused as BUSY while it holds a sample (R324). -/
def execProfClear (w : Writer) (j : Fin 16) (s : State) : Result :=
  let v := Part.vager
  .next (s.writeBy w true .fleet fun s =>
    if s.profBusy j.val then (s.wr v (O.PROF_REFUSE_5450 j.val) 4).answer stRefused
    else
      let s := s.writeOctets v (O.PROF_DATA_5450 j.val) 64 []
      let s := s.writeOctets v (O.PROF_DIGEST_5450 j.val) 32 []
      ((s.wr v (O.PROF_STATE_5450 j.val) 0).wr v (O.PROF_REFUSE_5450 j.val) 0).answer stOk)

/-- The sample that HELD_SELECT names, released or not. -/
def State.heldSample (s : State) : Option Sample :=
  let sel := s.rd .vager O.HELD_SELECT_5478
  s.sh.pool.find? fun x => x.port == bits sel 35 32 && x.sid == sel % 2 ^ 32

/-- HELD_PIN_WRITE. The selected sample is pinned or unpinned; a 17th pin is refused (R339). -/
def execHeldPinWrite (w : Writer) (value : Bool) (s : State) : Result :=
  .next (s.writeBy w true .operator fun s =>
    match s.heldSample with
    | none => s.answer stRefused
    | some x =>
      let same := fun (y : Sample) => y.port == x.port && y.sid == x.sid && y.released == x.released
      if value ∧ x.pinned = false ∧ 16 ≤ (s.sh.pool.filter fun y => y.pinned).length then s.answer stRefused
      else
        let pool := if value = false ∧ x.released then s.sh.pool.filter fun y => !same y
          else s.sh.pool.map fun y => if same y then { y with pinned := value } else y;
        ((s.setSh { s.sh with pool := pool }).poolChanged).answer stOk)

/-- The sample image that replay reads (R340). -/
def State.replaySample (s : State) : Sample :=
  let v := Part.vager
  let n := s.rd v O.REPLAY_BYTES_5480 / 32
  { port := 0, sid := 0, msg := (List.range n).map fun i => (s.elem v O.REPLAY_DATA_5480 32 i, false) }

/-- The cluster that a replay runs on, where there is one: the chosen one, unless it is SPARE or RETIRED, or the lowest ACTIVE one. One
that R560 has turned OFF, or that is in TESTING, serves once it is ACTIVE (R312, R340, R558). -/
def State.replayCluster (s : State) : Option Nat :=
  let want := s.rd .vager O.REPLAY_CLUSTER_5480
  if want = 0xFF then (s.clustersIn [1] ++ s.clustersIn [0]).head?
  else (s.clustersIn [0, 1, 4]).find? fun c => c == want

/-- REPLAY_GO. A replay starts on the chosen cluster, or the lowest ACTIVE one, which wakes where it is OFF (R340, R558). -/
def execReplayGo (w : Writer) (s : State) : Result :=
  let v := Part.vager
  .next (s.writeBy w true .operator fun s =>
    if s.rd v O.REPLAY_STATE_5480 = 1 then s.answer stRefused
    else
      let bad := (s.replaySample).operands.reserved || s.rd v O.REPLAY_BYTES_5480 == 0
      match s.replayCluster, bad with
      | some c, false => (((s.setSh { s.sh with replay := some c }).wr v O.REPLAY_STATE_5480 1).wakeCluster c).answer stOk
      | _, _ => (s.wr v O.REPLAY_STATE_5480 3).answer stOk)

/-- The replay on cluster `c` ends: its verdict, difference and result, DONE (R326, R327, R340). -/
def State.finishReplay (s : State) (c : Nat) (wrong : Option (List Nat)) : State :=
  let v := Part.vager
  let x := s.replaySample
  let o := x.operands
  let d := resultOf o o.d
  let r := wrong.getD (s.compute x)
  let s := s.runEnds c
  let tol := s.tolerant x
  let diff := differing d r
  let (free, s) := if tol ∧ o.outf = 3 ∧ o.isInt = false then s.takeNat else (0, s)
  let n := if tol then (if o.outf = 3 ∧ o.isInt = false then free % 2 ^ 24 else maxTolerance o.outf d r)
    else min diff.length (2 ^ 24 - 1)
  let s := s.wr v O.REPLAY_VERDICT_5480 (if tol then 3 else if diff.isEmpty then 1 else 0x0C)
  let s := (s.wr v O.REPLAY_NDIFF_5480 n).wr v O.REPLAY_FIRST_5480 (diff.headD (2 ^ 64 - 1))
  let s := s.writeOctets v O.REPLAY_OUT_5480 67108864 (r.flatMap fun e => toBytes (outWidth o.outf / 8) e)
  (s.setSh { s.sh with replay := none }).wr v O.REPLAY_STATE_5480 2

/-- REPLAY_DONE. A replay ends with MATCH, INCONCLUSIVE or DIFFER; it waits until its cluster is ACTIVE and has ended its sample
(R326, R327, R340, R558). -/
def execReplayDone (wrong : Option (List Nat)) (s : State) : Result :=
  match s.sh.replay with
  | none => .next s
  | some c =>
    if s.clState c ≠ 1 ∨ (s.cluster c).job.isSome ∨ (s.cluster c).testing then .next s
    else
    .next ((s.finishReplay c wrong).shroudDispatch 40)

end Sys2Proof.Machine
end

