-- ==== Sys2Proof/Machine/Hang.lean ====
section
/-! DEFINITION. Machine/Hang.lean: hang recovery and removal from service (R456 to R467). -/

namespace Sys2Proof.Machine
open Sys2Proof

/-- Hang recovery of die `d`. -/
def State.fd (s : State) (d : Die) : FaultsDie := (s.die d).faults

/-- Hang recovery of die `d` replaced. -/
def State.setFd (s : State) (d : Die) (x : FaultsDie) : State := s.setDie d { s.die d with faults := x }

/-- A reset domain. -/
def State.dom (s : State) (d : Die) (i : Nat) : Domain := Tbl.get (fun _ => {}) (s.fd d).domains i

/-- A reset domain replaced. -/
def State.setDom (s : State) (d : Die) (i : Nat) (x : Domain) : State :=
  s.setFd d { s.fd d with domains := Tbl.set (fun _ => {}) (s.fd d).domains i x }

/-- A domain's state code (R458). -/
def State.domState (s : State) (d : Die) (i : Nat) : Nat := s.rd (.staris d) (O.DOM_STATE_7010 i)

/-- A domain takes a state. -/
def State.setDomState (s : State) (d : Die) (i st : Nat) : State := s.wr (.staris d) (O.DOM_STATE_7010 i) st

/-- Engine slot `x` belongs to domain `i` (R456). -/
def State.inDomain (s : State) (d : Die) (i x : Nat) : Bool := s.obit (.staris d) (O.DOM_SLOTS_7010 i) x

/-- The domain has slots (R456). -/
def State.domUsed (s : State) (d : Die) (i : Nat) : Bool := (List.range 256).any fun x => s.inDomain d i x

/-- ALIVE_SECONDS (R465). -/
def State.alive (s : State) (d : Die) : Nat := (s.die d).ticks / 10 ^ 9 % 2 ^ 32

/-- An entry of RESET_HISTORY; one with no cause is empty. -/
def State.histEntry (s : State) (d : Die) (i : Nat) : Nat := s.elem (.staris d) O.RESET_HISTORY_7000 8 i

/-- RESETS_IN_WINDOW (R465). -/
def State.resetsInWindow (s : State) (d : Die) : Nat :=
  ((List.range 16).filter fun i =>
    let e := s.histEntry d i
    bits e 39 36 != 0 && decide (subMod 32 (s.alive d) (bits e 31 0) < s.rd (.staris d) O.RESET_WINDOW_7000)).length

/-- A reset or hold joins RESET_HISTORY; entry 0 is the newest (R465). -/
def State.pushHistory (s : State) (d : Die) (i cause flags : Nat) : State :=
  let p := Part.staris d
  let old := s.bytesAt p O.RESET_HISTORY_7000 0 120
  let e := s.alive d + fld 32 4 i + fld 36 4 cause + fld 40 8 flags
  let s := s.setBytes p O.RESET_HISTORY_7000 0 (toBytes 8 e ++ old)
  s.wr p O.RESETS_IN_WINDOW_7000 (s.resetsInWindow d)

/-- The flags of the newest entry of domain `i`. -/
def State.flagHistory (s : State) (d : Die) (i flags : Nat) : State :=
  match (List.range 16).find? fun k => bits (s.histEntry d k) 39 36 != 0 && bits (s.histEntry d k) 35 32 == i with
  | some k => s.setElem (.staris d) O.RESET_HISTORY_7000 8 k (setFld (s.histEntry d k) 40 8 flags)
  | none => s

/-- A hang report of a phase is sent (R455, R462). -/
def State.hangReport (s : State) (d : Die) (i phase : Nat) : State :=
  let p := Part.staris d
  let x := s.dom d i
  let g := fld 224 32 x.hseq + fld 192 32 x.time + fld 160 32 x.epoch + fld 128 32 x.lastDone + fld 96 32 (s.resetsInWindow d)
    + fld 64 32 (s.alive d) + fld 56 8 phase + fld 52 4 i + fld 48 4 x.cause + fld 40 8 x.flags + 0x70
  (s.setBytes p (O.DOM_LAST_REPORT_7010 i) 0 (toBytes 32 g)).sendControl false d 0x06 0 [g]

/-- A domain's reset line, with KEEP_LINKS and KEEP_MEMORY (R459). -/
def State.resetLine (s : State) (d : Die) (i : Nat) (high : Bool) : State :=
  let s := s.setDom d i { s.dom d i with asserted := high }
  s.emit (.resetLine d.val i high (s.rd (.staris d) (O.DOM_KEEP_7010 i) % 4))

/-- What the reset of domain `i` does to the units of Staris that hold its slots, as it begins (R461). -/
def State.domainUnits (s : State) (d : Die) (i : Nat) : State :=
  let p := Part.staris d
  let slots := (List.range 256).filter fun x => s.inDomain d i x
  let s := slots.foldl (fun s x => s.setElem p O.ENGINE_CONTEXT_3001 8 x (setBit (s.slotEntry d x) 63 false)) s
  let s := s.abandonAll d fun c => c.engines.any fun e => slots.contains e
  let stop := fun (x : DumpCopy) => if slots.contains x.engine then { x with aborting := true } else x
  s.setCap d { s.cap d with dumps := (s.cap d).dumps.map fun e => (e.1, { e.2 with copy := e.2.copy.map stop }) }

/-- A cut is in progress and has an enabled region (R351, R352). -/
def State.cutOpen (s : State) (d : Die) : Bool :=
  let st := s.rd (.staris d) O.STAY_STATE_5800
  (st == 1 || st == 2) && (List.range 64).any fun r => s.regOn d r

/-- What a domain reset does to Staris's units as it begins (R461). Which regions a domain holds is the die's own matter: where
a cut is in progress and a region is enabled, a free value says whether this one does. -/
def State.domainEffects (s : State) (d : Die) (i : Nat) : State :=
  let s := s.domainUnits d i
  if s.cutOpen d then
    let (x, s) := s.takeNat
    if x % 2 = 1 then (s.abortDieCut d 5).shroudResume d else s
  else s

/-- Every used domain is held in reset and the die is out of service. The hold resets the domains as R461 has it, those that hold the
enabled regions among them, which ends a cut (R352, R466). -/
def State.holdAll (s : State) (d : Die) : State :=
  let used := (List.range 16).filter fun i => s.domUsed d i
  let s := s.setFd d { s.fd d with sampling := [] }
  let s := used.foldl (fun s i => ((s.resetLine d i true).setDomState d i 5).domainUnits d i) s
  let s := if used ≠ [] ∧ s.cutOpen d then (s.abortDieCut d 5).shroudResume d else s
  s.wr (.staris d) O.SERVICE_STATE_7000 1

/-- SERVICE_HOLD: in place of the reset now due for domain `i` (R466). -/
def State.serviceHold (s : State) (d : Die) (i : Nat) : State :=
  let x := s.dom d i
  (((s.holdAll d).pushHistory d i x.cause x.flags)).hangReport d i 4

/-- A domain enters RESETTING, or the hold of R466 takes its place (R458, R459, R466). -/
def State.startReset (s : State) (d : Die) (i : Nat) : State :=
  let p := Part.staris d
  if s.rd p O.RESET_LIMIT_7000 ≤ s.resetsInWindow d + 1 then s.serviceHold d i
  else
    let x := s.dom d i
    let s := (s.setDomState d i 3).bump p (O.DOM_RESETS_7010 i) 32
    let s := s.pushHistory d i x.cause x.flags
    (s.resetLine d i true).domainEffects d i

/-- A domain enters SAMPLING and waits its turn (R460). -/
def State.startSampling (s : State) (d : Die) (i : Nat) : State :=
  let s := s.setDomState d i 2
  s.setFd d { s.fd d with sampling := (s.fd d).sampling ++ [i] }

/-- The epoch of the lowest valid slot of a domain, 0 where there is none (R462). -/
def State.domEpoch (s : State) (d : Die) (i : Nat) : Nat :=
  match (List.range 256).find? fun x => s.inDomain d i x && bitAt (s.slotEntry d x) 63 with
  | some x => (s.slotContext d x).1
  | none => 0

/-- A hang of domain `i` (R457, R458). -/
def State.hang (s : State) (d : Die) (i cause : Nat) : State :=
  let p := Part.staris d
  if s.rd p O.HANG_ENABLE_7000 = 0 ∨ s.domUsed d i = false then s
  else if s.domState d i ≠ 0 then s.bump p O.HANGS_IGNORED_7000 32
  else
    let s := s.bump p O.HSEQ_7000 32
    let x := s.dom d i
    let x := { x with hseq := s.rd p O.HSEQ_7000, time := s.ns p, epoch := s.domEpoch d i, cause := cause, flags := 0 }
    let s := ((s.setDom d i x).setDomState d i 1).hangReport d i 1
    let policy := s.rd p (O.DOM_POLICY_7010 i)
    if policy = 0 then (s.setDomState d i 4).hangReport d i 6
    else if s.rd p O.RESET_LIMIT_7000 ≤ s.resetsInWindow d + 1 then s.serviceHold d i
    else if policy = 1 ∧ s.linkUp false d then s.startSampling d i
    else
      let s := if policy = 1 then s.setDom d i { s.dom d i with flags := 8 } else s
      s.startReset d i

/-- WATCHDOG_ASSERT. The die asserts a domain's watchdog line (R457). -/
def execWatchdogAssert (d : Die) (dom : Fin 16) (s : State) : Result :=
  if s.rd (.staris d) (O.DOM_WATCHDOG_EN_7010 dom.val) = 1 then .next (s.hang d dom.val 1) else .next s

/-- A descriptor of domain `i` has been outstanding, and none of its slots has completed one, for DOM_HANG_WINDOW (R457). -/
def State.windowOver (s : State) (d : Die) (i : Nat) : Bool :=
  let now := (s.die d).ticks
  let window := 1000 * s.rd (.staris d) (O.DOM_HANG_WINDOW_7010 i)
  window != 0 && decide ((s.dom d i).doneTick + window ≤ now)
    && (s.cap d).descs.any fun x => s.inDomain d i x.slot && decide (x.since + window ≤ now)

/-- HANG_WINDOW_EXPIRY. The scanner finds that a domain's window is over (R457). -/
def execHangWindowExpiry (d : Die) (dom : Fin 16) (s : State) : Result :=
  .next (if s.windowOver d dom.val then s.hang d dom.val 2 else s)

/-- DOM_HANG_COMMAND. DOM_COMMAND 1 declares a domain hung (R457). -/
def execDomHangCommand (d : Die) (w : Writer) (dom : Fin 16) (s : State) : Result :=
  .next (s.writeBy w true .operator fun s => (s.hang d dom.val 3).answer stOk)

/-- DOM_RESET_COMMAND. DOM_COMMAND 2 resets a domain from RUNNING, WAIT_COMMAND or FAILED (R458, R466). -/
def execDomResetCommand (d : Die) (w : Writer) (dom : Fin 16) (s : State) : Result :=
  .next (s.writeBy w true .operator fun s =>
    let st := s.domState d dom.val
    if st = 0 ∨ st = 4 ∨ st = 6 then
      let x := s.dom d dom.val
      let s := if st = 0 then s.setDom d dom.val { x with cause := 3, time := s.ns (.staris d), epoch := s.domEpoch d dom.val, flags := 0 } else s
      (s.startReset d dom.val).answer stOk
    else s.answer stRefused)

/-- DOM_SAMPLE_COMMAND. DOM_COMMAND 3 moves a domain in WAIT_COMMAND to SAMPLING (R458). -/
def execDomSampleCommand (d : Die) (w : Writer) (dom : Fin 16) (s : State) : Result :=
  .next (s.writeBy w true .operator fun s =>
    if s.domState d dom.val = 4 then (s.startSampling d dom.val).answer stOk else s.answer stRefused)

/-- HANG_COMMAND. COMMAND 0x70 from Vager declares a domain hung (R457). -/
def execHangCommand (d : Die) (dom : Fin 16) (s : State) : Result := .next (s.hang d dom.val 3)

/-- OUT_OF_SERVICE_COMMAND. COMMAND 0x71 puts the Staris out of service again (R467). -/
def execOutOfServiceCommand (d : Die) (s : State) : Result := .next (s.holdAll d)

/-- The four ranges of DOM_SAMPLE_RANGES (R463). -/
def State.sampleRanges (s : State) (d : Die) (i : Nat) : List (Nat × Nat) :=
  (List.range 4).map fun k =>
    (s.elem (.staris d) (O.DOM_SAMPLE_RANGES_7010 i) 8 (2 * k), s.elem (.staris d) (O.DOM_SAMPLE_RANGES_7010 i) 8 (2 * k + 1))

/-- HANG_SAMPLE_SENT. A domain's scratchpad sample ends: sent whole, cut short or never begun for want of the link; SAMPLED is
reported and the reset is due (R458, R460, R463, R466). -/
def execHangSampleSent (d : Die) (dom : Fin 16) (data : List (Nat × Bool)) (s : State) : Result :=
  let i := dom.val
  let f := s.fd d
  let head := f.sampling.head? == some i
  let up := s.linkUp false d
  if s.domState d i ≠ 2 ∨ (up ∧ head = false) then .next s
  else
    let rs := s.sampleRanges d i
    let total := (rs.map Prod.snd).sum / 32
    let x := s.dom d i
    let s := s.setFd d { f with sampling := f.sampling.erase i }
    let s := if head then rs.foldl (fun s r => if r.2 = 0 then s else s.emit (.scratchpadRead d.val r.1 (r.2 / 32))) s else s
    let h := fld 224 32 x.hseq + fld 192 32 x.time + fld 136 24 total + fld 132 4 i + 0x72
    let s := if up then s.sendTap d ((h, false) :: (data ++ List.replicate total (0, false)).take total)
      else s.setDom d i { x with flags := setBit x.flags (if head ∧ data ≠ [] then 2 else 3) true }
    .next ((s.hangReport d i 2).startReset d i)

/-- RESET_HOLD_EXPIRY. RESET_HOLD has passed and the line is released (R459). -/
def execResetHoldExpiry (d : Die) (dom : Fin 16) (s : State) : Result :=
  if s.domState d dom.val = 3 ∧ (s.dom d dom.val).asserted then .next (s.resetLine d dom.val false) else .next s

/-- RESET_DONE. The die answers that a reset is done, and what it kept (R458, R459, R461, R462). -/
def execResetDone (d : Die) (dom : Fin 16) (kept : Nat) (s : State) : Result :=
  let i := dom.val
  let x := s.dom d i
  if s.domState d i ≠ 3 ∨ x.asserted then .next s
  else
    let flags := setFld x.flags 0 2 kept
    let s := (s.setDom d i { x with flags := flags }).flagHistory d i flags
    let s := if bitAt kept 1 then s else s.discardEntries d fun e => s.inDomain d i (bits e.header 56 49)
    .next ((s.setDomState d i 0).hangReport d i 3)

/-- RESET_ACK_TIMEOUT. No answer has come within RESET_ACK_WAIT (R458). -/
def execResetAckTimeout (d : Die) (dom : Fin 16) (s : State) : Result :=
  if s.domState d dom.val = 3 ∧ (s.dom d dom.val).asserted = false then
    .next ((s.setDomState d dom.val 6).hangReport d dom.val 5)
  else .next s

/-- The die returns to service: the history is cleared, every line released and every domain RUNNING (R466). -/
def State.toService (s : State) (d : Die) : State :=
  let p := Part.staris d
  let s := (s.writeOctets p O.RESET_HISTORY_7000 128 []).wr p O.RESETS_IN_WINDOW_7000 0
  let s := (List.range 16).foldl (fun s i =>
    let s := if (s.dom d i).asserted then s.resetLine d i false else s
    s.setDomState d i 0) s
  let s := s.setFd d { s.fd d with sampling := [] }
  s.wr p O.SERVICE_STATE_7000 0

/-- RETURN_TO_SERVICE. A fleet write releases the die (R466). -/
def execReturnToService (d : Die) (w : Writer) (s : State) : Result :=
  .next (s.writeBy w true .fleet fun s => (s.toService d).answer stOk)

/-- HANG_SAMPLE_RX. A scratchpad sample is held for its port, with its poison, or discarded while one is held (R36, R464). One that holds
poison is counted (R302). -/
def execHangSampleRx (p : Die) (msg : List (Nat × Bool)) (s : State) : Result :=
  let v := Part.vager
  let k := O.HANG_SAMPLE_STATE_70C0 p.val
  let s := s.tapPoison p msg
  if s.rd v k = 2 then .next (s.bump v (O.HANG_SAMPLES_DISCARDED_70C0 p.val) 32)
  else
    let s := s.setClf { s.clf with hangs := Tbl.set (fun _ => []) s.clf.hangs p.val msg }
    let s := s.setBytes v (O.HANG_SAMPLE_HEADER_70C0 p.val) 0 (toBytes 32 (msg.headD (0, false)).1)
    .next (s.wr v k 2)

/-- HANG_SAMPLE_RELEASE. A held hang sample is released (R464). -/
def execHangSampleRelease (w : Writer) (p : Die) (s : State) : Result :=
  let v := Part.vager
  .next (s.writeBy w false .operator fun s =>
    let s := s.setClf { s.clf with hangs := Tbl.set (fun _ => []) s.clf.hangs p.val [] }
    let s := s.writeOctets v (O.HANG_SAMPLE_HEADER_70C0 p.val) 32 []
    (s.wr v (O.HANG_SAMPLE_STATE_70C0 p.val) 0).answer stOk)

end Sys2Proof.Machine
end

