-- ==== Sys2Proof/Machine/Energy.lean ====
section
/-! DEFINITION. Machine/Energy.lean: the energy ledger (chapter 11): the split of a slice, requests and their records at a
Staris, and the batches of Vager. -/

namespace Sys2Proof.Machine
open Sys2Proof

/-! ### The split of a slice (R387 to R391) -/

/-- The quotient rounded up. -/
def ceilDiv (a b : Nat) : Nat := (a + b - 1) / b

/-- `n` more in element `i` of `w` bytes of an octet object. -/
def State.addElem (s : State) (p : Part) (k w i n : Nat) : State := s.setElem p k w i (s.elem p k w i + n)

/-- The (context, weight) pairs of a slice for rail `r` (R388, R389). Edges beyond the 1,024 pairs stand under context 0, whose
share is the pool's. -/
def State.slicePairs (s : State) (d : Die) (r : Nat) : List (Nat × Nat) :=
  let e := s.en d
  let wt := fun slot => s.ob (.staris d) O.RAIL_WEIGHT_6002 (16 * slot + r)
  e.acts.map (fun x => (x.1 % 2 ^ 14, x.2 * wt (x.1 / 2 ^ 14))) ++ e.surplus.map fun x => (0, x.2 * wt x.1)

/-- R389: rail energy `e` over floor `f` is split over the pairs; what no open request takes joins the pool. -/
def splitRail (e f : Nat) (pairs : List (Nat × Nat)) (isOpen : Nat → Bool) (a : Tbl Nat × Nat) : Tbl Nat × Nat :=
  let n := e - f
  let w := (pairs.map Prod.snd).sum
  if w = 0 then (a.1, a.2 + e)
  else
    let kept := (pairs.filter fun x => x.1 != 0 && isOpen x.1).map fun x => (x.1, n * x.2 / w)
    (kept.foldl (fun t x => Tbl.set (fun _ => 0) t x.1 (Tbl.get (fun _ => 0) t x.1 + x.2)) a.1,
     a.2 + e - (kept.map Prod.snd).sum)

/-- R390: what each context with an open request takes of the pool. -/
def allocatePool (policy pool : Nat) (attr weight : Nat → Nat) (cs : List Nat) : List (Nat × Nat) :=
  let byShare := fun (f : Nat → Nat) =>
    let n := (cs.map f).sum
    if n = 0 then [] else cs.map fun c => (c, pool * f c / n)
  match policy with
  | 1 => cs.map fun c => (c, pool / cs.length)
  | 2 => byShare attr
  | 3 => byShare weight
  | _ => []

/-- R387: a sample of rail `r` that did not arrive is replaced by the rail's previous sample and counted. -/
def State.fillSample (s : State) (d : Die) (r : Nat) : State :=
  let e := s.en d
  let z : Nat → Nat := fun _ => 0
  let n := if s.rd (.staris d) O.LEDGER_ENABLE_6000 = 0 then 0 else Tbl.get z e.railPrev r
  let s := s.setEn d { e with
    railE := Tbl.set z e.railE r (Tbl.get z e.railE r + n), railErr := e.railErr + n, filled := true }
  s.bump (.staris d) O.SAMPLES_FILLED_6004 32

/-- R389 to R391: the slice's energy goes to the open requests and the totals. -/
def State.creditSlice (s : State) (d : Die) : State :=
  let p := Part.staris d
  let e := s.en d
  let z : Nat → Nat := fun _ => 0
  let split := (List.range 16).foldl (fun a r =>
    splitRail (Tbl.get z e.railE r) (s.elem p O.IDLE_FLOOR_6002 8 r) (s.slicePairs d r)
      (fun c => (Tbl.find e.reqs c).isSome) a) (([] : Tbl Nat), 0)
  let attr := Tbl.get z split.1
  let gains := allocatePool (s.rd p O.POLICY_6000) split.2 attr (fun c => s.ob p O.CTX_WEIGHT_6002 c) (e.reqs.map Prod.fst)
  let alloc := fun c => (Tbl.find gains c).getD 0
  let given := (gains.map Prod.snd).sum
  let reqs := e.reqs.map fun x => (x.1, { x.2 with
    attr := x.2.attr + attr x.1, alloc := x.2.alloc + alloc x.1, slices := x.2.slices + 1,
    extra := x.2.extra + e.railErr, fill := x.2.fill || e.filled,
    unlocked := x.2.unlocked || s.tstate p != 2 })
  let s := s.setEn d { e with acts := [], surplus := [], railE := [], railErr := 0, filled := false, reqs := reqs }
  let s := (List.range 16).foldl (fun s r => s.addElem p O.RAIL_ENERGY_6004 16 r (Tbl.get z e.railE r)) s
  let s := s.addElem p O.ATTR_TOTAL_6004 16 0 (split.1.map Prod.snd).sum
  let s := s.addElem p O.ALLOC_TOTAL_6004 16 0 given
  s.addElem p O.POOL_RETAINED_6004 16 0 (split.2 - given)

/-- R407: TOTALS_CLEAR clears the totals together. -/
def State.clearTotals (s : State) (d : Die) : State :=
  let p := Part.staris d
  let e := s.en d
  if e.clearTotals then
    let s := s.setEn d { e with clearTotals := false }
    let s := s.setBytes p O.RAIL_ENERGY_6004 0 (List.replicate 256 0)
    let s := s.setBytes p O.ATTR_TOTAL_6004 0 (List.replicate 16 0)
    let s := s.setBytes p O.ALLOC_TOTAL_6004 0 (List.replicate 16 0)
    s.setBytes p O.POOL_RETAINED_6004 0 (List.replicate 16 0)
  else s

/-! ### Records (R392 to R398) -/

/-- Hours of CAL_LIFE in nanoseconds. -/
def hoursNs (h : Nat) : Nat := h * 3600 * 10 ^ 9

/-- CAL_STALE as Staris sets it (R398): CAL_TIME is zero, or lies more than CAL_LIFE before the last extended time from Vager,
which no message that the spec gives carries: a free value (log entry 3). -/
def State.calStale (s : State) (d : Die) : Bool × State :=
  let p := Part.staris d
  let cal := s.rd p O.CAL_TIME_6001
  if cal = 0 then (true, s)
  else
    let (t, s) := s.takeNat
    (decide (cal + hoursNs (s.rd p O.CAL_LIFE_6000) < t % 2 ^ 64), s)

/-- The P term of R395. -/
def uncP (total ppm : Nat) : Nat := ceilDiv (total * ppm) (10 ^ 6)

/-- R395: the uncertainty bound of a segment. -/
def uncBound (q : EnergyReq) (ppm : Nat) : Nat :=
  let total := q.attr + q.alloc
  uncP total ppm + (if q.slices < 100 then uncP total 10000 else 0) + q.extra

/-- FLAGS of a record (R398), from bit 8 on. -/
def recordFlags (q : EnergyReq) (final deferred replaced stale restart : Bool) : Nat :=
  ofBool final + 2 * ofBool deferred + 4 * ofBool replaced + 8 * ofBool q.unlocked + 16 * ofBool stale + 32 * ofBool q.fill
    + 64 * ofBool restart

/-- Record granule 1 (R398). -/
def recordGranule1 (q : EnergyReq) (ctx endNs eseq cfg flags : Nat) : Nat :=
  fld 192 64 q.reqId + fld 160 32 q.epoch + fld 128 32 endNs + fld 96 32 q.start + fld 64 32 eseq + fld 48 16 q.seg
    + fld 34 14 ctx + fld 16 16 cfg + fld 8 8 flags + 0x60

/-- Record granule 2 (R398). -/
def recordGranule2 (q : EnergyReq) (unc : Nat) : Nat :=
  fld 192 64 q.attr + fld 128 64 q.alloc + fld 64 64 unc + fld 32 32 q.slices

/-- The record of a segment that ends now joins the record queue (R394, R395, R397). -/
def State.pushEnergy (s : State) (d : Die) (ctx : Nat) (q : EnergyReq) (final deferred replaced : Bool) : State :=
  let p := Part.staris d
  let (stale, s) := s.calStale d
  let ppm := if stale then s.rd p O.UNCAL_PPM_6000 else s.rd p O.ACC_PPM_6000
  let e := s.en d
  let flags := recordFlags q final (deferred || q.deferred) replaced stale e.restart
  let g1 := recordGranule1 q ctx (s.ns p) (s.rd p O.ESEQ_NEXT_6004) (s.rd p O.CFG_SEQ_6000) flags
  let s := s.setEn d { e with queue := e.queue ++ [(g1, recordGranule2 q (uncBound q ppm))], restart := false }
  s.bump p O.ESEQ_NEXT_6004 32

/-- The record queue has room (R397). -/
def State.energyRoom (s : State) (d : Die) : Bool := decide ((s.en d).queue.length < 8192)

/-- The open request of context `ctx` replaced, or closed. -/
def State.setReq (s : State) (d : Die) (ctx : Nat) (q : Option EnergyReq) : State :=
  let e := s.en d
  s.setEn d { e with reqs := match q with
    | some q => Tbl.insert e.reqs ctx q
    | none => Tbl.erase e.reqs ctx }

/-- The waiting operation of context `ctx` replaced, or served. -/
def State.setOp (s : State) (d : Die) (ctx : Nat) (o : Option EnergyOp) : State :=
  let e := s.en d
  s.setEn d { e with ops := match o with
    | some o => Tbl.insert e.ops ctx o
    | none => Tbl.erase e.ops ctx }

/-- R392, R393, R397: an operation on a context with an open request ends it with a final record, or waits for room. -/
def State.finalRecord (s : State) (d : Die) (x : Nat × EnergyOp) : State :=
  match Tbl.find (s.en d).reqs x.1 with
  | none => s
  | some q =>
    if s.energyRoom d then
      let s := (s.pushEnergy d x.1 q true x.2.deferred (!x.2.close)).setReq d x.1 none
      if x.2.close then s.setOp d x.1 none else s
    else (s.setOp d x.1 (some { x.2 with deferred := true })).bump (.staris d) O.DEFERRED_6004 32

/-- The next segment of a request, which begins now (R394). -/
def State.nextSegment (s : State) (d : Die) (q : EnergyReq) : EnergyReq :=
  { reqId := q.reqId, epoch := q.epoch, start := s.ns (.staris d), seg := (q.seg + 1) % 2 ^ 16,
    unlocked := s.tstate (.staris d) != 2 }

/-- A segment ends with its record and the next begins (R394). -/
def State.endSegment (s : State) (d : Die) (x : Nat × EnergyReq) : State :=
  (s.pushEnergy d x.1 x.2 false false false).setReq d x.1 (some (s.nextSegment d x.2))

/-- R394, R397: a request whose segment has reached SEG_SLICES slices, where the queue has room. -/
def State.fullSegment (s : State) (d : Die) (x : Nat × EnergyReq) : State :=
  if s.rd (.staris d) O.SEG_SLICES_6000 ≤ x.2.slices then
    if s.energyRoom d then s.endSegment d x
    else (s.setReq d x.1 (some { x.2 with deferred := true })).bump (.staris d) O.DEFERRED_6004 32
  else s

/-- R392, R393: an operation that no longer waits for a record: an OPEN begins its request, a CLOSE has no effect. -/
def State.serveOp (s : State) (d : Die) (x : Nat × EnergyOp) : State :=
  if (Tbl.find (s.en d).reqs x.1).isSome then s
  else
    let s := s.setOp d x.1 none
    if x.2.close then s.bump (.staris d) O.CLOSE_IGNORED_6004 32
    else
      s.setReq d x.1 (some { reqId := x.2.reqId, epoch := x.2.epoch, start := s.ns (.staris d)
                             unlocked := s.tstate (.staris d) != 2 })

/-- The bytes of the ledger configuration in ascending index and sub-index order (R399). -/
def State.ledgerBytes (s : State) (d : Die) : List Nat :=
  let p := Part.staris d
  toBytes 1 (s.rd p O.POLICY_6000) ++ toBytes 4 (s.rd p O.SEG_SLICES_6000) ++ toBytes 4 (s.rd p O.ACC_PPM_6000)
    ++ toBytes 4 (s.rd p O.UNCAL_PPM_6000) ++ toBytes 4 (s.rd p O.CAL_LIFE_6000)
    ++ s.bytesAt p O.CAL_GAIN_6001 0 128 ++ s.bytesAt p O.CAL_V_OFF_6001 0 32 ++ s.bytesAt p O.CAL_I_OFF_6001 0 32
    ++ toBytes 8 (s.rd p O.CAL_TIME_6001)
    ++ s.bytesAt p O.IDLE_FLOOR_6002 0 128 ++ s.bytesAt p O.INPUT_WEIGHT_6002 0 4096
    ++ s.bytesAt p O.RAIL_WEIGHT_6002 0 4096 ++ s.bytesAt p O.CTX_WEIGHT_6002 0 16384

/-- R399: the queue has room for the segments that a configuration change ends and for its CONFIG event. -/
def State.configRoom (s : State) (d : Die) : Bool :=
  decide ((s.en d).queue.length + (s.en d).reqs.length + 1 ≤ 8192)

/-- R399: a configuration change ends the segment of every open request. -/
def State.endSegments (s : State) (d : Die) : State := (s.en d).reqs.foldl (fun s x => s.endSegment d x) s

/-- R399: the new configuration is numbered and digested, and its CONFIG event goes to Vager. The event's layout is the
model's (log entry 44). -/
def State.announceConfig (s : State) (d : Die) : State :=
  let p := Part.staris d
  let s := s.bump p O.CFG_SEQ_6000 16
  let digest := sha384 (s.ledgerBytes d)
  let s := s.setBytes p O.CFG_DIGEST_6000 0 digest
  let e := s.en d
  let g1 := fld 128 128 (ofBytes (digest.drop 32)) + fld 16 16 (s.rd p O.CFG_SEQ_6000) + 0x61
  s.setEn d { e with queue := e.queue ++ [(g1, ofBytes (digest.take 32))] }

/-- The header granule of a control message of `n` granules (R175). -/
def controlHeader (mtype qtime head n : Nat) : Nat := fld 64 192 head + fld 32 32 qtime + fld 16 16 n + mtype % 256

/-- The tag of an ENERGY message (R398). -/
def energyTag (key g0 g1 g2 : Nat) : List Nat := hmac384 (toBytes 48 key) (toBytes 32 g0 ++ toBytes 32 g1 ++ toBytes 32 g2)

/-- R398: the head of the record queue enters the control queue under the link key in force. -/
def State.sendEnergy (s : State) (d : Die) : State :=
  let e := s.en d
  match e.queue, (s.die d).link.key with
  | (g1, g2) :: rest, some key =>
    let g0 := controlHeader 0x04 (s.qtime false d).1 0 5
    let tag := energyTag key g0 g1 g2
    (s.setEn d { e with queue := rest }).sendControl false d 0x04 0 [g1, g2, ofBytes (tag.take 32), ofBytes (tag.drop 32)]
  | _, _ => s

/-! ### The commands of a Staris -/

/-- R392: the first code that refuses an operation. -/
def opRefusal (e : Energy) (op ctx reqId : Nat) : Option Nat :=
  if ctx = 0 ∨ 16383 < ctx then some 1
  else if op = 1 ∧ reqId = 0 then some 2
  else if (Tbl.find e.ops ctx).isSome then some 3
  else if op ≠ 1 ∧ op ≠ 2 then some 4
  else none

/-- R392: an operation on an energy context, by a write of REQ_COMMAND or by an energy mark. -/
def State.energyOp (s : State) (d : Die) (w : Option Writer) (op ctx reqId epoch : Nat) : State :=
  let p := Part.staris d
  match opRefusal (s.en d) op ctx reqId with
  | some c =>
    if w.isSome then ((s.bump p O.REQ_REFUSED_6003 32).wr p O.REQ_REFUSE_CODE_6003 c).answer stRefused
    else (s.bump p O.MARKS_REFUSED_6004 32).emit (.markAck d.val true)
  | none =>
    let s := s.setOp d ctx (some { close := op == 2, reqId := reqId % 2 ^ 64, epoch := epoch % 2 ^ 32 })
    if w.isSome then s.answer stOk else s.emit (.markAck d.val false)

/-- REQUEST_OPEN (R392). -/
def execRequestOpen (d : Die) (w : Option Writer) (ctx reqId epoch : Nat) (s : State) : Result :=
  .next (s.energyOp d w 1 ctx reqId epoch)

/-- REQUEST_CLOSE (R392). -/
def execRequestClose (d : Die) (w : Option Writer) (ctx reqId epoch : Nat) (s : State) : Result :=
  .next (s.energyOp d w 2 ctx reqId epoch)

/-- TOTALS_CLEAR (R407). -/
def execTotalsClear (d : Die) (w : Writer) (s : State) : Result :=
  .next (s.writeBy w true .fleet fun s => (s.setEn d { s.en d with clearTotals := true }).answer stOk)

/-! ### Batches at Vager (R400 to R406) -/

/-- The ledger of Vager replaced. -/
def State.setLedger (s : State) (l : Ledger) : State := s.setVager { s.vager with ledger := l }

/-- The bytes of an entry (R403). -/
def entryBytes (x : Nat × Nat × Nat) : List Nat := toBytes 32 x.1 ++ toBytes 32 x.2.1 ++ toBytes 32 x.2.2

/-- The third granule of an entry (R403). -/
def State.entryTail (s : State) (p : Die) (etype start stop vflags : Nat) : Nat :=
  fld 192 64 start + fld 128 64 stop + fld 115 13 s.vager.tree.self + fld 111 4 p.val + fld 106 5 vflags + etype

/-- The bytes of a batch held in the ring (R404). -/
def Batch.bytes (b : Batch) : List Nat := b.header ++ b.signature ++ b.body

/-- The header of a batch (R404). -/
def State.batchHeader (s : State) (window : Nat × Nat) (body : List Nat) (dropped : Bool) : Nat :=
  let v := Part.vager
  let l := s.vager.ledger
  let cert := s.bytesAt v O.SIGN_CERT_6080 0 (s.rd v O.SIGN_CERT_BYTES_6080)
  fld 1152 384 (ofBytes (sha384 cert))
    + fld 768 384 (if l.chainStart then 0 else ofBytes l.prev)
    + fld 384 384 (ofBytes (sha384 body))
    + fld 352 32 (s.rd v O.POWER_CYCLES_7841) + fld 320 32 l.lostBodies + fld 288 32 l.gaps + fld 256 32 l.late
    + fld 192 64 (s.rd v O.BSN_NEXT_6081) + fld 128 64 window.1 + fld 64 64 (window.1 + window.2)
    + fld 32 32 l.entries.length + fld 19 13 s.vager.tree.self
    + fld 8 8 (ofBool l.chainStart + 2 * ofBool l.part + 4 * ofBool dropped) + 1

/-- R402, R404, R406: the open batch closes: it is signed and chained, and held with its body if the ring has room. `part` says
that the window goes on. -/
def State.closeBatch (s : State) (part : Bool) : State :=
  let v := Part.vager
  let l := s.vager.ledger
  match l.window with
  | none => s
  | some w =>
    if l.entries.isEmpty then s.setLedger { l with window := none, part := false }
    else
      let body := (l.entries.map entryBytes).flatten
      let used := (l.held.map fun b => b.bytes.length).sum
      let dropped := decide (s.rd v O.BATCH_RING_BYTES_6080 < used + 288 + body.length)
      let header := toBytes 192 (s.batchHeader w body dropped)
      let (sig, s) := s.takeNat
      let signature := toBytes 96 sig
      let b : Batch := { bsn := s.rd v O.BSN_NEXT_6081, header := header, signature := signature
                         body := if dropped then [] else body }
      let records := (l.entries.filter fun e => e.2.2 % 256 == 1).length
      let s := s.setLedger { l with
        entries := [], window := if part then some w else none, part := part, gaps := 0, late := 0, chainStart := false
        prev := sha384 (header ++ signature), lostBodies := if dropped then l.lostBodies + 1 else 0
        held := l.held ++ [b] }
      let s := if dropped then s.bump v O.BODIES_DROPPED_6081 32 else s
      let s := s.bump v O.RECORDS_SIGNED_6082 64 records
      let s := s.bump v O.BSN_NEXT_6081 64
      s.msix v (s.rd v O.BATCH_VECTOR_6080)

/-- R402: the merge releases a message whose extended QTIME is `q`: a batch whose window ends before it closes. -/
def State.batchWindow (s : State) (q : Nat) : State :=
  match s.vager.ledger.window with
  | some w => if w.1 + w.2 ≤ q then s.closeBatch false else s
  | none => s

/-- R402: an entry joins the open batch, which the entry opens where there is none. -/
def State.batchEntry (s : State) (q : Nat) (e : Nat × Nat × Nat) : State :=
  let v := Part.vager
  let l := s.vager.ledger
  let len := s.rd v O.BATCH_TIME_6080 * 1000
  let w := l.window.getD (q / len * len, len)
  let l := { l with
    window := some w, entries := l.entries ++ [e]
    gaps := l.gaps + (if e.2.2 % 256 = 2 then 1 else 0), late := l.late + (if bitAt e.2.2 106 then 1 else 0) }
  let s := s.setLedger l
  if s.rd v O.BATCH_MAX_6080 ≤ l.entries.length then s.closeBatch true else s

/-- What R405 takes of the Staris's configuration as it stands. -/
def State.ledgerCfg (s : State) (p : Die) : LedgerCfg :=
  let d := Part.staris p;
  { calTime := s.rd d O.CAL_TIME_6001, life := s.rd d O.CAL_LIFE_6000, acc := s.rd d O.ACC_PPM_6000,
    uncal := s.rd d O.UNCAL_PPM_6000 }

/-- R403: a CONFIG event announces a configuration of port `p`. -/
def State.configEvent (s : State) (p : Die) (g1 g2 : Nat) : State :=
  let l := s.vager.ledger
  let k := p.val * 65536 + bits g1 31 16
  s.setLedger { l with cfgs := Tbl.insert l.cfgs k (g2, bits g1 255 128), params := Tbl.insert l.params k (s.ledgerCfg p)
                       declared := l.declared.filter (· != k) }

/-- R400: the GAP entry of a record, if it needs one, and the expected ESEQ after it. -/
def State.eseqCheck (s : State) (p : Die) (q eseq : Nat) (restart : Bool) : State :=
  let v := Part.vager
  let want := s.elem v O.PORT_ESEQ_6082 4 p.val
  let gap := fun (s : State) n => s.batchEntry q (fld 64 32 want, fld 32 32 n, s.entryTail p 2 0 0 0)
  let s := if restart then gap s 0xFFFFFFFF
    else if eseq = want then s
    else
      let n := subMod 32 eseq want
      gap (s.addElem v O.ESEQ_GAPS_6082 4 p.val n) n
  s.setElem v O.PORT_ESEQ_6082 4 p.val ((eseq + 1) % 2 ^ 32)

/-- R403: the CONFIG entry of a CFG_SEQ that no batch of the chain has declared. -/
def State.declareConfig (s : State) (p : Die) (q cfg : Nat) : State :=
  let l := s.vager.ledger
  let k := p.val * 65536 + cfg
  match Tbl.find l.cfgs k with
  | none => s
  | some (d0, d1) =>
    if l.declared.contains k then s
    else
      let s := s.setLedger { l with declared := k :: l.declared }
      s.batchEntry q (d0, fld 128 16 cfg + d1 % 2 ^ 128, s.entryTail p 3 0 0 0)

/-- R405: Vager's own bound of a record: its P term with the validity that Vager judges, the other terms as the record has
them. -/
def recomputeUnc (c : LedgerCfg) (g1 g2 endExt : Nat) : Nat :=
  let total := bits g2 255 192 + bits g2 191 128
  let unc := bits g2 127 64
  let valid := c.calTime != 0 && decide (endExt ≤ c.calTime + hoursNs c.life)
  let pS := if bitAt g1 12 then c.uncal else c.acc
  let pV := if valid then c.acc else c.uncal
  unc + uncP total pV - uncP total pS

/-- R400 to R405: a record of port `p` that the merge releases at extended QTIME `q`. -/
def State.energyRecord (s : State) (p : Die) (q g1 g2 : Nat) (late : Bool) : State :=
  let v := Part.vager
  let s := s.eseqCheck p q (bits g1 95 64) (bitAt g1 14)
  let endNs := bits g1 159 128
  let endExt := s.extend endNs
  let startExt := endExt - subMod 32 endNs (bits g1 127 96)
  let cfg := bits g1 31 16
  let s := s.declareConfig p q cfg
  let c := (Tbl.find s.vager.ledger.params (p.val * 65536 + cfg)).getD (s.ledgerCfg p)
  let unc := recomputeUnc c g1 g2 endExt
  let raised := decide (bits g2 127 64 < unc)
  let s := if raised then s.bump v O.UNC_RAISED_6082 32 else s
  let s := if late then s.bump v O.LATE_RECORDS_6082 32 else s
  let changed := s.rd v (O.PAIR_STATUS_3810 p.val) == 2
  let flags := ofBool late + 2 * ofBool changed + 4 * ofBool raised
  s.batchEntry q (g1, if raised then setFld g2 64 64 unc else g2, s.entryTail p 1 startExt endExt flags)

/-- R400: an ENERGY message, whole: its tag is verified under the port's link key, and it is batched or discarded. -/
def State.energyRx (s : State) (m : CtlMsg) (q : Nat) : State :=
  let v := Part.vager
  let p : Die := Fin.ofNat 16 m.port
  match m.body.map MGran.data, (s.link true p).key with
  | [g1, g2, t0, t1], some key =>
    let tag := energyTag key (controlHeader m.mtype m.qtime m.head 5) g1 g2
    if ofBytes (tag.take 32) = t0 ∧ ofBytes (tag.drop 32) = t1 then
      if g1 % 256 = 0x61 then s.configEvent p g1 g2 else s.energyRecord p q g1 g2 m.late
    else (s.addElem v O.MAC_FAILS_6082 4 p.val 1).report { code := 0x32, severity := 4, die := p, dieValid := true, detail := p }
  | _, _ =>
    (s.addElem v O.MAC_FAILS_6082 4 p.val 1).report { code := 0x32, severity := 4, die := p, dieValid := true, detail := p }

/-- BATCH_ACK (R406): every batch up to and including the BSN is freed. -/
def execBatchAck (w : Writer) (bsn : Nat) (s : State) : Result :=
  .next (s.writeBy w false .host fun s =>
    let l := s.vager.ledger
    (s.setLedger { l with held := l.held.filter fun b => decide (bsn < b.bsn) }).answer stOk)

end Sys2Proof.Machine
end

