-- ==== Sys2Proof/Machine/Merge.lean ====
section
/-! DEFINITION. Machine/Merge.lean: the merge of the control messages of sixteen links, and what Vager does with each (R179, R180, R198,
R302, R400, R455, R518, R520, R539). -/

namespace Sys2Proof.Machine
open Sys2Proof

/-! ### Consumers of control messages -/

/-- The body of a dictionary message: BODY, then the body granules, byte 0 first (R519). -/
def CtlMsg.bytes (m : CtlMsg) : List Nat := toBytes 24 m.head ++ (m.body.map fun g => toBytes 32 g.data).flatten

/-- The bytes of a group outcome with its counter time extended (R518). -/
def State.extendOutcome (s : State) (bs : List Nat) : List Nat := bs.take 8 ++ toBytes 8 (s.extend (ofBytes ((bs.drop 8).take 4)))

/-- A DICT_RESP of TID 0: a group that has left pending at the Staris of port `p` (R518). A group that Vager held and forwarded
leaves here; one that the Staris formed of its own is notified. -/
def State.remoteOutcome (s : State) (p : Die) (bs : List Nat) : State :=
  let bs := s.extendOutcome bs
  let g := ofBytes (bs.take 4)
  match (s.staging .vager).groups.find? fun x => x.node == p.val + 1 && x.remote == some g with
  | some x => s.groupLeaves .vager x (bs.getD 4 0) (bs.getD 5 0) (bs.getD 6 0) (ofBytes ((bs.drop 8).take 8))
  | none => s.notify 1 (p.val + 1) 0x1020 4 bs

/-- A DICT_RESP (R520): matched to its request, taken as a group outcome, or discarded as late and counted. -/
def State.dictResp (s : State) (p : Die) (m : CtlMsg) : State :=
  let r := readResp m.bytes
  if r.tid = 0 then
    match r.entries with
    | e :: _ => s.remoteOutcome p e.data
    | [] => s
  else
    let x := s.proxy p.val
    match x.outstanding.find? fun i => i.tid == r.tid with
    | some i =>
      let s := s.setProxy p.val { x with outstanding := x.outstanding.filter fun j => j.tid != r.tid }
      let s := s.wr .vager (O.PROXY_LAST_RTT_1030 p.val) ((s.extNow - i.sent) % 2 ^ 32)
      State.proxyPump 1 (s.proxyAnswered i r.entries) p
    | none => s.bump .vager (O.PROXY_LATE_1030 p.val) 32

/-- An EVENT: a Staris's record, extended and completed, enters the holding queue (R539). -/
def State.eventRx (s : State) (p : Die) (m : CtlMsg) : State :=
  match m.body.map MGran.data with
  | [a, b] =>
    let r := readRecord (a % 2 ^ 256 + b * 2 ^ 256)
    s.recordLost.pushRecord { r with
      time := if r.timeValid then s.extend (r.time / 2 ^ 32) else 0
      node := p.val + 1, sseq := r.seq % 2 ^ 16, seq := 0
      opHours := s.rd .vager O.OP_HOURS_7841, opSeconds := s.vager.hourTicks / 10 ^ 9
      powerCycles := s.rd .vager O.POWER_CYCLES_7841 }
  | _ => s

/-- Severity of a hang report by its phase (R454). -/
def hangSeverity (phase : Nat) : Nat := if phase = 5 then 4 else if phase = 4 then 3 else 0

/-- A hang report (R454, R462); phase 4 is recorded in NOR with the port's paired digest (R467). -/
def State.hangRx (s : State) (p : Die) (g : Nat) : State :=
  let phase := bits g 63 56
  let s := s.report { code := 0x20, severity := hangSeverity phase, die := p.val, dieValid := true, epoch := bits g 191 160,
                      detail := phase, granule1 := g }
  if phase = 4 then
    let s := s.wr .vager (O.PORT_SERVICE_70C0 p.val) 1
    s.setBytes .vager (O.PORT_OOS_DIGEST_70C0 p.val) 0 (s.bytesAt .vager (O.PAIRED_DIGEST_3810 p.val) 0 48)
  else s

/-- A Staris SRAM classifier event (R455): its code is that of the bank state, RUN with a spare brought in, DEGRADED or FAILED (R454;
log entry 139). -/
def State.sramRx (s : State) (p : Die) (g : Nat) : State :=
  let st := min 2 (bits g 239 232)
  s.report { code := 1 + st, severity := st, inst := bits g 255 240, cls := 0xFF, die := p.val, dieValid := true, granule1 := g }

/-- A FAULT message: one report (R455). A TYPE that R455 does not name is discarded. -/
def State.faultRx (s : State) (p : Die) (m : CtlMsg) : State :=
  match m.body with
  | [x] =>
    let g := x.data
    if g % 256 = 0x50 then s.digestEventRx p g
    else if g % 256 = 0x70 then s.hangRx p g
    else if g % 256 = 0x71 then s.sramRx p g
    else s
  | _ => s

/-- A control message reaches its consumer (R175). -/
def State.deliverControl (s : State) (m : CtlMsg) (q : Nat) : State :=
  let p : Die := Fin.ofNat 16 m.port
  if m.mtype = 2 then s.dictResp p m
  else if m.mtype = 3 then s.eventRx p m
  else if m.mtype = 4 then s.energyRx m q
  else if m.mtype = 5 then s.snapshotPart m.port m.head (m.body.map MGran.data)
  else if m.mtype = 6 then s.faultRx p m
  else s

/-! ### The merge (R179, R180) -/

/-- age of R179: counter nanoseconds relative to Vager's now. -/
def State.age (s : State) (t : Nat) : Int := signedDiff32 t (s.ns .vager)

/-- Port `q` counts in the merge. -/
def State.portCounted (s : State) (q : Die) : Bool := s.linkUp true q && (s.link true q).counted

/-- QTIME `t` lies before the last message released (R180). -/
def State.beforeLast (s : State) (t : Nat) : Bool :=
  match s.vager.lastRelease with
  | some r => decide (s.age t < s.age r)
  | none => false

/-- A late message is released at once with its mark, and counted (R180). -/
def State.releaseLate (s : State) (m : CtlMsg) : State :=
  let s := s.bump .vager (O.MERGE_LATE_3810 m.port) 32
  s.deliverControl { m with late := true } (s.extend m.qtime)

/-- The link of port `q` is in PAIRING, when no message but those of the key exchange reaches a consumer (R485). -/
def State.pairing (s : State) (q : Nat) : Bool := s.linkState true (Fin.ofNat 16 q) == 2

/-- A whole control message arrives at Vager: into the merge, or late at once (R180). In PAIRING an answer of the key exchange goes to
its request and any other message waits (R484, R485). -/
def State.controlArrives (s : State) (m : CtlMsg) : State :=
  if s.pairing m.port then
    if m.mtype = 2 then s.deliverControl m (s.extend m.qtime) else s.setVager { s.vager with merge := s.vager.merge ++ [m] }
  else if s.portCounted (Fin.ofNat 16 m.port) = false ∨ s.beforeLast m.qtime then s.releaseLate m
  else s.setVager { s.vager with merge := s.vager.merge ++ [m] }

/-- `a` goes before `b` in the merge: by QTIME, then by port. -/
def State.mergeBefore (s : State) (a b : CtlMsg) : Bool :=
  decide (s.age a.qtime < s.age b.qtime) || (s.age a.qtime == s.age b.qtime && decide (a.port < b.port))

/-- The queued head message that comes first in the order of R179: the earliest arrival of its port. -/
def State.mergeHead (s : State) : Option CtlMsg :=
  let heads := allDies.filterMap fun p => s.vager.merge.find? fun m => m.port == p.val && !s.pairing m.port
  heads.foldl (fun b m => match b with
    | none => some m
    | some x => if s.mergeBefore m x then some m else some x) none

/-- Every other counted port's mark has reached the message's QTIME. -/
def State.marksReach (s : State) (m : CtlMsg) : Bool :=
  allDies.all fun q => q.val == m.port || !s.portCounted q || decide (s.age m.qtime ≤ s.age (s.link true q).peerMark)

/-- A queued message is released late: its port has stopped counting, or a later message has gone (R180). -/
def State.mustGo (s : State) (m : CtlMsg) : Bool :=
  !s.pairing m.port && (!s.portCounted (Fin.ofNat 16 m.port) || s.beforeLast m.qtime)

/-- CONTROL_MERGE_RELEASE. A queued message whose port has stopped counting is released late; otherwise the first message is
released once no counted port can send an earlier one, and a batch whose window it ends closes first (R179, R180, R402). -/
def execControlMergeRelease (s : State) : Result :=
  match s.vager.merge.find? fun m => s.mustGo m with
  | some m => .next ((s.setVager { s.vager with merge := s.vager.merge.erase m }).releaseLate m)
  | none =>
    match s.mergeHead with
    | none => .next s
    | some m =>
      if s.marksReach m then
        let s := s.setVager { s.vager with merge := s.vager.merge.erase m, lastRelease := some m.qtime }
        let q := s.extend m.qtime
        .next ((s.batchWindow q).deliverControl m q)
      else .next s

/-- MERGE_STALL_EXPIRY. A port's mark has not advanced within MERGE_STALL: it stops counting, and what it has queued is released
late (R180). -/
def execMergeStallExpiry (p : Die) (s : State) : Result :=
  let s := s.setLink true p { s.link true p with counted := false }
  let goes := fun (m : CtlMsg) => m.port == p.val && !s.pairing m.port
  let mine := s.vager.merge.filter goes
  let s := s.setVager { s.vager with merge := s.vager.merge.filter fun m => !goes m }
  .next (mine.foldl (fun s m => s.releaseLate m) s)

end Sys2Proof.Machine
end

