-- ==== Sys2Proof/Machine/Link.lean ====
section
/-! DEFINITION. Machine/Link.lean: the commands of the Halyard link (chapter 05): training and pairing, LINK_CTL items, lane changes,
and sending and receiving flits. The two ends are named by `v`: Vager's where it is true, else the Staris's. -/

namespace Sys2Proof.Machine
open Sys2Proof

/-! ### Training (R181, R182, R601) -/

/-- A port of Vager begins R182: it is enabled, and step 7 of R550 has been reached. -/
def State.portBegins (s : State) (p : Die) : Bool :=
  s.rd .vager (O.PORT_ENABLE_3810 p.val) == 1 && s.rd .vager O.BOOT_STAGE_7C40 == 5

/-- SIGNAL_DETECT. Seven or more lanes detect signal: DOWN gives way to TRAINING; at Vager while PORT_ENABLE is 1 (R181). -/
def execSignalDetect (v : Bool) (p : Die) (s : State) : Result :=
  if s.linkState v p ≠ 0 ∨ (v ∧ s.portBegins p = false) then .next s
  else .next ((s.setLink v p { s.link v p with attempts := 0, keepState := false }).goLink v p 1)

/-- An attempt at training has failed: FAILED after RETRAIN_LIMIT of them (R181). Vager's object serves both ends. -/
def State.attemptFailed (s : State) (v : Bool) (p : Die) : State :=
  if s.linkState v p ≠ 1 then s
  else
    let l := s.link v p
    let s := s.setLink v p { l with attempts := l.attempts + 1 }
    if s.rd .vager O.RETRAIN_LIMIT_3840 ≤ l.attempts + 1 then s.failLink v p else s

/-- TRAINING_ATTEMPT_FAIL. Fewer than seven lanes have trained (R181). -/
def execTrainingAttemptFail (v : Bool) (p : Die) (s : State) : Result := .next (s.attemptFailed v p)

/-- The lowest `n` lanes of those numbered in the list. -/
def laneMask (l : List Nat) : Nat := (l.map fun i => 2 ^ i).sum

/-- The lanes of a mask, ascending. -/
def lanesOf (m : Nat) : List Nat := (List.range 9).filter fun i => bitAt m i

/-- A retrain that re-forms the lanes has lost lane `i`: one error event, and a retirement taken without the classifier and
reported as one (R448, R601). `spare` is the lane that has taken its place, if one has. -/
def State.laneLost (s : State) (p : Die) (i : Nat) (spare : Option Nat) : State :=
  let v := Part.vager
  let inst := 9 * p.val + i
  let c := s.clf
  let s := s.setClf { c with retired := c.retired ++ [instKey 0 inst] }
  let s := (s.classify 0 inst true).bump v (O.CLS_RETIRED_7090 0) 32
  match spare with
  | some n => s.report { code := 1, detail := 9 * p.val + n, inst := inst, cls := 0, die := p.val, dieValid := true }
  | none =>
    (s.wr v (O.CLS_STATE_7090 0) (max 1 (s.rd v (O.CLS_STATE_7090 0)))).report
      { code := 2, severity := 1, inst := inst, cls := 0, die := p.val, dieValid := true }

/-- LANE_CLEAR takes effect at a link-up: the port's retired lanes are in service again (R188). -/
def State.applyLaneClear (s : State) (p : Die) : State :=
  let l := s.link true p
  if l.laneClear then
    let c := s.clf
    let mine := (List.range 9).map fun i => instKey 0 (9 * p.val + i)
    let s := s.setClf { c with retired := c.retired.filter fun k => !mine.contains k }
    (s.setLink true p { l with laneClear := false, retired := 0 }).wr .vager (O.LANES_RETIRED_3810 p.val) 0
  else s

/-- The end of training at one end with the trained lanes: the eight lowest become active and a ninth the spare (R182). -/
def State.assignLanes (s : State) (v : Bool) (p : Die) (avail : Nat) : State :=
  let ls := lanesOf avail
  let s := s.lwr v p kLanes (laneMask (ls.take 8))
  s.lwr v p kSpare (ls.getD 8 0xFF)

/-- Lanes that did not train are retired at Vager (R182), and those lost in a retrain that re-forms the lanes are reported (R601). -/
def State.retireUntrained (s : State) (p : Die) (avail was spare : Nat) : State :=
  let l := s.link true p
  let out := laneMask ((List.range 9).filter fun i => !bitAt avail i)
  let s := s.setLink true p { l with retired := out }
  let s := s.wr .vager (O.LANES_RETIRED_3810 p.val) out
  if l.keepState then
    let lost := (lanesOf was).filter fun i => !bitAt avail i
    let sub := if spare < 9 ∧ bitAt avail spare then some spare else none
    (lost.mapIdx fun n i => (i, if n = 0 then sub else none)).foldl (fun s e => s.laneLost p e.1 e.2) s
  else s

/-- The buffers of a table by channel, as INIT carries them. -/
def bufferField (t : Tbl Nat) : Nat := ((List.range 6).map fun i => fld (16 * i) 16 (Tbl.get z0 t (i + 1))).sum

/-- A passage of PAIRING begins time words afresh: DOWN words that have had no answer are lost, LOCK falls and both directions count
SEQ again (R56, R58). -/
def State.restartWords (s : State) (v : Bool) (p : Die) : State :=
  if v then
    let n := (s.pt p).sent.length
    let s := s.setPt p { s.pt p with lock := false, agree := 0, downSeq := 0, sent := [] }
    if n = 0 then s else s.bump .vager (O.PORT_LOST_2110 p.val) 32 n
  else s.setSt p { s.st p with lastSeq := none }

/-- PAIRING begins: the flit stream begins at a first codeword (R155) and INIT is sent with the buffers advertised (R169, R182). A
link-up takes the buffers as they now stand and leaves any message that was cut short unsent; a retrain that re-forms the lanes
keeps all of it, and its INIT confirms the buffers in force (R601). -/
def State.enterPairing (s : State) (v : Bool) (p : Die) : State :=
  let l := s.link v p
  let s := if l.keepState then s else s.cutShort v p
  let l := { (s.link v p).clearCtl with
    initDone := false, attempts := 0, window := [], spareDead := false, keyFails := 0, timeWords := [], txBits := 0, txCount := 0, rxWords := [] }
  let own := if l.keepState then bufferField l.myBuf else s.advertised v p
  let l := if l.keepState then l else
    { l with myBuf := initBuffers (initData own), hello := [], lastHello := none, lastReport := none, txMark := none, rxq := []
             txq := l.txq.map fun e => (e.1, e.2.dropWhile fun g => !g.som) }
  ((((s.setLink v p l).restartWords v p).goLink v p 2).pushItem v p { code := ctlInit, data := initData own })

/-- LANE_TRAINING_DONE. Equalisation, deskew and FEC lock are complete on the lanes of `good` (R182, R188, R601). -/
def execLaneTrainingDone (v : Bool) (p : Die) (good : Nat) (s : State) : Result :=
  if s.linkState v p ≠ 1 then .next s
  else
    let s := if v then s.applyLaneClear p else s
    let avail := laneMask ((List.range 9).filter fun i => bitAt good i && !(v && bitAt (s.link v p).retired i))
    if (lanesOf avail).length < 7 then .next (s.attemptFailed v p)
    else
      let was := s.lrd v p kLanes
      let spare := s.lrd v p kSpare
      let s := s.assignLanes v p avail
      let s := if v then s.retireUntrained p avail was spare else s
      .next (s.enterPairing v p)

/-- FEC_LOCK_LOSS. FEC lock is lost: in PAIRING the link trains again (R181); in UP and UP_7, as after a lane change that the two ends
have made differently, it retrains (R186). -/
def execFecLockLoss (v : Bool) (p : Die) (s : State) : Result :=
  .next (if s.linkState v p = 2 then s.goLink v p 1 else s.retrain v p)

/-! ### Pairing (R182, R183) -/

/-- The link passes from PAIRING or RETRAIN to UP, or to UP_7 on seven lanes (R181, R182). What the credit loop measures is a free
value (R171). -/
def State.goUp (s : State) (v : Bool) (p : Die) : State :=
  let s := s.goLink v p (if (lanesOf (s.lrd v p kLanes)).length ≤ 7 then 4 else 3)
  if v then
    let (x, s) := s.takeNat
    s.wr .vager (O.CREDIT_LOOP_3810 p.val) (x % 2 ^ 32)
  else s

/-- LINK_CTL_INIT_RX. The peer's buffers are taken and INIT is answered, and codeword counters, SEQ and credits begin again; where
state is kept, INIT only confirms what is in force (R155, R169, R182, R601). -/
def execLinkCtlInitRx (v : Bool) (p : Die) (item : Nat) (s : State) : Result :=
  let i := readItem item
  if s.linkState v p ≠ 2 ∨ i.code ≠ ctlInit then .next s
  else
    let l := s.link v p
    let l := if l.keepState then l else
      { l with peerBuf := initBuffers i.data, nextSeq := 0, rxNext := 0, replay := [], resend := [], replayFails := 0, nak := false
               sent := [], credit := [], received := [], freed := [], asm := [], rxq := [], cwTx := 0, cwRx := 0 }
    .next ((s.setLink v p l).pushAnswer v p { code := ctlInitAck, seq := i.seq })

/-- LINK_CTL_INIT_ACK_RX. The credit exchange is complete: a Staris sends PAIR_HELLO; a link that has kept its state is UP again
(R182, R601). -/
def execLinkCtlInitAckRx (v : Bool) (p : Die) (item : Nat) (s : State) : Result :=
  let i := readItem item
  if s.linkState v p ≠ 2 ∨ i.code ≠ ctlInitAck ∨ (s.link v p).initDone then .next s
  else
    let s := s.dropItem v p i.seq
    let l := s.link v p
    let s := s.setLink v p { l with initDone := true, keepState := false }
    if l.keepState then .next (s.goUp v p)
    else if v then .next s
    else .next (s.pushItem false p { code := ctlPairHello, digest := s.identityDigest p })

/-- R467: a port recorded out of service with this digest is put out of service again by COMMAND 0x71; one with another digest
has a new die, and its record is cleared. -/
def State.checkService (s : State) (p : Die) (digest : List Nat) : State :=
  let v := Part.vager
  if s.rd v (O.PORT_SERVICE_70C0 p.val) = 0 then s
  else if s.bytesAt v (O.PORT_OOS_DIGEST_70C0 p.val) 0 48 = digest then s.command p (fld 32 8 0x71)
  else (s.wr v (O.PORT_SERVICE_70C0 p.val) 0).setBytes v (O.PORT_OOS_DIGEST_70C0 p.val) 0 (List.replicate 48 0)

/-- PAIR_HELLO's digest is compared with the stored one (R183, R487, R488). -/
def State.pairCheck (s : State) (p : Die) (digest : List Nat) : State :=
  let v := Part.vager
  let stored := s.bytesAt v (O.PAIRED_DIGEST_3810 p.val) 0 48
  let withhold := fun (s : State) b => s.wr v O.PAIR_WITHHELD_7480 (setBit (s.rd v O.PAIR_WITHHELD_7480) p.val b)
  if stored.all (· == 0) then
    (withhold (s.wr v (O.PAIR_STATUS_3810 p.val) 0) false).setBytes v (O.PAIRED_DIGEST_3810 p.val) 0 digest
  else if stored = digest then withhold (s.wr v (O.PAIR_STATUS_3810 p.val) 1) false
  else
    let s := withhold (s.wr v (O.PAIR_STATUS_3810 p.val) 2) true
    let s := s.recordV 0x0012 p.val (fld 48 48 (ofBytes (stored.take 6)) + ofBytes (digest.take 6))
    s.report { code := 0x11, die := p.val, dieValid := true }

/-- PAIR_HELLO_RX. Vager takes PAIR_HELLO with its digest (R183, R467, R484). An item that repeats is taken once. -/
def execPairHelloRx (p : Die) (item : Nat) (digest : List Nat) (s : State) : Result :=
  let i := readItem item
  let l := s.link true p
  if s.linkState true p ≠ 2 ∨ i.code ≠ ctlPairHello ∨ l.lastHello = some i.seq then .next s
  else
    let d := digest.take 48 ++ List.replicate (48 - digest.length) 0
    let s := s.setLink true p { l with lastHello := some i.seq, hello := d, linkups := (l.linkups + 1) % 2 ^ 32 }
    .next ((s.pairCheck p d).checkService p d)

/-- PAIR_ACCEPT. The new digest is stored and what R487 withholds is withheld no more (R183). -/
def execPairAccept (p : Die) (w : Writer) (s : State) : Result :=
  .next (s.writeBy w true .fleet fun s =>
    let v := Part.vager
    if s.rd v (O.PAIR_STATUS_3810 p.val) = 2 then
      let s := s.setBytes v (O.PAIRED_DIGEST_3810 p.val) 0 (s.link true p).hello
      let s := s.wr v (O.PAIR_STATUS_3810 p.val) 1
      (s.wr v O.PAIR_WITHHELD_7480 (setBit (s.rd v O.PAIR_WITHHELD_7480) p.val false)).answer stOk
    else s.answer stOk)

/-! ### Lane changes (R186, R187) -/

/-- LANE_SWAP or LANE_DROP at a Staris: scheduled and answered; one whose CW its count has passed is ignored (R186, R187). -/
def State.takeChange (s : State) (p : Die) (i : CtlItem) (drop : Bool) : State :=
  if i.cw ≤ s.codewords false p then s
  else
    let c : LaneChange := { drop := drop, laneA := i.laneA, laneB := i.laneB, cw := i.cw, seq := i.seq, acked := true }
    (s.setLink false p { s.link false p with change := some c }).pushAnswer false p { code := ctlLaneAck, seq := i.seq }

/-- LANE_SWAP_RX (R186). -/
def execLaneSwapRx (p : Die) (item : Nat) (s : State) : Result :=
  let i := readItem item
  .next (if i.code = ctlLaneSwap then s.takeChange p i false else s)

/-- LANE_DROP_RX (R187). -/
def execLaneDropRx (p : Die) (item : Nat) (s : State) : Result :=
  let i := readItem item
  .next (if i.code = ctlLaneDrop then s.takeChange p i true else s)

/-- LANE_CANCEL_RX. A Staris whose count is below CW drops the pending change and answers (R186). -/
def execLaneCancelRx (p : Die) (item : Nat) (s : State) : Result :=
  let i := readItem item
  if i.code ≠ ctlLaneCancel ∨ i.cw ≤ s.codewords false p then .next s
  else
    let l := s.link false p
    let keep := match l.change with
      | some c => if c.seq = i.seq then none else some c
      | none => none
    .next ((s.setLink false p { l with change := keep }).pushAnswer false p { code := ctlLaneAck, seq := i.seq })

/-- LANE_ACK_RX. A change is agreed; the answer to LANE_CANCEL lets the change be issued again with a new CTL_SEQ and CW (R186). -/
def execLaneAckRx (p : Die) (item : Nat) (s : State) : Result :=
  let i := readItem item
  let l := s.link true p
  match l.change with
  | none => .next s
  | some c =>
    if i.code ≠ ctlLaneAck ∨ c.seq ≠ i.seq then .next s
    else
      let s := s.dropItem true p i.seq
      if c.cancelling then .next (s.issueChange p c.drop c.laneA c.laneB)
      else .next (s.setLink true p { s.link true p with change := some { c with acked := true } })

/-- LANE_ACK_DEADLINE. 1,024 codewords before CW no answer has come: Vager will not switch, and sends LANE_CANCEL (R186). -/
def execLaneAckDeadline (p : Die) (s : State) : Result :=
  let l := s.link true p
  match l.change with
  | none => .next s
  | some c =>
    if c.acked ∨ c.cancelling ∨ s.codewords true p + 1024 < c.cw then .next s
    else
      let s := s.setLink true p { l with change := some { c with cancelling := true } }
      let s := s.dropItem true p c.seq
      .next (s.pushAnswer true p { code := ctlLaneCancel, seq := c.seq, laneA := c.laneA, laneB := c.laneB, cw := c.cw })

/-- LANE_CANCEL_TIMEOUT. LANE_CANCEL has gone unanswered for 100 µs: Vager sends RETRAIN_REQ and retrains; the lane still has to be
retired (R186, R188). -/
def execLaneCancelTimeout (p : Die) (s : State) : Result :=
  let l := s.link true p
  match l.change with
  | none => .next s
  | some c =>
    if c.cancelling = false then .next s
    else
      let s := s.setLink true p { l with change := none, toRetire := c.laneA :: l.toRetire }
      .next ((s.retrain true p).pushItem true p { code := ctlRetrainReq })

/-- The next lane that waits for retirement, once no change is in progress (R448). -/
def State.nextRetire (s : State) (p : Die) : State :=
  let l := s.link true p
  match l.change, l.toRetire with
  | none, i :: t => ((s.setLink true p { l with toRetire := t }).retireNow p i).2
  | _, _ => s

/-- A change is due at one end: its count has reached CW, and at Vager it has been answered (R186). -/
def State.changeDue (s : State) (v : Bool) (p : Die) (drop : Bool) : Option LaneChange :=
  match (s.link v p).change with
  | some c => if c.drop = drop ∧ c.cw ≤ s.codewords v p ∧ (v = false ∨ (c.acked ∧ c.cancelling = false)) then some c else none
  | none => none

/-- LANE_SWITCH. The spare takes the retired lane's place in one direction (R58, R186, R600). -/
def execLaneSwitch (v : Bool) (p : Die) (s : State) : Result :=
  match s.changeDue v p false with
  | none => .next s
  | some c =>
    let s := s.setLink v p { s.link v p with change := none }
    let s := s.lwr v p kLanes (setBit (setBit (s.lrd v p kLanes) c.laneA false) c.laneB true)
    let s := s.lwr v p kSpare 0xFF
    .next (if v then (s.portUnlock p).nextRetire p else s)

/-- LANE_DROP_SWITCH. One end distributes over seven lanes and holds new DATA flits while the receivers re-deskew (R58, R187). -/
def execLaneDropSwitch (v : Bool) (p : Die) (s : State) : Result :=
  match s.changeDue v p true with
  | none => .next s
  | some c =>
    let s := s.setLink v p { s.link v p with change := none, deskew := true }
    let s := s.lwr v p kLanes (setBit (s.lrd v p kLanes) c.laneA false)
    .next (if v then s.portUnlock p else s)

/-- DESKEW_HOLD_END. The hold after a lane drop ends: UP_7 (R187). -/
def execDeskewHoldEnd (v : Bool) (p : Die) (s : State) : Result :=
  let l := s.link v p
  if l.deskew = false then .next s
  else
    let s := s.setLink v p { l with deskew := false }
    let s := if s.linkState v p = 3 then s.goLink v p 4 else s
    .next (if v then s.nextRetire p else s)

/-- LINK_CTL_ABANDON. The oldest item that waits for an answer is given up after 100 µs (R184). -/
def execLinkCtlAbandon (v : Bool) (p : Die) (s : State) : Result :=
  let l := s.link v p
  match l.ctl.findIdx? fun i => i.code != 2 && i.code != 6 with
  | some k => .next (s.setLink v p (l.dropCtl k))
  | none => .next s

/-- LANE_CLEAR. The port's retired lanes return to service at the next link-up (R188). -/
def execLaneClear (p : Die) (w : Writer) (s : State) : Result :=
  .next (s.writeBy w true .fleet fun s => (s.setLink true p { s.link true p with laneClear := true }).answer stOk)

/-! ### Lane windows (R185, R600) -/

/-- What an end has counted on lane `i` in this window; a spare that has lost signal counts above every limit (R600). -/
def State.laneCount (s : State) (v : Bool) (p : Die) (i : Nat) : Nat :=
  let l := s.link v p
  if l.spareDead ∧ i = s.lrd v p kSpare then 0xFFFFFFFF else Tbl.get z0 l.window i

/-- Error events for the lanes whose count is above LANE_SYMBOL_LIMIT, in ascending order (R185). -/
def State.judgeLanes (s : State) (p : Die) (above : Nat → Bool) : State :=
  (List.range 9).foldl (fun s i => if above i then s.classify 0 (9 * p.val + i) true else s) s

/-- LANE_WINDOW_END. Vager judges what it has counted, whatever the link's state; a Staris whose link carries flits sends its counts
in LANE_REPORT (R185, R600). -/
def execLaneWindowEnd (v : Bool) (p : Die) (s : State) : Result :=
  let counts := (List.range 9).map (s.laneCount v p)
  let st := s.linkState v p
  let s1 := s.setLink v p { s.link v p with window := [] }
  if v then
    let limit := s.rd .vager O.LANE_SYMBOL_LIMIT_3840
    let dead := (s.link true p).spareDead
    let spare := s.lrd true p kSpare
    .next (s1.judgeLanes p fun i => decide (limit < counts.getD i 0) || (dead && i == spare))
  else if 3 ≤ st ∧ st ≤ 5 then
    let data := (counts.mapIdx fun i n => fld (24 * i) 24 (min n 0xFFFFFF)).sum
    .next (s1.pushItem false p { code := ctlLaneReport, data := data })
  else .next s1

/-- LANE_REPORT_RX. Vager judges the counts that a Staris has sent (R185); a full count of the spare lane is a loss of signal, which
is above every limit (R600). A report that repeats is taken once. -/
def execLaneReportRx (p : Die) (item : Nat) (s : State) : Result :=
  let i := readItem item
  let l := s.link true p
  if i.code ≠ ctlLaneReport ∨ l.lastReport = some i.seq then .next s
  else
    let s := s.setLink true p { l with lastReport := some i.seq }
    let limit := s.rd .vager O.LANE_SYMBOL_LIMIT_3840
    let spare := s.lrd true p kSpare
    .next (s.judgeLanes p fun k =>
      let n := i.data / 2 ^ (24 * k) % 2 ^ 24
      decide (limit < n) || (n == 0xFFFFFF && k == spare))

/-! ### Retraining and signal (R181, R601) -/

/-- RETRAIN_REQ_RX. The peer asks for a retrain (R181). -/
def execRetrainReqRx (v : Bool) (p : Die) (s : State) : Result := .next (s.retrain v p)

/-- RETRAIN_DONE. A retrain has ended with the same lanes: UP or UP_7 (R166, R181). -/
def execRetrainDone (v : Bool) (p : Die) (s : State) : Result :=
  if s.linkState v p ≠ 5 then .next s
  else
    let l := s.link v p
    let s := s.setLink v p { l with replayFails := 0, ctl := l.ctl.filter fun i => i.code != ctlRetrainReq, ctlTurn := 0 }
    let s := s.goUp v p
    .next (if v then s.nextRetire p else s)

/-- RETRAIN_TIMEOUT. A retrain has not ended within 2 ms: the lanes must re-form, and what R601 names is kept (R181, R601). -/
def execRetrainTimeout (v : Bool) (p : Die) (s : State) : Result :=
  if s.linkState v p ≠ 5 then .next s
  else
    let l := s.link v p
    .next ((s.setLink v p { l with keepState := true, attempts := 0, ctl := [], ctlTurn := 0 }).goLink v p 1)

/-- An end goes to DOWN: a later link-up begins afresh. -/
def State.linkDown (s : State) (v : Bool) (p : Die) : State :=
  let s := (s.goLink v p 0).cutShort v p
  s.setLink v p { (s.link v p).clearCtl with keepState := false, attempts := 0, retrains := 0 }

/-- LANE_SIGNAL_LOSS. `detect` is the lanes on which an end's receivers detect signal (R181, R600, R601). -/
def execLaneSignalLoss (v : Bool) (p : Die) (detect : Nat) (s : State) : Result :=
  let st := s.linkState v p
  let lost := ((lanesOf (s.lrd v p kLanes)).filter fun i => !bitAt detect i).length
  let spare := s.lrd v p kSpare
  let s := s.setLink v p { s.link v p with spareDead := decide (spare < 9) && !bitAt detect spare }
  if st = 3 then
    if lost = 0 then .next s
    else if lost = 1 then .next ((s.retrain v p).pushItem v p { code := ctlRetrainReq })
    else .next (s.failLink v p)
  else if st = 4 then .next (if lost = 0 then s else s.failLink v p)
  else if (st = 1 ∨ st = 2 ∨ st = 5) ∧ (lanesOf detect).length < 7 then .next (s.linkDown v p)
  else .next s

/-- FAILED_SILENCE_TIMEOUT. A Staris in FAILED has detected no signal for 1 ms: DOWN (R181). -/
def execFailedSilenceTimeout (d : Die) (s : State) : Result :=
  .next (if s.linkState false d = 6 then s.linkDown false d else s)

/-- PORT_ENABLE_WRITE. 0 takes the port to DOWN in any state (R181). -/
def execPortEnableWrite (p : Die) (w : Writer) (value : Bool) (s : State) : Result :=
  .next (s.writeBy w true .fleet fun s =>
    let s := s.wr .vager (O.PORT_ENABLE_3810 p.val) (ofBool value)
    (if value then s else s.linkDown true p).answer stOk)

/-! ### Sending flits (R159 to R167, R176, R184) -/

/-- The next LINK_CTL item in turn: an answer is sent once, any other again and again until it is answered (R184). -/
def State.sendCtl (s : State) (v : Bool) (p : Die) : Option State :=
  let l := s.link v p
  let k := l.ctlTurn % l.ctl.length
  match l.ctl[k]? with
  | none => none
  | some i =>
    if l.ctlGap < 2 then none
    else
      let s := s.setLink v p (if i.code = 2 ∨ i.code = 6 then l.dropCtl k else { l with ctlTurn := k + 1 })
      let digest := if i.code = ctlPairHello then [(0, { data := ofBytes (i.digest.take 32) : MGran }),
        (0, { data := ofBytes (i.digest.drop 32) : MGran })] else []
      some (s.sendFlit v p ((0, { data := itemGranule i : MGran }) :: digest) l.nextSeq false 3)

/-- A flit of the replay buffer goes out again, next in turn (R165, R167). -/
def State.sendReplay (s : State) (v : Bool) (p : Die) : Option State :=
  let l := s.link v p
  match l.resend with
  | [] => none
  | q :: t =>
    let s := s.setLink v p { l with resend := t, replayMark := (s.txMark v p).1 }
    match l.replay.find? fun f => f.seq == q with
    | some f => some (s.sendFlit v p (replayPayload f.payload) q true 1)
    | none => some (s.sendFlit v p [] l.nextSeq false 2)

/-- The TX_TIME with which a DOWN word has left is the t1 of its exchange (R57). -/
def State.noteTimeSent (s : State) (v : Bool) (p : Die) (payload : List (Nat × MGran)) : State :=
  match v, payload.find? fun e => e.1 == 6 with
  | true, some e =>
    let x := s.pt p
    s.setPt p { x with sent := x.sent.map fun w => if w.seq = bits e.2.data 31 16 then { w with tx := bits e.2.data 255 192 } else w }
  | _, _ => s

/-- The link carries DATA flits: in UP and UP_7, and in PAIRING once the credits are exchanged (R182, R484). -/
def State.carriesData (s : State) (v : Bool) (p : Die) : Bool :=
  s.linkUp v p || (s.linkState v p == 2 && (s.link v p).initDone)

/-- A new DATA flit, where there is something to send and room in the replay buffer (R162, R176). A Staris first moves what waits for
the link into the control queue (R397, R398, R455, R539). -/
def State.sendData (s : State) (v : Bool) (p : Die) : Option State :=
  let s := if v || !s.linkUp v p then s else (s.forwardEvents p).sendEnergy p
  let l := s.link v p
  if 512 ≤ l.replay.length ∨ l.deskew then none
  else
    let f := s.fillFlit v p
    if f.items.isEmpty then none
    else
      let seq := l.nextSeq
      let s := s.setLink v p { f.l with
        nextSeq := (seq + 1) % 4096, replay := f.l.replay ++ [{ seq := seq, payload := f.items }] }
      let s := if v then s
        else (s.setCap p { s.cap p with holding := f.holding }).bump (.staris p) O.STREAM_RECORDS_3060 64 f.taken
      some ((s.noteTimeSent v p f.items).sendFlit v p f.items seq false 1)

/-- FLIT_TRANSMIT. At a flit time: a LINK_CTL flit in every third place while an item waits, a replay or a new DATA flit where the link
carries them, or a NULL (R159, R165, R176, R184). -/
def execFlitTransmit (v : Bool) (p : Die) (s : State) : Result :=
  let st := s.linkState v p
  if (st = 2 ∨ st = 3 ∨ st = 4 ∨ st = 5) = false then .next s
  else
    let null := fun (s : State) => s.sendFlit v p [] (s.link v p).nextSeq false 2
    match s.sendCtl v p with
    | some s => .next s
    | none =>
      if s.carriesData v p = false then .next (null s)
      else match s.sendReplay v p with
        | some s => .next s
        | none => .next ((s.sendData v p).getD (null s))

/-! ### Receiving flits (R163 to R173, R178, R185, R302) -/

/-- The data and poison of a granule whose codeword can be used (R163). -/
def usable : K288 → Option MGran
  | .good x => some { data := x }
  | .corrected x => some { data := x }
  | .poison x => some { data := x, poison := true }
  | .uncorrectable => none

/-- A codeword that was corrected. -/
def isCorrected : K288 → Bool
  | .corrected _ => true
  | _ => false

/-- The header granule's data: Good or Corrected; a poisoned header is uncorrectable (R163). -/
def headerOf (cws : List Nat) : Option Nat :=
  match cws.head?.map k288Decode with
  | some (.good x) => some x
  | some (.corrected x) => some x
  | _ => none

/-- `n` more symbols of a lane in error: in its count of this window, and in FEC_CORRECTED (R185, R189, R600). -/
def State.countLane (s : State) (v : Bool) (p : Die) (lane n : Nat) : State :=
  let l := s.link v p
  let s := s.setLink v p { l with window := Tbl.set z0 l.window lane (Tbl.get z0 l.window lane + n) }
  let k := kFecCorrected v p
  s.setElem (endPart v p) k 4 lane (satAdd 32 (s.elem (endPart v p) k 4 lane) n)

/-- A codeword arrives: its symbols are gathered from the active lanes and decoded. Each corrected symbol counts for its lane; a
codeword not decoded is counted, and is an error event of the lane with most of its symbols, at Vager's classifier whichever end
received it (R154, R185; log entry 28). -/
def State.takeWord (s : State) (v : Bool) (p : Die) (x : LaneWord) : State :=
  let lanes := lanesOf (s.lrd v p kLanes)
  let c := gather lanes x.lanes
  let put := fun (s : State) (m : Nat) (ok : Bool) =>
    let l := s.link v p
    s.setLink v p { l with cwRx := (l.cwRx + 1) % 2 ^ 48, rxWords := l.rxWords ++ [{ bits := m, left := 5140, ok := ok }] }
  match rsDecode c with
  | some (m, fixed) => put (fixed.foldl (fun s i => s.countLane v p (lanes.getD (i % lanes.length) 0) 1) s) m true
  | none =>
    let s := put (s.lbump v p kFecUncorrected 32) (rsMessage c) false
    match x.worst with
    | some i => if i < 9 then s.classify 0 (9 * p.val + i) true else s
    | none => s

/-- The codewords of FLIT_RX arrive, and the symbols of the PRBS in error on the spare lane are counted as its own (R600). -/
def State.takeWords (s : State) (v : Bool) (p : Die) (f : FlitIn) : State :=
  let s := f.words.foldl (fun s x => s.takeWord v p x) s
  let spare := s.lrd v p kSpare
  if f.prbs = 0 ∨ 9 ≤ spare then s else s.countLane v p spare f.prbs

/-- The next `n` bits of the words received: the bits, whether every word they come from was decoded, and what is left. -/
def takeBits : Nat → List RxWord → Option (Nat × Bool × List RxWord)
  | 0, ws => some (0, true, ws)
  | _, [] => none
  | n + 1, w :: t =>
    if n + 1 < w.left then some (w.bits % 2 ^ (n + 1), w.ok, { w with bits := w.bits / 2 ^ (n + 1), left := w.left - (n + 1) } :: t)
    else match takeBits (n + 1 - w.left) t with
      | some (b, ok, rest) => some (w.bits + 2 ^ w.left * b, w.ok && ok, rest)
      | none => none

/-- The next flit of the stream, where all its bits have come: its sixteen codewords, whether every FEC codeword it overlaps was
decoded, and the words left (R154 to R156, R163). -/
def LinkEnd.nextFlit (l : LinkEnd) : Option (List Nat × Bool × List RxWord) :=
  match takeBits 4608 l.rxWords with
  | some (b, ok, rest) => some ((List.range 16).map fun i => b / 2 ^ (288 * i) % 2 ^ 288, ok, rest)
  | none => none

/-- ACK_SEQ frees what it covers in the replay buffer; progress ends a run of replays (R162, R166). -/
def LinkEnd.takeAck (l : LinkEnd) (ack : Nat) : LinkEnd :=
  match l.replay.findIdx? fun f => f.seq == ack with
  | some i =>
    let rest := l.replay.drop (i + 1)
    { l with replay := rest, replayFails := 0, resend := l.resend.filter fun q => rest.any fun f => f.seq == q }
  | none => l

/-- NAK: every unacknowledged flit from NAK_SEQ on is resent; a replay that fails REPLAY_LIMIT times in succession sends the link to
RETRAIN (R165, R166). `mark` is TX_MARK of the flit with the NAK, none at a timeout: a NAK sent within the credit loop of 2.5 µs
(R171) after a replay may not have seen it and asks for nothing new (log entry 157). -/
def State.takeNak (s : State) (v : Bool) (p : Die) (q : Nat) (mark : Option Nat) : State :=
  let l := s.link v p
  let early := match mark with
    | some m => decide (0 < l.replayFails) && decide (signedDiff32 m l.replayMark < 2500)
    | none => false
  if l.resend.isEmpty = false ∨ early = true then s
  else
    let seqs := (l.replay.map SentFlit.seq).dropWhile (· != q)
    if seqs.isEmpty then s
    else if s.rd .vager O.REPLAY_LIMIT_3840 ≤ l.replayFails then s.retrain v p
    else (s.setLink v p { l with resend := seqs, replayFails := l.replayFails + 1 }).lbump v p kReplays 32

/-- What a good header brings: credits, acknowledgements, the mark, and an end to the run of retrains (R160, R165, R169, R180,
R181). A port that has stopped counting counts again once its mark has advanced and passes the last release. -/
def State.takeHeader (s : State) (v : Bool) (p : Die) (h : Nat) : State :=
  let l := s.link v p
  let credit := (List.range 6).foldl (fun t i => Tbl.set z0 t (i + 1) (bits h (16 * i + 100) (16 * i + 85))) l.credit
  let mark := bits h 84 53
  let again := mark != l.peerMark && match s.vager.lastRelease with
    | none => true
    | some r => decide (s.age r < s.age mark)
  let l := ({ l with credit := credit, peerMark := mark, retrains := 0 }).takeAck (bits h 31 20)
  let s := s.setLink v p { l with counted := if v then l.counted || (s.linkUp true p && again) else l.counted }
  if bitAt h 5 then s.takeNak v p (bits h 43 32) (some mark) else s

/-- A failure of R163: NAK is set, once (R164). -/
def State.setNak (s : State) (v : Bool) (p : Die) : State :=
  let l := s.link v p
  if l.nak then s else (s.setLink v p { l with nak := true }).lbump v p kNaks 32

/-- The payload's granules with their channels, from the GMAP field of the header (R157, R158). -/
def payloadOf (h : Nat) (gs : List MGran) : List (Nat × MGran) :=
  gs.mapIdx fun i g =>
    let e := bits h (5 * (i + 1) + 180) (5 * (i + 1) + 176)
    (e / 4, { g with som := bitAt e 1, eom := bitAt e 0 })

/-- The channels that an end receives (R168). -/
def carries (v : Bool) (c : Nat) : Bool := if v then decide (1 ≤ c) && decide (c ≤ 6) else c == 1 || c == 5 || c == 6

/-- The granules of a control message are wrong in LENGTH or MTYPE (R173, R175). -/
def badControl (v : Bool) (gs : List MGran) : Bool :=
  let h := (gs.headD {}).data
  let t := h % 256
  bits h 31 16 != gs.length || !(if v then t == 2 || t == 3 || t == 4 || t == 5 || t == 6 else t == 1 || t == 7 || t == 8)

/-- A whole control message: at Vager it joins the merge; at a Staris it waits for the command that takes it. One in error, or at a
Staris with a poisoned granule, is discarded and counted (R173, R175, R302). -/
def State.wholeControl (s : State) (v : Bool) (p : Die) (gs : List MGran) : State :=
  if badControl v gs ∧ ((gs.headD {}).poison = false) then s.lbump v p kFraming 32
  else if gs.any fun g => g.poison then
    if v then s.countPort O.CTL_POISON_5080 p.val else s.lbump v p kFraming 32
  else if v then
    let h := (gs.headD {}).data
    s.controlArrives { port := p.val, mtype := h % 256, qtime := bits h 63 32, head := h / 2 ^ 64 % 2 ^ 192, body := gs.drop 1 }
  else s

/-- A whole message of the tensor taps: Vager keeps a dump, and counts the poison of a dump or a notice; samples are taken, and their
poison counted, by their own commands (R109, R302, R319, R322, R463). -/
def State.wholeTap (s : State) (p : Die) (gs : List MGran) : State :=
  let ty := (gs.headD {}).data % 256
  let s := if ty = 0x31 then s.setVager { s.vager with dumps := s.vager.dumps ++ [(p.val, gs)] } else s
  if ty ≠ 0x51 ∧ ty ≠ 0x52 ∧ ty ≠ 0x72 ∧ (gs.any fun g => g.poison) then s.countPort O.TAP_POISON_5080 p.val else s

/-- A granule joins the message of its channel (R172, R173). A control message that reaches 4,096 granules without its end is in
error (R175). -/
def State.takeGranule (s : State) (v : Bool) (p : Die) (c : Nat) (g : MGran) : State :=
  let held := Tbl.get (fun _ => []) (s.link v p).asm c
  let put := fun (s : State) (m : List MGran) => s.setLink v p { s.link v p with asm := Tbl.set (fun _ => []) (s.link v p).asm c m }
  let join := fun (s : State) (m : List MGran) =>
    if g.eom then
      let s := put s []
      if c = 1 then s.wholeControl v p m else if c = 4 ∧ v then s.wholeTap p m else s
    else if c = 1 ∧ 4096 ≤ m.length then (put s []).lbump v p kFraming 32
    else put s m
  if g.som = false ∧ held.isEmpty then s.lbump v p kFraming 32
  else if g.som ∧ held.isEmpty = false then join (s.lbump v p kFraming 32) [g]
  else join s (held ++ [g])

/-- A granule leaves the receive buffer: its credit is freed and it joins its message (R169). -/
def State.intakeGranule (s : State) (v : Bool) (p : Die) (c : Nat) (g : MGran) : State := (s.takeRx v p c 1).takeGranule v p c g

/-! ### The intake (R178) -/

/-- Port `q`'s granule weight on channel `c`. -/
def State.intakeWeight (s : State) (q : Die) (c : Nat) : Nat := s.ob .vager (O.INTAKE_WEIGHTS_3810 q.val) (c - 1)

/-- The port in turn on channel `c` and what it may still take. -/
def State.intakeTurn (s : State) (c : Nat) : Nat × Nat := Tbl.get (fun _ => (15, 0)) s.vager.intake c

/-- Some port with a weight has a granule of channel `c` waiting. -/
def State.intakeWaits (s : State) (c : Nat) : Bool :=
  allDies.any fun q => decide (0 < s.intakeWeight q c) && !(Tbl.get (fun _ => []) (s.link true q).rxq c).isEmpty

/-- Weighted round-robin in port order 0 to 15: the port in turn gives up to its weight of granules (R178). A weight of 0 stops a
port (log entry 158). -/
def State.intakeRun (c : Nat) : Nat → State → State
  | 0, s => s
  | n + 1, s =>
    if s.intakeWaits c = false then s
    else
      let (t, left) := s.intakeTurn c
      let q : Die := Fin.ofNat 16 t
      let turn := fun (s : State) (x : Nat × Nat) => s.setVager { s.vager with intake := Tbl.insert s.vager.intake c x }
      match left, Tbl.get (fun _ => []) (s.link true q).rxq c with
      | k + 1, g :: rest =>
        let s := turn s (t, k)
        let l := s.link true q
        let s := s.setLink true q { l with rxq := Tbl.set (fun _ => []) l.rxq c rest }
        State.intakeRun c n (s.intakeGranule true q c g)
      | _, _ =>
        let next : Die := Fin.ofNat 16 (t + 1)
        State.intakeRun c n (turn s (next.val, s.intakeWeight next c))

/-- Granules that wait for the intake on channel `c`. -/
def State.waiting (s : State) (c : Nat) : Nat := (allDies.map fun q => (Tbl.get (fun _ => []) (s.link true q).rxq c).length).sum

/-- The intake of channel `c` serves all it can: it keeps up with sixteen ports at the full link rate (R178). -/
def State.intakeAll (s : State) (c : Nat) : State := s.intakeRun c (18 * (s.waiting c + 1))

/-- One granule of a delivered flit: filler is nothing, and a reserved channel or one of the wrong direction is discarded and
counted (R168). At Vager it waits for the intake of its channel; a Staris takes it at once. -/
def State.deliverGranule (s : State) (v : Bool) (p : Die) (c : Nat) (g : MGran) : State :=
  if c = 0 then s
  else if carries v c = false then s.lbump v p kFraming 32
  else if v then
    let l := s.link true p
    s.setLink true p { l with rxq := Tbl.set (fun _ => []) l.rxq c (Tbl.get (fun _ => []) l.rxq c ++ [g]) }
  else s.intakeGranule false p c g

/-- The granules received of each channel after a flit (R169). -/
def LinkEnd.receive (l : LinkEnd) (v : Bool) (items : List (Nat × MGran)) : LinkEnd :=
  items.foldl (fun l e => if carries v e.1 then
    { l with received := Tbl.set z0 l.received e.1 ((Tbl.get z0 l.received e.1 + 1) % 2 ^ 16) } else l) l

/-- Some channel holds more granules than were credited (R170). -/
def LinkEnd.overrun (l : LinkEnd) : Bool :=
  (List.range 6).any fun i =>
    decide (Tbl.get z0 l.myBuf (i + 1) < subMod 16 (Tbl.get z0 l.received (i + 1)) (Tbl.get z0 l.freed (i + 1)))

/-- A DATA flit that passes R163 is delivered; one with more granules than credited is a protocol error instead (R163, R170). -/
def State.deliverFlit (s : State) (v : Bool) (p : Die) (items : List (Nat × MGran)) : State :=
  let l := (s.link v p).receive v items
  if l.overrun then s.protocolError v p
  else
    let s := s.setLink v p { l with rxNext := (l.rxNext + 1) % 4096, nak := false }
    let s := s.lbump v p kFlitsRx 64
    let s := items.foldl (fun s e => s.deliverGranule v p e.1 e.2) s
    if v then [1, 2, 3, 4, 5, 6].foldl (fun s c => s.intakeAll c) s else s

/-- A DATA flit with a good header (R163, R164). -/
def State.dataFlit (s : State) (v : Bool) (p : Die) (h : Nat) (gs : Option (List MGran)) : State :=
  let l := s.link v p
  let seq := bits h 19 8
  let old := decide (1 ≤ subMod 12 l.rxNext seq) && decide (subMod 12 l.rxNext seq ≤ 2048)
  if s.carriesData v p = false then s
  else if old then s
  else match gs with
    | some gs => if seq = l.rxNext ∧ (l.nak = false ∨ bitAt h 4) then s.deliverFlit v p (payloadOf h gs) else s.setNak v p
    | none => s.setNak v p

/-- A flit of sixteen codewords is taken: `ok` says that every FEC codeword it overlaps was decoded (R163 to R170). -/
def State.takeFlit (s : State) (v : Bool) (p : Die) (cws : List Nat) (ok : Bool) : State :=
  let cls := cws.map k288Decode
  let s := s.lbump v p kK288 32 (cls.filter isCorrected).length
  match headerOf cws, ok with
  | some h, true =>
    let s := s.takeHeader v p h
    let gs := (cls.drop 1).map usable
    let whole := if gs.all Option.isSome then some (gs.filterMap id) else none
    if h % 16 = 1 then s.dataFlit v p h whole else s
  | _, _ => if s.carriesData v p then s.setNak v p else s

/-- A flit lost at the receive edge FIFO is counted: at a Staris in its Halyard element, at Vager in the element of the port (R471, log
entry 159). -/
def State.edgeOverrun (s : State) (v : Bool) (p : Die) : State :=
  if v then s.countPort O.EDGE_OVERRUNS_70F0 p.val
  else
    let k := Part.staris p
    s.setElem k O.EDGE_OVERRUNS_7040 4 0 ((s.elem k O.EDGE_OVERRUNS_7040 4 0 + 1) % 2 ^ 32)

/-- FLIT_RX. A receiver takes the codewords that have come, and the next flit once its bits are whole (R154, R155, R163 to R173, R178,
R185); a flit that overruns the edge FIFO is lost and counted (R471). -/
def execFlitRx (v : Bool) (p : Die) (f : FlitIn) (s : State) : Result :=
  let st := s.linkState v p
  if (st = 2 ∨ st = 3 ∨ st = 4 ∨ st = 5) = false then .next s
  else
    let s := s.takeWords v p f
    match (s.link v p).nextFlit with
    | none => .next s
    | some (cws, ok, rest) =>
      let s := s.setLink v p { s.link v p with rxWords := rest }
      if f.overrun then
        .next (s.edgeOverrun v p)
      else .next (s.takeFlit v p cws ok)

/-- REPLAY_TIMEOUT. The oldest unacknowledged flit has waited 20 µs: replay from it as though a NAK had named it (R165). -/
def execReplayTimeout (v : Bool) (p : Die) (s : State) : Result :=
  match (s.link v p).replay with
  | f :: _ => .next (if s.carriesData v p then s.takeNak v p f.seq none else s)
  | [] => .next s

end Sys2Proof.Machine
end

