-- ==== Sys2Proof/Machine/Telltale.lean ====
section
/-! DEFINITION. Machine/Telltale.lean: the commands of the Tell-tale engine: passes, work items, probes, releases, model loads
(R258 to R276). -/

namespace Sys2Proof.Machine
open Sys2Proof

/-! ### Stream records and builders -/

/-- A builder's state is read from HBM with an error (R33, R246): whether it reads as poison, and the state that has noted the error. -/
def State.readBuilder (s : State) (n : Nat) (e : Option HbmError) : Bool × State :=
  let r := s.readCoded { data := builderState (s.builder n) } e
  (r.1.poison, r.2)

/-- The errors that reads of builder states met are noted; the builders whose state reads as poison are listed (R246). -/
def State.readBuilders (s : State) : List (Nat × HbmError) → List Nat × State
  | [] => ([], s)
  | x :: t =>
    let r := s.readBuilder x.1 (some x.2)
    let l := r.2.readBuilders t
    (if r.1 then x.1 :: l.1 else l.1, l.2)

/-- STREAM_RECORD_INTAKE. A granule of port `p`'s stream-samples channel: poison is counted and applied to nothing (R195);
each of its records is applied, but those of a claimed stream are discarded and counted (R272). A half of all ones, KIND 15,
is no record (R168). -/
def execStreamRecordIntake (p : Die) (data : Nat) (poison : Bool) (errors : List (Nat × HbmError)) (s : State) : Result :=
  if poison then
    .next (s.setElem .vager O.POISONED_4001 4 p.val ((s.elem .vager O.POISONED_4001 4 p.val + 1) % 2 ^ 32))
  else
    let r := s.readBuilders errors
    .next ([bits data 127 0, bits data 255 128].foldl (fun s rec =>
      if rec % 16 = 15 then s
      else if s.claimed (bits rec 31 16) then s.bump .vager O.CLAIMED_DISCARDS_4800 32
      else s.applyRecord p.val rec r.1) r.2)

/-- BUILDER_SWEEP. The sweep visits builder `n` (R247), whose state may read as poison (R246). -/
def execBuilderSweep (n : Nat) (error : Option HbmError) (s : State) : Result :=
  let b := s.builder n
  if s.ttOn = false ∨ bldEnable b.cfg = false ∨ b.fault then .next s
  else
    let r := s.readBuilder n error
    .next (if r.1 then r.2.builderFault n else r.2.builderSweep n)

/-! ### Passes -/

/-- PASS_START. The periodic start of slot `m` that has come (R258). -/
def execPassStart (m : Fin 64) (s : State) : Result :=
  match s.dueStart m.val with
  | some t => .next (s.passStart m.val t false)
  | none => .next s

/-- Granule `g` of a feature row: features 16g to 16g + 15 (R235). -/
def FRow.gran (x : FRow) (g : Nat) : Gran :=
  { data := ((List.range 16).map fun i => Tbl.get (fun _ => 0xFFFF) x.feat (16 * g + i) * 2 ^ (16 * i)).sum, poison := bitAt x.poison g }

/-- Granule `g` of a feature row as it was delivered: poison stays until the row is cleared (R240). -/
def FRow.putGran (x : FRow) (g : Nat) (y : Gran) : FRow :=
  if y.poison then { x with poison := setBit x.poison g true }
  else { x with feat := (List.range 16).foldl (fun t i => Tbl.set (fun _ => 0xFFFF) t (16 * g + i) (y.data / 2 ^ (16 * i) % 2 ^ 16)) x.feat }

/-- A row is read from HBM, its granules with these errors (R33, R240). -/
def State.readRowHbm (s : State) (row : Nat) (errors : List (Nat × HbmError)) : State :=
  errors.foldl (fun s e =>
    if e.1 < 4 then
      let r := s.readCoded ((s.frow row).gran e.1) (some e.2)
      r.2.setFrow row ((r.2.frow row).putGran e.1 r.1)
    else s) s

/-- R239, R240: the row is read: from the cache, or from HBM where it misses or is uncorrectable in the cache. An error of a cache bank
is an event of that bank (R446). -/
def State.readRow (s : State) (row : Nat) (cacheHit : Bool) (bank : Option (Fin 64 × Bool)) (errors : List (Nat × HbmError)) : State :=
  let v := Part.vager
  let hit := if cacheHit then bank else none
  let s : State := match hit with
    | some b => s.classify 2 (256 * 4 + b.1.val) b.2
    | none => s
  let again := hit.any fun b => b.2
  let s : State := if again then (s.bump v O.CACHE_REFETCHES_4820 32).bump v O.CACHE_MISSES_4820 64
    else if cacheHit then s.bump v O.CACHE_HITS_4820 64 else s.bump v O.CACHE_MISSES_4820 64
  let s : State := if again || !cacheHit then s.readRowHbm row errors else s
  if (s.frow row).poison ≠ 0 then s.bump v O.ROW_POISON_READS_4820 32 else s

/-- A node granule of stage memory met an error: an event of the block that holds the node in group `g` (R276, R446). -/
def State.nodeError (s : State) (m g : Nat) (y : Model) (node : Option (Nat × Bool)) : State :=
  match node with
  | none => s
  | some (ref, ue) =>
    match Tbl.find (s.mslot m).phys (64 * g + y.place ref / 2 ^ 14) with
    | some b => s.classify 2 (256 * g + b) ue
    | none => s

/-- A lane `l` of group `g` has put the row of item `e` of slot `m` through every tree (R255 to R259). -/
def State.evalItem (s : State) (m : Nat) (p : Pass) (y : Model) (e : Nat × Nat) (lane : Nat) (spoilt : Option Nat) : State :=
  let r := s.frow e.2
  let l := 17 * e.1 + lane
  let done : Eval := { row := e.2, outs := y.evalRow r.read (r.poison != 0) spoilt, group := e.1, lane := lane }
  let p := { p with
    todo := p.todo.erase e, done := p.done ++ [done]
    probing := if p.probing.contains l then p.probing else p.probing ++ [l] }
  (s.setMslot m { s.mslot m with pass := some p }).bump .vager O.TREE_EVALS_4800 64 y.trees.length

/-- WORK_ITEM_DONE. A lane has put one row of slot `m`'s pass through every tree (R255 to R259). The item is one that the lanes of its
group hold, and not one that failed on this lane; it is not done while its group waits for a block to be filled (R276), nor while
TT_ENABLE is 0. A row that is unbound by then is not evaluated (R236). -/
def execWorkItemDone (m : Fin 64) (row : Nat) (lane : Fin 17) (cacheHit : Bool) (bank : Option (Fin 64 × Bool))
    (errors : List (Nat × HbmError)) (node : Option (Nat × Bool)) (s : State) : Result :=
  let x := s.mslot m.val
  match x.pass, x.model with
  | some p, some y =>
    match p.todo.find? fun e => e.2 == row with
    | none => .next s
    | some e =>
      let g := e.1
      let lg := s.laneGroup g
      let waits := x.phys.any fun b => b.1 / 64 == g && lg.filling.contains b.2
      if s.ttOn = false ∨ waits ∨ lg.active.contains lane.val = false ∨ s.inLane g m.val row = false
          ∨ p.barred.contains (row, 17 * g + lane.val) then .next s
      else if (s.frow row).kind = 0 then
        .next (s.setMslot m.val { x with pass := some { p with todo := p.todo.erase e } })
      else
        let s := s.readRow row cacheHit bank errors
        let spoilt := node.bind fun n => if n.2 then some (y.place n.1 / 2) else none
        .next ((s.evalItem m.val p y e lane.val spoilt).nodeError m.val g y node)
  | _, _ => .next s

/-- LANE_PROBE_DONE. A lane has run its probe set, at the end of a pass or while idle: a match ends its part in every pass; a mismatch is
a lane error event, and its items run again (R274, R275). -/
def execLaneProbeDone (g : Fin 4) (lane : Fin 17) (ok : Bool) (s : State) : Result :=
  let l := 17 * g.val + lane.val
  let lg := s.laneGroup g.val
  let due := fun (p : Pass) => p.probing.contains l
  if lg.idleProbe.contains lane.val = false ∧ (s.vager.models.any fun e => e.2.pass.any due) = false then .next s
  else
    let s := s.setLaneGroup g.val { lg with idleProbe := lg.idleProbe.erase lane.val }
    if ok then
      let fix := fun (x : MSlot) => { x with pass := x.pass.map fun p => { p with probing := p.probing.erase l } }
      .next (s.setVager { s.vager with models := s.vager.models.map fun e => (e.1, fix e.2) })
    else .next (((s.redoLane g.val lane.val due).bump .vager O.PROBE_FAILS_4800 32).classify 4 l true)

/-- PROBE_INTERVAL_EXPIRY. An idle lane starts its probe set (R274). -/
def execProbeIntervalExpiry (g : Fin 4) (lane : Fin 17) (s : State) : Result :=
  let lg := s.laneGroup g.val
  if s.ttOn ∧ lg.active.contains lane.val ∧ s.laneIdle g.val lane.val ∧ lg.idleProbe.contains lane.val = false then
    .next (s.setLaneGroup g.val { lg with idleProbe := lg.idleProbe ++ [lane.val] })
  else .next s

/-! ### Release (R260, R261, R269 to R273) -/

/-- R269: the alarm rule on a valid score: the entry after it, and the transition, if any. -/
def alarmRule (raiseAt clearAt : Int) (persist : Nat) (old : Score) (x : Score) : Score × Option Bool :=
  if old.raised = false then
    let n := if raiseAt ≤ x.score then old.count + 1 else 0
    if persist ≤ n then ({ x with raised := true, count := 0 }, some true)
    else ({ x with raised := false, count := n }, none)
  else if x.score < clearAt then ({ x with raised := false, count := 0 }, some false)
  else ({ x with raised := true, count := old.count }, none)

/-- R260, R261: output `o` of a released row: its score entry, and the alarm rule where the evaluation is valid. -/
def State.releaseOutput (s : State) (m row start : Nat) (x : Score) (o : Nat) : State × Bool :=
  let v := Part.vager
  let a := almIndex m o
  let sl := s.mslot m
  let outs := Tbl.get (fun _ => []) sl.scores row
  let outs := outs ++ List.replicate (o + 1 - outs.length) {}
  let old := outs.getD o {}
  let put := fun (s : State) (y : Score) =>
    let sl := s.mslot m
    s.setMslot m { sl with scores := Tbl.insert sl.scores row (outs.set o y) }
  if x.invalid then
    ((put s { old with invalid := true, poison := x.poison, dflt := x.dflt }).bump v (O.MDL_INVALID_4880 m) 32, false)
  else
    let (y, t) := alarmRule (toSigned 32 (s.rd v (O.ALM_RAISE_4900 a))) (toSigned 32 (s.rd v (O.ALM_CLEAR_4900 a)))
      (s.rd v (O.ALM_PERSIST_4900 a)) old x
    let s := put s y
    match t with
    | some raise => (s.alarm m o row raise y false start, true)
    | none => (s, false)

/-- The released rows in ascending row and output; the number of transitions by output comes with the state. -/
def State.releaseRows (s : State) (m start : Nat) (rows : List Eval) : State × Tbl Nat :=
  rows.foldl (fun acc e =>
    (List.range e.outs.length).foldl (fun acc o =>
      let (s, hit) := acc.1.releaseOutput m e.row start (e.outs.getD o {}) o
      (s, if hit then Tbl.insert acc.2 o ((Tbl.find acc.2 o).getD 0 + 1) else acc.2)) acc) (s, [])

/-- R273: the transitions of output `o` at a release raise one MSI-X and up to ALM_RECORD_MAX recorder entries, and one more for
those suppressed. How row, output, score and slot are packed the spec does not say: free values (log entry 3). -/
def State.alarmNotify (s : State) (m : Nat) (x : Nat × Nat) : State :=
  let v := Part.vager
  let a := almIndex m x.1
  let s := s.msix v (s.rd v (O.ALM_VECTOR_4900 a))
  let most := s.rd v (O.ALM_RECORD_MAX_4900 a)
  let s := (List.range (min most x.2)).foldl (fun s _ =>
    let (value, s) := s.takeNat
    let (detail, s) := s.takeNat
    s.recordV 0x0023 value detail) s
  if most < x.2 then s.recordV 0x0024 (x.2 - most) else s

/-- R272: output `o` of a release gives one record to its claimed stream on each die with a valid evaluation. -/
def State.alarmStream (s : State) (m o : Nat) (p : Pass) : State :=
  let w := s.rd .vager (O.ALM_STREAM_4900 (almIndex m o))
  if bitAt w 16 = false then s
  else
    let l := bits w 15 0
    (List.range 16).foldl (fun s d =>
      let mine := p.done.filterMap fun e =>
        let x := e.outs.getD o { invalid := true }
        if x.invalid = false ∧ (s.frow e.row).die = d then some x.score else none
      match mine with
      | [] => s
      | x :: xs =>
        let sid := d * 65536 + l
        let seq := Tbl.get (fun _ => 0) s.vager.alarmSeq sid
        let s := s.setVager { s.vager with alarmSeq := Tbl.set (fun _ => 0) s.vager.alarmSeq sid ((seq + 1) % 256) }
        let word := fld 64 64 (ofSigned 64 (xs.foldl max x)) + fld 32 32 p.start + fld 16 16 l + fld 8 8 seq
          + fld 7 1 (ofBool p.triggered) + fld 5 1 (ofBool (s.tstate .vager == 2)) + 8
        s.applyRecord d word []) s

/-- The release of the pass `p` of slot `m`: its count and times, its rows in order with their bands, the alarm notifications,
the alarm streams, and the freeing of a retired slot (R260 to R264, R268). -/
def State.releasePass (s : State) (m : Nat) (p : Pass) (y : Model) : State :=
  let v := Part.vager
  let s := s.bump v (O.MDL_PASSES_4880 m) 32
  let s := s.wr v (O.MDL_LAST_RELEASE_4880 m) s.extNow
  let s := s.wr v (O.MDL_LAST_START_4880 m) p.start
  let rows := sortBy (fun a b => decide (a.row ≤ b.row)) p.done
  let (s, hits) := s.releaseRows m p.start rows
  let s := hits.foldl (fun s h => s.alarmNotify m h) s
  let s := (List.range y.nout).foldl (fun s o => s.alarmStream m o p) s
  s.freeIfRetired m

/-- PASS_RELEASE. A pass whose items are done and whose lanes have passed their probes is released (R260). -/
def execPassRelease (m : Fin 64) (s : State) : Result :=
  let x := s.mslot m.val
  match x.pass, x.model with
  | some p, some y =>
    if s.ttOn = false ∨ p.todo.isEmpty = false ∨ p.probing.isEmpty = false then .next s
    else .next ((s.setMslot m.val { x with pass := none }).releasePass m.val p y)
  | _, _ => .next s

/-! ### Loading and unloading (R265 to R268) -/

/-- MODEL_LOAD. A write of 1 to MDL_COMMAND: taken in EMPTY, it wakes the placed groups and loads the staged image (R265, R268). -/
def execModelLoad (w : Writer) (m : Fin 64) (s : State) : Result :=
  let v := Part.vager
  .next (s.writeBy w true .operator fun s =>
    if s.mdlState m.val ≠ 0 then s.answer stRefused
    else
      let image := s.bytesAt v O.STAGE_DATA_4A00 0 (s.rd v O.STAGE_BYTES_4A00)
      let s := s.setMslot m.val { s.mslot m.val with image := image }
      let s := (List.range 4).foldl (fun s g => if bitAt (s.rd v (O.MDL_PLACE_4880 m.val)) g then s.wakeVager (18 + g) else s) s
      (s.setMdlState m.val 1).answer stOk)

/-- The code of R266 that refuses the image of slot `m`, or 0. -/
def State.loadError (s : State) (m : Nat) (parsed : Nat × Model) (groups : List Nat) : Nat :=
  let v := Part.vager
  let x := parsed.2
  let lo := s.rd v (O.MDL_ROW_FIRST_4880 m)
  let hi := s.rd v (O.MDL_ROW_LAST_4880 m)
  let k := s.rd v (O.MDL_REPLACES_4880 m)
  let holders := fun g => (s.vager.models.filter fun e => e.2.held.contains g).length
  if parsed.1 ≠ 0 then parsed.1
  else if groups.isEmpty ∨ (groups.any fun g => (s.laneGroup g).gone) then 3
  else if groups.any fun g => decide (16 ≤ holders g) then 4
  else if groups.any fun g => decide ((s.laneGroup g).free < x.need) then 5
  else if x.nodesOk = false then 6
  else if x.boundOk = false then 7
  else if hi < lo ∨ 1048575 < hi then 8
  else if 16777216 < s.scoresUsed + (hi + 1 - lo) * x.nout then 9
  else if k ≠ 0xFF ∧ (k = m ∨ 64 ≤ k ∨ s.mdlState k ≠ 3) then 10
  else 0

/-- The blocks of a group are taken for slot `m`, in the order in which its nodes are placed in them (R262, R265). -/
def State.takeBlocks (s : State) (m : Nat) (x : Model) (g : Nat) : State :=
  let lg := s.laneGroup g
  let mine := lg.pick x.need
  let s := s.setLaneGroup g { lg with used := lg.used ++ mine }
  let sl := s.mslot m
  let phys := (mine.mapIdx fun i b => (64 * g + i, b)).foldl (fun t e => Tbl.insert t e.1 e.2) sl.phys
  s.setMslot m { sl with phys := phys, held := sl.held ++ [g] }

/-- A model that passed every check takes slot `k`: its blocks in the placed groups, its digest, name and sizes, its alarms
cleared, LOADED (R266, R268). -/
def State.finishLoad (s : State) (k : Nat) (x : Model) (groups : List Nat) : State :=
  let v := Part.vager
  let now := s.extNow
  let s := s.setMslot k { model := some x, lastStart := if now = 0 then none else some (now - 1) }
  let s := groups.foldl (fun s g => s.takeBlocks k x g) s
  let s := s.setBytes v (O.MDL_DIGEST_4880 k) 0 x.digest
  let s := s.setBytes v (O.MDL_NAME_4880 k) 0 x.name
  let s := s.wr v (O.MDL_NODES_4880 k) (x.blocks.map Prod.snd).sum
  let s := s.wr v (O.MDL_NOUT_4880 k) x.nout
  let s := (List.range 4).foldl (fun s o =>
    (s.wr v (O.ALM_TRANSITIONS_4900 (almIndex k o)) 0).wr v (O.ALM_RAISED_4900 (almIndex k o)) 0) s
  s.setMdlState k 2

/-- MODEL_LOAD_DONE. The load of slot `m` ends: LOADED, or REFUSED with the first failing code (R266, R268). -/
def execModelLoadDone (m : Fin 64) (s : State) : Result :=
  let v := Part.vager
  let k := m.val
  let sl := s.mslot k
  if s.mdlState k ≠ 1 then .next s
  else
    let parsed := parseImage sl.image
    let x := parsed.2
    let groups := (List.range 4).filter fun g => bitAt (s.rd v (O.MDL_PLACE_4880 k)) g
    let code := s.loadError k parsed groups
    let s := s.wr v (O.MDL_LOAD_ERROR_4880 k) code
    if code ≠ 0 then .next ((s.setMslot k { sl with image := [] }).setMdlState k 5)
    else
      .next (s.finishLoad k x groups)

/-- MODEL_UNLOAD. A write of 2 to MDL_COMMAND: a loaded, refused or failed slot is freed at once, an active one once its last
started pass is released; in other states it is refused (R268). -/
def execModelUnload (w : Writer) (m : Fin 64) (s : State) : Result :=
  .next (s.writeBy w true .operator fun s =>
    match s.mdlState m.val with
    | 2 => (s.freeSlot m.val).answer stOk
    | 3 => ((s.setMdlState m.val 4).freeIfRetired m.val).answer stOk
    | 5 => (s.freeSlot m.val).answer stOk
    | 6 => (s.freeSlot m.val).answer stOk
    | _ => s.answer stRefused)

/-- BLOCK_SPARE_FILL_DONE. A spare block of a group has been filled, and the passes that need it go on (R276). -/
def execBlockSpareFillDone (g : Fin 4) (block : Nat) (s : State) : Result :=
  let lg := s.laneGroup g.val
  .next (s.setLaneGroup g.val { lg with filling := lg.filling.erase block })

end Sys2Proof.Machine
end

