-- ==== Sys2Proof/Machine/Power.lean ====
section
/-! DEFINITION. Machine/Power.lean: the power domains of both parts (R556 to R562). -/

namespace Sys2Proof.Machine
open Sys2Proof

/-- A sleeping state of a domain: its code, its wake latency in ns, how long its entry condition must have held in ns (none for
IDLE_MIN), and whether that condition holds now (R556, R557, R559). -/
structure Sleep where
  code : Nat
  wake : Nat
  hold : Option Nat := none
  met : Bool

/-- The power record of a part. -/
def State.power (s : State) : Part → Power
  | .vager => s.vager.power
  | .staris d => (s.die d).power

/-- The power record of a part replaced. -/
def State.setPower (s : State) (p : Part) (x : Power) : State :=
  match p with
  | .vager => s.setVager { s.vager with power := x }
  | .staris d => s.setDie d { s.die d with power := x }

/-- Time-island ticks of a part. -/
def State.ticksOf (s : State) : Part → Nat
  | .vager => s.vager.ticks
  | .staris d => (s.die d).ticks

/-- The state of a domain. -/
def State.domainState (s : State) (p : Part) (i : Nat) : Nat :=
  match p with
  | .vager => s.rd .vager (O.DOM_STATE_7C60 i)
  | .staris d => s.ob (.staris d) O.DOMAIN_STATE_7C00 i

/-- A domain takes a state. -/
def State.moveDomain (s : State) (p : Part) (i st : Nat) : State :=
  match p with
  | .vager => s.moveVager i st
  | .staris d => s.moveDie d i st

/-! ### Entry conditions (R556, R557) -/

/-- The Shroud clusters that R560 keeps ON: the N lowest of those neither SPARE nor RETIRED. -/
def State.chosenClusters (s : State) (busy : Nat) : List Nat :=
  let a := s.clustersIn [0, 1, 4]
  a.take (min a.length (max (s.rd .vager O.SHROUD_MIN_ON_7C40) ((busy + 999999) / 1000000 + 1)))

/-- A Tell-tale group has a work item queued or in a lane. -/
def State.groupBusy (s : State) (g : Nat) : Bool :=
  s.vager.models.any fun e =>
    match e.2.pass with
    | some x => (x.todo.any fun i => i.1 == g) || (x.probing.any fun l => l / 17 == g)
    | none => false

/-- A load into a Tell-tale group is running. -/
def State.groupLoading (s : State) (g : Nat) : Bool :=
  (List.range 64).any fun m => s.mdlState m == 1 && bitAt (s.rd .vager (O.MDL_PLACE_4880 m)) g

/-- A Tell-tale group holds a model in one of the states 1 to 4 (R268). -/
def State.groupHolds (s : State) (g : Nat) : Bool :=
  s.groupLoading g || (List.range 64).any fun m =>
    (s.mdlState m == 2 || s.mdlState m == 3 || s.mdlState m == 4) && (s.mslot m).held.contains g

/-- The sleeping states of domain `i` of Vager, the deepest first. -/
def State.vagerSleeps (s : State) (busy : Nat) (hbmIdle : List Nat) (i : Nat) : List Sleep :=
  if i < 18 then
    let c := s.cluster i
    [{ code := 2, wake := 30000
       met := c.job.isNone && !c.testing && s.sh.replay != some i && !(s.chosenClusters busy).contains i && s.clState i == 1 }]
  else if i < 22 then
    let g := i - 18
    let quiet := !s.groupBusy g && !s.groupLoading g;
    [{ code := 2, wake := 60000, met := quiet && !s.groupHolds g }, { code := 1, wake := 5000, met := quiet }]
  else if i < 28 then
    let idle := hbmIdle.getD (i - 22) 0
    let min := 1000 * s.rd .vager O.IDLE_MIN_7C40;
    [{ code := 4, wake := 15000, hold := some 0, met := decide (min ≤ idle) },
     { code := 3, wake := 500, hold := some 0, met := decide (256 ≤ idle) }]
  else []

/-- A comparator is armed with an action that falls in the capture domain (R557). -/
def State.captureArmed (s : State) (d : Die) (n : Nat) : Bool :=
  let p := Part.staris d
  let a := s.rd p (O.CMP_ACTION_2010 n)
  s.rd p (O.CMP_ARM_2010 n) == 1
    && (a == 3 || a == 6 || a == 7 || (a == 1 && decide (4 ≤ s.rd p (O.CMP_ARG_2010 n)) && decide (s.rd p (O.CMP_ARG_2010 n) ≤ 7)))

/-- The capture domain may leave ON (R557). -/
def State.captureIdle (s : State) (d : Die) : Bool :=
  let p := Part.staris d
  let c := s.cap d
  !(c.counters.any fun e => cfgEnable e.2.cfg) && !(c.streams.any fun e => e.2.enable)
    && !(c.seqs.any fun e => e.2.state == .running || e.2.state == .waiting)
    && !((List.range 16).any fun n => s.rd p (O.DUMP_ARM_3070 n) == 1) && s.rd p O.MARGIN_ENABLE_3050 == 0
    && !((List.range 8).any fun k => s.rd p (O.SEQ_PERIOD_3040 k) != 0) && s.rd p O.SNAP_STATE_3020 == 0
    && !((List.range 32).any fun n => s.captureArmed d n)

/-- The trace domain may leave ON (R149, R557). -/
def State.traceIdle (s : State) (d : Die) : Bool :=
  let p := Part.staris d
  let t := (s.die d).trace
  !(t.cfgs.any fun e => e.2 != .idle)
    && !((t.unit == .frozen || t.unit == .full) && s.rd p O.SINK_SELECT_3450 == 0) && s.rd p O.TRIG_ARM_3460 == 0

/-- The digest tap's domain may leave ON (R557). -/
def State.tapIdle (s : State) (d : Die) : Bool :=
  !((List.range 4).any fun k => s.rd (.staris d) (O.KEY_STATE_5010 k) != 0) && (s.ck d).combs.isEmpty

/-- The sleeping states of domain `i` of a Staris. -/
def State.dieSleeps (s : State) (d : Die) (i : Nat) : List Sleep :=
  if i = 1 then [{ code := 1, wake := 2000, met := s.captureIdle d }]
  else if i = 2 then [{ code := 2, wake := 10000, met := s.traceIdle d }]
  else if i = 3 then [{ code := 2, wake := 5000, met := s.tapIdle d }]
  else []

/-! ### Scheduled demands (R559) -/

/-- The next start of a periodic model after now (R258). -/
def State.nextStart (s : State) (m : Nat) : Option Nat :=
  let a := s.rd .vager (O.MDL_ANCHOR_4880 m)
  let p := 1000 * s.rd .vager (O.MDL_PERIOD_4880 m)
  if p = 0 ∨ (s.mdlState m ≠ 2 ∧ s.mdlState m ≠ 3) then none
  else if s.extNow < a then some a
  else some (a + ((s.extNow - a) / p + 1) * p)

/-- A pass of a model that group `g` holds starts within `w` ns. -/
def State.passSoon (s : State) (g w : Nat) : Bool :=
  (List.range 64).any fun m => (s.mslot m).held.contains g && (match s.nextStart m with
    | some t => decide (t ≤ s.extNow + w)
    | none => false)

/-- An armed comparator that starts or stops a trace fires within `w` ns. -/
def State.traceSoon (s : State) (d : Die) (w : Nat) : Bool :=
  let p := Part.staris d
  (List.range 32).any fun n =>
    let a := s.rd p (O.CMP_ACTION_2010 n)
    s.rd p (O.CMP_ARM_2010 n) == 1 && (a == 4 || a == 5) && decide (subMod 32 (s.rd p (O.CMP_TARGET_2010 n)) (s.ns p) ≤ w)

/-- A demand on domain `i` is scheduled within `w` ns. -/
def State.demandSoon (s : State) (p : Part) (i w : Nat) : Bool :=
  match p with
  | .vager => decide (18 ≤ i) && decide (i < 22) && s.passSoon (i - 18) w
  | .staris d => i == 2 && s.traceSoon d w

/-! ### The revisit (R559, R560) -/

/-- TOLERANCE of the function that owns domain `i`, where one does. -/
def State.toleranceOf (s : State) (p : Part) (i : Nat) : Option (Nat × Nat) :=
  match p with
  | .vager => (vagerFunction i).map fun f => (f, s.rd .vager (O.TOLERANCE_7C48 f))
  | .staris d => (dieFunction i).map fun f => (f, s.rd (.staris d) (O.TOLERANCE_7C08 f))

/-- IDLE_MIN in ns. -/
def State.idleMin (s : State) : Part → Nat
  | .vager => 1000 * s.rd .vager O.IDLE_MIN_7C40
  | .staris d => 1000 * s.rd (.staris d) O.IDLE_MIN_7C00

/-- How long the entry condition of a sleeping state has held, by the revisits that have found it met, is noted. -/
def State.noteSleep (s : State) (p : Part) (i : Nat) (x : Sleep) : State :=
  let q := s.power p
  let k := 8 * i + x.code
  let since := if x.met then (match Tbl.find q.since k with
      | some _ => q.since
      | none => Tbl.insert q.since k (s.ticksOf p))
    else Tbl.erase q.since k
  s.setPower p { q with since := since }

/-- A sleeping state may be entered: its condition has held long enough and its latency is tolerated. -/
def State.mayEnter (s : State) (p : Part) (i t : Nat) (x : Sleep) : Bool :=
  x.met && decide (x.wake ≤ 1000 * t) && (match Tbl.find (s.power p).since (8 * i + x.code) with
    | some a => decide (x.hold.getD (s.idleMin p) ≤ s.ticksOf p - a)
    | none => false)

/-- The state that R559 gives domain `i`: 0 for ON. -/
def State.targetState (s : State) (p : Part) (i : Nat) (sleeps : List Sleep) : Nat :=
  match s.toleranceOf p i with
  | none => 0
  | some (f, t) =>
    if t = 0 ∨ (Tbl.find (s.power p).holds f).isSome then 0
    else
      let wake := match sleeps.find? fun x => x.code == s.domainState p i with
        | some x => x.wake
        | none => 0
      if s.demandSoon p i (wake + 10000) then 0
      else match sleeps.find? (s.mayEnter p i t) with
        | some x => x.code
        | none => 0

/-- What a domain loses as it is turned OFF (R312, R557). -/
def State.domainOff (s : State) (p : Part) (i : Nat) : State :=
  match p with
  | .vager => if i < 18 then s.setClState i 0 else s
  | .staris d => if i = 2 then s.setDie d { s.die d with trace := { (s.die d).trace with queue := [], buffer := [] } } else s

/-- A domain moves toward its target: a sleeping one that is to be ON wakes, and one that is waking goes on. -/
def State.towards (s : State) (p : Part) (i target : Nat) : State :=
  let st := s.domainState p i
  if st = 5 ∨ st = target then s
  else if target = 0 then
    match p with
    | .vager => if i < 18 then s.wakeCluster i else s.moveVager i 5
    | .staris d => s.moveDie d i 5
  else
    let s := s.moveDomain p i target
    if target = 2 then s.domainOff p i else s

/-- A fabric port's domain: OFF while its PORT_ADDR is zero (R556). -/
def State.fabricDomain (s : State) (q : Nat) : State :=
  let on := (List.range 16).any fun b => s.ob .vager (O.PORT_ADDR_6410 q) b != 0
  let st := s.domainState .vager (28 + q)
  if on then (if st = 2 then s.moveVager (28 + q) 5 else s)
  else (s.moveVager (28 + q) 2).wr .vager (O.PORT_STATE_6410 q) 0

/-- Domain `i` is revisited. A SPARE or RETIRED cluster is always OFF (R556). -/
def State.revisit (s : State) (p : Part) (i : Nat) (sleeps : List Sleep) : State :=
  let s := sleeps.foldl (fun s x => s.noteSleep p i x) s
  match p with
  | .vager =>
    if i < 18 ∧ (s.clState i = 2 ∨ s.clState i = 3) then s.moveVager i 2 else s.towards p i (s.targetState p i sleeps)
  | .staris _ => s.towards p i (s.targetState p i sleeps)

/-- A Shroud cluster sleeps already: its condition goes on holding unless R560 chooses it. -/
def State.clusterSleeps (s : State) (busy i : Nat) (l : List Sleep) : List Sleep :=
  if i < 18 ∧ s.clState i = 0 then l.map fun x => { x with met := !(s.chosenClusters busy).contains i } else l

/-- POWER_REVISIT. Every 10 µs a part revisits its domains (R556 to R560). -/
def execPowerRevisit (p : Part) (busy : Nat) (hbmIdle : List Nat) (s : State) : Result :=
  match p with
  | .vager =>
    let s := (List.range 28).foldl (fun s i => s.revisit p i (s.clusterSleeps busy i (s.vagerSleeps busy hbmIdle i))) s
    .next ((s.fabricDomain 0).fabricDomain 1)
  | .staris d => .next ((List.range 4).foldl (fun s i => s.revisit p i (s.dieSleeps d i)) s)

/-- DOMAIN_WAKE_DONE. A domain that wakes is ON (R558); a Shroud cluster still passes its self-test in TESTING (R312). -/
def execDomainWakeDone (p : Part) (domain : Fin 32) (s : State) : Result :=
  match p with
  | .vager => .next (if s.domainState p domain.val = 5 then s.moveVager domain.val 0 else s)
  | .staris d => .next (if domain.val < 4 ∧ s.domainState p domain.val = 5 then s.moveDie d domain.val 0 else s)

/-- A function's domains that are not ON wake (R562). -/
def State.wakeFunction (s : State) (p : Part) (f : Nat) : State :=
  match p with
  | .vager =>
    if f = 0 then (s.clustersIn [0]).foldl (fun s c => s.wakeCluster c) s
    else if f = 1 then (List.range 4).foldl (fun s g => s.wakeVager (18 + g)) s
    else (List.range 6).foldl (fun s h => s.wakeVager (22 + h)) s
  | .staris d => s.wakeDie d (f + 1)

/-- WAKE_HOLD in ns. -/
def State.wakeHold (s : State) : Part → Nat
  | .vager => 10 ^ 6 * s.rd .vager O.WAKE_HOLD_7C40
  | .staris d => 10 ^ 6 * s.rd (.staris d) O.WAKE_HOLD_7C00

/-- WAKE_WRITE. A write of 1 to a function's WAKE: its domains go ON and stay so for WAKE_HOLD (R562). -/
def execWakeWrite (p : Part) (w : Writer) (f : Fin 3) (s : State) : Result :=
  .next (s.writeBy w false .host fun s =>
    let q := s.power p
    let s := s.setPower p { q with holds := Tbl.insert q.holds f.val (s.ticksOf p + s.wakeHold p) }
    (s.wakeFunction p f.val).answer stOk)

/-- WAKE_HOLD_EXPIRY. The hold of a WAKE ends once WAKE_HOLD has passed (R562). -/
def execWakeHoldExpiry (p : Part) (f : Fin 3) (s : State) : Result :=
  let q := s.power p
  match Tbl.find q.holds f.val with
  | some t => .next (if t ≤ s.ticksOf p then s.setPower p { q with holds := Tbl.erase q.holds f.val } else s)
  | none => .next s

end Sys2Proof.Machine
end

