-- ==== Sys2Proof/Machine/Recorder.lean ====
section
/-! DEFINITION. Machine/Recorder.lean: Vager's persistent recorder and Crow's Nest's sensors (R533 to R542, R595). -/

namespace Sys2Proof.Machine
open Sys2Proof

/-- The recorder. -/
def State.rcd (s : State) : Recorder := s.vager.recorder

/-- The recorder replaced. -/
def State.setRcd (s : State) (r : Recorder) : State := s.setVager { s.vager with recorder := r }

/-- The recorder goes on: it takes the next record if it may, and a LOST record follows once the holding queue has room (R538). -/
def State.recorderGo (s : State) : State := (s.setRcd (recorderTake s.recFrozen s.rcd)).recordLost

/-- The record being programmed joins the ring; one that opens a sector starts the erase of the next (R534). -/
def Recorder.program (r : Recorder) : Recorder :=
  match r.writing with
  | none => r
  | some x => { r with
      writing := none, ring := r.ring ++ [x], pos := (r.pos + 1) % (16385 * 64)
      erasing := r.erasing || r.pos % 64 == 0 }

/-- The erase of the oldest sector ends: the 64 records in it, if it held any, are lost (R534). -/
def Recorder.erased (r : Recorder) : Recorder :=
  if r.erasing then { r with erasing := false, ring := if 1048576 < r.ring.length then r.ring.drop 64 else r.ring } else r

/-- The erase of every sector ends (R542). -/
def Recorder.cleared (r : Recorder) : Recorder := { r with ring := [], pos := 0, erasing := false }

/-- RECORD_NOR_WRITE_DONE (R534, R538). -/
def execRecordNorWriteDone (s : State) : Result := .next (s.setRcd s.rcd.program).recorderGo

/-- NOR_SECTOR_ERASE_DONE (R534). -/
def execNorSectorEraseDone (s : State) : Result := .next (s.setRcd s.rcd.erased)

/-- REC_FREEZE. A write of 1: no record is taken from the holding queue (R541). While an erase runs REC_STATE goes on reading 2. -/
def execRecFreeze (w : Writer) (s : State) : Result :=
  .next (s.writeBy w false .operator fun s =>
    let v := Part.vager
    let s := if s.rd v O.REC_FREEZE_7840 = 1 then s else s.setRcd { s.rcd with frozenAt := s.vager.ticks }
    let s := s.wr v O.REC_FREEZE_7840 1
    (if s.rd v O.REC_STATE_7840 = 0 then s.wr v O.REC_STATE_7840 1 else s).answer stOk)

/-- The recorder thaws: its queue drains in order (R541). -/
def State.thaw (s : State) : State :=
  let v := Part.vager
  let s := s.wr v O.REC_FREEZE_7840 0
  if s.rd v O.REC_STATE_7840 = 1 then (s.wr v O.REC_STATE_7840 0).recorderGo else s

/-- REC_THAW. A write of 0 to REC_FREEZE (R541). -/
def execRecThaw (w : Writer) (s : State) : Result := .next (s.writeBy w false .operator fun s => s.thaw.answer stOk)

/-- REC_FREEZE_LIMIT_EXPIRY. Once REC_FREEZE_LIMIT has passed since the freeze the recorder thaws (R541). -/
def execRecFreezeLimitExpiry (s : State) : Result :=
  .next (if s.rcd.frozenAt + 10 ^ 9 * s.rd .vager O.REC_FREEZE_LIMIT_7840 ≤ s.vager.ticks then s.thaw else s)

/-- REC_CLEAR. The erase of every sector begins; it is refused while the recorder is frozen (R542). -/
def execRecClear (w : Writer) (serial : Nat) (s : State) : Result :=
  .next (s.writeBy w true .fleet fun s =>
    let v := Part.vager
    if s.rd v O.REC_STATE_7840 ≠ 0 then s.answer stRefused
    else ((s.wr v O.REC_STATE_7840 2).setRcd { s.rcd with clearSerial := serial % 2 ^ 48 }).answer stOk)

/-- REC_CLEAR_DONE. The erase ends: SEQ goes on and a CLEARED record is written (R537, R542). -/
def execRecClearDone (s : State) : Result :=
  let v := Part.vager
  if s.rd v O.REC_STATE_7840 ≠ 2 then .next s
  else
    let r := s.rcd
    let s := s.setRcd r.cleared
    let s := s.wr v O.REC_STATE_7840 (s.rd v O.REC_FREEZE_7840)
    .next (s.recordV 0x0003 r.ring.length (fld 48 48 r.clearSerial)).recorderGo

/-- The ticks of an operating hour (R536). -/
def hourLength : Nat := 3600 * 10 ^ 9

/-- OP_HOUR_BOUNDARY. Once 3.6 × 10^12 ticks have passed an operating hour ends and OP_HOURS is stored (R536). -/
def execOpHourBoundary (s : State) : Result :=
  if s.vager.hourTicks < hourLength then .next s
  else .next ((s.setVager { s.vager with hourTicks := s.vager.hourTicks - hourLength }).bump .vager O.OP_HOURS_7841 32)

/-! ### Sensors (R533, R595) -/

/-- THERMAL_TRIP. A sensor has read 115 °C: every domain but the always-on one is turned OFF, every HBM stack refreshes itself, a
THERMAL record is queued and THERMTRIP_N asserted (R595). -/
def State.thermalTrip (s : State) (sensor : Nat) (reading : Int) : State :=
  if s.vager.crow.tripped then s
  else
    let s := (List.range 31).foldl (fun s d => s.moveVager d (if 22 ≤ d ∧ d < 28 then 4 else 2)) s
    let s := (s.clustersIn [1, 4]).foldl (fun s c => s.setClState c 0) s
    let s := s.recordV 0x0070 sensor (ofSigned 16 reading)
    (s.setVager { s.vager with crow := { s.vager.crow with tripped := true } }).emit .thermTrip

/-- One sensor's reading: a THERMAL record where it is the first above THERMAL_WARN after one that was not (R533). -/
def State.takeSensor (s : State) (i : Nat) (x : Int) : State :=
  let v := Part.vager
  let was := toSigned 16 (s.elem v O.THERMAL_7850 2 i)
  let warn := toSigned 32 (s.rd v O.THERMAL_WARN_7850)
  let s := s.setElem v O.THERMAL_7850 2 i (ofSigned 16 x)
  let first := i = 0 ∧ s.vager.crow.sampled = false
  let peak := if first then x else max x (toSigned 16 (s.rd v O.THERMAL_PEAK_7850))
  let s := s.wr v O.THERMAL_PEAK_7850 (ofSigned 16 peak)
  let s := if warn < x ∧ was ≤ warn then s.recordV 0x0070 i (ofSigned 16 x) else s
  if 1840 ≤ x then s.thermalTrip i x else s

/-- CN_SENSOR_SAMPLE. Every 1 ms Crow's Nest samples its 24 thermal sensors and 12 rails (R533). -/
def execCnSensorSample (thermal : List Int) (rails : List Nat) (s : State) : Result :=
  let s := ((thermal.take 24).mapIdx fun i x => (i, x)).foldl (fun s e => s.takeSensor e.1 e.2) s
  let s := ((rails.take 12).mapIdx fun i x => (i, x)).foldl (fun s e => s.setElem .vager O.RAILS_7850 2 e.1 (e.2 % 2 ^ 16)) s
  .next (s.setVager { s.vager with crow := { s.vager.crow with sampled := true } })

end Sys2Proof.Machine
end

