-- ==== Sys2Proof/Machine/Nvme.lean ====
section
/-! DEFINITION. Machine/Nvme.lean: the PDUs and commands of NVMe/TCP that Vager sends to a drain target (R363). Their layouts are those
of the NVMe specifications (log entry 102). -/

namespace Sys2Proof.Machine
open Sys2Proof

/-! ### CRC32C -/

/-- `n` bits of a reflected CRC32C. -/
def crc32cBits : Nat → Nat → Nat
  | 0, r => r
  | n + 1, r => crc32cBits n (if r % 2 = 1 then Nat.xor (r / 2) 0x82F63B78 else r / 2)

/-- The CRC32C of bytes. -/
def crc32c (bs : List Nat) : Nat :=
  Nat.xor (bs.foldl (fun r b => crc32cBits 8 (Nat.xor r (b % 256))) 0xFFFFFFFF) 0xFFFFFFFF

/-! ### PDUs -/

/-- A PDU: the common header, what follows it in the header, and its data, with the digests in use on the connection. -/
def NvmeConn.pdu (c : NvmeConn) (type flags : Nat) (psh data : List Nat) : List Nat :=
  let hlen := 8 + psh.length
  let some' := !data.isEmpty
  let hd := if c.hdgst then 4 else 0
  let dd := c.ddgst && some'
  let h := [type, flags + ofBool c.hdgst + 2 * ofBool dd, hlen, if some' then hlen + hd else 0]
    ++ toBytes 4 (hlen + hd + data.length + (if dd then 4 else 0)) ++ psh
  h ++ (if c.hdgst then toBytes 4 (crc32c h) else []) ++ data ++ (if dd then toBytes 4 (crc32c data) else [])

/-- ICReq, which asks for both digests and goes before either is in use. -/
def icReq : List Nat := ({} : NvmeConn).pdu 0x00 0 ([0, 0, 0, 3] ++ List.replicate 116 0) []

/-- H2CTermReq for an unsupported parameter. -/
def NvmeConn.termReq (c : NvmeConn) : List Nat := { c with hdgst := false, ddgst := false }.pdu 0x02 0 ([6, 0] ++ List.replicate 14 0) []

/-- CapsuleCmd: a submission queue entry and its data. -/
def NvmeConn.capsule (c : NvmeConn) (sqe data : List Nat) : List Nat := c.pdu 0x04 0 sqe data

/-- H2CData of command `cid` under a transfer tag: `data` at `offset`. -/
def NvmeConn.h2cData (c : NvmeConn) (cid ttag offset : Nat) (last : Bool) (data : List Nat) : List Nat :=
  c.pdu 0x06 (4 * ofBool last)
    (toBytes 2 cid ++ toBytes 2 ttag ++ toBytes 4 offset ++ toBytes 4 data.length ++ List.replicate 4 0) data

/-- `data` from `offset` in H2CData of at most `most` bytes. -/
def NvmeConn.h2cPieces (c : NvmeConn) (cid ttag most : Nat) : Nat → Nat → List Nat → List (List Nat)
  | 0, _, _ => []
  | fuel + 1, offset, data =>
    if data.length ≤ most then [c.h2cData cid ttag offset true data]
    else c.h2cData cid ttag offset false (data.take most) :: c.h2cPieces cid ttag most fuel (offset + most) (data.drop most)

/-! ### Commands -/

/-- An SGL descriptor: `n` bytes in the capsule, or moved by the transport. -/
def sglIn (n : Nat) : List Nat := toBytes 8 0 ++ toBytes 4 n ++ [0, 0, 0, 0x01]
def sglTransport (n : Nat) : List Nat := toBytes 8 0 ++ toBytes 4 n ++ [0, 0, 0, 0x5A]

/-- A submission queue entry: opcode, command identifier, bytes 4 to 7, SGL, and command dwords 10 to 15. -/
def sqe (op cid word : Nat) (sgl : List Nat) (dwords : List Nat) : List Nat :=
  [op, 0x40] ++ toBytes 2 cid ++ toBytes 4 word ++ List.replicate 16 0 ++ sgl ++ dwords.flatMap (toBytes 4)

/-- Fabrics Connect of queue `q`, 128 entries deep, with no keep-alive time. -/
def sqeConnect (cid q : Nat) : List Nat := sqe 0x7F cid 0x01 (sglIn 1024) [q * 2 ^ 16, 127, 0, 0, 0, 0]

/-- The data of a Connect: host identifier, controller, and the names of subsystem and host. -/
def connectData (controller : Nat) (subsystem host : List Nat) : List Nat :=
  let name := fun (x : List Nat) => (x ++ List.replicate 256 0).take 256
  (List.range 16).map (fun k => Config.nvmeHost k % 256) ++ toBytes 2 controller ++ List.replicate 238 0 ++ name subsystem
    ++ name host ++ List.replicate 256 0

/-- Fabrics Property Set of the controller configuration: enabled, with entries of 64 and 16 bytes. -/
def sqePropertySet (cid : Nat) : List Nat := sqe 0x7F cid 0x00 (List.replicate 16 0) [0, 0x14, 0x460001, 0, 0, 0]

/-- Fabrics Property Get of the controller status. -/
def sqePropertyGet (cid : Nat) : List Nat := sqe 0x7F cid 0x04 (List.replicate 16 0) [0, 0x1C, 0, 0, 0, 0]

/-- Identify: 1 the controller, 0 a namespace. -/
def sqeIdentify (cid nsid cns : Nat) : List Nat := sqe 0x06 cid nsid (sglTransport 4096) [cns, 0, 0, 0, 0, 0]

/-- Write with FUA set: `n` LBAs of `bytes` bytes in all from `lba`. -/
def sqeWrite (cid nsid lba n bytes : Nat) : List Nat :=
  sqe 0x01 cid nsid (sglTransport bytes) [lba % 2 ^ 32, lba / 2 ^ 32, 2 ^ 30 + (n - 1) % 2 ^ 16, 0, 0, 0]

end Sys2Proof.Machine
end

