-- ==== Sys2Proof/Machine/Stay.lean ====
section
/-! DEFINITION. Machine/Stay.lean: Stay, the checkpoint shadow (chapter 10): arming, absorption, exchange, drain, commit and
restore. -/

namespace Sys2Proof.Machine
open Sys2Proof

/-! ### Peer messages (R366) -/

def smCut (h : Nat) : Nat := bits h 255 224
def smArg0 (h : Nat) : Nat := bits h 191 160
def smArg1 (h : Nat) : Nat := bits h 159 136
def smSrc (h : Nat) : Nat := bits h 135 123
def smLast (h : Nat) : Bool := bitAt h 102

/-- A datagram of the cut in hand in cut states `lo` to `hi`; others are discarded (R366). -/
def State.smHere (s : State) (h lo hi : Nat) : Bool :=
  smCut h == armCut s.arm && decide (lo ≤ s.cutState) && decide (s.cutState ≤ hi)

/-! ### Arming (R348 to R350) -/

/-- The peers of the tray (R358). -/
def State.stayPeers (s : State) : List Nat :=
  (List.range (s.rd .vager O.PEER_COUNT_5884)).map fun i => s.elem .vager O.PEER_TRAYS_5884 2 i

/-- A drain target that exists. -/
def State.targetSet (s : State) (t : Nat) : Bool := decide (t < 8) && s.rd .vager (O.TGT_KIND_5888 t) != 0

/-- Every enabled region of the dies named has a drain map entry. -/
def State.tagsMapped (s : State) (mask : Nat) : Bool :=
  (maskDies mask).all fun d => (List.range 64).all fun r =>
    !s.regOn d r || (s.mapEntry (s.rd (.staris d) (O.REG_TAG_5810 r))).isSome

/-- The first code of R349 that applies to an arm; 0 where none does. -/
def State.armCode (s : State) (a : Nat) : Nat :=
  let v := Part.vager
  let me := s.vager.tree.self
  let within := fun t => decide (armLo a ≤ t) && decide (t ≤ armHi a)
  if (1 ≤ s.cutState ∧ s.cutState ≤ 5) ∨ (1 ≤ s.rstState ∧ s.rstState ≤ 4) then 1
  else if armCut a = 0 ∨ armEpoch a = 0 ∨ 1 < armArea a ∨ armHi a < armLo a ∨ within me = false ∨ within (armCoord a) = false
      ∨ armMask a = 0 then 2
  else if s.rd v O.LAST_CUT_5881 ≠ 0 ∧ armArea a = s.rd v O.LAST_AREA_5881 then 3
  else if armCut a = s.rd v O.LAST_CUT_5881 then 4
  else if s.tagsMapped (armMask a) = false ∨ (s.stayPeers.any fun t => !within t || t == me)
      ∨ s.targetSet (s.elem v O.MAN_LOC_5890 32 0 % 256) = false ∨ s.targetSet (s.elem v O.REC_LOC_5890 32 0 % 256) = false then 5
  else if ((maskDies (armMask a)).any fun d => decide (s.rd v O.CHUNK_SLOTS_5880 < s.slotsNeeded d) || !s.linkUp true d) then 6
  else 0

/-- The counts of 0x5882 that describe one cut start again with it (log entry 39). -/
def State.clearCutCounts (s : State) : State :=
  let s := [O.CHUNKS_HELD_5882, O.CHUNKS_OWNED_5882, O.CHUNKS_DURABLE_5882, O.BYTES_DURABLE_5882, O.CHUNKS_DEDUPED_5882,
    O.CHUNKS_POISONED_5882, O.KEYS_DIVERGED_5882, O.PEERS_HEARD_5882].foldl (fun s k => s.wr .vager k 0) s
  s.writeOctets .vager O.PEERS_SILENT_5882 32 []

/-- The lowest position that the coordinator does not hold, 0xFFFF where it holds all. -/
def coordMissing (digests : Tbl (List Nat)) (n : Nat) : Nat :=
  ((List.range n).find? fun j => (Tbl.find digests j).isNone).getD 0xFFFF

/-- What the coordinator holds is shown in 0x58A0. -/
def State.showCoord (s : State) : State :=
  let n := armHi s.arm + 1 - armLo s.arm
  let t := s.stay.coord.digests
  (s.wr .vager O.COORD_PREPARED_58A0 t.length).wr .vager O.COORD_MISSING_58A0 (coordMissing t n)

/-- This Vager begins to coordinate, holding no D (R369, R371). -/
def State.startCoord (s : State) : State :=
  ((s.setStay { s.stay with coord := {} }).wr .vager O.COORD_STATE_58A0 1).showCoord

/-- CUT_ARM without its reserved bits (R8, R348). -/
def armKept (arm : Nat) : Nat :=
  fld 160 8 (arm / 2 ^ 160) + fld 144 16 (arm / 2 ^ 144) + fld 128 16 (arm / 2 ^ 128) + fld 112 13 (arm / 2 ^ 112)
    + fld 96 13 (arm / 2 ^ 96) + arm % 2 ^ 96

/-- A cut is armed: its parameters and coordinator, what an earlier cut left cleared, ARMED, and CUT_ARM to its dies (R349,
R350). -/
def State.startCut (s : State) (arm : Nat) : State :=
  let v := Part.vager
  let s := s.setElem v O.CUT_PARAMS_5880 32 0 (armKept arm)
  let s := (s.wr v O.COORD_TRAY_5880 (armCoord arm)).wr v O.CUT_ABORT_CODE_5880 0
  let x := s.stay
  let s := s.setStay { x with chunks := [], ends := [], peers := [], writes := [], hostRecs := [], queue := [], handoffs := [],
                              manifest := [], spoilt := false, coord := {} }
  let s := s.clearCutCounts
  let s := if armCoord arm = s.vager.tree.self then s.startCoord else s.wr v O.COORD_STATE_58A0 0
  let s := s.setCut 1 0
  (maskDies (armMask arm)).foldl (fun s d => s.stayCommand d 0x61) s

/-- CUT_ARM_WRITE. Arms a cut or refuses with the first code that applies (R349, R350). -/
def execCutArmWrite (w : Writer) (arm : Nat) (s : State) : Result :=
  let v := Part.vager
  .next (s.writeBy w true .fleet fun s =>
    let code := s.armCode arm
    if code ≠ 0 then (s.wr v O.CUT_REFUSE_5880 code).answer stRefused
    else (s.startCut arm).answer stOk)

/-! ### Staris: arming and absorption (R351 to R354) -/

/-- A Staris ends its cut with a code, and the sample ring goes on (R316, R352). -/
def State.stopCut (s : State) (d : Die) (code : Nat) : State :=
  let st := s.rd (.staris d) O.STAY_STATE_5800
  if st = 1 ∨ st = 2 then (s.endCut d 0 code).shroudResume d else s

/-- CUT_ARM_COMMAND. IDLE or ARMED, a Staris enters ARMED and presents CUT_ARMED (R351); a die whose regions need more than
CHUNK_SLOTS slots ends with SHAPE (R352). -/
def execCutArmCommand (d : Die) (head : Nat) (s : State) : Result :=
  let p := Part.staris d
  if 2 ≤ s.rd p O.STAY_STATE_5800 then .next s
  else
    let s := ((s.wr p O.ARM_CUT_5800 (bits head 191 160)).wr p O.ARM_STEP_5800 (bits head 159 128)).wr p O.ARM_EPOCH_5800
      (bits head 127 96)
    let s := s.wr p O.STAY_STATE_5800 1
    if bits head 95 80 < s.slotsNeeded d then .next (s.stopCut d 3)
    else .next (s.emit (.cutArmed d.val (bits head 159 128)))

/-- CUT_CANCEL_COMMAND. The cut ends with code CANCEL (R352). -/
def execCutCancelCommand (d : Die) (s : State) : Result := .next (s.stopCut d 6)

/-- CUT_READY. An ARMED Staris begins absorption and claims DMA channel 2, or ends with STEP_MISMATCH (R351 to R353). -/
def execCutReady (d : Die) (step : Nat) (s : State) : Result :=
  let p := Part.staris d
  if s.rd p O.STAY_STATE_5800 = 1 then
    let s := s.wr p O.LAST_READY_5800 (s.ns p)
    if step % 2 ^ 32 ≠ s.rd p O.ARM_STEP_5800 then .next (s.stopCut d 2)
    else
      let s := (s.setStd d { s.std d with tReady := s.ns p }).wr p O.STAY_STATE_5800 2
      .next (s.dmaSettle p 2)
  else .next s

/-- READY_TIMEOUT. READY_WAIT has passed in ARMED (R352). -/
def execReadyTimeout (d : Die) (s : State) : Result :=
  if s.rd (.staris d) O.STAY_STATE_5800 = 1 then .next (s.stopCut d 1) else .next s

/-- A chunk header (R353). -/
def chunkHeader (epoch step cut rtag chunk len region rkind : Nat) (dedup last : Bool) (ty : Nat) : Nat :=
  fld 224 32 epoch + fld 192 32 step + fld 160 32 cut + fld 128 32 rtag + fld 104 24 chunk + fld 80 24 len + fld 74 6 region
    + fld 68 4 rkind + fld 67 1 (ofBool dedup) + fld 66 1 (ofBool last) + ty % 256

/-- One chunk leaves on the Stay absorption channel (R353). -/
def State.sendChunk (s : State) (d : Die) (r c : Nat) (data : List (Nat × Bool)) : State :=
  let p := Part.staris d
  let len := s.chunkLen d r c
  let flags := s.rd p (O.REG_FLAGS_5810 r)
  let h := chunkHeader (s.rd p O.ARM_EPOCH_5800) (s.rd p O.ARM_STEP_5800) (s.rd p O.ARM_CUT_5800) (s.rd p (O.REG_TAG_5810 r)) c len
    r (s.rd p (O.REG_KIND_5810 r)) (bitAt flags 1) (c + 1 == s.regChunks d r) 0x61
  let body := (List.range len).map fun i =>
    let g := data.getD i (0, false);
    ({ data := g.1 % 2 ^ 256, poison := g.2 } : Gran)
  let s := s.bump p O.BYTES_SENT_5800 64 (32 * len)
  s.send false d 5 ({ data := h } :: body)

/-- ABSORPTION_COMPLETE. Every chunk has been read and sent, the die is released, END follows (R353, R354). Nothing is read while
a software transfer keeps channel 2 (R430). -/
def execAbsorptionComplete (d : Die) (data : List (List (Nat × Bool))) (s : State) : Result :=
  let p := Part.staris d
  if s.rd p O.STAY_STATE_5800 = 2 ∧ s.dmaState p 2 = 3 then
    let order := s.slotOrder d
    let s := ((List.range order.length).zip order).foldl (fun s e => s.sendChunk d e.2.1 e.2.2 (data.getD e.1 [])) s
    .next ((s.endCut d order.length 0).shroudResume d)
  else .next s

/-! ### The drain (R362 to R365, R373, R374) -/

/-- The region key (RTAG, CHUNK) of a chunk. -/
def Chunk.key (c : Chunk) : Nat × Nat := (c.rtag, c.chunk)

/-- A chunk held. -/
def State.chunk (s : State) (n : Nat) : Chunk := Tbl.get (fun _ => {}) s.stay.chunks n

/-- A chunk replaced. -/
def State.setChunk (s : State) (n : Nat) (c : Chunk) : State :=
  s.setStay { s.stay with chunks := Tbl.insert s.stay.chunks n c }

/-- The pod die number of a chunk's copy. -/
def State.holderOf (s : State) (c : Chunk) : Nat := podDie s.vager.tree.self c.die

/-- A target's connection. -/
def State.target (s : State) (t : Nat) : Target := Tbl.get (fun _ => {}) s.stay.targets t

/-- A target's connection replaced. -/
def State.setTarget (s : State) (t : Nat) (x : Target) : State :=
  s.setStay { s.stay with targets := Tbl.set (fun _ => {}) s.stay.targets t x }

/-- The connection of queue `q` of a target as it stands. -/
def State.conn (s : State) (t q : Nat) : NvmeConn := (Tbl.find (s.target t).conns q).getD {}

/-- The lengths of the TCP segments that carry `n` bytes, at most `most` in each. -/
def segLengths (most : Nat) : Nat → Nat → List Nat
  | 0, _ => []
  | fuel + 1, n => if n = 0 then [] else min most n :: segLengths most fuel (n - most)

/-- A PDU leaves on the connection of queue `q` of a target: in TCP segments of kind 4 or 5, as large as an IP packet of 9,000 bytes
lets them be (R363, R366, R409, R411; log entry 102). -/
def State.sendPdu (s : State) (t q : Nat) (pdu : List Nat) : State :=
  let a := ipv6 (s.bytesAt .vager (O.TGT_ADDR_5888 t) 0 16)
  let h := ipHeader a + 20
  let s := s.emit (.nvme t q (s.rd .vager (O.TGT_PORT_5888 t)) pdu)
  match s.route a with
  | none => s
  | some (f, hop) =>
    (segLengths (9000 - h) (pdu.length / (9000 - h) + 1) pdu.length).foldl
      (fun s n => s.enqueueFrame f (if q = 0 then 4 else 5) (h + n) hop none) s

/-- A command leaves on queue `q` of a target. -/
def State.sendCmd (s : State) (t q : Nat) (entry data : List Nat) : State := s.sendPdu t q ((s.conn t q).capsule entry data)

/-- A connection is begun where none stands (R363). -/
def State.connect (s : State) (t : Nat) : State :=
  if (s.target t).stage = 0 then
    ((s.setTarget t { s.target t with stage := 1 }).wr .vager (O.TGT_STATE_5888 t) 1).sendPdu t 0 icReq
  else s

/-- Fabrics Connect of queue `q`: the controller that a queue after the first names is the one that the target gave the first, which no
command tells here. -/
def State.fabricsConnect (s : State) (t q : Nat) : State :=
  let nqn := s.bytesAt .vager (O.TGT_SUBNQN_5888 t) 0 223
  let host := s.bytesAt .vager O.HOST_NQN_5883 0 223
  if q = 0 then s.sendCmd t q (sqeConnect 0 q) (connectData 0xFFFF nqn host)
  else
    let (c, s) := s.takeNat
    s.sendCmd t q (sqeConnect 0 q) (connectData c nqn host)

/-- The first I/O queue of a target that is up and holds fewer than 128 Writes (R363). -/
def State.freeQueue (s : State) (t : Nat) : Option Nat :=
  ((s.target t).conns.map Prod.fst).find? fun q => q != 0 &&
    decide ((s.stay.writes.filter fun y => y.stage == .outstanding && y.tgt == t && y.queue == q).length < 128)

/-- Granules of an item. -/
def State.itemLen (s : State) (i : DrainItem) : Nat :=
  match i with
  | .chunk n => (s.chunk n).len
  | .manifest => s.stay.manifest.length
  | .record => s.commitRecord.length

/-- The Writes that cover an item on an NVMe/TCP target: each at most MDTS, and never more than 4 MiB (R363). -/
def splitWrites : Nat → Nat → Nat → Nat → List (Nat × Nat)
  | 0, _, _, _ => []
  | k + 1, first, len, most => if first < len then (first, min most (len - first)) :: splitWrites k (first + most) len most else []

/-- Granules of a target's greatest Write. -/
def State.writeMost (s : State) (t : Nat) : Nat :=
  match (s.target t).mdts.getD 0 with
  | 0 => chunkBytes / 32
  | m => max 1 (min m chunkBytes / 32)

/-- Bytes of an LBA of a target. -/
def State.lbaBytes (s : State) (t : Nat) : Nat := max 1 (s.rd .vager (O.TGT_LBA_BYTES_5888 t))

/-- LBAs of a Write. -/
def State.writeLbas (s : State) (x : DrainWrite) : Nat := (32 * x.count + s.lbaBytes x.tgt - 1) / s.lbaBytes x.tgt

/-- A Write command with FUA set. -/
def State.issueWrite (s : State) (x : DrainWrite) : State :=
  let lba := s.lbaBytes x.tgt
  let start := (s.itemPlace x.item).2 + x.first * 32 / lba
  let n := s.writeLbas x
  s.sendCmd x.tgt x.queue (sqeWrite x.cid (s.rd .vager (O.TGT_NSID_5888 x.tgt)) start n (n * lba)) []

/-- Waiting Writes start while fewer than MAX_WRITES are outstanding and a queue of their target has room (R363, R366). -/
def State.startWrites (s : State) : State :=
  s.stay.writes.foldl (fun s x =>
    let out := (s.stay.writes.filter fun y => y.stage == .outstanding).length
    if x.stage = .waiting ∧ out < s.rd .vager O.MAX_WRITES_5883 then
      match s.freeQueue x.tgt with
      | none => s
      | some q =>
        let go := fun (y : DrainWrite) => { y with stage := .outstanding, queue := q }
        let s := s.setStay { s.stay with writes := s.stay.writes.map fun y => if y.cid = x.cid then go y else y }
        s.issueWrite (go x)
    else s) s

/-- Granules of slot `slot` are read with errors, by granule after `first` (R33, R35). -/
def State.readSlot (s : State) (slot first : Nat) (errors : List (Nat × HbmError)) : State :=
  errors.foldl (fun s e => (s.hbmRead (s.stayBase + slot * 131072 + first + e.1) (some e.2)).2) s

/-- Descriptor and digest of an item in the host ring (R365). -/
def State.itemHead (s : State) (i : DrainItem) : List Nat :=
  match i with
  | .chunk n =>
    let c := s.chunk n
    let p := s.itemPlace i
    [chunkDescriptor c (s.holderOf c) (c.owner.getD 0) p.2 p.1, ofBytes (c.digest.getD [])]
  | .manifest =>
    [chunkDescriptor { chunk := 0xFFFFFF, len := s.stay.manifest.length } 0 0 0 (s.itemPlace i).1, ofBytes (granulesDigest s.stay.manifest)]
  | .record =>
    [chunkDescriptor { chunk := 0xFFFFFE, len := s.commitRecord.length } 0 0 0 (s.itemPlace i).1, ofBytes (granulesDigest s.commitRecord)]

/-- The holders that listed a chunk with the same digest, ascending: those of peers, and the dies of this tray, whose list this tray
has sent (R374; log entry 174). -/
def State.goodHolders (s : State) (c : Chunk) : List Nat :=
  let es := s.stay.peers.flatMap fun e => if e.2.last.isSome then e.2.entries else []
  let hs := (es.filter fun e => (e.rtag, e.chunk) == c.key && some e.digest == c.digest).map fun e => e.holder
  let own := (s.stay.chunks.filter fun e => e.2.dedup && !e.2.poison && e.2.key == c.key && e.2.digest == c.digest).map
    fun e => s.holderOf e.2
  (hs ++ own).foldl (fun l h => (l.filter (· < h)) ++ [h] ++ l.filter (fun x => decide (h < x))) []

/-- The slot of a good copy that holder `h`, a die of this tray, has of a chunk (R374). -/
def State.goodCopy (s : State) (c : Chunk) (h : Nat) : Option Nat :=
  (s.stay.chunks.find? fun e => s.holderOf e.2 == h && e.2.key == c.key && !e.2.poison && e.2.digest == c.digest
    && (s.slotData e.1 e.2.len).all fun g => !g.poison).map Prod.fst

/-- Holder `h` of this tray takes over the chunk of `slot` with its copy in slot `n`, which joins the drain (R374). -/
def State.takeOver (s : State) (slot n h : Nat) : State :=
  let give := fun (c : Chunk) => { c with owner := some h, handed := true }
  let s := (s.setChunk slot (give (s.chunk slot))).setChunk n (give (s.chunk n))
  s.setStay { s.stay with queue := s.stay.queue ++ [.chunk n] }

/-- The first of the holders left is asked: a die of this tray takes over at once where its copy is good, and a peer gets HANDOFF; with
none left the cut is unusable (R373, R374). -/
def State.handTo (slot : Nat) : List Nat → State → State
  | [], s =>
    (s.setStay { s.stay with handoffs := s.stay.handoffs.filter fun h => h.slot != slot }).unusable 8
  | h :: t, s =>
    let c := s.chunk slot
    let s := s.setStay { s.stay with handoffs := s.stay.handoffs.filter fun h => h.slot != slot }
    if h / 16 = s.vager.tree.self then
      match s.goodCopy c h with
      | some n => s.takeOver slot n h
      | none => State.handTo slot t s
    else
      let s := s.setStay { s.stay with handoffs := s.stay.handoffs ++ [{ slot := slot, asked := h, left := t, since := s.extNow }] }
      let a := s.arm
      (s.bump .vager O.HANDOFFS_SENT_5882 32).sendStay (h / 16) (armCut a) (armEpoch a) 0x72 0 c.chunk false false
        [ofBytes (c.digest.getD []), chunkDescriptor c (s.holderOf c) (c.owner.getD 0) 0 0]

/-- An owned chunk has been read as poison after digesting (R373, R374): its Writes end, and it is handed off. -/
def State.chunkSpoilt (s : State) (slot : Nat) : State :=
  let c := s.chunk slot
  let s := s.setChunk slot { c with poison := true }
  let x := s.stay
  let s := s.setStay { x with spoilt := true, writes := x.writes.filter fun y => y.item != .chunk slot,
                              queue := x.queue.filter fun y => y != .chunk slot }
  let s := s.bump .vager O.CHUNKS_POISONED_5882 32
  State.handTo slot (if c.dedup then s.goodHolders c else []) s

/-- A record of the host ring is written: descriptor, digest and data, then MSI-X on HOST_VECTOR (R365). -/
def State.hostRecord (s : State) (i : DrainItem) : State :=
  let v := Part.vager
  let size := max 1 (s.rd v O.HOST_RING_BYTES_5898)
  let at_ := s.rd v O.HOST_WRITE_5898
  let gs := (s.itemHead i).map (fun g => ({ data := g } : Gran)) ++ s.itemData i
  let base := s.rd v O.HOST_RING_BASE_5898
  let s := ((List.range gs.length).zip gs).foldl (fun s e =>
    s.emit (.hostWrite (base + (at_ + 32 * e.1) % size) e.2.data e.2.poison)) s
  let stop := at_ + 32 * gs.length
  let s := s.wr v O.HOST_WRITE_5898 (stop % 2 ^ 64)
  let s := s.setStay { s.stay with hostRecs := s.stay.hostRecs ++ [(i, stop)] }
  s.msix v (s.rd v O.HOST_VECTOR_5898)

/-- The next queued item starts if it can: an NVMe/TCP item becomes its Writes once its target is ready, and a host item its
record once the ring has room and channel 15 is Stay's. -/
def State.startItem (s : State) (i : DrainItem) : State :=
  let v := Part.vager
  let t := (s.itemPlace i).1
  let drop := fun (s : State) => s.setStay { s.stay with queue := s.stay.queue.filter fun y => y != i }
  if s.rd v (O.TGT_KIND_5888 t) = 1 then
    if (s.target t).stage = 3 then
      let len := s.itemLen i
      let ws := splitWrites len 0 len (s.writeMost t)
      ws.foldl (fun s e =>
        let x := s.stay
        s.setStay { x with nextCid := x.nextCid + 1,
                           writes := x.writes ++ [{ cid := x.nextCid, tgt := t, item := i, first := e.1, count := e.2 }] }) (drop s)
    else s.connect t
  else if s.rd v (O.TGT_KIND_5888 t) = 2 then
    let need := 32 * (s.itemLen i + 2)
    let used := subMod 64 (s.rd v O.HOST_WRITE_5898) (s.rd v O.HOST_ACK_5898)
    if s.dmaState v 15 = 3 ∧ used + need ≤ s.rd v O.HOST_RING_BYTES_5898 ∧ bits (s.rd v O.PCIE_STATE_7C40) 1 0 = 0 then
      let bad := match i with
        | .chunk n => (s.itemData i).any (fun g => g.poison) && !(s.chunk n).poison
        | _ => false
      match i, bad with
      | .chunk n, true => s.chunkSpoilt n
      | _, _ => (drop s).hostRecord i
    else s
  else s

/-- The drain goes on with what can start now. -/
def State.pump (s : State) : State := (s.stay.queue.foldl (fun s i => s.startItem i) s).startWrites

/-- Items join the drain. -/
def State.enqueue (s : State) (l : List DrainItem) : State := (s.setStay { s.stay with queue := s.stay.queue ++ l }).pump

/-! ### PREPARED and COMMIT (R367 to R371) -/

/-- COMMIT takes effect at this tray (R369, R356). -/
def State.localCommit (s : State) (digest : List Nat) : State :=
  let v := Part.vager
  let a := s.arm
  if s.cutState = 5 then
    let s := s.setCut 6 4
    let s := ((s.wr v O.LAST_CUT_5881 (armCut a)).wr v O.LAST_STEP_5881 (armStep a)).wr v O.LAST_EPOCH_5881 (armEpoch a)
    let s := ((s.wr v O.LAST_AREA_5881 (armArea a)).writeOctets v O.LAST_RECORD_DIGEST_5881 32 digest).wr v O.LAST_TIME_5881 s.extNow
    let s := if s.stay.spoilt then s else s.wr v O.SHADOW_CUT_5881 (armCut a)
    s.setStay { s.stay with kept := s.stay.manifest }
  else s

/-- COMMIT goes to every tray of the job that has not answered (R369). -/
def State.sendCommits (s : State) (resend : Bool) : State :=
  let a := s.arm
  let d := ofBytes (s.bytesAt .vager O.COORD_REC_DIGEST_58A0 0 32)
  s.jobPeers.foldl (fun s t => if s.stay.coord.acks.contains t then s
    else s.sendStay t (armCut a) (armEpoch a) 0x77 (armStep a) 0 false resend [d]) s

/-- COMMIT_POINT: the commit record is durable (R369). -/
def State.commitPoint (s : State) : State :=
  let d := granulesDigest s.commitRecord
  let s := (s.wr .vager O.COORD_STATE_58A0 2).writeOctets .vager O.COORD_REC_DIGEST_58A0 32 d
  let s := s.setStay { s.stay with coord := { s.stay.coord with writing := false } }
  (s.sendCommits false).localCommit d

/-- The coordinator takes the digest of a position; with every one held it writes the commit record (R369). -/
def State.coordTake (s : State) (pos : Nat) (digest : List Nat) : State :=
  let a := s.arm
  let n := armHi a + 1 - armLo a
  let c := s.stay.coord
  if s.rd .vager O.COORD_STATE_58A0 = 1 ∧ pos < n ∧ 1 ≤ s.cutState ∧ s.cutState ≤ 6 then
    let t := Tbl.insert c.digests pos digest
    let s := (s.setStay { s.stay with coord := { c with digests := t } }).showCoord
    if t.length = n ∧ c.writing = false then
      (s.setStay { s.stay with coord := { s.stay.coord with writing := true } }).enqueue [.record]
    else s
  else s

/-- PREPARED goes to the coordinator (R369). -/
def State.sendPrepared (s : State) (resend : Bool) : State :=
  let a := s.arm
  let d := granulesDigest s.stay.manifest
  let c := s.rd .vager O.COORD_TRAY_5880
  if c = s.vager.tree.self then s.coordTake (c - armLo a) d
  else s.sendStay c (armCut a) (armEpoch a) 0x75 (armStep a) 0 false resend [ofBytes d]

/-- TRAY_PREPARED: the manifest is durable (R367, R369). -/
def State.prepared (s : State) : State :=
  if s.cutState = 4 then
    (s.setCut 5 3).sendPrepared false
  else s

/-- With every owned chunk durable and every HANDOFF answered the manifest is written (R369). -/
def State.checkDrained (s : State) : State :=
  let owned := s.stay.chunks.filter fun e => e.2.owner == some (s.holderOf e.2)
  if s.cutState = 4 ∧ (owned.all fun e => e.2.durable) ∧ s.stay.handoffs = [] ∧ s.stay.manifest = []
      ∧ s.rd .vager O.CUT_ABORT_CODE_5880 = 0 then
    (s.setStay { s.stay with manifest := s.makeManifest }).enqueue [.manifest]
  else s

/-- An item of the drain has become durable. -/
def State.itemDurable (s : State) (i : DrainItem) : State :=
  match i with
  | .chunk n =>
    let c := s.chunk n
    let s := s.setChunk n { c with durable := true }
    ((s.bump .vager O.CHUNKS_DURABLE_5882 32).bump .vager O.BYTES_DURABLE_5882 64 (32 * c.len)).checkDrained
  | .manifest => s.prepared
  | .record => if s.stay.coord.writing then s.commitPoint else s

/-! ### Absorption at Vager, exchange and ownership (R355 to R360) -/

/-- A digest list's entries, two granules each (R358). -/
def readEntries : List Nat → List PeerEntry
  | d :: c :: t => { rtag := bits c 255 224, chunk := bits c 223 200, holder := bits c 119 103, digest := toBytes 32 d } :: readEntries t
  | _ => []

/-- The DIGESTS list of this tray, in segments of at most 64 entries. A tray with nothing to list sends one empty segment (log
entry 40). -/
def State.digestList (s : State) : List (List Nat) :=
  let mine := s.stay.chunks.filter fun e => e.2.dedup && !e.2.poison
  let order := sortBy (fun a b => decide (a.1.1 < b.1.1) || (a.1.1 == b.1.1 && decide (a.1.2 ≤ b.1.2)))
    (mine.map fun e => (e.2.key, e.1))
  let es := order.map fun e =>
    let c := s.chunk e.2
    [ofBytes (c.digest.getD []), chunkDescriptor c (s.holderOf c) 0 0 0]
  (List.range (max 1 ((es.length + 63) / 64))).map fun j => ((es.drop (64 * j)).take 64).flatten

/-- A peer's list is complete (R358). -/
def PeerList.complete (l : PeerList) : Bool :=
  match l.last with
  | some n => (List.range (n + 1)).all fun j => l.segs.contains j
  | none => false

/-- A peer's list. -/
def State.peerList (s : State) (t : Nat) : PeerList := Tbl.get (fun _ => {}) s.stay.peers t

/-- What becomes of a chunk: its owner, or a code of R372 for the job (R359, R373). -/
def State.ownerOf (s : State) (c : Chunk) : Option Nat × Nat :=
  let own := s.stay.chunks.filter fun e => e.2.dedup && !e.2.poison && e.2.key == c.key
  let theirs := s.stay.peers.flatMap fun e => if e.2.complete then e.2.entries.filter fun x => (x.rtag, x.chunk) == c.key else []
  let hs := own.map (fun e => (s.holderOf e.2, e.2.digest.getD [])) ++ theirs.map fun x => (x.holder, x.digest)
  if c.dedup = false then (some (s.holderOf c), if c.poison then 8 else 0)
  else if c.poison then (none, if hs = [] then 8 else 0)
  else if (hs.any fun h => some h.2 != c.digest) then (none, 9)
  else (some (hs.foldl (fun m h => min m h.1) (s.holderOf c)), 0)

/-- Peers whose list is incomplete count as holding nothing and are marked (R359). -/
def State.markSilent (s : State) : State :=
  let ps := s.stayPeers
  let silent := ((List.range ps.length).zip ps).filter fun e => !(s.peerList e.2).complete
  let s := silent.foldl (fun s e => s.setObit .vager O.PEERS_SILENT_5882 e.1 true) s
  s.setStay { s.stay with peers := s.stay.peers.filter fun e => e.2.complete }

/-- Every chunk takes its owner, but one that a HANDOFF has brought already (R359, R374). -/
def State.decideOwners (s : State) : State :=
  s.setStay { s.stay with chunks := s.stay.chunks.map fun e =>
    if e.2.handed then e else (e.1, { e.2 with owner := (s.ownerOf e.2).1 }) }

/-- The codes of R372 that the chunks give, with their keys (R359, R373). -/
def State.ownerCodes (s : State) : List ((Nat × Nat) × Nat) := s.stay.chunks.map fun e => (e.2.key, (s.ownerOf e.2).2)

/-- A chunk that this tray writes. -/
def State.ownsCopy (s : State) (c : Chunk) : Bool := c.owner == some (s.holderOf c)

/-- What the decision counts in 0x5882. -/
def State.countOwners (s : State) (codes : List ((Nat × Nat) × Nat)) : State :=
  let v := Part.vager
  let mine := s.stay.chunks.filter fun e => s.ownsCopy e.2
  let away := s.stay.chunks.filter fun e => e.2.owner.isSome && !s.ownsCopy e.2
  let split := (codes.filter fun e => e.2 == 9).map fun e => e.1
  ((s.wr v O.CHUNKS_OWNED_5882 mine.length).wr v O.CHUNKS_DEDUPED_5882 away.length).wr v O.KEYS_DIVERGED_5882
    split.eraseDups.length

/-- The first code among those of the chunks makes the cut unusable (R373). -/
def State.firstCode (s : State) (codes : List ((Nat × Nat) × Nat)) : State :=
  match codes.find? fun e => e.2 != 0 with
  | some e => s.unusable e.2
  | none => s

/-- The tray enters DRAINING: every chunk is decided, and the owned ones are drained (R359, R373). -/
def State.enterDraining (s : State) : State :=
  let s := s.markSilent.setCut 4 2
  let codes := s.ownerCodes
  let s := (s.decideOwners.countOwners codes).firstCode codes
  let mine := s.stay.chunks.filter fun e => s.ownsCopy e.2 && !e.2.poison && !e.2.handed
  if s.cutState = 4 then (s.enqueue (mine.map fun e => DrainItem.chunk e.1)).checkDrained else s

/-- EXCHANGING: the list goes to every peer; a tray without peers, or that has heard them all, drains at once (R357 to R359). -/
def State.checkPeers (s : State) : State :=
  if s.cutState = 3 ∧ (s.stayPeers.all fun t => (s.peerList t).complete) then s.enterDraining else s

/-- The tray enters EXCHANGING (R357, R358). -/
def State.enterExchanging (s : State) : State :=
  let s := s.setCut 3 1
  let a := s.arm
  let segs := s.digestList
  let s := s.stayPeers.foldl (fun s t =>
    ((List.range segs.length).zip segs).foldl (fun s e =>
      s.sendStay t (armCut a) (armEpoch a) 0x71 e.1 0 (e.1 + 1 == segs.length) false e.2) s) s
  s.checkPeers

/-- ABSORBING ends when every die has sent END with CODE 0 and every chunk is digested (R357). -/
def State.checkAbsorbed (s : State) : State :=
  if s.cutState = 2 ∧ ((maskDies (armMask s.arm)).all fun d => (Tbl.find s.stay.ends d.val).isSome)
      ∧ (s.stay.chunks.all fun e => e.2.digest.isSome) then s.enterExchanging else s

/-- An absorbed chunk lands in its slot: the first of a cut overwrites the shadow; its descriptor, poison and bytes are kept and
counted, the poisoned granules per port (R302, R346, R355, R356). `spoilt` says that its header granule is poisoned. -/
def State.landChunk (s : State) (p : Die) (header : Nat) (spoilt : Bool) (data : List (Nat × Bool)) : State :=
  let v := Part.vager
  let r := bits header 79 74
  let c := bits header 127 104
  let slot := s.regFirst p r + c
  let s := if s.cutState = 1 then
      (((s.wr v O.CUT_STATE_5880 2).wr v O.SHADOW_CUT_5881 0).setStay { s.stay with kept := [] })
    else s
  let n := s.slotNumber p slot
  let marked := ofBool spoilt + (data.filter fun g => g.2).length
  let bad := decide (marked ≠ 0)
  let s := (s.fillSlot n data).countPort O.STAY_POISON_5080 p.val marked
  let s := s.setChunk n { die := p.val, rtag := bits header 159 128, chunk := c, len := data.length, region := r,
                          rkind := bits header 71 68, dedup := bitAt header 67, poison := bad }
  let s := s.wr v O.CHUNKS_HELD_5882 s.stay.chunks.length
  let s := if bad then s.bump v O.CHUNKS_POISONED_5882 32 else s
  s.setElem v O.PORT_BYTES_5882 8 p.val ((s.elem v O.PORT_BYTES_5882 8 p.val + 32 * data.length) % 2 ^ 64)

/-- STAY_CHUNK_RX. An absorbed chunk lands in its slot (R346, R355, R356), or one that names no slot of the die's share, or
another cut, discards the cut. -/
def execStayChunkRx (p : Die) (header : Nat) (spoilt : Bool) (data : List (Nat × Bool)) (s : State) : Result :=
  let v := Part.vager
  let r := bits header 79 74
  let c := bits header 127 104
  let slot := s.regFirst p r + c
  if s.cutState = 1 ∨ s.cutState = 2 then
    if bits header 191 160 ≠ armCut s.arm ∨ bitAt (armMask s.arm) p.val = false ∨ s.regChunks p r ≤ c
        ∨ s.rd v O.CHUNK_SLOTS_5880 ≤ slot then .next (s.discardCut 7)
    else .next (s.landChunk p header spoilt data)
  else .next s

/-- CHUNK_DIGEST_DONE. A chunk's SHA-256 is done (R355). That of a chunk which holds poison is open (log entry 3). -/
def execChunkDigestDone (slot : Nat) (errors : List (Nat × HbmError)) (s : State) : Result :=
  let c := s.chunk slot
  if s.cutState = 2 ∧ (Tbl.find s.stay.chunks slot).isSome ∧ c.digest = none then
    let s := s.readSlot slot 0 (errors.filter fun e => decide (e.1 < c.len))
    let gs := s.slotData slot c.len
    if (gs.any fun g => g.poison) then
      let (x, s) := s.takeNat
      let s := if c.poison then s else s.bump .vager O.CHUNKS_POISONED_5882 32
      let s := s.setStay { s.stay with spoilt := true }
      .next ((s.setChunk slot { c with poison := true, digest := some (toBytes 32 x) }).checkAbsorbed)
    else .next ((s.setChunk slot { c with digest := some (granulesDigest (gs.map fun g => g.data)) }).checkAbsorbed)
  else .next s

/-- STAY_END_RX. A Staris has ended its part of the cut (R354, R357). -/
def execStayEndRx (p : Die) (granule : Nat) (s : State) : Result :=
  let code := bits granule 71 64
  if (s.cutState = 1 ∨ s.cutState = 2) ∧ bits granule 191 160 = armCut s.arm ∧ bitAt (armMask s.arm) p.val then
    if code ≠ 0 then .next (s.discardCut code)
    else
      let e := (s.extend (bits granule 159 128), s.extend (bits granule 127 96))
      .next ((s.setStay { s.stay with ends := Tbl.insert s.stay.ends p.val e }).checkAbsorbed)
  else .next s

/-- DIGESTS_RX. A segment of a peer's list (R358, R359). -/
def execDigestsRx (header : Nat) (body : List Nat) (s : State) : Result :=
  let t := smSrc header
  let seg := smArg0 header
  if s.smHere header 1 3 ∧ s.stayPeers.contains t then
    let l := s.peerList t
    if l.segs.contains seg then .next s
    else
      let l' : PeerList := { segs := seg :: l.segs, last := if smLast header then some seg else l.last,
                             entries := l.entries ++ readEntries body }
      let s := s.setStay { s.stay with peers := Tbl.insert s.stay.peers t l' }
      let s := if l'.complete then s.bump .vager O.PEERS_HEARD_5882 16 else s
      .next s.checkPeers
  else .next s

/-- EXCHANGE_WAIT_EXPIRY. The tray drains without the lists it misses (R359). -/
def execExchangeWaitExpiry (s : State) : Result := if s.cutState = 3 then .next s.enterDraining else .next s

/-! ### NVMe/TCP (R363, R364) -/

/-- A Write failed, or lost its connection: it waits for its back-off (R364). -/
def State.failWrite (s : State) (cid : Nat) : State :=
  s.setStay { s.stay with writes := s.stay.writes.map fun y => if y.cid = cid then { y with stage := .backoff } else y }

/-- NVME_CAPSULE_RESP_RX. A Write completes (R364): with success it is done, and an item whose Writes are all done is durable. -/
def execNvmeCapsuleRespRx (t : Fin 8) (cid : Nat) (ok : Bool) (s : State) : Result :=
  match s.stay.writes.find? fun x => x.cid == cid && x.tgt == t.val && x.stage == .outstanding with
  | none => .next s
  | some x =>
    if ok then
      let s := s.setStay { s.stay with writes := s.stay.writes.filter fun y => y.cid != cid }
      let s := if (s.stay.writes.any fun y => y.item == x.item) then s else s.itemDurable x.item
      .next s.pump
    else .next ((s.bump .vager (O.TGT_ERRORS_5888 t.val) 32).failWrite cid)

/-- NVME_R2T_RX. The target asks for data of a Write (R363): H2CData carries it, unless it is read as poison (R373, R374). The end of
the last LBA holds zeros. -/
def execNvmeR2tRx (t : Fin 8) (cid ttag offset length : Nat) (errors : List (Nat × HbmError)) (s : State) : Result :=
  match s.stay.writes.find? fun x => x.cid == cid && x.tgt == t.val && x.stage == .outstanding with
  | none => .next s
  | some x =>
    let first := x.first + offset / 32
    let n := min (granulesOf length) (x.count - offset / 32)
    let s := match x.item with
      | .chunk k => s.readSlot k first (errors.filter fun e => decide (e.1 < n))
      | _ => s
    let gs := ((s.itemData x.item).drop first).take n
    match x.item, gs.any fun g => g.poison with
    | .chunk k, true => .next (s.chunkSpoilt k).pump
    | _, _ =>
      let data := (gs.flatMap fun g => toBytes 32 g.data) ++ List.replicate length 0
      let c := s.conn t.val x.queue
      let most := if c.most = 0 then length else c.most
      .next ((c.h2cPieces cid ttag most (length / most + 1) offset (data.take length)).foldl
        (fun s pdu => s.sendPdu t.val x.queue pdu) s)

/-- NVME_ICRESP_RX. A connection is set up (R363): on the admin queue Fabrics Connect, Property Set and Get and both Identify follow, on
an I/O queue Fabrics Connect, and Writes may go. -/
def execNvmeIcrespRx (t : Fin 8) (q : Fin 9) (hdgst ddgst : Bool) (most : Nat) (s : State) : Result :=
  let x := s.target t.val
  let put := fun (stage : Nat) => s.setTarget t.val { x with
    stage := stage, conns := Tbl.insert x.conns q.val { hdgst := hdgst, ddgst := ddgst, most := most } }
  if q.val = 0 ∧ x.stage = 1 then
    let s := (put 2).fabricsConnect t.val 0
    let s := (s.sendCmd t.val 0 (sqePropertySet 1) []).sendCmd t.val 0 (sqePropertyGet 2) []
    .next ((s.sendCmd t.val 0 (sqeIdentify 3 0 1) []).sendCmd t.val 0
      (sqeIdentify 4 (s.rd .vager (O.TGT_NSID_5888 t.val)) 0) [])
  else if q.val ≠ 0 ∧ x.stage = 3 ∧ (Tbl.find x.conns q.val).isNone then
    .next (((put 3).fabricsConnect t.val q.val).wr .vager (O.TGT_STATE_5888 t.val) 2).pump
  else .next s

/-- A connection ends; its Writes are tried again (R364). -/
def State.loseTarget (s : State) (t : Nat) : State :=
  let s := (s.setTarget t {}).wr .vager (O.TGT_STATE_5888 t) 3
  let s := s.bump .vager (O.TGT_ERRORS_5888 t) 32
  s.setStay { s.stay with writes := s.stay.writes.map fun y =>
    if y.tgt = t ∧ y.stage = .outstanding then { y with stage := .backoff } else y }

/-- Once Identify has told both MDTS and LBA size, the connections of the eight I/O queues are begun (R363; log entry 102). -/
def State.identified (s : State) (t : Nat) : State :=
  let x := s.target t
  if x.mdts.isSome ∧ x.formatKnown then
    (List.range 8).foldl (fun s q => s.sendPdu t (q + 1) icReq) (s.setTarget t { x with stage := 3 })
  else s

/-- NVME_C2H_DATA_RX. Identify gives MDTS, or the LBA format (R363). A format other than 512 or 4,096 bytes without metadata is not
supported. -/
def execNvmeC2hDataRx (t : Fin 8) (id : NvmeIdentify) (s : State) : Result :=
  let x := s.target t.val
  if x.stage = 2 then
    match id with
    | .controller mdts => .next ((s.setTarget t.val { x with mdts := some mdts }).identified t.val)
    | .nspace lba metadata =>
      if (lba = 512 ∨ lba = 4096) ∧ metadata = 0 then
        .next (((s.setTarget t.val { x with formatKnown := true }).wr .vager (O.TGT_LBA_BYTES_5888 t.val) lba).identified t.val)
      else .next ((s.sendPdu t.val 0 (s.conn t.val 0).termReq).loseTarget t.val)
  else .next s

/-- NVME_TERM_REQ_RX. The target ends the connection (R363). -/
def execNvmeTermReqRx (t : Fin 8) (s : State) : Result :=
  if (s.target t.val).stage = 0 then .next s else .next (s.loseTarget t.val)

/-- NVME_WRITE_RETRY. A Write's back-off ends; the next one is twice as long, at most 1 s (R364). -/
def execNvmeWriteRetry (t : Fin 8) (cid : Nat) (s : State) : Result :=
  match s.stay.writes.find? fun x => x.cid == cid && x.tgt == t.val && x.stage == .backoff with
  | none => .next s
  | some _ =>
    let s := s.setStay { s.stay with writes := s.stay.writes.map fun y =>
      if y.cid = cid then { y with stage := .waiting, backoff := min 1000 (2 * y.backoff) } else y }
    .next (((s.bump .vager O.WRITE_RETRIES_5882 32).connect t.val).pump)

/-! ### The host ring (R365) -/

/-- HOST_ACK_WRITE. Records that HOST_ACK has passed are durable, and their room is free (R365). -/
def execHostAckWrite (w : Writer) (value : Nat) (s : State) : Result :=
  let v := Part.vager
  .next (s.writeBy w false .host fun s =>
    let old := s.rd v O.HOST_ACK_5898
    let n := subMod 64 value old
    if subMod 64 (s.rd v O.HOST_WRITE_5898) old < n then s.answer stRange
    else
      let s := s.wr v O.HOST_ACK_5898 (value % 2 ^ 64)
      let (gone, left) := s.stay.hostRecs.partition fun e => decide (subMod 64 e.2 old ≤ n)
      let s := s.setStay { s.stay with hostRecs := left }
      ((gone.foldl (fun s e => s.itemDurable e.1) s).pump).answer stOk)

/-! ### Handoff (R374) -/

/-- HANDOFF_RX. A holder whose copy is good takes the chunk, and otherwise answers NAK. A tray whose manifest is already written
answers NAK (log entry 41). -/
def execHandoffRx (header : Nat) (body : List Nat) (s : State) : Result :=
  if s.smHere header 3 5 then
    let a := s.arm
    let reply := fun (s : State) ty => s.sendStay (smSrc header) (armCut a) (armEpoch a) ty 0 (smArg1 header) false false []
    match readEntries body with
    | [] => .next (reply s 0x74)
    | e :: _ =>
      let mine := s.stay.chunks.filter fun x => x.2.dedup && x.2.key == (e.rtag, e.chunk)
      if (mine.any fun x => x.2.owner == some (s.holderOf x.2) && !x.2.poison) then .next (reply s 0x73)
      else
        match mine.find? fun x => !x.2.poison && x.2.digest == some e.digest
            && (s.slotData x.1 x.2.len).all fun g => !g.poison with
        | some x =>
          if s.cutState = 5 ∨ s.stay.manifest ≠ [] then .next (reply s 0x74)
          else
            let s := if x.2.owner.isSome then s.wr .vager O.CHUNKS_DEDUPED_5882 (s.rd .vager O.CHUNKS_DEDUPED_5882 - 1) else s
            let s := s.setChunk x.1 { x.2 with owner := some (s.holderOf x.2), handed := true }
            let s := (s.bump .vager O.HANDOFFS_TAKEN_5882 32).bump .vager O.CHUNKS_OWNED_5882 32
            .next ((reply s 0x73).enqueue [.chunk x.1])
        | none => .next (reply s 0x74)
  else .next s

/-- The HANDOFF that a reply answers. -/
def State.handoffOf (s : State) (header : Nat) : Option Handoff :=
  s.stay.handoffs.find? fun h => h.asked / 16 == smSrc header && (s.chunk h.slot).chunk == smArg1 header

/-- HANDOFF_ACK_RX. The holder owns the chunk now (R374). -/
def execHandoffAckRx (header : Nat) (s : State) : Result :=
  if s.smHere header 4 4 then
    match s.handoffOf header with
    | none => .next s
    | some h =>
      let s := s.setStay { s.stay with handoffs := s.stay.handoffs.filter fun x => x.slot != h.slot }
      let s := s.setChunk h.slot { s.chunk h.slot with owner := some h.asked, handed := true }
      let s := (s.wr .vager O.CHUNKS_OWNED_5882 (s.rd .vager O.CHUNKS_OWNED_5882 - 1)).bump .vager O.CHUNKS_DEDUPED_5882 32
      .next s.checkDrained
  else .next s

/-- HANDOFF_NAK_RX. The next holder is asked, or the cut is unusable (R373, R374). -/
def execHandoffNakRx (header : Nat) (s : State) : Result :=
  if s.smHere header 4 4 then
    match s.handoffOf header with
    | none => .next s
    | some h => .next (State.handTo h.slot h.left s).pump.checkDrained
  else .next s

/-! ### Commit (R369 to R371) -/

/-- PREP_RESEND_PERIOD. PREPARED, COMMIT, ABORT and HANDOFF go again (R369, R374); a holder silent for EXCHANGE_WAIT counts as a
NAK. -/
def execPrepResendPeriod (s : State) : Result :=
  let v := Part.vager
  let a := s.arm
  let s := if s.cutState = 5 then s.sendPrepared true else s
  let s := if s.rd v O.COORD_STATE_58A0 = 2 then s.sendCommits true else s
  let s := match s.stay.coord.aborting with
    | some code => s.sendAborts code true
    | none => s
  let s := s.stay.handoffs.foldl (fun s h =>
    if h.since + 1000 * s.rd v O.EXCHANGE_WAIT_5883 ≤ s.extNow then State.handTo h.slot h.left s
    else
      let c := s.chunk h.slot
      s.sendStay (h.asked / 16) (armCut a) (armEpoch a) 0x72 0 c.chunk false true
        [ofBytes (c.digest.getD []), chunkDescriptor c (s.holderOf c) (c.owner.getD 0) 0 0]) s
  .next s.pump

/-- PREPARED_RX. The coordinator records a position's manifest digest (R369). -/
def execPreparedRx (header digest : Nat) (s : State) : Result :=
  let a := s.arm
  let t := smSrc header
  if s.smHere header 1 6 ∧ armLo a ≤ t ∧ smArg0 header = armStep a then
    .next (s.coordTake (t - armLo a) (toBytes 32 digest))
  else .next s

/-- UNUSABLE_RX. The coordinator aborts the cut on every tray (R369). -/
def execUnusableRx (header : Nat) (s : State) : Result :=
  if s.smHere header 1 8 then .next (s.coordUnusable (smArg0 header)) else .next s

/-- COMMIT_RX (R369). One for the last committed cut is answered after a later arm too (R366). -/
def execCommitRx (header digest : Nat) (s : State) : Result :=
  let v := Part.vager
  let ack := fun (s : State) cut epoch => s.sendStay (smSrc header) cut epoch 0x78 0 0 false false []
  if s.smHere header 5 6 then .next (ack (s.localCommit (toBytes 32 digest)) (armCut s.arm) (armEpoch s.arm))
  else if smCut header ≠ armCut s.arm ∧ smCut header ≠ 0 ∧ smCut header = s.rd v O.LAST_CUT_5881 then
    .next (ack s (s.rd v O.LAST_CUT_5881) (s.rd v O.LAST_EPOCH_5881))
  else .next s

/-- COMMIT_ACK_RX. COMMIT goes no more to that tray (R369). -/
def execCommitAckRx (header : Nat) (s : State) : Result :=
  let c := s.stay.coord
  if s.smHere header 1 8 ∧ s.rd .vager O.COORD_STATE_58A0 = 2 ∧ smSrc header ∉ c.acks then
    .next (s.setStay { s.stay with coord := { c with acks := smSrc header :: c.acks } })
  else .next s

/-- ABORT_RX. The cut is ABANDONED with COORD_ABORT (R357). -/
def execAbortRx (header : Nat) (s : State) : Result := if s.smHere header 1 5 then .next s.takeAbort else .next s

/-- COMMIT_WAIT_EXPIRY. The coordinator records and reports the lowest missing position (R371), and stops repeating an ABORT
(R369). -/
def execCommitWaitExpiry (s : State) : Result :=
  let v := Part.vager
  if s.rd v O.COORD_STATE_58A0 = 1 ∧ 4 ≤ s.cutState ∧ s.cutState ≤ 6 then
    let m := s.rd v O.COORD_MISSING_58A0
    .next ((s.recordV 0x0052 m).report { code := 0x31, detail := m })
  else .next (s.setStay { s.stay with coord := { s.stay.coord with aborting := none } })

/-- COORD_TRAY_WRITE. PREPARED goes to the new coordinator, which collects afresh (R371). -/
def execCoordTrayWrite (w : Writer) (value : Nat) (s : State) : Result :=
  let v := Part.vager
  .next (s.writeBy w true .fleet fun s =>
    if 8192 ≤ value then s.answer stRange
    else
      let was := s.rd v O.COORD_TRAY_5880
      let s := s.wr v O.COORD_TRAY_5880 value
      let me := s.vager.tree.self
      (if value = was then s
      else if value = me then if 1 ≤ s.cutState ∧ s.cutState ≤ 6 then s.startCoord else s
      else if was = me then (s.setStay { s.stay with coord := {} }).wr v O.COORD_STATE_58A0 0
      else s).answer stOk)

/-- PREP_INJECT. The coordinator takes a digest read back from storage (R370); refused of a Vager that does not collect. -/
def execPrepInject (w : Writer) (pos : Nat) (digest : List Nat) (s : State) : Result :=
  .next (s.writeBy w true .fleet fun s =>
    let n := armHi s.arm + 1 - armLo s.arm
    if s.rd .vager O.COORD_STATE_58A0 = 1 ∧ pos < n then
      (s.coordTake pos ((digest ++ List.replicate 32 0).take 32)).answer stOk
    else s.answer stRefused)

/-- CUT_ABANDON. The cut goes to ABANDONED in states 1 to 5 (R357). -/
def execCutAbandon (w : Writer) (s : State) : Result :=
  .next (s.writeBy w true .fleet fun s =>
    if 1 ≤ s.cutState ∧ s.cutState ≤ 5 then (s.abandonCut 10).answer stOk else s.answer stRefused)

/-- STAY_BYTES_WRITE. Resizes the Stay region (R25, R346, R384, R479). -/
def execStayBytesWrite (w : Writer) (value : Nat) (s : State) : Result :=
  let v := Part.vager
  .next (s.writeBy w true .fleet fun s =>
    let rst := s.rstState
    let first := 576000000000 - value
    let outside := (List.range 16).any fun r => s.rd v (O.HREG_ENABLE_7448 r) == 1 &&
      (decide (s.rd v (O.HREG_BASE_7448 r) < first) ||
        decide (576000000000 < s.rd v (O.HREG_BASE_7448 r) + s.rd v (O.HREG_BYTES_7448 r)))
    if value % 4096 ≠ 0 ∨ 512000000000 < value ∨ 572000000000 < value + s.rd v O.TRACE_REGION_BYTES_3580 ∨ s.cutIdle = false
        ∨ (1 ≤ rst ∧ rst ≤ 4) ∨ outside then s.answer stRefused
    else ((s.wr v O.STAY_BYTES_5880 value).wr v O.CHUNK_SLOTS_5880 (value / 67108864)).answer stOk)

/-! ### Restore (R375 to R382) -/

def propDigest (x : Nat) : List Nat := toBytes 32 (bits x 511 256)
def propForce (x : Nat) : Bool := bitAt x 104
def propArea (x : Nat) : Nat := bits x 103 96
def propStep (x : Nat) : Nat := bits x 95 64
def propEpoch (x : Nat) : Nat := bits x 63 32
def propCut (x : Nat) : Nat := bits x 31 0

/-- The restore in hand. -/
def State.rst (s : State) : Restore := s.stay.restore

/-- The restore replaced. -/
def State.setRst (s : State) (x : Restore) : State := s.setStay { s.stay with restore := x }

/-- A restore is REFUSED, or FAILED with code 7 (R379). -/
def State.refuseRst (s : State) (code : Nat) : State :=
  (s.wr .vager O.RST_REFUSE_58B0 code).wr .vager O.RST_STATE_58B0 (if code = 7 then 7 else 6)

/-- A command of a restore (R350): the cut, step and epoch are the proposal's. -/
def State.rstCommand (s : State) (d : Die) (cmd : Nat) : State :=
  let x := s.rst.proposal
  s.command d (fld 160 32 (propCut x) + fld 128 32 (propStep x) + fld 96 32 (propEpoch x)
    + fld 80 16 (s.rd .vager O.CHUNK_SLOTS_5880) + fld 32 8 cmd)

/-- DIE_MASK, TRAY_LO and TRAY_HI of a manifest (R367). -/
def manMask (m : List Nat) : Nat := bits (m.headD 0) 75 60
def manLo (m : List Nat) : Nat := bits (m.headD 0) 101 89
def manHi (m : List Nat) : Nat := bits (m.headD 0) 88 76

/-- The chunks of a manifest by shadow slot: digest and descriptor (R346, R361, R367). -/
def State.manChunks (s : State) (m : List Nat) : Tbl (List Nat × Nat) :=
  go (m.drop 3)
where
  go : List Nat → Tbl (List Nat × Nat)
    | d :: c :: t =>
      let die := bits c 106 103
      let slot := die * s.rd .vager O.CHUNK_SLOTS_5880 + s.regFirst (Fin.ofNat 16 die) (bits c 85 80) + bits c 223 200
      Tbl.insert (go t) slot (toBytes 32 d, c)
    | _ => []

/-- A die of the mask that may be given no restore counts as lacking a source (R487). -/
def State.lacksSource (s : State) (mask : Nat) : Bool :=
  (maskDies mask).any fun d => bitAt (s.rd .vager O.PAIR_WITHHELD_7480) d.val

/-- The plan is shown and the restore is READY, or it is REFUSED (R377 to R379). -/
def State.planRst (s : State) (m : List Nat) (host : Bool) : State :=
  let v := Part.vager
  let x := s.rst.proposal
  let mask := manMask m
  let t := s.manChunks m
  let src := fun (d : Nat) => if bitAt mask d ∧ bitAt (s.rd v O.PAIR_WITHHELD_7480) d = false then (if host then 2 else 1) else 0
  let lost := if host then s.rd v O.SHADOW_CUT_5881 else 0
  let plan := (List.range 16).map src ++ toBytes 4 (propCut x) ++ toBytes 4 (propStep x) ++ toBytes 4 lost
    ++ toBytes 4 (if host then t.length else 0)
  let s := s.writeOctets v O.RST_PLAN_58B0 64 plan
  let s := s.setRst { s.rst with params := m.headD 0, chunks := t, todo := if host then t.map (fun e => e.1) else [], fails := [], hashing := [] }
  let s := s.wr v O.RST_REMAINING_58B0 t.length
  if s.lacksSource mask then s.refuseRst 6 else s.wr v O.RST_STATE_58B0 2

/-- The tray shape agrees with a manifest (R377). -/
def State.sameShape (s : State) (m : List Nat) : Bool := toBytes 32 (m.getD 1 0) == s.shapeDigest (manMask m)

/-- A proposal is taken: PROPOSED, and the shadow serves it where it holds that cut and FORCE is 0 (R375 to R379). -/
def State.propose (s : State) (x : Nat) : State :=
  let v := Part.vager
  let s := s.setRst { proposal := x }
  let s := (((s.wr v O.RST_STATE_58B0 1).wr v O.RST_REFUSE_58B0 0).wr v O.RST_DIES_DONE_58B0 0).wr v O.RST_BYTES_58B0 0
  let s := (s.writeOctets v O.RST_PLAN_58B0 64 []).wr v O.RST_REMAINING_58B0 0
  let kept := s.stay.kept
  let hbm := !propForce x && s.rd v O.SHADOW_CUT_5881 == propCut x && propCut x != 0
    && s.bytesAt v O.LAST_RECORD_DIGEST_5881 0 32 == propDigest x && kept != []
  if hbm then if s.sameShape kept then s.planRst kept false else s.refuseRst 5 else s

/-- RST_PROPOSE. Chooses each die's source (R375 to R379). -/
def execRstPropose (w : Writer) (proposal : Nat) (s : State) : Result :=
  let v := Part.vager
  .next (s.writeBy w true .fleet fun s =>
    let x := proposal % 2 ^ 512
    if 1 ≤ s.rstState ∧ s.rstState ≤ 4 then (s.wr v O.RST_REFUSE_58B0 1).answer stRefused
    else if 1 ≤ s.cutState ∧ s.cutState ≤ 5 then (s.refuseRst 1).answer stRefused
    else (s.propose x).answer stOk)

/-- The first `n` granules of an octet object. -/
def State.octGranules (s : State) (p : Part) (k n : Nat) : List Nat := (List.range n).map fun i => s.elem p k 32 i

/-- The code of R379 for what the host has loaded, 0 where it serves (R377). -/
def State.loadedCode (s : State) : Nat :=
  let v := Part.vager
  let x := s.rst.proposal
  let r0 := s.elem v O.RST_RECORD_58B0 32 0
  let lo := bits r0 127 115
  let hi := bits r0 114 102
  let me := s.vager.tree.self
  let rec_ := s.octGranules v O.RST_RECORD_58B0 (hi + 2 - lo)
  let m0 := s.elem v O.RST_MANIFEST_58B0 32 0
  let m := s.octGranules v O.RST_MANIFEST_58B0 (3 + 2 * bits m0 55 32)
  let okRec := granulesDigest rec_ == propDigest x && bits r0 223 192 == propCut x && bits r0 191 160 == propEpoch x
    && bits r0 159 128 == propStep x && bits r0 92 85 % 2 == propArea x
  let pos := me - lo
  let okMan := decide (lo ≤ me) && decide (me ≤ hi) && granulesDigest m == toBytes 32 (rec_.getD (pos + 1) 0)
    && bits m0 223 192 == propCut x && bits m0 114 102 == pos
  let okShape := s.sameShape m && manLo m == lo && manHi m == hi && manMask m == bits r0 101 86
  if okRec = false then 3 else if okMan = false then 4 else if okShape = false then 5 else 0

/-- RST_LOADED. The host's record, manifest and shape are checked (R377, R379). -/
def execRstLoaded (w : Writer) (s : State) : Result :=
  let v := Part.vager
  .next (s.writeBy w true .host fun s =>
    if s.rstState = 1 then
      let code := s.loadedCode
      (if code ≠ 0 then s.refuseRst code
      else
        let m0 := s.elem v O.RST_MANIFEST_58B0 32 0
        s.planRst (s.octGranules v O.RST_MANIFEST_58B0 (3 + 2 * bits m0 55 32)) true).answer stOk
    else s.answer stRefused)

/-- RST_LOADED_TIMEOUT. 600 s have passed in PROPOSED (R379). -/
def execRstLoadedTimeout (s : State) : Result := if s.rstState = 1 then .next (s.refuseRst 2) else .next s

/-- A chunk of the shadow agrees with its manifest entry (R380, R381). -/
def State.slotGood (s : State) (slot : Nat) (e : List Nat × Nat) : Bool :=
  let gs := s.slotData slot (bits e.2 199 176)
  (gs.all fun g => !g.poison) && granulesDigest (gs.map fun g => g.data) == e.1

/-- One chunk is pushed to its die, unless the restore has failed (R381). -/
def State.pushChunk (s : State) (slot : Nat) (e : List Nat × Nat) : State :=
  let v := Part.vager
  let x := s.rst.proposal
  let c := e.2
  let d : Die := Fin.ofNat 16 (bits c 106 103)
  if s.rstState ≠ 4 then s
  else if s.slotGood slot e then
    let h := chunkHeader (propEpoch x) (propStep x) (propCut x) (bits c 255 224) (bits c 223 200) (bits c 199 176) (bits c 85 80)
      (bits c 79 76) (bitAt c 75) (bits c 223 200 + 1 == s.regChunks d (bits c 85 80)) 0x62
    let s := s.send true d 5 ({ data := h } :: s.slotData slot (bits c 199 176))
    (s.bump v O.RST_BYTES_58B0 64 (32 * bits c 199 176)).wr v O.RST_REMAINING_58B0 (s.rd v O.RST_REMAINING_58B0 - 1)
  else (maskDies (manMask [s.rst.params])).foldl (fun s d => s.rstCommand d 0x64) (s.refuseRst 7)

/-- PUSHING: RESTORE_BEGIN to each die, its chunks, then the marker, which carries the time of RESTORE_BEGIN and the chunks sent; Vager
writes nothing to the die, so its T_RELEASE is 0 (R354, R381; log entry 172). -/
def State.startPush (s : State) : State :=
  let v := Part.vager
  let x := s.rst.proposal
  let mask := manMask [s.rst.params]
  let s := (s.wr v O.RST_STATE_58B0 4).wr v O.RST_REMAINING_58B0 s.rst.chunks.length
  (maskDies mask).foldl (fun s d =>
    if s.rstState ≠ 4 then s
    else
      let s := s.rstCommand d 0x63
      let mine := s.rst.chunks.filter fun e => bits e.2.2 106 103 == d.val
      let s := mine.foldl (fun s e => s.pushChunk e.1 e.2) s
      if s.rstState = 4 then
        s.send true d 5 [{ data := endGranule (propEpoch x) (propStep x) (propCut x) (s.ns v) 0 mine.length 0 0x65 }]
      else s) s

/-- FILLING is over when every needed chunk has verified (R376). -/
def State.checkFilled (s : State) : State := if s.rstState = 3 ∧ s.rst.todo = [] then s.startPush else s

/-- RST_CONFIRM (R376, R378). Filling overwrites the shadow, which then holds no cut. -/
def execRstConfirm (w : Writer) (cut : Nat) (s : State) : Result :=
  let v := Part.vager
  .next (s.writeBy w true .fleet fun s =>
    if s.rstState ≠ 2 then s.answer stRefused
    else if cut % 2 ^ 32 ≠ propCut s.rst.proposal ∨ s.lacksSource (manMask [s.rst.params]) then (s.refuseRst 6).answer stRefused
    else if s.ob v O.RST_PLAN_58B0 0 = 2 ∨ ((List.range 16).any fun i => s.ob v O.RST_PLAN_58B0 i == 2) then
      let s := ((s.wr v O.RST_STATE_58B0 3).wr v O.SHADOW_CUT_5881 0).setStay { s.stay with kept := [] }
      s.checkFilled.answer stOk
    else s.startPush.answer stOk)

/-- RST_FILLED. The hash of a slot that the host has filled starts (R380). -/
def execRstFilled (w : Writer) (value : Nat) (s : State) : Result :=
  .next (s.writeBy w true .host fun s =>
    let n := bits value 31 28 * s.rd .vager O.CHUNK_SLOTS_5880 + bits value 12 0
    let r := s.rst
    if s.rstState = 3 ∧ (Tbl.find r.chunks n).isSome then
      (if n ∈ r.hashing then s else s.setRst { r with hashing := r.hashing ++ [n] }).answer stOk
    else s.answer stRefused)

/-- FILL_VERIFY_DONE. A filled slot's hash is compared with the manifest entry (R379, R380). -/
def execFillVerifyDone (slot : Nat) (s : State) : Result :=
  let v := Part.vager
  let r := s.rst
  match Tbl.find r.chunks slot with
  | none => .next s
  | some e =>
    if s.rstState = 3 ∧ slot ∈ r.hashing then
      let r := { r with hashing := r.hashing.filter fun x => x != slot }
      if s.slotGood slot e then
        let todo := r.todo.filter fun x => x != slot
        .next (((s.setRst { r with todo := todo }).wr v O.RST_REMAINING_58B0 todo.length).checkFilled)
      else
        let n := Tbl.get (fun _ => 0) r.fails slot + 1
        let s := (s.setRst { r with fails := Tbl.insert r.fails slot n }).bump v O.RST_FILL_FAILS_58B0 32
        .next (if 3 ≤ n then s.refuseRst 7 else s)
    else .next s

/-- STAY_APERTURE_WRITE. BAR 4 takes a whole aligned granule within STAY_BYTES in FILLING; another write is dropped and counted
(R380, R524). -/
def execStayApertureWrite (w : Writer) (offset bytes data : Nat) (s : State) : Result :=
  if w.secure ∧ s.rstState = 3 ∧ offset % 32 = 0 ∧ bytes = 32 ∧ offset + 32 ≤ s.rd .vager O.STAY_BYTES_5880 then
    .next (s.setHbm (s.stayBase + offset / 32) { data := data % 2 ^ 256 })
  else .next (s.bump .vager O.APERTURE_DROPS_1011 32)

/-- RESTORE_BEGIN_COMMAND. RESTORING begins and the restore hold is asserted (R381). -/
def execRestoreBeginCommand (d : Die) (head : Nat) (s : State) : Result :=
  let p := Part.staris d
  if s.rd p O.STAY_STATE_5800 = 0 ∨ s.rd p O.STAY_STATE_5800 = 3 then
    let h := fld 224 32 (bits head 127 96) + fld 192 32 (bits head 159 128) + fld 160 32 (bits head 191 160)
    let s := s.setStd d { s.std d with tReady := s.ns p, tWrite := 0, chunks := 0, head := h, refused := false }
    let s := (s.wr p O.STAY_STATE_5800 3).emit (.restoreHold d.val true)
    .next (s.dmaSettle p 2)
  else .next s

/-- RESTORING ends: the hold drops and the Staris is IDLE (R381). -/
def State.endRestore (s : State) (d : Die) : State :=
  let p := Part.staris d
  ((s.wr p O.STAY_STATE_5800 0).emit (.restoreHold d.val false)).dmaSettle p 2

/-- RESTORE_CANCEL_COMMAND (R381). -/
def execRestoreCancelCommand (d : Die) (s : State) : Result :=
  if s.rd (.staris d) O.STAY_STATE_5800 = 3 then .next (s.endRestore d) else .next s

/-- RESTORE_CHUNK_RX. A restored chunk is written into its region, unless its RTAG, REGION or LEN disagrees with the die's table
(R381). -/
def execRestoreChunkRx (d : Die) (header : Nat) (data : List (Nat × Bool)) (s : State) : Result :=
  let p := Part.staris d
  let r := bits header 79 74
  let c := bits header 127 104
  if s.rd p O.STAY_STATE_5800 = 3 then
    if c < s.regChunks d r ∧ bits header 159 128 = s.rd p (O.REG_TAG_5810 r) ∧ bits header 103 80 = s.chunkLen d r c
        ∧ data.length = s.chunkLen d r c then
      let base := s.rd p (O.REG_BASE_5810 r) + c * chunkBytes
      let s := ((List.range data.length).zip data).foldl (fun s e =>
        s.emit (.dieWrite d.val true (base + 32 * e.1) (e.2.1 % 2 ^ 256) e.2.2)) s
      let x := s.std d
      .next ((s.setStd d { x with chunks := x.chunks + 1, tWrite := s.ns p }).bump p O.BYTES_RESTORED_5800 64 (32 * data.length))
    else .next (s.setStd d { s.std d with refused := true })
  else .next s

/-- RESTORE_MARKER_RX. END 0x66 answers, the hold drops and the Staris is IDLE (R354, R381). A Staris that refused a chunk
answers with code SHAPE (log entry 42). -/
def execRestoreMarkerRx (d : Die) (granule : Nat) (s : State) : Result :=
  let p := Part.staris d
  if s.rd p O.STAY_STATE_5800 = 3 then
    let x := s.std d
    let g := endGranule (bits granule 255 224) (bits granule 223 192) (bits granule 191 160) x.tReady x.tWrite x.chunks
      (if x.refused then 3 else 0) 0x66
    .next ((s.send false d 5 [{ data := g }]).endRestore d)
  else .next s

/-- RESTORE_END_RX. A die has answered; the restore is DONE when every one has with CODE 0, and the shadow holds its cut (R376,
R382). An answer with another code fails the restore (log entry 42). -/
def execRestoreEndRx (p : Die) (granule : Nat) (s : State) : Result :=
  let v := Part.vager
  let mask := manMask [s.rst.params]
  if s.rstState = 4 ∧ bitAt mask p.val ∧ bits granule 191 160 = propCut s.rst.proposal then
    if bits granule 71 64 ≠ 0 then .next (s.refuseRst 7)
    else
      let s := s.wr v O.RST_DIES_DONE_58B0 (setBit (s.rd v O.RST_DIES_DONE_58B0) p.val true)
      if s.rd v O.RST_DIES_DONE_58B0 = mask then
        let s := (s.wr v O.RST_STATE_58B0 5).wr v O.SHADOW_CUT_5881 (propCut s.rst.proposal)
        let m0 := s.elem v O.RST_MANIFEST_58B0 32 0
        .next (if s.stay.kept = [] then
            s.setStay { s.stay with kept := s.octGranules v O.RST_MANIFEST_58B0 (3 + 2 * bits m0 55 32) }
          else s)
      else .next s
  else .next s

end Sys2Proof.Machine
end

