-- ==== Sys2Proof/Machine/Tree.lean ====
section
/-! DEFINITION. Machine/Tree.lean: the pod tree's messages, broadcasts and their operations, job contexts, the death and adoption
of neighbours, and rig plans (R211 to R233). Machine/Merge.lean and Machine/Reduce.lean hold what closes a round. -/

namespace Sys2Proof.Machine
open Sys2Proof

/-! ### Neighbours -/

/-- The LIVE or ADOPTED slot of tray `t`. -/
def State.kidOf (s : State) (t : Nat) : Option Nat := s.liveKids.find? fun k => s.kidTray k == t

/-- State of slot `k` replaced. -/
def State.setKidState (s : State) (k st : Nat) : State :=
  s.wr .vager (if k < 64 then O.CHILD_STATE_4310 k else O.ADOPT_STATE_4370 (k - 64)) st

/-- A datagram is discarded and counted (R213, R214). -/
def State.discardTree (s : State) : State := s.bump .vager O.TREE_DISCARDED_4300 32

/-- A datagram of a tree command: nothing comes in on a fabric port that is down, and one whose TYPE is not that of the table is
discarded and counted (R21, R213). -/
def State.treeIn (s : State) (m : TreeMsg) (type : Nat) (k : State → State) : State :=
  if s.rd .vager (O.PORT_STATE_6410 m.port.val) = 0 then s
  else if m.type ≠ type then s.discardTree
  else k s

/-- Every group is tried for its standing notice (R215). -/
def State.checkAllStanding (s : State) : State := (s.vager.groups.map Prod.fst).foldl State.checkStanding s

/-! ### Contexts (R218 to R220, R222) -/

/-- Fields of the first body granule of a BCAST (R221). -/
def bcApply (g : Nat) : Nat := bits g 255 192
def bcEpoch (g : Nat) : Nat := bits g 191 160
def bcLo (g : Nat) : Nat := bits g 159 147
def bcHi (g : Nat) : Nat := bits g 146 134
def bcOp (g : Nat) : Nat := bits g 7 0

/-- The group definitions of an EPOCH_OPEN, from its granules after the second (R222): GROUP and the group. -/
def readGroups (lo hi : Nat) (inside : Bool) : List Nat → List (Nat × Group)
  | a :: b :: t =>
    (bits b 7 0, { cfg := bits a 255 192, base := bits a 191 128, window := bits a 127 64, anchor := bits a 63 0,
                   trayWait := bits b 255 224, hopWait := bits b 223 192, trayLo := lo, trayHi := hi, inside := inside })
      :: readGroups lo hi inside t
  | _ => []

/-- Two configurations share a stream. The members of KEYMODE 2 are counters, no streams. -/
def sharesStream (a b : Nat) : Bool :=
  grpEnable a && grpEnable b && grpKeymode a != 2 && grpKeymode b != 2 && Nat.land (grpMask a) (grpMask b) != 0
    && decide (grpFirst a ≤ grpLast b) && decide (grpFirst b ≤ grpLast a)

/-- A group definition breaks R219's BAD_GROUP by itself. A GROUP above 15 breaks it too. -/
def badGroup (e : Nat × Group) : Bool :=
  let c := e.2.cfg
  grpEnable c && (decide (grpLast c < grpFirst c) || grpKeymode c == 3 || (grpKeymode c != 1 && e.2.window == 0)
    || decide (15 < e.1))

/-- Some two of the groups share a stream. -/
def anyShared : List (Nat × Group) → Bool
  | [] => false
  | e :: t => (t.any fun f => sharesStream e.2.cfg f.2.cfg) || anyShared t

/-- A member stream belongs to a context that R219's STREAM_OVERLAP names. -/
def State.streamOverlap (s : State) (gs : List (Nat × Group)) (opens : Nat) : Bool :=
  s.vager.groups.any fun e =>
    let x := e.1 / 16
    let st := s.ctxState x
    let c := s.rd .vager (O.CTX_CLOSE_TIME_4100 x)
    (st == 1 || (st == 2 && c == 0) || ((st == 2 || st == 3) && decide (opens < c))) && e.2.inside
      && gs.any fun f => f.2.inside && sharesStream e.2.cfg f.2.cfg

/-- The NAK code of an EPOCH_OPEN, 0 for none (R219). -/
def State.openRefusal (s : State) (epoch opens : Nat) (gs : List (Nat × Group)) : Nat :=
  if epoch = 0 then 1
  else if (s.ctxOf epoch).isSome then 2
  else if (List.range 64).all fun x => s.ctxState x != 0 then 3
  else if (gs.any badGroup) || anyShared gs then 4
  else if s.streamOverlap gs opens then 5
  else 0

/-- A PENDING context becomes OPEN; the staged groups keyed to its epoch are due (R218, R516). -/
def State.openContext (s : State) (x : Nat) : State :=
  let epoch := s.rd .vager (O.CTX_EPOCH_4100 x)
  let s := s.setCtxState x 2
  let st := s.staging .vager
  let mark := fun (g : SGroup) => if g.kind = 2 ∧ g.node = 0 ∧ g.time % 2 ^ 32 = epoch then { g with due := true } else g
  s.setStaging .vager { st with groups := st.groups.map mark }

/-- An OPEN context becomes DRAINING (R218). -/
def State.drainContext (s : State) (x : Nat) : State := (s.setCtxState x 3).checkDrain x

/-- EPOCH_OPEN_APPLY. The lowest FREE context takes the epoch and its groups, and MAINT_STOP is cleared (R218, R219, R222, R546);
what the context held of an earlier epoch is gone (R218). A NAK code where it is refused. -/
def State.openEpoch (s : State) (bseq : Nat) (body : List Nat) : Nat × State :=
  let h := body.getD 0 0
  let epoch := bcEpoch h
  let opens := if bcApply h = 0 then s.extNow else bcApply h
  let self := s.vager.tree.self
  let gs := readGroups (bcLo h) (bcHi h) (decide (bcLo h ≤ self) && decide (self ≤ bcHi h)) (body.drop 2)
  let code := s.openRefusal epoch opens gs
  if code ≠ 0 then (code, s)
  else
    match (List.range 64).find? fun x => s.ctxState x == 0 with
    | none => (3, s)
    | some x =>
      let lo := 16 * x
      let v := s.vager
      let s := s.setVager { v with
        groups := Tbl.clearRange v.groups lo (lo + 16), results := Tbl.clearRange v.results lo (lo + 16)
        down := Tbl.clearRange v.down lo (lo + 16) }
      let s := (gs.filter fun e => grpEnable e.2.cfg).foldl (fun s e => s.setGroup (lo + e.1) e.2) s
      let s := (s.wr .vager (O.CTX_EPOCH_4100 x) epoch).wr .vager (O.CTX_OPEN_TIME_4100 x) opens
      let s := (s.wr .vager (O.CTX_CLOSE_TIME_4100 x) 0).wr .vager (O.CTX_BSEQ_4100 x) bseq
      let s := (s.setCtxState x 1).wr .vager O.MAINT_STOP_7860 0
      let s := ((List.range 16).map fun g => lo + g).foldl State.checkStanding s
      (0, if opens ≤ s.extNow then s.openContext x else s)

/-- RIG_CHECK. The VALID slot with the pod digest is digested again: HITS and MISSES (R233). -/
def State.rigCheck (s : State) (bseq digest : Nat) : (Nat × Nat) × State :=
  let v := Part.vager
  let want := toBytes 32 digest
  let s := s.wr v O.RIG_LAST_BSEQ_4368 bseq
  let miss := fun (s : State) => ((0, 1), (s.wr v O.RIG_LAST_RESULT_4368 2).wr v O.RIG_LAST_SLOT_4368 0xFF)
  match (List.range 4).find? fun j =>
      s.rd v (O.PLAN_STATE_4360 j) == 2 && s.bytesAt v (O.PLAN_POD_DIGEST_4360 j) 0 32 == want with
  | none => miss s
  | some j =>
    let now := sha256 (s.bytesAt v (O.PLAN_DATA_4360 j) 0 (s.rd v (O.PLAN_BYTES_4360 j)))
    if now = s.bytesAt v (O.PLAN_TRAY_DIGEST_4360 j) 0 32 then
      ((1, 0), ((s.bump v (O.PLAN_HITS_4360 j) 32).wr v O.RIG_LAST_RESULT_4368 1).wr v O.RIG_LAST_SLOT_4368 j)
    else miss (s.wr v (O.PLAN_STATE_4360 j) 3)

/-- EPOCH_CLOSE_APPLY. The context of the epoch records its CLOSE_TIME, and drains where that has come; a PENDING context that it
closes no later than its OPEN_TIME is freed (R218, R220). Whether it had an effect. -/
def State.epochClose (s : State) (h : Nat) : Bool × State :=
  let t := if bcApply h = 0 then s.extNow else bcApply h
  match (List.range 64).find? fun x =>
      (s.ctxState x == 1 || s.ctxState x == 2) && s.rd .vager (O.CTX_EPOCH_4100 x) == bcEpoch h with
  | none => (false, s)
  | some x =>
    if s.ctxState x = 1 ∧ t ≤ s.rd .vager (O.CTX_OPEN_TIME_4100 x) then (true, s.freeContext x)
    else
      let s := s.wr .vager (O.CTX_CLOSE_TIME_4100 x) t
      (true, if s.ctxState x = 2 ∧ t ≤ s.extNow then s.drainContext x else s)

/-- A write in the secure world to a Staris whose pairing has changed is refused (R487). -/
def State.withheld (s : State) (w : Writer) (p : Die) : Bool :=
  w.secure && bitAt (s.rd .vager O.PAIR_WITHHELD_7480) p.val

/-- The group of one node's entries in a DICT_WRITE (R521), unless it fails as it is formed. -/
def State.bcastGroup (s : State) (b : Bcast) (time : Nat) (entries : List SheetEntry) (node : Nat) : Bcast × State :=
  let es := entries.filter fun e => e.node == node
  let w : Writer := { secure := true, role := .fleet }
  let fail := fun (b : Bcast) (st : Nat) => if b.failed.isSome then b else { b with failed := some st }
  if 16 < node then (fail b stNoObject, s)
  else if node ≠ 0 ∧ s.withheld w (nodeDie node) then (fail b stWithheld, s.bump .vager O.WITHHELD_WRITES_7480 32 es.length)
  else
    let g : SGroup := { group := 0, node := node, kind := 1, time := time, w := w, entries := es, bseq := some b.bseq }
    let ((sts, copy, k), s) := s.formGroup .vager g (nodePart node)
    if copy ≠ 0 then
      (fail b ((sts.find? fun x => x != 0 && x != stNotTried).getD copy), s)
    else ({ b with groups := b.groups ++ [k] }, s)

/-- DICT_WRITE_APPLY. One group of KIND 1 on each node that the WRITE message names, in the order in which they first appear
(R521). A message that is not well formed fails with LENGTH. -/
def State.dictWrite (s : State) (b : Bcast) : State :=
  let (sound, es) := readWrite ((b.body.drop 1).flatMap (toBytes 32))
  let at0 := bcApply (b.body.getD 0 0)
  let time := if at0 = 0 then s.extNow else at0
  if sound = false then s.settleBcast { b with failed := some stLength }
  else
    let nodes := (es.map SheetEntry.node).eraseDups
    let (b, s) := nodes.foldl (fun (r : Bcast × State) n => r.2.bcastGroup r.1 time es n) (b, s)
    s.settleBcast b

/-- The operation of a broadcast is applied or refused, and this Vager's own answer noted (R219 to R225, R233). LATE_APPLY counts
one that arrives after its APPLY_TIME. -/
def State.applyBcast (s : State) (b : Bcast) : State :=
  let h := b.body.getD 0 0
  let self := s.vager.tree.self
  let inside := decide (bcLo h ≤ self) && decide (self ≤ bcHi h)
  let late := bcApply h != 0 && decide (bcApply h < s.extNow)
  let count := fun (s : State) (took : Bool) => if late && took then s.bump .vager O.TREE_LATE_APPLY_4300 32 else s
  let nak := fun (c : Nat) (hits misses : Nat) => if c = 0 then (hits, misses, 0, 0, 0) else (hits, misses, 1, self, c)
  match bcOp h with
  | 1 =>
    let p := b.body.getD 1 0
    let ((hits, misses), s) := if p ≠ 0 ∧ inside = true then s.rigCheck b.bseq p else ((0, 0), s)
    let (code, s) := s.openEpoch b.bseq b.body
    (count s (code == 0)).putBcast { b with own := some (nak code hits misses) }
  | 2 =>
    let (took, s) := s.epochClose h
    (count s took).putBcast { b with own := some (0, 0, 0, 0, 0) }
  | 3 => if inside then (count s true).dictWrite b else s.putBcast { b with own := some (0, 0, 0, 0, 0) }
  | 4 => (count (s.applyResult (b.body.drop 1)) true).putBcast { b with own := some (0, 0, 0, 0, 0) }
  | _ => s.putBcast { b with own := some (nak 6 0 0) }

/-- A broadcast whose turn has come: applied, forwarded, and answered once all have answered (R223, R224). -/
def State.processBcast (s : State) (bseq epoch : Nat) (body : List Nat) : State :=
  let b : Bcast := { bseq := bseq, epoch := epoch, body := body }
  (((s.takeBcast b).applyBcast b).forwardBcast bseq false).tryBack bseq

/-- Broadcasts held ahead of order follow as their turn comes (R223). -/
def State.drainAhead : Nat → State → State
  | 0, s => s
  | n + 1, s =>
    let next := (s.rd .vager O.TREE_LAST_BSEQ_4300 + 1) % 2 ^ 32
    match s.vager.tree.ahead.find? fun b => b.bseq == next with
    | none => s
    | some b =>
      let t := s.vager.tree
      let s := s.setTree { t with ahead := t.ahead.filter fun x => x.bseq != next }
      State.drainAhead n (s.processBcast b.bseq b.epoch b.body)

/-- A BCAST from the parent (R223): applied in BSEQ order, held ahead of it, or answered from the stored BACK. -/
def State.bcastRx (s : State) (m : TreeMsg) : State :=
  let t := s.vager.tree
  let last := s.rd .vager O.TREE_LAST_BSEQ_4300
  match s.treeUp with
  | none => s.discardTree
  | some up =>
    if m.src ≠ up then s.discardTree
    else if reached last m.bseq then
      match t.backs.find? fun x => x.1 == m.bseq with
      | some (_, epoch, cover, missing, body) => s.sendTree up 0x22 0 epoch m.bseq missing cover 0 false true [body]
      | none => s
    else if m.bseq ≠ (last + 1) % 2 ^ 32 then
      if t.ahead.length < 8 ∧ (t.ahead.any fun b => b.bseq == m.bseq) = false then
        s.setTree { t with ahead := t.ahead ++ [{ bseq := m.bseq, epoch := m.epoch, body := m.body }] }
      else s
    else State.drainAhead 8 (s.processBcast m.bseq m.epoch m.body)

/-- A broadcast submitted at the root (R223, R226): refused unless its BSEQ is 0, the next, or that of the last fleet
broadcast, which is then sent again. -/
def State.bcastSubmit (s : State) (header : Nat) (body : List Nat) : State :=
  let v := Part.vager
  let q := bits header 159 128
  let next := (s.rd v O.TREE_LAST_BSEQ_4300 + 1) % 2 ^ 32
  let t := s.vager.tree
  if s.isRoot = false then s.answer stRefused
  else if q ≠ 0 ∧ t.fleet = some q then
    match t.bcasts.find? fun b => b.bseq == q with
    | none => (s.wr v O.BCAST_STATE_4350 3).answer stRefused
    | some b =>
      let s := (s.putBcast { b with kids := [], sent := false }).wr v O.BCAST_STATE_4350 1
      ((s.forwardBcast q true).tryBack q).answer stOk
  else if q ≠ 0 ∧ q ≠ next then (s.wr v O.BCAST_STATE_4350 3).answer stRefused
  else
    let s := (s.wr v O.BCAST_BSEQ_4350 next).wr v O.BCAST_STATE_4350 1
    let s := s.setTree { s.vager.tree with fleet := some next }
    (s.processBcast next (bits header 191 160) body).answer stOk

/-! ### Partials from below (R211, R214, R215, R228) -/

/-- A child's partial comes too late (R208). -/
def State.lateKid (s : State) (cg k : Nat) : State :=
  let g := s.group cg
  let s := s.setGroup cg { g with late := (g.late + 1) % 2 ^ 32 }
  s.bump .vager (if k < 64 then O.CHILD_LATE_4310 k else O.ADOPT_LATE_4370 (k - 64)) 32

/-- A child's partial has been merged already (R214). -/
def State.dupKid (s : State) (cg : Nat) : State :=
  let g := s.group cg
  s.setGroup cg { g with dup := (g.dup + 1) % 2 ^ 32 }

/-- The first copy of a child's partial is merged into the round it still finds open (R214); `k` is the child's slot. -/
def State.mergeKid (s : State) (cg k : Nat) (m : TreeMsg) : State :=
  let g := s.group cg
  if g.done.any fun x => x.1 == m.round && x.2.contains m.src then s.dupKid cg
  else
    match s.openRound cg m.round with
    | none => s.lateKid cg k
    | some s =>
      match s.round cg m.round with
      | none => s
      | some r =>
        if (Tbl.find r.kids m.src).isSome then s.dupKid cg
        else
          let p := readPartial m.body (grpSketch g.cfg) (grpHist g.cfg) m.cover m.missing
          s.setRound cg { r with kids := Tbl.insert r.kids m.src p }

/-- A PARTIAL from a child is acknowledged; a standing notice counts for every round, and the first copy of a partial is merged
(R208, R211, R214, R215, R228). -/
def State.partialRx (s : State) (m : TreeMsg) : State :=
  match s.kidOf m.src with
  | none => s.discardTree
  | some k =>
    let s := s.sendTree m.src 0x12 m.round m.epoch 0 0 0 m.group m.standing false []
    match s.ctxOf m.epoch with
    | none => s
    | some x =>
      let cg := 16 * x + m.group % 16
      if grpEnable (s.group cg).cfg = false then s
      else if m.standing then
        let g := s.group cg
        (s.setGroup cg { g with standing := Tbl.insert g.standing m.src m.cover }).checkStanding cg
      else s.mergeKid cg k m

/-- PARTIAL_RX (R208, R211, R214, R215, R228). -/
def execPartialRx (m : TreeMsg) (s : State) : Result := .next (s.treeIn m 0x11 fun s => s.partialRx m)

/-- A PARTIAL is acknowledged: it is resent no more, and a context that waited for it may end its drain (R214, R218). -/
def State.partAckRx (s : State) (m : TreeMsg) : State :=
  if s.treeUp ≠ some m.src then s.discardTree
  else
    let t := s.vager.tree
    let (gone, left) := t.up.partition fun u => u.epoch == m.epoch && u.group == m.group && u.round == m.round
    (gone.map UpPartial.ctx).foldl State.checkDrain (s.setTree { t with up := left })

/-- PART_ACK_RX (R214, R218). -/
def execPartAckRx (m : TreeMsg) (s : State) : Result := .next (s.treeIn m 0x12 fun s => s.partAckRx m)

/-- A child's BACK is gathered, and this Vager's own follows once all have answered (R224, R226). -/
def State.backRx (s : State) (m : TreeMsg) : State :=
  match s.kidOf m.src with
  | none => s.discardTree
  | some k =>
    let s := s.wr .vager (if k < 64 then O.CHILD_LAST_BACK_4310 k else O.ADOPT_LAST_BACK_4370 (k - 64)) m.bseq
    match s.vager.tree.bcasts.find? fun b => b.bseq == m.bseq with
    | none => s
    | some b =>
      let waiting := b.waiting.filter fun x => x != m.src
      if b.sent || s.stoodFor (b.kids.map Prod.fst) k then s.putBcast { b with waiting := waiting }
      else
        let e := (m.cover, m.missing, m.body.getD 0 0)
        (s.putBcast { b with kids := Tbl.insert b.kids m.src e, waiting := waiting }).tryBack m.bseq

/-- BACK_RX (R224, R226). -/
def execBackRx (m : TreeMsg) (s : State) : Result := .next (s.treeIn m 0x22 fun s => s.backRx m)

/-- HEARTBEAT_RX. A neighbour lives; any other sender's is discarded (R214, R216). The expiry of R216 comes as NEIGHBOUR_DEAD. -/
def execHeartbeatRx (m : TreeMsg) (s : State) : Result :=
  .next (s.treeIn m 0x31 fun s => if s.treeUp = some m.src ∨ (s.kidOf m.src).isSome then s else s.discardTree)

/-! ### Death and adoption (R216, R217, R227 to R229) -/

/-- An orphan asks its fallback for adoption (R227). -/
def State.sendAdopt (s : State) : State :=
  let fb := s.vager.tree.fallback
  if fb = 0xFFFF then s
  else s.sendTree fb 0x32 0 0 (s.rd .vager O.TREE_LAST_BSEQ_4300) 0 s.ownCover 0 false false []

/-- This Vager becomes ISOLATED (R217, R229). -/
def State.isolate (s : State) : State := (s.wr .vager O.TREE_STATE_4300 4).recordV 0x0051 0

/-- Adoptee `k` is sent each broadcast above the BSEQ it reported, and each that still lacks its answer (R227). -/
def State.resendTo (s : State) (k : Nat) : State :=
  match Tbl.find s.vager.tree.reported k with
  | none => s
  | some q =>
    let s := s.setTree { s.vager.tree with reported := Tbl.erase s.vager.tree.reported k }
    let tray := s.kidTray k
    let bs := s.vager.tree.bcasts.filter fun b =>
      let had := b.kids.map Prod.fst
      !reached q b.bseq || (!b.sent && !had.contains tray && !s.stoodFor had k)
    bs.foldl (fun s b =>
      let s := s.putBcast { b with waiting := if b.waiting.contains tray then b.waiting else b.waiting ++ [tray] }
      s.sendTree tray 0x21 0 b.epoch b.bseq 0 0 0 false true b.body) s

/-- What adoptions and waits that have ended allow: every awaited slot whose orphans have all come is awaited no more, adoptees whose
parent is not awaited receive what they lack, and answers that waited follow (R227). -/
def State.settleAdoptions (s : State) : State :=
  let t := s.vager.tree
  let s := s.setTree { t with awaiting := t.awaiting.filter fun x => decide (1 < s.lostCover x) }
  let ready := (s.vager.tree.reported.map Prod.fst).filter fun k => match s.originOf k with
    | some x => !s.vager.tree.awaiting.contains x
    | none => true
  ((ready.foldl State.resendTo s).tryBacks).checkAllStanding

/-- The wait for the orphans of slot `x` is over (R227). -/
def State.adoptionDone (s : State) (x : Nat) : State :=
  let t := s.vager.tree
  (s.setTree { t with awaiting := t.awaiting.erase x }).settleAdoptions

/-- An orphan takes slot `k` (R227). -/
def State.adoptInto (s : State) (k : Nat) (m : TreeMsg) : State :=
  let v := Part.vager
  let t := s.vager.tree
  let s := if k < 64 then
      let s := s.setTree { t with kids := Tbl.insert t.kids k (m.src, m.cover) }
      ((s.wr v (O.CHILD_TRAY_4310 k) m.src).wr v (O.CHILD_COVER_4310 k) m.cover).setBytes v (O.CHILD_ADDR_4310 k) 0
        (toBytes 16 m.address).reverse
    else (s.wr v (O.ADOPT_TRAY_4370 (k - 64)) m.src).wr v (O.ADOPT_COVER_4370 (k - 64)) m.cover
  let s := (s.setKidState k 3).bump v O.TREE_ADOPTIONS_4300 32
  let t := s.vager.tree
  let s := s.setTree { t with
    kidAddrs := Tbl.insert t.kidAddrs k m.address, adoptees := t.adoptees ++ [k], reported := Tbl.insert t.reported k m.bseq }
  (s.sendTree m.src 0x33 0 0 0 0 0 0 false false []).settleAdoptions

/-- An orphan asks: it takes the lowest EMPTY child slot, else the lowest free adoption slot, else it is refused (R227). One that asks
again is answered again, and one whose slot is DEAD is discarded until a commit (R216). -/
def State.adoptRx (s : State) (m : TreeMsg) : State :=
  if s.deadKids.any fun k => s.kidTray k == m.src then s.discardTree
  else if (s.kidOf m.src).isSome then s.sendTree m.src 0x33 0 0 0 0 0 0 false false []
  else match (List.range 96).find? fun k => s.kidState k == 0 with
    | none => s.sendTreeTo m.address m.src 0x34 0 0 0 0 0 0 false false []
    | some k => s.adoptInto k m

/-- ADOPT_RX (R216, R227). -/
def execAdoptRx (m : TreeMsg) (s : State) : Result := .next (s.treeIn m 0x32 fun s => s.adoptRx m)

/-- ADOPT_ACK_RX. The orphan is ADOPTED and resends every PARTIAL not acknowledged (R217, R228). -/
def execAdoptAckRx (m : TreeMsg) (s : State) : Result :=
  .next (s.treeIn m 0x33 fun s =>
    if s.rd .vager O.TREE_STATE_4300 ≠ 2 ∨ m.src ≠ s.vager.tree.fallback then s.discardTree
    else
      let s := s.wr .vager O.TREE_STATE_4300 3
      s.vager.tree.up.foldl (fun s u => s.sendTreeUp u true) s)

/-- ADOPT_NAK_RX. The orphan is ISOLATED (R217, R229). -/
def execAdoptNakRx (m : TreeMsg) (s : State) : Result :=
  .next (s.treeIn m 0x34 fun s =>
    if s.rd .vager O.TREE_STATE_4300 ≠ 2 ∨ m.src ≠ s.vager.tree.fallback then s.discardTree else s.isolate)

/-- TREE_HEARTBEAT_PERIOD. Heartbeats, an orphan's ADOPT, and what is not acknowledged go out (R214, R216, R223, R227). -/
def execTreeHeartbeatPeriod (s : State) : Result :=
  let beat := fun (s : State) (t : Nat) => s.sendTree t 0x31 0 0 0 0 0 0 false false []
  let s := match s.treeUp with
    | some up => beat s up
    | none => s
  let s := (s.liveKids.map s.kidTray).foldl beat s
  let s := if s.rd .vager O.TREE_STATE_4300 = 2 then s.sendAdopt else s
  let s := s.vager.tree.up.foldl (fun s u => s.sendTreeUp u true) s
  let again := fun (s : State) (b : Bcast) => b.waiting.foldl (fun s t =>
    (s.sendTree t 0x21 0 b.epoch b.bseq 0 0 0 false true b.body).bump .vager O.TREE_BCAST_RETRY_4300 32) s
  .next (s.vager.tree.bcasts.foldl again s)

/-- A child's slot goes DEAD: its orphans are awaited where it had any, and it is waited for no more (R216, R224, R227). -/
def State.kidDead (s : State) (k : Nat) : State :=
  let s := s.setKidState k 2
  let t := s.vager.tree
  let tray := s.kidTray k
  let forget := fun (b : Bcast) => { b with waiting := b.waiting.filter fun x => x != tray }
  (s.setTree { t with
    awaiting := t.awaiting ++ [k], reported := Tbl.erase t.reported k, bcasts := t.bcasts.map forget }).settleAdoptions

/-- NEIGHBOUR_DEAD. A child's slot goes DEAD; a Vager whose parent is dead is ORPHANED, and one whose fallback parent is dead is
ISOLATED (R216, R217, R229). -/
def execNeighbourDead (tray : Nat) (s : State) : Result :=
  if s.treeUp = some tray then
    if s.rd .vager O.TREE_STATE_4300 = 3 then .next s.isolate
    else .next (s.wr .vager O.TREE_STATE_4300 2).sendAdopt
  else match s.kidOf tray with
    | some k => .next (s.kidDead k)
    | none => .next s

/-- TREE_ADOPT_WAIT_EXPIRY. A fallback awaits the dead child's orphans no more; an orphan that is still ORPHANED becomes
ISOLATED (R217, R224, R227, R229). -/
def execTreeAdoptWaitExpiry (slot : Option (Fin 96)) (s : State) : Result :=
  match slot with
  | some k => if s.vager.tree.awaiting.contains k.val then .next (s.adoptionDone k.val) else .next s
  | none => if s.rd .vager O.TREE_STATE_4300 = 2 then .next s.isolate else .next s

/-- The tree plan of 0x4300 and 0x4310 takes effect: child slots become LIVE or EMPTY, adoption slots free, the state JOINED; contexts
and rounds stay (R217). The neighbours' keys are trusted afresh (R492). -/
def State.commitTree (s : State) : State :=
  let v := Part.vager
  let t := s.vager.tree
  let kids := (List.range 64).filterMap fun k =>
    let e := (s.rd v (O.CHILD_TRAY_4310 k), s.rd v (O.CHILD_COVER_4310 k))
    if e = (0xFFFF, 0) then none else some (k, e)
  let live := (kids.filter fun e => e.2.1 != 0xFFFF).map Prod.fst
  let addr := fun (key : Nat) => ipv6 (s.bytesAt v key 0 16)
  let trays := live.map fun k => s.rd v (O.CHILD_TRAY_4310 k)
  let s := s.setTree { t with
    self := s.rd v O.TREE_SELF_4300 % 2 ^ 13, parent := s.rd v O.TREE_PARENT_4300, fallback := s.rd v O.TREE_FALLBACK_4300
    level := s.rd v O.TREE_LEVEL_4300, parentAddr := addr O.TREE_PARENT_ADDR_4300, fallbackAddr := addr O.TREE_FALLBACK_ADDR_4300
    kidAddrs := (live.map fun k => (k, addr (O.CHILD_ADDR_4310 k))).filter fun e => e.2 != 0
    kids := kids, awaiting := [], adoptees := [], reported := [], keys := []
    bcasts := t.bcasts.map fun b => { b with waiting := b.waiting.filter trays.contains } }
  let s := (List.range 64).foldl (fun s k => s.wr v (O.CHILD_STATE_4310 k) (if live.contains k then 1 else 0)) s
  let s := (List.range 32).foldl (fun s a =>
    ((s.wr v (O.ADOPT_TRAY_4370 a) 0xFFFF).wr v (O.ADOPT_COVER_4370 a) 0).wr v (O.ADOPT_STATE_4370 a) 0) s
  (s.wr v O.TREE_STATE_4300 1).tryBacks.checkAllStanding

/-- TREE_COMMIT. The tree plan takes effect (R217). -/
def execTreeCommit (w : Writer) (s : State) : Result :=
  .next (s.writeBy w true .fleet fun s => s.commitTree.answer stOk)

/-- CONTEXT_CLOSE_TIME. An OPEN context whose CLOSE_TIME has come drains (R218). -/
def execContextCloseTime (x : Fin 64) (s : State) : Result :=
  let c := s.rd .vager (O.CTX_CLOSE_TIME_4100 x.val)
  if s.ctxState x.val = 2 ∧ c ≠ 0 ∧ c ≤ s.extNow then .next (s.drainContext x.val) else .next s

/-- DRAIN_LIMIT_EXPIRY. A DRAINING context is freed at CLOSE_TIME + DRAIN_LIMIT (R218). -/
def execDrainLimitExpiry (x : Fin 64) (s : State) : Result :=
  let c := s.rd .vager (O.CTX_CLOSE_TIME_4100 x.val)
  if s.ctxState x.val = 3 ∧ c + 1000 * s.rd .vager O.DRAIN_LIMIT_4140 ≤ s.extNow then .next (s.freeContext x.val) else .next s

/-- CTX_FREE. The context is forced FREE and its rounds are discarded (0x4100+x:06). -/
def execCtxFree (w : Writer) (x : Fin 64) (s : State) : Result :=
  .next (s.writeBy w true .fleet fun s => (s.freeContext x.val).answer stOk)

/-! ### Rig plans (R232) -/

/-- PLAN_BYTES_WRITE. The length completes the load of a plan, whose digest starts (R232). -/
def execPlanBytesWrite (w : Writer) (j : Fin 4) (bytes : Nat) (s : State) : Result :=
  .next (s.writeBy w true .host fun s =>
    if bytes % 32 ≠ 0 ∨ 67108864 < bytes then s.answer stRange
    else ((s.wr .vager (O.PLAN_BYTES_4360 j.val) bytes).wr .vager (O.PLAN_STATE_4360 j.val) 1).answer stOk)

/-- PLAN_DIGEST_DONE. The digest of the lowest slot whose load is complete stands, and the slot is VALID (R232). -/
def execPlanDigestDone (s : State) : Result :=
  match (List.range 4).find? fun j => s.rd .vager (O.PLAN_STATE_4360 j) == 1 with
  | none => .next s
  | some j =>
    let d := sha256 (s.bytesAt .vager (O.PLAN_DATA_4360 j) 0 (s.rd .vager (O.PLAN_BYTES_4360 j)))
    .next ((s.setBytes .vager (O.PLAN_TRAY_DIGEST_4360 j) 0 d).wr .vager (O.PLAN_STATE_4360 j) 2)

end Sys2Proof.Machine
end

