-- ==== Sys2Proof/Machine/Reset.lean ====
section
/-! DEFINITION. Machine/Reset.lean: the resets of both parts, out-of-service records, PCIe states and PWRGOOD (R467 to R469, R550, R551,
R554, R561, R598). -/

namespace Sys2Proof.Machine
open Sys2Proof

/-! ### What a reset keeps -/

/-- The object of a key is a constant of its part (R503). -/
def constKey (p : Part) (k : Nat) : Bool :=
  match subInfo p (k / 256) (k % 256) with
  | some x => x.access == 4
  | none => false

/-- Only the objects that `keep` names stay as they are; every other is at its Default. -/
def keepObjects (keep : Nat → Bool) (t : Tbl Nat) : Tbl Nat := t.filter fun e => keep e.1

/-- Only the octets of the objects that `keep` names stay as they are. -/
def keepOctets (keep : Nat → Bool) (t : Tbl Nat) : Tbl Nat := t.filter fun e => keep (e.1 / 2 ^ 40)

/-- The objects of part `p` that `clear` names go to their Default, constants excepted. -/
def State.clearObjects (s : State) (p : Part) (clear : Nat → Bool) : State :=
  let keep := fun k => !clear k || constKey p k
  (s.setObjs p (keepObjects keep (s.objs p))).setOcts p (keepOctets keep (s.octs p))

/-- Key `k` belongs to an object whose index lies from `lo` to `hi`. -/
def inIndex (lo hi k : Nat) : Bool := decide (lo ≤ k / 256) && decide (k / 256 ≤ hi)

/-! ### Staris (R468, R469, R480, R554) -/

/-- A code of an event recorder entry that names a grant (R482): its kind, which the spec does not code, and 1 grant, 2 renew,
3 withdraw, 4 expire. -/
def State.recordGrant (s : State) (p : Part) (kind act : Nat) : State :=
  s.record p 0x0040 (fld 8 8 act + Config.grantKind kind % 256)

/-- A trace grant of a Staris ends (R480): TRACE_AUTH follows, and the sources are judged again (R131). -/
def State.withdrawGrant (s : State) (d : Die) (sec : Bool) (act : Nat) : State :=
  let p := Part.staris d
  let k := if sec then O.AUTH_SECURE_7400 else O.AUTH_NS_PRIV_7400
  if s.rd p k = 0 then s
  else
    let s := s.wr p k 0
    let s := s.wr p O.TRACE_AUTH_3400 (setBit (s.rd p O.TRACE_AUTH_3400) (if sec then 1 else 0) false)
    (s.retraceAll d).recordGrant p (if sec then 1 else 0) act

/-- Every DMA channel of a Staris: a running transfer is ABORTED and the channel goes to IDLE (R469). -/
def State.dmaSoft (s : State) (d : Die) : State :=
  let p := Part.staris d
  (List.range (dmaCount p)).foldl (fun s n =>
    let s := if s.dmaState p n = 1 then s.dmaAborted p n else s
    let i := dmaIndex p n
    let s := ((s.wr p (O.DMA_STATE i) 0).wr p (O.DMA_OWNER i) 0).wr p (O.DMA_SHADOW_VALID i) 0
    s.setDmaCh p n {}) s

/-- The objects of a Staris that a soft reset clears: event flags, counters, the snapshot bank, streams, dump slots, sequencers,
Pennant and the digest key slots (R469). -/
def softCleared (k : Nat) : Bool :=
  k == O.EVT_STUCK_NOW_3000 || k == O.EVT_STUCK_SEEN_3000 || k == O.EVT_OVERRUN_3000 || inIndex 0x3010 0x3020 k
    || inIndex 0x3060 0x309F k || inIndex 0x3400 0x346F k || inIndex 0x5010 0x5013 k

/-- The trace unit after a soft reset: what the die's lines say of its sources is not the unit's to clear. -/
def Trace.soft (t : Trace) : Trace :=
  { sources := (t.sources.filter fun e => e.2.lowPower || e.2.inReset).map fun e =>
      (e.1, { lowPower := e.2.lowPower, inReset := e.2.inReset }) }

/-- A soft reset of a Staris (R468, R469): state that the table does not name is kept, such as a
restore in progress, which goes on holding channel 2. -/
def State.softReset (s : State) (d : Die) : State :=
  let s := (s.withdrawGrant d false 3).withdrawGrant d true 3
  let s := (s.abortDieCut d 6).discardEntries d fun _ => true
  let s := s.abandonAll d fun _ => true
  let s := s.dmaSoft d
  let holding := (s.cap d).dumps.any fun e => match e.2.copy with
    | some c => c.hold && c.held
    | none => false
  let s := if holding then s.emit (.dumpHold d.val false) else s
  let c := s.cap d
  let s := s.setCap d { c with counters := [], snap := [], streams := [], started := none, holding := [], dumps := [], seqs := [] }
  let s := s.setTr d (s.tr d).soft
  let s := s.setCk d { s.ck d with keys := [], combs := [], abandoned := [], windows := [] }
  (s.clearObjects (.staris d) softCleared).dmaSettle (.staris d) 2

/-- SOFT_RESET. A write of 0x7000:0A (R468). -/
def execSoftReset (d : Die) (w : Writer) (s : State) : Result :=
  .next (s.writeBy w true .fleet fun s => (s.softReset d).answer stOk)

/-- STARIS_RESET_RELEASE. The die releases the Staris reset: its power-on reset has cleared everything but its constants (R469,
R554). -/
def execStarisResetRelease (d : Die) (s : State) : Result :=
  let p := Part.staris d
  let obj := keepObjects (constKey p) (s.objs p)
  let oct := keepOctets (constKey p) (s.octs p)
  .next (s.setDie d { obj := obj, oct := oct })

/-! ### Vager (R468, R469, R505, R550) -/

/-- The network objects, which a commit stores (R505, R529). -/
def networkKey (k : Nat) : Bool := decide (0x110003 ≤ k) && decide (k ≤ 0x11000A)

/-- The objects that Vager keeps through a power cycle: constants, what NOR and the fuses hold (R467, R505, R534, R536, R544), and the
network objects as they were committed. -/
def powerKept (k : Nat) : Bool :=
  constKey .vager k || inIndex 0x7460 0x7467 k || k == O.BAD_PAGES_70B0
    || (inIndex 0x70C0 0x70CF k && (k % 256 == 1 || k % 256 == 2)) || (inIndex 0x3810 0x381F k && k % 256 == 0x0F)
    || k == O.OP_HOURS_7841 || k == O.POWER_CYCLES_7841 || k == O.FW_ACTIVE_7860 || k == O.FW_SLOT_STATE_7860
    || k == O.FW_MIN_SVN_7860 || k == O.FW_SLOT_VERSIONS_7860 || k == O.FW_VERSION_1000 || k == O.FW_DIGEST_1000

/-- The objects that a warm reset keeps as well: levels, retirements and spare assignments, the recorder, and counts since
power-on (R469). -/
def warmKept (k : Nat) : Bool :=
  powerKept k || (inIndex 0x7090 0x7094 k && decide (5 ≤ k % 256)) || k == O.PPR_LEFT_70B0
    || (inIndex 0x3810 0x381F k && k % 256 == 0x16) || k == O.CLUSTER_STATE_5440 || k == O.SH_STATE_5440 || k == O.SPARES_LEFT_5440
    || k == O.LANES_RETIRED_4800 || inIndex 0x7840 0x7841 k || k == O.CN_RESTARTS_7848 || k == O.CN_LAST_CAUSE_7848
    || k == O.THERMAL_PEAK_7850 || k == O.WARM_RESETS_7100

/-- Vager's objects after a reset: those kept, and the network objects as NOR holds them. -/
def restoreObjects (keep : Nat → Bool) (v : Vager) : Tbl Nat × Tbl Nat :=
  let obj := v.nor.obj.foldl (fun t e => Tbl.set vagerDefault t e.1 e.2) (keepObjects (fun k => keep k && !networkKey k) v.obj)
  let oct := v.nor.oct.foldl (fun t e => Tbl.set octDefaultAt t e.1 e.2) (keepOctets (fun k => keep k && !networkKey k) v.oct)
  (obj, oct)

/-- While Vager is in reset its transmitters are silent: a Staris end loses the signal of every lane, which takes it from UP and UP_7
to FAILED and from TRAINING, PAIRING and RETRAIN to DOWN (R181, R469). -/
def State.dropStarisEnds (s : State) : State :=
  allDies.foldl (fun s d =>
    let st := s.linkState false d
    if st = 0 ∨ st = 6 then s else if s.linkUp false d then s.failLink false d else s.linkDown false d) s

/-- The classifier after a power-on reset: only repairs and the bad-page list are kept (R469). -/
def Classifier.cold (c : Classifier) : Classifier := { repairs := c.repairs, badPages := c.badPages, dead := c.dead }

/-- The records of NOR that a Vager ignores when they fail its key: paired digests, out-of-service records and the bad-page list
(R488), and the objects that R505 keeps under the same binding. -/
def boundKey (k : Nat) : Bool :=
  networkKey k || inIndex 0x7460 0x7467 k || k == O.BAD_PAGES_70B0 || (inIndex 0x70C0 0x70CF k && (k % 256 == 1 || k % 256 == 2))
    || (inIndex 0x3810 0x381F k && k % 256 == 0x0F)

/-- The recorder's NOR as a Vager finds it after a loss of power (R534, R536, R538): a record that was being programmed is torn,
records of another Vager do not verify, and an erase that was cut short is done again. `x` gives the bytes that nothing fixes. -/
def Recorder.afterLoss (r : Recorder) (foreign : Bool) (x : Nat) : Recorder :=
  let r := match r.writing with
    | some w => ({ r with writing := some { w with fails := some (x % 2 ^ 512) } }).program.erased
    | none => r.erased
  let strange := fun (i : Nat) (y : Record) =>
    if foreign ∧ y.fails.isNone then { y with fails := some (recordNumber (x / 2 ^ (512 + 64 * i)) y) } else y
  { ring := r.ring.mapIdx strange, pos := r.pos, nextSeq := r.nextSeq, norUsed := true }

/-- PWRGOOD has risen: step 1 of R550 up to the recorder entry of step 3. `spares` is what each HBM stack reports, and `foreign` says
that the NOR's records fail this Vager's key (R488).
The first record is POWER_ON, and after an orderly end LOST follows where records were still queued (R536, R598). -/
def State.powerOn (s : State) (spares : List Nat) (foreign : Bool) : State :=
  let v := s.vager
  let r := v.recorder
  let nor := if foreign then { v.nor with obj := [], oct := [] } else v.nor
  let (obj, oct) := restoreObjects (fun k => powerKept k && !(foreign && boundKey k)) { v with nor := nor }
  let c := v.classifier.cold
  let s := s.dropStarisEnds
  let (x, s) := s.takeNat
  let s := s.setVager {
    obj := obj, oct := oct, classifier := if foreign then { c with badPages := [] } else c, nor := nor
    recorder := r.afterLoss foreign x }
  let s := s.wr .vager O.NOR_BINDING_7480 foreign.toNat
  let s := (List.range 31).foldl (fun s d => s.moveVager d 2) s
  let s := s.bump .vager O.POWER_CYCLES_7841 32
  let s := ((spares.take 6).mapIdx fun i n => (i, n)).foldl (fun s e => s.setElem .vager O.PPR_LEFT_70B0 2 e.1 e.2) s
  let s := s.wr .vager (O.CLS_SPARES_TOTAL_7090 1) ((spares.take 6).sum % 2 ^ 16)
  let s := s.recordV 0x0001 (if r.norUsed ∧ r.mark.isNone then 0xFF else 0)
  match r.mark with
  | some n => if 0 < n then s.recordV 0x0002 n else s
  | none => s

/-- Lane groups keep their retirements and spares through a warm reset. -/
def LaneGroup.warm (g : LaneGroup) : LaneGroup := { retired := g.retired, spareTaken := g.spareTaken, dead := g.dead }

/-- A link end keeps its retired lanes through a warm reset (R188). -/
def LinkEnd.warm (l : LinkEnd) : LinkEnd := { retired := l.retired }

/-- PCIE_STATE takes a value, and CLKREQ# is let go in L1.1 alone (R561, R591). -/
def State.setPcie (s : State) (x : Nat) : State :=
  let v := Part.vager
  let asserted := fun y => bits y 3 2 != 2
  let old := s.rd v O.PCIE_STATE_7C40
  let s := s.wr v O.PCIE_STATE_7C40 x
  if asserted old = asserted x then s else s.emit (.clkreq (asserted x))

/-- A warm reset of Vager with its cause (R468, R469). State that the table does not name is cleared, the time
state goes to UNSET (R60), and an open debug port closes (R481). HBM's contents are not guaranteed: a free value says whether they are kept or lost. After a thermal trip the domains stay as they
are (R595). -/
def State.warmReset (s : State) (cause : Nat) : State :=
  let s := if s.rd .vager O.DBG_GRANT_7442 = 1 then s.recordGrant .vager 2 3 else s
  let s := (s.goVager 0 0).setPcie 0
  let v := s.vager
  let (x, s) := s.takeNat
  let (obj, oct) := restoreObjects (fun k => warmKept k || (v.crow.tripped && inIndex 0x7C60 0x7C7F k)) v
  let s := (s.closeSessions fun _ => true).dropStarisEnds
  let s := s.setVager {
    obj := obj, oct := oct, classifier := v.classifier, nor := v.nor, recorder := v.recorder, ticks := v.ticks
    hourTicks := v.hourTicks, power := { offAt := v.power.offAt }, crow := v.crow
    hbm := if x % 2 = 0 then v.hbm else []
    links := (v.links.map fun e => (e.1, e.2.warm)).filter fun e => e.2 != {}
    laneGroups := (v.laneGroups.map fun e => (e.1, e.2.warm)).filter fun e => e.2 != {} }
  (s.wr .vager O.LAST_RESET_CAUSE_7100 cause).bump .vager O.WARM_RESETS_7100 32

/-- VAGER_POWER_ON (R550, R536, R598). -/
def execVagerPowerOn (spares : List Nat) (foreign : Bool) (s : State) : Result := .next (s.powerOn spares foreign)

/-- WARM_RESET. A write of 0x7100:01: cause 1 (R468). -/
def execWarmReset (w : Writer) (s : State) : Result :=
  .next (s.writeBy w true .fleet fun s => (s.answer stOk).warmReset 1)

/-- PERST_ASSERT. PERST# is asserted: a warm reset with cause 2 (R468). -/
def execPerstAssert (s : State) : Result := .next (s.warmReset 2)

/-- PERST_DEASSERT. The PCIe function begins to answer: its domain is ON (R551, R556). -/
def execPerstDeassert (s : State) : Result := .next (s.moveVager 30 0)

/-- PCIE_FLR. The PCIe function is reset: it is in D0, and the DMA channels that address host space are aborted (R468). -/
def execPcieFlr (s : State) : Result :=
  let p := Part.vager
  let s := s.wr p O.PCIE_STATE_7C40 (setFld (s.rd p O.PCIE_STATE_7C40) 0 2 0)
  .next ((List.range (dmaCount p)).foldl (fun s n =>
    let x := s.dmaActive p n
    if s.dmaState p n = 1 ∧ (descSrcSpace x = 1 ∨ descDstSpace x = 1) then (s.dmaAborted p n).dmaNext p n else s) s)

/-- PCIE_POWER_STATE_CHANGE. The host chooses device and link states as PCIE_STATE codes them, and only those that the function
supports: D0 or D3hot, and L0, L1 or L1.1 (R561, R591). -/
def execPciePowerStateChange (state : Nat) (s : State) : Result :=
  let x := state % 16
  .next (if (bits x 1 0 = 0 ∨ bits x 1 0 = 3) ∧ bits x 3 2 ≠ 3 then s.setPcie x else s)

/-- PWRGOOD_FALL. No more records are taken, an erase or a program in hand completes, and the orderly-end mark is programmed with the
number still queued (R598). -/
def execPwrgoodFall (s : State) : Result :=
  let r := s.rcd.erased
  let r := (if s.rd .vager O.REC_STATE_7840 = 2 then r.cleared else r).program
  .next (s.setRcd { r with mark := some r.hold.length })

/-- PORT_OOS_CLEAR. The record of a port out of service is cleared, and RETURN_TO_SERVICE is written to its Staris (R467). What
R487 withholds is not sent. -/
def execPortOosClear (w : Writer) (p : Die) (s : State) : Result :=
  .next (s.writeBy w true .fleet fun s =>
    let v := Part.vager
    let s := (s.wr v (O.PORT_SERVICE_70C0 p.val) 0).setBytes v (O.PORT_OOS_DIGEST_70C0 p.val) 0 (List.replicate 48 0)
    let s := s.answer stOk
    if s.withheld w p then s.bump v O.WITHHELD_WRITES_7480 32
    else
      let e : SheetEntry := { index := 0x7000, sub := 6, node := p.val + 1, len := 1, offset := 0, data := [1] }
      s.proxySubmit p { tid := 0, w := { secure := true, role := .fleet }
                        req := { version := 1, op := 2, tid := 0, stop := false, resend := false, sound := true, entries := [e] } })

end Sys2Proof.Machine
end

