-- ==== Sys2Proof/Machine/Crow.lean ====
section
/-! DEFINITION. Machine/Crow.lean: Crow's Nest: its supervisor, boot and firmware images (R23, R530 to R532, R544 to R547, R550, R554,
R555). -/

namespace Sys2Proof.Machine
open Sys2Proof

/-- Crow's Nest beyond its objects. -/
def State.crow (s : State) : Crow := s.vager.crow

/-- Crow's Nest replaced. -/
def State.setCrow (s : State) (x : Crow) : State := s.setVager { s.vager with crow := x }

/-! ### Images (R544, R545) -/

/-- Fields of an image's header. -/
def imageHeader (img : List Nat) : Nat := ofBytes (img.take 256)
def imageKind (img : List Nat) : Nat := bits (imageHeader img) 15 8
def imageSvn (img : List Nat) : Nat := bits (imageHeader img) 31 16
def imageVersion (img : List Nat) : Nat := bits (imageHeader img) 63 32
def imageDigest (img : List Nat) : List Nat := (img.drop 112).take 48

/-- The image's format can be taken: its length, MAGIC, LENGTH, KIND and FORMAT (R544). -/
def imageSound (img : List Nat) : Bool :=
  let h := imageHeader img
  decide (256 ≤ img.length) && bits h 127 96 == 0x4E575243 && bits h 95 64 == img.length - 256
    && decide (bits h 95 64 ≤ 16776960) && (imageKind img == 1 || imageKind img == 2) && bits h 7 0 == 1

/-- The slot in use of a KIND (R544, R549): FW_ACTIVE holds its place among the two slots of the KIND. -/
def State.activeSlot (s : State) (kind : Nat) : Nat := 2 * (kind - 1) + s.ob .vager O.FW_ACTIVE_7860 (kind - 1) % 2

/-- The other slot of the KIND. -/
def State.otherSlot (s : State) (kind : Nat) : Nat := 2 * (kind - 1) + (s.ob .vager O.FW_ACTIVE_7860 (kind - 1) + 1) % 2

/-- A slot's image. -/
def State.slotImage (s : State) (slot : Nat) : List Nat := Tbl.get (fun _ => []) s.vager.nor.images slot

/-- State of a slot (0x7860:02). -/
def State.slotState (s : State) (slot : Nat) : Nat := s.ob .vager O.FW_SLOT_STATE_7860 slot

/-- The image that part `p` runs shows in its firmware objects. -/
def State.showImage (s : State) (p : Part) (img : List Nat) : State :=
  if img.isEmpty then s else (s.wr p O.FW_VERSION_1000 (imageVersion img)).setBytes p O.FW_DIGEST_1000 0 (imageDigest img)

/-- STARIS_IMAGE_LOAD. The active Staris image is loaded, as a soft reset, where the digest that the Staris shows differs from it, and
the Staris is CURRENT (R554, R555). -/
def State.loadStarisImage (s : State) (d : Die) : State :=
  let img := s.slotImage (s.activeSlot 2)
  let s := s.wr (.staris d) O.BOOT_STAGE_7C00 2
  if img.isEmpty ∨ s.bytesAt (.staris d) O.FW_DIGEST_1000 0 48 = imageDigest img then s
  else (s.softReset d).showImage (.staris d) img

/-- FW_STAGE_BYTES_WRITE. The checking of a staged image begins (R545). -/
def execFwStageBytesWrite (w : Writer) (value : Nat) (s : State) : Result :=
  .next (s.writeBy w true .fleet fun s =>
    ((s.wr .vager O.FW_STAGE_BYTES_7860 (value % 2 ^ 32)).wr .vager O.FW_STAGE_STATE_7860 1).answer stOk)

/-- The first check of R545 that a staged image fails, or 0. -/
def State.stageError (s : State) (img : List Nat) (signed written : Bool) : Nat :=
  if imageSound img = false then 1
  else if signed = false then 2
  else if sha384 (img.drop 256) ≠ imageDigest img then 3
  else if imageSvn img < s.rd .vager O.FW_MIN_SVN_7860 then 4
  else if written = false then 5
  else 0

/-- A verified image goes into the inactive slot of its KIND and is recorded; in RECOVERY the supervisor boots (R531, R545). -/
def State.acceptImage (s : State) (img : List Nat) : State :=
  let v := Part.vager
  let slot := s.otherSlot (imageKind img)
  let n := s.vager.nor
  let s := s.setVager { s.vager with nor := { n with images := Tbl.insert n.images slot img
                                                     staged := n.staged.filter (· != slot) ++ [slot] } }
  let s := (s.setOb v O.FW_SLOT_STATE_7860 slot 1).setElem v O.FW_SLOT_VERSIONS_7860 4 slot (imageVersion img)
  let s := s.wr v O.FW_STAGE_STATE_7860 2
  let s := s.recordV 0x0061 slot (fld 64 32 (imageVersion img) + fld 48 16 (imageSvn img))
  if s.rd v O.CN_STATE_7848 = 4 then s.wr v O.CN_STATE_7848 0 else s

/-- FW_STAGE_CHECK_DONE. The image goes into the inactive slot of its KIND, or is refused with the first failing check; in
RECOVERY a verified image lets the supervisor boot (R531, R545). -/
def execFwStageCheckDone (signed written : Bool) (s : State) : Result :=
  let v := Part.vager
  if s.rd v O.FW_STAGE_STATE_7860 ≠ 1 then .next s
  else
    let img := s.bytesAt v O.FW_STAGE_DATA_7860 0 (min (s.rd v O.FW_STAGE_BYTES_7860) 16777216)
    let e := s.stageError img signed written
    let s := s.wr v O.FW_STAGE_ERROR_7860 e
    if e ≠ 0 then .next (s.wr v O.FW_STAGE_STATE_7860 3)
    else .next (s.acceptImage img)

/-! ### Maintenance stops and activation (R23, R546, R547) -/

/-- MAINT_STOP_WRITE. A maintenance stop is declared: every context must be FREE and Stay at rest (R546). -/
def execMaintStopWrite (w : Writer) (value : Bool) (s : State) : Result :=
  .next (s.writeBy w true .fleet fun s =>
    let free := (List.range 64).all fun x => s.ctxState x == 0
    let rest := s.rstState == 0 || (decide (5 ≤ s.rstState) && decide (s.rstState ≤ 7))
    if value ∧ (free && s.cutIdle && rest) = false then s.answer stRefused
    else (s.wr .vager O.MAINT_STOP_7860 (ofBool value)).answer stOk)

/-- The staged slot of a KIND, where it may be activated (R546). -/
def State.stagedSlot (s : State) (kind : Nat) : Option Nat :=
  let slot := s.otherSlot kind
  if s.rd .vager O.MAINT_STOP_7860 = 1 ∧ s.vager.nor.staged.contains slot then some slot else none

/-- The staged slot becomes the active one. -/
def State.activateSlot (s : State) (kind slot : Nat) : State :=
  let n := s.vager.nor
  let s := s.setVager { s.vager with nor := { n with staged := n.staged.filter (· != slot) } }
  (s.setOb .vager O.FW_ACTIVE_7860 (kind - 1) (slot % 2)).recordV 0x0062 slot

/-- FW_ACTIVATE_CROWS_NEST. The staged slot is active, on trial, and Vager is reset warm with cause 1 (R546, R547). -/
def execFwActivateCrowsNest (w : Writer) (s : State) : Result :=
  .next (s.writeBy w true .fleet fun s =>
    match s.stagedSlot 1 with
    | none => s.answer stRefused
    | some slot => (((s.activateSlot 1 slot).setOb .vager O.FW_SLOT_STATE_7860 slot 2).answer stOk).warmReset 1)

/-- FW_ACTIVATE_STARIS. The staged slot is active: every Staris whose link is up is reset softly and takes the image; one whose link is
down takes it at its next link-up (R546, R554). -/
def execFwActivateStaris (w : Writer) (s : State) : Result :=
  .next (s.writeBy w true .fleet fun s =>
    match s.stagedSlot 2 with
    | none => s.answer stRefused
    | some slot =>
      let s := (s.activateSlot 2 slot).answer stOk
      allDies.foldl (fun s d => if s.linkUp true d then (s.softReset d).showImage (.staris d) (s.slotImage slot) else s) s)

/-- FW_CONFIRM. The trial of the active image ends; with FW_SVN_LOCK 1 its SVN becomes the least accepted (R547). -/
def execFwConfirm (w : Writer) (s : State) : Result :=
  let v := Part.vager
  .next (s.writeBy w true .fleet fun s =>
    let slot := s.activeSlot 1
    if s.slotState slot ≠ 2 ∨ s.crow.fallback then s.answer stRefused
    else
      let s := s.setOb v O.FW_SLOT_STATE_7860 slot 1
      let svn := imageSvn (s.slotImage slot)
      (if s.rd v O.FW_SVN_LOCK_7860 = 1 then s.wr v O.FW_MIN_SVN_7860 (max (s.rd v O.FW_MIN_SVN_7860) svn) else s).answer stOk)

/-- The trial of the image that runs has lasted FW_TRIAL seconds since its boot (R547). -/
def State.trialOver (s : State) : Bool :=
  s.rd .vager O.CN_STATE_7848 == 1 && s.slotState (s.activeSlot 1) == 2
    && decide (s.crow.bootAt + 10 ^ 9 * s.rd .vager O.FW_TRIAL_7860 ≤ s.vager.ticks)

/-- FW_TRIAL_EXPIRY. The trial has run out unconfirmed: the next restart boots the other slot (R547). -/
def execFwTrialExpiry (s : State) : Result :=
  .next (if s.trialOver then s.setCrow { s.crow with fallback := true } else s)

/-! ### The supervisor (R531, R532) -/

/-- CN_KICK. The firmware writes CN_KICK, and the watchdog's period begins again (R531). -/
def execCnKick (w : Writer) (s : State) : Result :=
  .next (s.writeBy w true .fleet fun s => (s.setCrow { s.crow with kickAt := s.vager.ticks }).answer stOk)

/-- Every pending group that the firmware holds fails (R518, R532). The STATUS of such a failure is not given: a free value. -/
def State.failGroups (s : State) : State :=
  (s.staging .vager).groups.foldl (fun s g =>
    let (x, s) := s.takeNat
    s.groupLeaves .vager g 3 0 (x % 256) s.extNow) s

/-- Every entry that a proxy holds is answered TIMEOUT (R532). -/
def State.timeoutProxies (s : State) : State :=
  allDies.foldl (fun s p =>
    let x := s.proxy p.val
    let s := s.setProxy p.val { x with outstanding := [], queue := [] }
    (x.outstanding ++ x.queue).foldl (fun s i => s.proxyFailed i stTimeout) s) s

/-- A restart of the core with its cause: RESTARTING, or WARM for the restart that reaches CN_RESTART_LIMIT in its window; sessions
close and what the firmware holds fails (R531, R532). -/
def State.cnRestart (s : State) (cause : Nat) : State :=
  let v := Part.vager
  if s.rd v O.CN_STATE_7848 ≠ 1 then s
  else
    let now := s.vager.ticks
    let window := 10 ^ 9 * s.rd v O.CN_RESTART_WINDOW_7848
    let recent := (s.crow.restarts.filter fun t => decide (now - t < window)) ++ [now]
    let s := s.setCrow { s.crow with restarts := recent }
    let s := (s.bump v O.CN_RESTARTS_7848 32).wr v O.CN_LAST_CAUSE_7848 cause
    let s := s.recordV 0x0060 recent.length
    let s := ((s.closeSessions fun _ => true).timeoutProxies).failGroups
    s.wr v O.CN_STATE_7848 (if s.rd v O.CN_RESTART_LIMIT_7848 ≤ recent.length then 3 else 2)

/-- CN_WATCHDOG_EXPIRY. A period has passed without a kick (R531). -/
def execCnWatchdogExpiry (s : State) : Result :=
  .next (if s.crow.kickAt + 10 ^ 6 * s.rd .vager O.CN_WD_PERIOD_7848 ≤ s.vager.ticks then s.cnRestart 1 else s)

/-- CN_CORE_FAULT (R531). -/
def execCnCoreFault (s : State) : Result := .next (s.cnRestart 2)

/-- CN_RESTART_DELAY_END. RESTARTING ends in BOOT; WARM does so through a warm reset with cause 3 (R531). -/
def execCnRestartDelayEnd (s : State) : Result :=
  let v := Part.vager
  if s.rd v O.CN_STATE_7848 = 2 then .next (s.wr v O.CN_STATE_7848 0)
  else if s.rd v O.CN_STATE_7848 = 3 then .next (s.warmReset 3)
  else .next s

/-- A new batch-signing key and its certificate, whose bytes are free values; the next batch begins a chain with BSN 0 (R406). -/
def State.newSigningKey (s : State) : State :=
  let v := Part.vager
  let (n, s) := s.takeNat
  let (x, s) := s.takeNat
  let n := 1 + n % 2048
  let s := (s.setBytes v O.SIGN_CERT_6080 0 (toBytes n x ++ List.replicate (2048 - n) 0)).wr v O.SIGN_CERT_BYTES_6080 n
  let l := s.vager.ledger
  (s.setVager { s.vager with ledger := { l with chainStart := true, declared := [] } }).wr v O.BSN_NEXT_6081 0

/-- Steps 5 to 7 of R550: HBM is on, the clusters that are neither SPARE nor RETIRED are ACTIVE and the Tell-tale groups OFF, and
the tray is READY. -/
def State.bootReady (s : State) : State :=
  let v := Part.vager
  let s := (List.range 6).foldl (fun s h => s.moveVager (22 + h) 0) s
  let s := (List.range 18).foldl (fun s c =>
    if s.clState c = 2 ∨ s.clState c = 3 then s.moveVager c 2 else (s.moveVager c 0).setClState c 1) s
  let s := (List.range 4).foldl (fun s g => s.moveVager (18 + g) 2) s
  let s := [0, 1, 2, 3].foldl (fun s i => s.setElem v O.BOOT_TIMES_7C40 8 i s.vager.ticks) s
  s.wr v O.BOOT_STAGE_7C40 5

/-- The slot that BOOT starts: the active one if it verifies, else the other; a FAILED slot is not started (R531, R547). -/
def State.bootSlot (s : State) (slot0 slot1 : Bool) : Option Nat :=
  let good := fun i => (if i = 0 then slot0 else slot1) && s.slotState i != 3
  let a := s.activeSlot 1
  if good a then some a else if good (1 - a) then some (1 - a) else none

/-- The fallback of R547: the trial slot is FAILED and the other becomes the active one. -/
def State.bootFallback (s : State) : State :=
  if s.crow.fallback then
    let a := s.activeSlot 1
    let s := s.setCrow { s.crow with fallback := false }
    let s := (s.setOb .vager O.FW_SLOT_STATE_7860 a 3).setOb .vager O.FW_ACTIVE_7860 0 (1 - a)
    s.recordV 0x0063 a
  else s

/-- CN_BOOT_VERIFY_DONE. The boot ROM has verified the Crow's Nest slots: one is started and the supervisor is RUNNING, or it enters
RECOVERY (R406, R531, R547, R550). -/
def execCnBootVerifyDone (slot0 slot1 : Bool) (s : State) : Result :=
  let v := Part.vager
  if s.rd v O.CN_STATE_7848 ≠ 0 then .next s
  else
    let s := s.bootFallback
    match s.bootSlot slot0 slot1 with
    | none =>
      let s := s.setElem v O.BOOT_TIMES_7C40 8 4 s.vager.ticks
      .next ((s.wr v O.CN_STATE_7848 4).wr v O.BOOT_STAGE_7C40 6)
    | some i =>
      let s := (s.setOb v O.FW_ACTIVE_7860 0 i).wr v O.CN_STATE_7848 1
      let s := s.setCrow { s.crow with bootAt := s.vager.ticks, kickAt := s.vager.ticks }
      let s := (s.showImage v (s.slotImage i)).newSigningKey
      .next (if s.rd v O.BOOT_STAGE_7C40 = 5 then s else s.bootReady)

end Sys2Proof.Machine
end

