-- ==== Sys2Proof/Machine/Worlds.lean ====
section
/-! DEFINITION. Machine/Worlds.lean: trace and debug grants, the link key, management credentials and SPDM (R476, R480 to R496). -/

namespace Sys2Proof.Machine
open Sys2Proof

/-! ### Trace and debug grants (R480 to R482) -/

/-- The tick at which a grant of a Staris lapses. -/
def State.setGrantEnd (s : State) (d : Die) (sec : Bool) (t : Nat) : State :=
  let a := (s.die d).auth
  s.setDie d { s.die d with auth := if sec then { a with sec := t } else { a with nsPriv := t } }

/-- A write of AUTH_NS_PRIV or AUTH_SECURE: a grant, a renewal or a withdrawal; DEBUG_FUSE may forbid a grant (R480). -/
def State.writeGrant (s : State) (d : Die) (sec value : Bool) : State :=
  let p := Part.staris d
  let fuse := s.rd p O.DEBUG_FUSE_7400
  if value = false then (s.withdrawGrant d sec 3).answer stOk
  else if bitAt fuse 1 ∨ (sec ∧ bitAt fuse 0) then s.answer stRefused
  else
    let k := if sec then O.AUTH_SECURE_7400 else O.AUTH_NS_PRIV_7400
    let had := s.rd p k == 1
    let s := s.setGrantEnd d sec ((s.die d).ticks + 10 ^ 9 * s.rd p O.AUTH_DURATION_7400)
    let s := s.wr p k 1
    let s := s.wr p O.TRACE_AUTH_3400 (setBit (s.rd p O.TRACE_AUTH_3400) (if sec then 1 else 0) true)
    let s := s.recordGrant p (if sec then 1 else 0) (if had then 2 else 1)
    (if had then s else (s.bump p O.AUTH_GRANTS_7400 32).retraceAll d).answer stOk

/-- AUTH_NS_PRIV_WRITE (R480). -/
def execAuthNsPrivWrite (d : Die) (w : Writer) (value : Bool) (s : State) : Result :=
  .next (s.writeBy w true .operator fun s => s.writeGrant d false value)

/-- AUTH_SECURE_WRITE (R480). -/
def execAuthSecureWrite (d : Die) (w : Writer) (value : Bool) (s : State) : Result :=
  .next (s.writeBy w true .fleet fun s => s.writeGrant d true value)

/-- AUTH_EXPIRY. Once AUTH_DURATION has passed on the time island's ticks the grant is withdrawn (R480). -/
def execAuthExpiry (d : Die) (sec : Bool) (s : State) : Result :=
  let until' := if sec then (s.die d).auth.sec else (s.die d).auth.nsPriv
  .next (if until' ≤ (s.die d).ticks then s.withdrawGrant d sec 4 else s)

/-- The debug port closes (R481), recorded as act 3 withdraw or 4 expire. -/
def State.closeDebug (s : State) (act : Nat) : State :=
  if s.rd .vager O.DBG_GRANT_7442 = 0 then s
  else ((s.wr .vager O.DBG_GRANT_7442 0).setVager { (s.wr .vager O.DBG_GRANT_7442 0).vager with dbgUntil := 0 }).recordGrant
    .vager 2 act

/-- DBG_GRANT_WRITE. The debug access port opens for DBG_DURATION unless its fuse forbids it, or closes (R481). -/
def execDbgGrantWrite (w : Writer) (value : Bool) (s : State) : Result :=
  let v := Part.vager
  .next (s.writeBy w true .fleet fun s =>
    if value = false then (s.closeDebug 3).answer stOk
    else if bitAt (s.rd v O.DEBUG_FUSE_7441) 0 then s.answer stRefused
    else
      let had := s.rd v O.DBG_GRANT_7442 == 1
      let s := s.setVager { s.vager with dbgUntil := s.vager.ticks + 10 ^ 9 * s.rd v O.DBG_DURATION_7442 }
      let s := s.wr v O.DBG_GRANT_7442 1
      let s := if had then s else s.bump v O.DBG_OPENS_7442 32
      (s.recordGrant v 2 (if had then 2 else 1)).answer stOk)

/-- DBG_EXPIRY. Once DBG_DURATION has passed the port closes (R481). -/
def execDbgExpiry (s : State) : Result := .next (if s.vager.dbgUntil ≤ s.vager.ticks then s.closeDebug 4 else s)

/-! ### The link key (R484 to R486) -/

/-- The 192 bytes of LK_OFFER: Vager's ephemeral key and nonce, its identity digest and its count of link-ups on the port (R484). -/
def State.linkOffer (s : State) (d : Die) (ephemeral : List Nat) : List Nat :=
  (ephemeral ++ List.replicate 129 0).take 129 ++ s.bytesAt .vager O.ID_DIGEST_7440 0 48
    ++ toBytes 4 (s.link true d).linkups ++ List.replicate 11 0

/-- A step of R484 has failed (R485). How the recorder's VALUE holds port and step is not given: a free value. -/
def State.linkKeyFailed (s : State) (p : Die) : State :=
  let (x, s) := s.takeNat
  let s := (s.wr (.staris p) O.LK_STATE_7401 3).recordV 0x0013 x
  s.setLink true p { s.link true p with keyFails := (s.link true p).keyFails + 1, keyFailAt := s.vager.ticks }

/-- Vager waits before it tries the key of port `p` again: 100 ms, and 10 s after three failures (R485). -/
def State.keyWaits (s : State) (p : Die) : Bool :=
  let l := s.link true p
  l.keyFails != 0 && decide (s.vager.ticks < l.keyFailAt + (if l.keyFails ≤ 3 then 10 ^ 8 else 10 ^ 10))

/-- LK_OFFER_WRITE. Only Vager's own write is taken: the Staris makes its ephemeral key, its nonce, Z and its signature, whose values
are free, as is the K_link that both ends derive from them (R484). Of Vager's own offer the operand gives bytes 0 to 128; Vager writes
none while it waits after a failure (R485). -/
def execLkOfferWrite (d : Die) (w : Option Writer) (offer : List Nat) (s : State) : Result :=
  let p := Part.staris d
  match w with
  | some w => .next (s.writeBy w true .fleet fun s => s.answer stRefused)
  | none =>
    if s.keyWaits d then .next s
    else
      let (a, s) := s.takeNat
      let (k, s) := s.takeNat
      let s := s.writeOctets p O.LK_OFFER_7401 192 (s.linkOffer d offer)
      let s := s.writeOctets p O.LK_ANSWER_7401 256 (toBytes 225 a)
      .next ((s.wr p O.LK_STATE_7401 1).setLink false d { s.link false d with newKey := some (k % 2 ^ 384) })

/-- Both ends hold the key `k`: the link is UP or UP_7, and the Staris takes the active image where its own differs (R182, R486,
R554). -/
def State.takeLinkKey (s : State) (p : Die) (k : Nat) : State :=
  let s := s.setLink true p { s.link true p with key := some k, keyFails := 0 }
  let s := s.setLink false p { s.link false p with key := some k, newKey := none }
  let s := (s.wr (.staris p) O.LK_STATE_7401 2).bump (.staris p) O.LK_COUNT_7401 32
  let s := s.goUp true p
  let s := if s.linkState false p = 2 then s.goUp false p else s
  s.loadStarisImage p

/-- LINK_KEY_ESTABLISHED. Vager has verified LK_ANSWER and both ends hold K_link: the link is UP or UP_7 (R182, R486), and the Staris
takes the active image where its own differs (R554). `failed` is the step of R484 that failed, if one did. -/
def execLinkKeyEstablished (p : Die) (failed : Option Nat) (s : State) : Result :=
  if s.linkState true p ≠ 2 ∨ (s.link true p).lastHello.isNone then .next s
  else match failed, (s.link false p).newKey with
    | some _, _ => .next (s.linkKeyFailed p)
    | none, none => .next s
    | none, some k => .next (s.takeLinkKey p k)

/-- LINK_KEY_RETRY. The interval of R485 has passed and the key is tried again: an offer that came to nothing is dropped. -/
def execLinkKeyRetry (p : Die) (s : State) : Result :=
  .next (if s.rd (.staris p) O.LK_STATE_7401 = 3 ∧ s.keyWaits p = false then
    s.setLink false p { s.link false p with newKey := none } else s)

/-! ### Management credentials (R476, R489 to R494) -/

/-- An anchor is installed with one of the roles listed (R489). -/
def State.anchorIs (s : State) (a : Nat) (roles : List Nat) : Bool :=
  s.rd .vager (O.TA_STATE_7460 a) == 1 && roles.contains (s.rd .vager (O.TA_ROLE_7460 a))

/-- R476: until a fleet anchor is installed, accesses over the secure aperture hold the fleet role for 0x7460 to 0x7477. -/
def State.anchorWriter (s : State) (w : Writer) (index : Nat) : Writer :=
  let fleet := (List.range 8).any fun a => s.anchorIs a [1]
  if w.secure ∧ w.role = .host ∧ fleet = false ∧ 0x7460 ≤ index ∧ index ≤ 0x7477 then { w with role := .fleet } else w

/-- The role that TA_ROLE codes. -/
def anchorRole (x : Nat) : Role := if x = 1 then .fleet else if x = 2 then .operator else .host

/-- A certificate's validity period holds now, or is not checked (R491). -/
def State.periodHolds (s : State) (notBefore notAfter : Nat) : Bool :=
  let st := s.tstate .vager
  let now := s.extNow / 10 ^ 9
  st == 0 || st == 5 || (decide (notBefore ≤ now) && decide (now ≤ notAfter))

/-- A local address that a session may come to exists, as the network objects were committed (R506, R529). -/
def State.addressExists (s : State) (address : Nat) : Bool :=
  let n := s.vager.nor
  if address = 0 then true
  else if address = 1 then (n.oct.any fun e => e.1 / 2 ^ 40 == O.MGMT_IPV6_1100)
  else Tbl.get (fun _ => 0) n.obj O.MGMT_IPV4_1100 != 0

/-- A management session's handshake (R489 to R491, R494, R551). -/
def State.openSession (s : State) (h : Handshake) : State :=
  let v := Part.vager
  let good := h.anchors.filter fun a => s.anchorIs a.val [1, 2, 3]
  let a := good.foldl (fun (m : Nat) x => min m x.val) 8
  let ok := h.sound && s.rd v O.BOOT_STAGE_7C40 == 5 && s.rd v O.CN_STATE_7848 == 1 && decide (a < 8)
    && decide (s.vager.sessions.length < s.rd v O.MAX_SESSIONS_7478) && s.periodHolds h.notBefore h.notAfter
    && s.addressExists h.address
  if ok = false then s.bump v O.HANDSHAKE_FAILS_7478 32
  else
    let st := s.tstate v
    let unchecked := st == 0 || st == 5
    let s := if unchecked then s.bump v O.TIME_UNCHECKED_7478 16 else s
    let id := s.vager.sheet.nextSession
    let x : Session := { id := id, secure := s.rd v (O.TA_WORLD_7460 a) == 1, role := anchorRole (s.rd v (O.TA_ROLE_7460 a))
                         unchecked := unchecked, notBefore := h.notBefore, notAfter := h.notAfter, serial := h.serial
                         address := h.address, usedAt := s.vager.ticks }
    s.setVager { s.vager with sessions := s.vager.sessions ++ [x], sheet := { s.vager.sheet with nextSession := id + 1 } }

/-- The handshake of a tree or Stay association with tray `t` (R492). The key first seen since the last commit is the one recorded;
another is accepted, recorded and counted. -/
def State.openAssociation (s : State) (t : Nat) (h : Handshake) : State :=
  let v := Part.vager
  let ok := h.sound && (h.anchors.any fun a => s.anchorIs a.val [4]) && h.subject == t && s.periodHolds h.notBefore h.notAfter
  if ok = false then s.bump v O.HANDSHAKE_FAILS_7478 32
  else
    let x := s.vager.tree
    match Tbl.find x.keys t with
    | none => s.setVager { s.vager with tree := { x with keys := Tbl.insert x.keys t h.key } }
    | some k => if k = h.key then s else (s.recordV 0x0041 t).bump v O.NEIGHBOUR_CHANGES_7480 32

/-- DTLS_HANDSHAKE (R212, R488 to R492, R494, R551). -/
def execDtlsHandshake (h : Handshake) (s : State) : Result :=
  match h.peer with
  | some t => .next (s.openAssociation t h)
  | none => .next (s.openSession h)

/-- SESSION_IDLE_EXPIRY. A session that has been idle for SESSION_IDLE is closed (R494). -/
def execSessionIdleExpiry (session : Nat) (s : State) : Result :=
  let idle := 10 ^ 9 * s.rd .vager O.SESSION_IDLE_7478
  .next (s.closeSessions fun x => x.id == session && decide (x.usedAt + idle ≤ s.vager.ticks))

/-- TA_BYTES_WRITE. A write of TA_BYTES validates the anchor (R476, R489). -/
def execTaBytesWrite (w : Writer) (a : Fin 8) (value : Nat) (valid : Bool) (s : State) : Result :=
  .next (s.writeBy (s.anchorWriter w (0x7460 + a.val)) true .fleet fun s =>
    let st := if value = 0 then 0 else if valid ∧ value ≤ 2048 then 1 else 2
    ((s.wr .vager (O.TA_BYTES_7460 a.val) (value % 2 ^ 16)).wr .vager (O.TA_STATE_7460 a.val) st).answer stOk)

/-- OP_CERT_BYTES_WRITE. A write of OP_CERT_BYTES validates the operational certificate (R493). -/
def execOpCertBytesWrite (w : Writer) (value : Nat) (matching expired : Bool) (s : State) : Result :=
  .next (s.writeBy (s.anchorWriter w 0x7470) true .fleet fun s =>
    let st := if value = 0 then 0 else if matching = false then 2 else if expired then 3 else 1
    ((s.wr .vager O.OP_CERT_BYTES_7470 (value % 2 ^ 16)).wr .vager O.OP_CERT_STATE_7470 st).answer stOk)

/-! ### Measurements (R496) -/

/-- The firmware digest of a Staris as Vager knows it: its own while the link is up, and otherwise the last one learned. -/
def State.knownFw (s : State) (p : Die) : List Nat :=
  if s.linkUp true p then s.bytesAt (.staris p) O.FW_DIGEST_1000 0 48
  else ((s.link true p).seenFw ++ List.replicate 48 0).take 48

/-- The AUTH bits of a Staris as Vager knows them. -/
def State.knownAuth (s : State) (p : Die) : Nat :=
  if s.linkUp true p then s.rd (.staris p) O.TRACE_AUTH_3400 % 4 else (s.link true p).seenAuth % 4

/-- What measurement 6 covers, in the order of R496. -/
def State.partition (s : State) : List Nat :=
  let v := Part.vager
  let regions := (List.range 16).flatMap fun r => [s.rd v (O.HREG_BASE_7448 r), s.rd v (O.HREG_BYTES_7448 r),
    s.rd v (O.HREG_WORLD_7448 r), s.rd v (O.HREG_ENABLE_7448 r)]
  let worlds := (List.range (dmaCount v)).map fun n => s.rd v (O.DMA_CH_WORLD (dmaIndex v n))
  let anchors := (List.range 8).map fun a =>
    ofBytes (sha384 (s.bytesAt v (O.TA_CERT_7460 a) 0 (min (s.rd v (O.TA_BYTES_7460 a)) 2048)))
  regions ++ [s.rd v O.STAY_BYTES_5880, s.rd v O.TRACE_REGION_BYTES_3580] ++ worlds ++ anchors

/-- The staged image's digest, zero where none is staged. -/
def State.stagedDigest (s : State) : List Nat :=
  match s.vager.nor.staged.getLast? with
  | some slot => imageDigest (s.slotImage slot)
  | none => List.replicate 48 0

/-- The ASCII bytes of "KTR-VGR-6H". -/
def orderingCode : List Nat := [0x4B, 0x54, 0x52, 0x2D, 0x56, 0x47, 0x52, 0x2D, 0x36, 0x48]

/-- The value of a measurement, where its index has one. The bits of measurement 5 stand in port order, AUTH_NS_PRIV first. -/
def State.measurement (s : State) (i : Nat) : Option (List Nat) :=
  let v := Part.vager
  if i = 1 then some (toBytes 48 (Config.partConstant 0))
  else if i = 2 then some (s.bytesAt v O.FW_DIGEST_1000 0 48)
  else if i = 3 then some s.stagedDigest
  else if i = 4 then some [s.rd v O.LIFECYCLE_7441 % 256, s.rd v O.DEBUG_FUSE_7441 % 256, s.rd v O.SECURE_BOOT_7441 % 256,
    Config.partConstant 1 % 256]
  else if i = 5 then
    let auth := (allDies.map fun p => fld (2 * p.val) 2 (s.knownAuth p)).sum
    some (s.rd v O.DBG_GRANT_7442 % 256 :: toBytes 4 auth)
  else if i = 6 then some (toBytes 48 (Config.partitionDigest s.partition))
  else if i = 7 then some (orderingCode ++ toBytes 2 (s.rd v O.SILICON_REVISION_1000))
  else if h : 16 ≤ i ∧ i < 32 then
    let p : Die := ⟨i - 16, by omega⟩
    let hello := ((s.link true p).hello ++ List.replicate 48 0).take 48
    some (hello ++ s.knownFw p ++ [s.rd v (O.PAIR_STATUS_3810 p.val), s.knownAuth p, s.linkState true p, 0])
  else none

/-- A measurement block in the DMTF format: index, specification 1, size, type, size of the value, value (R496). -/
def State.measBlock (s : State) (i : Nat) : List Nat :=
  match s.measurement i with
  | none => []
  | some x =>
    [i, 1] ++ toBytes 2 (x.length + 3) ++ [Config.measurementType i % 256] ++ toBytes 2 x.length ++ x

/-- The indices that have a block, ascending. -/
def measIndices : List Nat := [1, 2, 3, 4, 5, 6, 7] ++ (List.range 16).map (16 + ·)

/-! ### SPDM (R495) -/

/-- The response code to a request code (DSP0274): a request that R495 does not support is answered ERROR. -/
def spdmCode (request : Nat) : Nat :=
  match request with
  | 0x84 => 0x04
  | 0xE1 => 0x61
  | 0xE3 => 0x63
  | 0x81 => 0x01
  | 0x82 => 0x02
  | 0x83 => 0x03
  | 0xE0 => 0x60
  | 0x86 => 0x06
  | _ => 0x7F

/-- The blocks that a GET_MEASUREMENTS asks for: all of them, or the one its PARAM2 names. -/
def State.measBlocks (s : State) (param2 : Nat) : List Nat :=
  if param2 = 0xFF then (measIndices.map s.measBlock).flatten else s.measBlock param2

/-- An answer to an SPDM request: its code, and its content. A measurement response holds its blocks, and a signature where it is asked
for; whatever else the standard lays down is a free value. -/
def State.spdmAnswer (s : State) (request : List Nat) : (Nat × List Nat) × State :=
  let code := spdmCode (request.getD 1 0)
  let s := s.bump .vager O.SPDM_REQUESTS_7490 64
  if code = 0x60 then
    let (x, s) := s.takeNat
    let sig := if bitAt (request.getD 2 0) 0 then toBytes 96 x else []
    ((code, s.measBlocks (request.getD 3 0) ++ sig), s)
  else
    let (n, s) := s.takeNat
    let (x, s) := s.takeNat
    ((code, toBytes (n % 65536) x), s)

/-- SPDM_REQUEST. A request over PCIe is answered while SPDM_PATHS bit 0 is set (R495). -/
def execSpdmRequest (request : List Nat) (s : State) : Result :=
  if bitAt (s.rd .vager O.SPDM_PATHS_7490) 0 = false then .next s
  else
    let (a, s) := s.spdmAnswer request
    .next (s.emit (.spdm a.1 a.2))

end Sys2Proof.Machine
end

