-- ==== Sys2Proof/Machine/DictRead.lean ====
section
/-! DEFINITION. Machine/DictRead.lean: what a read of an object returns (R501 to R504, R511, R513, R528): the objects that are
computed when they are read, the windows on queues, rings and memories, and the read itself. -/

namespace Sys2Proof.Machine
open Sys2Proof

/-- The content of an object as it is read: its bytes, `none` where the spec does not say what is read there (log entry 45), and the
granules that are poisoned, one bit each (R513). -/
structure Content where
  bytes : List (Option Nat) := []
  poison : Nat := 0
deriving DecidableEq, Repr

/-- A content whose bytes are all known. -/
def Content.of (l : List Nat) : Content := { bytes := l.map some }

/-- A number of `n` bytes. -/
def Content.num (n x : Nat) : Content := .of (toBytes n x)

/-- A number of `n` bytes where there is one; else what is read is not given. -/
def Content.num? (n : Nat) : Option Nat → Content
  | some x => .num n x
  | none => { bytes := List.replicate n none }

/-- Granules as they are read: 32 bytes of 0xFF in the place of a poisoned one (R303, R513). -/
def Content.granules (l : List (Nat × Bool)) : Content :=
  { bytes := l.flatMap fun g => (if g.2 then List.replicate 32 255 else toBytes 32 g.1).map some
    poison := (l.mapIdx fun i g => if g.2 then 2 ^ i else 0).sum }

/-- Records of `n` bytes, `none` where no record stands. -/
def Content.records (n : Nat) (l : List (Option Nat)) : Content :=
  { bytes := l.flatMap fun r => match r with
      | some x => (toBytes n x).map some
      | none => List.replicate n none }

/-- The granules of a list that a window of 4 KiB at a byte offset shows. -/
def window (offset : Nat) (l : List (Nat × Bool)) : Content := .granules ((l.drop (offset / 32)).take 128)

/-! ### Metadata and staging (R505, R514, R518, R527, R528) -/

/-- DESC of the selected object (R528). -/
def State.descOf (s : State) (p : Part) (sel : Nat) : Nat :=
  let index := sel % 2 ^ 16
  match idxInfo p index with
  | none => 0
  | some i =>
    match i.find (bits sel 23 16) with
    | none => 0
    | some x =>
      let (sec, role) := s.objWorld p i index x
      fld 32 32 x.size + fld 23 1 (ofBool x.persist) + fld 22 1 (ofBool x.seg) + fld 20 2 (3 - roleRank role)
        + fld 19 1 (ofBool sec) + fld 16 3 x.access + x.type % 256

/-- DESC_NEXT (0x1010:03). -/
def descNext (p : Part) (sel : Nat) : Nat :=
  match nextObject p (sel % 2 ^ 16) (bits sel 23 16) with
  | some (i, x) => fld 16 8 x + i % 2 ^ 16
  | none => 0xFFFFFFFF

/-- The stage word of a group (R514). -/
def stageWord (kind group time : Nat) : List Nat := toBytes 16 (fld 64 64 time + fld 32 32 group + kind % 256)

/-- The selected group's state, stage word and outcome (0x1020:02 to :04). -/
def State.stageShown (s : State) (p : Part) (sub : Nat) : Content :=
  let x := s.staging p
  let sel := s.rd p O.STAGE_SELECT_1020
  match x.groups.find? fun g => g.group == sel with
  | some g =>
    if sub = 2 then .num 1 1 else if sub = 3 then .of (stageWord g.kind g.group g.time) else .of (outcomeBytes g.group 1 0 0 0)
  | none =>
    match x.outcomes.find? fun o => o.group == sel with
    | some o =>
      if sub = 2 then .num 1 o.state else if sub = 3 then .of (stageWord o.kind o.group o.time)
      else .of (outcomeBytes o.group o.state o.bad o.status o.when)
    | none => if sub = 2 then .num 1 0 else .num 16 0

/-- The objects that both parts compute. -/
def State.readCommon (s : State) (p : Part) (index sub : Nat) : Option Content :=
  match index, sub with
  | 0x1010, 2 => some (.num 8 (s.descOf p (s.rd p O.DESC_SELECT_1010)))
  | 0x1010, 3 => some (.num 4 (descNext p (s.rd p O.DESC_SELECT_1010)))
  | 0x1020, 2 => some (s.stageShown p 2)
  | 0x1020, 3 => some (s.stageShown p 3)
  | 0x1020, 4 => some (s.stageShown p 4)
  | 0x1020, 5 => some (.num 2 (s.staging p).groups.length)
  | 0x1020, 6 => some (.num 2 ((stagingRoom p).2 - (s.staging p).held))
  | _, _ => none

/-! ### A Staris's objects -/

/-- A counter as a reader of world `sec` sees it in a block (R85, R86). -/
def State.counterShown (s : State) (d : Die) (sec : Bool) (n : Nat) : Nat :=
  let c := s.ctr d n
  if sec = false ∧ c.global then 2 ^ 62 else counterEntry c

/-- 256 entries of 8 bytes from `base` on. -/
def block256 (base : Nat) (f : Nat → Nat) : Content := .of ((List.range 256).flatMap fun i => toBytes 8 (f (base + i)))

/-- The state code of a sequencer (0x3090+q:03). -/
def seqCode : SeqState → Nat
  | .idle => 0
  | .running => 1
  | .waiting => 2
  | .halted => 3
  | .fault => 4

/-- Counters, the snapshot bank, streams and sequencers (0x3000 to 0x33FF). -/
def State.readCapture (s : State) (d : Die) (w : Writer) (index sub : Nat) : Option Content :=
  let p := Part.staris d
  let sel := s.rd p O.CNT_SELECT_3010
  let x := s.sstream d (s.rd p O.STREAM_SELECT_3060)
  let q := s.seqr d (index - 0x3090)
  if index = 0x3010 then
    match sub with
    | 2 => some (.num 8 (s.ctr d sel).cfg)
    | 3 => some (.num 8 (counterEntry (s.ctr d sel)))
    | 5 => some (block256 (sel / 256 * 256) fun n => s.counterShown d w.secure n)
    | _ => none
  else if index = 0x3020 ∧ sub = 9 then
    some (block256 (s.rd p O.SNAP_SELECT_3020) fun n => Tbl.get (fun _ => 0) (s.cap d).snap n)
  else if index = 0x3060 then
    match sub with
    | 2 => some (.num 4 x.source)
    | 3 => some (.num 2 x.period)
    | 4 => some (.num 4 x.phase)
    | 5 => some (.num 1 (ofBool x.enable))
    | _ => none
  else if 0x3090 ≤ index ∧ index < 0x3098 then
    match sub with
    | 3 => some (.num 1 (seqCode q.state))
    | 4 => some (.num 1 q.pc)
    | 5 => some (.of (toBytes 4 q.x0 ++ toBytes 4 q.x1 ++ toBytes 4 q.x2 ++ toBytes 4 q.x3))
    | 6 => some (.num 1 q.fault)
    | 7 => some (.num 1 q.signals)
    | _ => none
  else none

/-- The local buffer from BUF_OFFSET on (0x3450:09). -/
def State.bufferShown (s : State) (d : Die) : Content :=
  let first := s.rd (.staris d) O.BUF_OFFSET_3450 / 32
  .granules ((List.range 128).map fun i => let g := Tbl.get (fun _ => {}) (s.tr d).buffer (first + i); (g.data, g.poison))

/-- The selected energy context (0x6003:05). -/
def State.ctxStatus (s : State) (d : Die) : Content :=
  let e := s.en d
  let c := s.rd (.staris d) O.CTX_SELECT_6003
  let r := (Tbl.find e.reqs c).getD {}
  .of (toBytes 8 r.reqId ++ toBytes 8 r.attr ++ toBytes 8 r.alloc ++ toBytes 2 r.seg
    ++ [ofBool (Tbl.find e.ops c).isSome, 0, 0, 0, 0, 0])

/-- SEL_TEST_RESULT (R313, 0x5400:0A). -/
def State.selTest (s : State) (d : Die) : Nat :=
  let p := Part.staris d
  let k := s.rd p O.SEL_TEST_KEY_5400
  let seed := s.rd p O.SH_SEED_5400
  let tag := bits k 63 32
  let step := bits k 31 0
  fld 31 1 (ofBool (selected tag step seed (s.rd p O.SEL_TEST_F_5400))) + selHash tag step seed % 2 ^ 20

/-- Nanoseconds, which are ticks, that a domain which is not ON has spent so far since it left ON (R560 objects). -/
def offSoFar (x : Power) (now d : Nat) : Nat :=
  match Tbl.find x.offAt d with
  | some t => now - t
  | none => 0

/-- Seconds left of a grant that lapses at tick `t`. -/
def secondsLeft (t now : Nat) : Nat := (t - now) / 10 ^ 9

/-- A record as it is read (R535): with the part's TAG where it is `tagged`, and with TYPE 0x7F where its TAG does not verify (R538). -/
def recordBytes (tagged : Bool) (r : Record) : Nat :=
  match r.fails with
  | some x => setFld x 0 8 0x7F
  | none => recordNumber (if tagged then Config.recordTag (recordNumber 0 r) else 0) r

/-- The four records from SEQ `c` on (R540); a slot beyond the newest reads as empty. -/
def recordWindow (tagged : Bool) (ring : List Record) (c : Nat) : Content :=
  .of ((List.range 4).flatMap fun i => match ring.find? fun r => r.seq == c + i with
    | some r => toBytes 64 (recordBytes tagged r)
    | none => List.replicate 64 0)

/-- The other computed objects of a Staris. -/
def State.readStaris (s : State) (d : Die) (w : Writer) (index sub : Nat) : Option Content :=
  let p := Part.staris d
  let x := s.die d
  if 0x3000 ≤ index ∧ index < 0x3400 then s.readCapture d w index sub
  else if 0x5810 ≤ index ∧ index < 0x5850 ∧ sub = 6 then some (.num 2 (s.regFirst d (index - 0x5810)))
  else if 0x7C08 ≤ index ∧ index < 0x7C0B ∧ sub = 4 then
    some (.num 8 (s.rd p (O.TIME_NOT_ON_7C08 (index - 0x7C08)) + offSoFar x.power x.ticks (index - 0x7C08 + 1)))
  else if 0x3410 ≤ index ∧ index < 0x3414 ∧ sub = 6 then some (.num 1 (cfgCode (s.tcfg d (index - 0x3410))))
  else
    match index, sub with
    | 0x2000, 1 => some (.num 8 x.time.counter)
    | 0x2000, 2 => some (.num 4 (s.ns p))
    | 0x3400, 4 => some (.num 1 (unitCode x.trace.unit))
    | 0x3440, 5 => some (.num 2 x.trace.queue.length)
    | 0x3450, 9 => some (s.bufferShown d)
    | 0x3800, 14 => some (.of (s.identityDigest d))
    | 0x5000, 4 => some (.num 2 x.checks.combs.length)
    | 0x5400, 10 => some (.num 4 (s.selTest d))
    | 0x5401, 9 => some (.num 8 ((x.shroud.ring.filter fun e => !e.freed).map fun e => e.bytes).sum)
    | 0x5800, 12 => some (.num 2 (s.slotsNeeded d))
    | 0x6003, 5 => some (s.ctxStatus d)
    | 0x6004, 2 => some (.num 2 x.energy.queue.length)
    | 0x7000, 4 => some (.num 1 (s.resetsInWindow d))
    | 0x7000, 7 => some (.num 4 (s.alive d))
    | 0x7400, 5 => some (.num 4 (max (secondsLeft x.auth.nsPriv x.ticks) (secondsLeft x.auth.sec x.ticks)))
    | 0x7800, 1 => some (.num 8 ((x.recorder.ring.head?.map fun r => r.seq).getD 0))
    | 0x7800, 2 => some (.num 8 ((x.recorder.ring.getLast?.map fun r => r.seq).getD 0))
    | 0x7800, 4 => some (recordWindow false x.recorder.ring (s.rd p O.SREC_CURSOR_7800))
    | 0x7800, 5 => some (.num 2 x.recorder.unsent)
    | _, _ => none

/-! ### Vager's objects -/

/-- The error bound of a holdover (R54). -/
def State.holdoverBound (s : State) : Nat :=
  let v := Part.vager
  let st := s.tstate v
  if st = 4 then 2 ^ 64 - 1
  else if st = 3 then
    (s.extNow - s.rd v O.HOLDOVER_SINCE_2101) * s.rd v O.REF_STABILITY_2103 / 10 ^ 12 + s.rd v O.LOCK_THRESHOLD_2103
  else 0

/-- The context and group, in a context of state `st`, that binds stream `sid` (R192, R193). -/
def State.binding (s : State) (sid st : Nat) : Option Nat :=
  (s.vager.groups.find? fun e => s.ctxState (e.1 / 16) == st && grpKeymode e.2.cfg != 2
    && e.2.member (sid / 65536) (sid % 65536)).map Prod.fst

/-- A hot entry (R192). -/
def State.hotEntry (s : State) (sid : Nat) : Nat :=
  let x := s.vstream sid
  let b := s.binding sid 2
  fld 64 64 x.lastValue + fld 32 32 x.lastTime + fld 24 8 x.lastSeq + fld 18 6 (b.getD 0 / 16) + fld 17 1 (ofBool b.isSome)
    + fld 16 1 (ofBool x.seen) + fld 8 8 (b.getD 0 % 16) + fld 4 4 x.kind + fld 3 1 (ofBool x.gap) + fld 2 1 (ofBool x.ovr)
    + fld 1 1 (ofBool x.unlocked) + ofBool x.wrap

/-- A full entry (R193). -/
def State.fullEntry (s : State) (sid : Nat) : Nat :=
  let x := s.vstream sid
  let b := s.binding sid 1
  let next := match b with
    | some cg => fld 384 64 (s.rd .vager (O.CTX_OPEN_TIME_4100 (cg / 16))) + fld 378 6 (cg / 16) + fld 370 8 (cg % 16) + fld 369 1 1
    | none => 0
  fld 448 64 x.prevOperand + next + fld 288 64 x.records + fld 256 32 x.gaps + fld 224 32 x.late + fld 192 32 x.unbound
    + fld 128 64 x.lastExt + x.lastRecord % 2 ^ 128

/-- Streams, snapshots, groups and results (0x4000 to 0x42FF). -/
def State.readReduction (s : State) (index sub : Nat) : Option Content :=
  let v := Part.vager
  let sid := s.rd v O.STREAM_SELECT_4000 % 2 ^ 20
  let sn := Tbl.get (fun _ => {}) s.vager.snaps (s.rd v O.SNAP_PORT_4002)
  let cg := s.rd v O.GRP_SELECT_4200 % 1024
  let g := s.group cg
  let rg := s.rd v O.RES_SELECT_4280 % 1024
  let r := Tbl.get (fun _ => {}) s.vager.results rg
  match index, sub with
  | 0x4000, 2 => some (.num 16 (s.hotEntry sid))
  | 0x4000, 3 => some (.num 64 (s.fullEntry sid))
  | 0x4000, 4 => some (.of ((List.range 256).flatMap fun i => toBytes 16 (s.hotEntry (sid / 256 * 256 + i))))
  | 0x4002, 2 => some (.num 4 sn.seq)
  | 0x4002, 3 => some (.num 8 sn.time)
  | 0x4002, 4 => some (.num 1 sn.state)
  | 0x4002, 6 => some (block256 (s.rd v O.SNAP_SELECT_4002) fun n => Tbl.get (fun _ => 0) sn.counts n)
  | 0x4200, 2 => some (.num 8 g.cfg)
  | 0x4200, 3 => some (.num 8 g.base)
  | 0x4200, 4 => some (.num 8 g.window)
  | 0x4200, 5 => some (.num 8 g.anchor)
  | 0x4200, 6 => some (.num 4 g.trayWait)
  | 0x4200, 7 => some (.num 4 g.hopWait)
  | 0x4200, 8 => some (.num 8 g.expect)
  | 0x4200, 9 => some (.num 4 g.closedCount)
  | 0x4200, 10 => some (.num 4 g.forced)
  | 0x4200, 11 => some (.num 4 g.late)
  | 0x4200, 12 => some (.num 4 g.dup)
  | 0x4280, 2 => some (.num 8 r.round)
  | 0x4280, 3 => some (.num 32 r.header)
  | 0x4280, 4 => some (.of (((r.body.flatMap (toBytes 32)) ++ List.replicate 2368 0).take 2368))
  | 0x4280, 5 => some (.num 8 r.closeTime)
  | 0x4280, 6 => some (.num 2 r.missingDies)
  | 0x4280, 7 => some (.num 8 r.missingKids)
  | 0x4280, 8 => some (.num 4 (s.group rg).closedCount)
  | 0x4280, 9 => some (.of ((((Tbl.get (fun _ => []) s.vager.down rg).flatMap (toBytes 32)) ++ List.replicate 96 0).take 96))
  | 0x4280, 10 => some (.num 4 r.missingAdopt)
  | _, _ => none

/-- A score entry's output (R270). -/
def scoreWord (x : Score) : Nat :=
  fld 50 7 x.count + fld 39 1 (ofBool x.invalid) + fld 38 1 (ofBool x.poison) + fld 37 1 (ofBool x.dflt)
    + fld 36 1 (ofBool x.raised) + ofSigned 32 x.score

/-- GROUP_STATE of a lane group (0x4800:02): OFF while its domain is not ON or the tray is not yet READY. -/
def State.groupState (s : State) (g : Nat) : Nat :=
  let x := s.laneGroup g
  if x.gone then 3
  else if s.rd .vager (O.DOM_STATE_7C60 (18 + g)) ≠ 0 ∨ s.rd .vager O.BOOT_STAGE_7C40 ≠ 5 then 0
  else if x.active.length < 16 then 2 else 1

/-- Records `n` to `n + 127` of a ring of 65,536 records of a granule, from a record number rounded down. -/
def ringWindow (ring : Tbl Nat) (n : Nat) : Content :=
  .of ((List.range 128).flatMap fun i => toBytes 32 (Tbl.get (fun _ => 0) ring ((n / 128 * 128 + i) % 65536)))

/-- Lane groups, rows, builders, sketches, references, models and scores (0x4800 to 0x4BFF). -/
def State.readTelltale (s : State) (index sub : Nat) : Option Content :=
  let v := Part.vager
  let row := s.frow (s.rd v O.ENT_SELECT_4810 % 2 ^ 20)
  let b := s.builder (s.rd v O.BLD_SELECT_4830 % 2 ^ 22)
  let k := s.sketch (s.rd v O.SK_SELECT_4838)
  let r := s.refReg (s.rd v O.REF_SELECT_4840)
  let sel := s.rd v O.SCORE_SELECT_4A20
  let sc := Tbl.get (fun _ => []) (s.mslot (bits sel 25 20)).scores (sel % 2 ^ 20)
  let gs := List.range 4
  let words := fun (t : Tbl Nat) => (List.range 512).flatMap fun i => toBytes 4 (Tbl.get (fun _ => 0) t i)
  if 0x4880 ≤ index ∧ index < 0x48C0 ∧ sub = 14 then
    let m := s.mslot (index - 0x4880)
    some (.of (gs.map fun g => (m.phys.filter fun e => e.1 / 64 == g).length))
  else
    match index, sub with
    | 0x4800, 2 => some (.of (gs.map s.groupState))
    | 0x4800, 3 => some (.of (gs.map fun g => (s.laneGroup g).active.length))
    | 0x4800, 4 => some (.num 9 ((gs.flatMap fun g => (s.laneGroup g).retired.eraseDups.map fun l => 2 ^ (17 * g + l)).sum))
    | 0x4800, 5 => some (.of (gs.flatMap fun g => toBytes 2 (s.laneGroup g).free))
    | 0x4800, 6 => some (.of (gs.map fun g => (s.laneGroup g).spares))
    | 0x4800, 10 => some (.num 4 (16777216 - s.scoresUsed))
    | 0x4810, 2 => some (.num 8 row.desc)
    | 0x4810, 3 => some { bytes := ((List.range 64).flatMap fun f => toBytes 2 (row.read f)).map some, poison := row.poison % 16 }
    | 0x4810, 5 => some (.num 8 row.updated)
    | 0x4810, 6 => some (.num 1 (row.poison % 16))
    | 0x4830, 2 => some (.num 32 b.cfg)
    | 0x4830, 3 => some (.num 32 (builderState b))
    | 0x4830, 10 => some (.num 4 (s.mapWord (s.rd v O.MAP_SELECT_4830 % 2 ^ 20)))
    | 0x4838, 2 => some (.num 4 k.window)
    | 0x4838, 3 => some (.of (words k.a ++ words k.b))
    | 0x4838, 4 => some (.num 4 k.turns)
    | 0x4840, 2 => some (.num 8 (ofSigned 64 r.value))
    | 0x4840, 3 => some (.num 4 r.source)
    | 0x4840, 4 => some (.num 8 r.time)
    | 0x4840, 5 => some (.num 1 (ofBool r.nan))
    | 0x4A10, 3 => some (ringWindow s.vager.alarms (s.rd v O.RING_READ_4A10))
    | 0x4A20, 2 => some (.of ((List.range 4).flatMap fun o => toBytes 8 (scoreWord (sc.getD o {}))))
    | 0x4A20, 3 => some (.num 4 (s.rd v (O.MDL_PASSES_4880 (bits sel 25 20))))
    | _, _ => none

/-- HELD_STATE of a sample (0x5478:02). -/
def heldCode (x : Sample) : Nat :=
  if x.released then 5
  else match x.phase with
    | .queued => 1
    | .running _ second => if second then 3 else 2
    | .reverify => 3
    | .second _ => 3
    | .waitE => 3
    | .done => 4

/-- The selected sample's message from HELD_OFFSET on (0x5478:05). -/
def State.heldShown (s : State) : Content :=
  match s.heldSample with
  | some x => window (s.rd .vager O.HELD_OFFSET_5478) x.msg
  | none => {}

/-- The selected batch, while it is held. -/
def State.heldBatch (s : State) : Option Batch :=
  s.vager.ledger.held.find? fun b => b.bsn == s.rd .vager O.BATCH_SELECT_6081

/-- The selected batch from BATCH_OFFSET on (0x6081:05). -/
def State.batchShown (s : State) : Content :=
  match s.heldBatch with
  | some b => .of ((b.bytes.drop (s.rd .vager O.BATCH_OFFSET_6081)).take 4096)
  | none => {}

/-- BATCH_OLDEST; what it reads while none is held, once a batch has closed, is not given. -/
def State.batchOldest (s : State) : Content :=
  match s.vager.ledger.held with
  | b :: _ => .num 8 b.bsn
  | [] => if s.rd .vager O.BSN_NEXT_6081 = 0 then .num 8 0 else .num? 8 none

/-- A slice of the trace region from SLICE_READ_OFFSET on, as far as the slice goes (0x3590+p:07). -/
def State.sliceShown (s : State) (p : Die) : Content :=
  let off := s.rd .vager (O.SLICE_READ_OFFSET_3590 p.val)
  let n := min 128 ((s.rd .vager (O.SLICE_BYTES_3590 p.val) - off) / 32)
  .granules ((List.range n).map fun i => let g := s.hbmAt (s.sliceBase p + off / 32 + i); (g.data, g.poison))

/-- CLS_SPARES_LEFT of class `k` (R446, 0x7090+k:07). -/
def State.sparesLeft (s : State) (k : Nat) : Nat :=
  let v := Part.vager
  let gone := s.clf.retired
  match k with
  | 0 => 16 - (allDies.filter fun p => gone.any fun x => x / 9 == p.val && x < 144).length
  | 1 => ((List.range 6).map fun i => s.elem v O.PPR_LEFT_70B0 2 i).sum % 2 ^ 16
  | 2 =>
    let lost := fun (a : Nat) => (gone.filter fun x => x / 65536 == 2 && x % 65536 / 256 == a).length
    let arrays := (gone.filter fun x => x / 65536 == 2).map fun x => x % 65536 / 256
    s.rd v (O.CLS_SPARES_TOTAL_7090 2) - (arrays.eraseDups.map fun a => min (lost a) (arraySpares a)).sum
  | 3 => (s.clustersIn [2]).length
  | _ => 4 - ((List.range 4).filter fun g => (s.laneGroup g).spareTaken).length

/-- INST_STATE of an instance (0x70A0:03): 0 in service, 1 spare, 2 retired. -/
def State.instState (s : State) (k i : Nat) : Nat :=
  let gone := s.clf.retired.contains (instKey k i)
  match k with
  | 0 => if gone then 2 else if s.rd .vager (O.SPARE_LANE_3810 (i / 9)) = i % 9 then 1 else 0
  | 3 => if s.clState i = 3 then 2 else if s.clState i = 2 then 1 else 0
  | 4 =>
    let g := s.laneGroup (i / 17)
    if g.retired.contains (i % 17) then 2 else if i % 17 = 16 ∧ g.spareTaken = false then 1 else 0
  | _ => if gone then 2 else 0

/-- Reports from FR_READ, rounded down, on (0x7080:03). -/
def State.reportsShown (s : State) : Content :=
  let n := s.rd .vager O.FR_READ_7080 / 64 * 64
  .records 64 ((List.range 64).map fun i =>
    (Tbl.find s.vager.reports ((n + i) % 4096)).map fun r => ofBytes (reportBytes r))

/-- The faults, spares and power objects of Vager (0x7080 to 0x71FF, 0x7C40 to 0x7CFF). -/
def State.readService (s : State) (index sub : Nat) : Option Content :=
  let v := Part.vager
  let sel := s.rd v O.INST_SELECT_70A0
  let key := instKey (bits sel 23 16) (bits sel 15 0)
  let x := s.vager.power
  let now := s.vager.ticks
  if 0x7090 ≤ index ∧ index < 0x7095 ∧ sub = 7 then some (.num 2 (s.sparesLeft (index - 0x7090)))
  else if 0x70C0 ≤ index ∧ index < 0x70D0 ∧ sub = 7 then
    some (window (s.rd v (O.HANG_SAMPLE_OFFSET_70C0 (index - 0x70C0))) ((Tbl.get (fun _ => []) s.clf.hangs (index - 0x70C0)).drop 1))
  else if 0x7C48 ≤ index ∧ index < 0x7C4B ∧ sub = 4 then
    let f := index - 0x7C48
    let ds := (List.range 32).filter fun d => vagerFunction d == some f
    some (.num 8 (s.rd v (O.TIME_NOT_ON_7C48 f) + (ds.map fun d => offSoFar x now d).sum))
  else if 0x7C60 ≤ index ∧ index < 0x7C80 ∧ sub = 3 then
    some (.num 8 (s.rd v (O.DOM_TIME_NOT_ON_7C60 (index - 0x7C60)) + offSoFar x now (index - 0x7C60)))
  else
    match index, sub with
    | 0x7080, 3 => some s.reportsShown
    | 0x70A0, 2 => some (.num 4 (Tbl.get (fun _ => 0) s.clf.levels key))
    | 0x70A0, 3 => some (.num 1 (s.instState (bits sel 23 16) (bits sel 15 0)))
    | 0x70A0, 4 => some (.num 4 (Tbl.get (fun _ => 0) s.clf.events key))
    | 0x70B0, 3 => some (.num 8 (s.clf.badPages.getD (s.rd v O.BAD_SELECT_70B0) 0))
    | 0x7C40, 6 => some (.num 4 (bitSet ((List.range 32).filter fun d => s.rd v (O.DOM_STATE_7C60 d) == 0)))
    | _, _ => none

/-- The other computed objects of Vager. -/
def State.readVager (s : State) (index sub : Nat) : Option Content :=
  let v := Part.vager
  if 0x4000 ≤ index ∧ index < 0x4300 then s.readReduction index sub
  else if 0x4800 ≤ index ∧ index < 0x4C00 then s.readTelltale index sub
  else if (0x7080 ≤ index ∧ index < 0x7200) ∨ 0x7C40 ≤ index then s.readService index sub
  else if h : 0x3590 ≤ index ∧ index < 0x35A0 then
    if sub = 7 then some (s.sliceShown ⟨index - 0x3590, by omega⟩) else none
  else if 0x1030 ≤ index ∧ index < 0x1040 ∧ sub = 4 then
    let x := s.proxy (index - 0x1030)
    some (.num 2 (x.outstanding.length + x.queue.length))
  else if 0x6440 ≤ index ∧ index < 0x6450 ∧ sub = 6 then
    some (.num 8 (ofSigned 64 (s.creditNow ((index - 0x6440) / 8) ((index - 0x6440) % 8) / 1000000000)))
  else
    match index, sub with
    | 0x1102, 1 => some (.num 1 (s.vager.sessions.filter fun x => x.mask != 0).length)
    | 0x2100, 1 => some (.num 8 s.vager.time.counter)
    | 0x2100, 2 => some (.num 8 s.extNow)
    | 0x2103, 6 => some (.num 8 s.holdoverBound)
    | 0x3580, 2 => some (.num 8 ((List.range 16).map fun p => s.rd v (O.SLICE_BYTES_3590 p)).sum)
    | 0x5470, 3 => some (ringWindow s.vager.shroud.verdicts (s.rd v O.VR_READ_5470))
    | 0x5478, 2 => some (.num 1 ((s.heldSample.map heldCode).getD 0))
    | 0x5478, 3 => some (.num 1 (ofBool ((s.heldSample.map fun x => x.pinned).getD false)))
    | 0x5478, 5 => some s.heldShown
    | 0x5890, 2 => some (.num 32 (s.elem v O.MAP_ENTRY_5890 32 (s.rd v O.MAP_SELECT_5890)))
    | 0x6081, 2 => some s.batchOldest
    | 0x6081, 5 => some s.batchShown
    | 0x6081, 6 => some (.num 4 ((s.heldBatch.map fun b => b.bytes.length).getD 0))
    | 0x7442, 3 => some (.num 4 (secondsLeft s.vager.dbgUntil s.vager.ticks))
    | 0x7478, 1 => some (.num 2 s.vager.sessions.length)
    | 0x7490, 4 => some (.of ((s.measBlock (s.rd v O.MEAS_SELECT_7490)).take 128))
    | 0x7840, 1 => some (.num? 8 (s.vager.recorder.ring.head?.map fun r => r.seq))
    | 0x7840, 2 => some (.num? 8 (s.vager.recorder.ring.getLast?.map fun r => r.seq))
    | 0x7840, 4 => some (recordWindow true s.vager.recorder.ring (s.rd v O.REC_CURSOR_7840))
    | 0x7840, 7 => some (.num 2 s.vager.recorder.hold.length)
    | 0x7841, 3 => some (.num 8 s.vager.ticks)
    | _, _ => none

/-! ### The read -/

/-- An object's bytes from `off` on, `n` of them. -/
def State.objectBytes (s : State) (p : Part) (w : Writer) (x : SubInfo) (index off n : Nat) : Content :=
  let k := objKey index x.sub
  let c := match s.readCommon p index x.sub with
    | some c => some c
    | none => match p with
      | .vager => s.readVager index x.sub
      | .staris d => s.readStaris d w index x.sub
  match c with
  | some c =>
    { bytes := ((c.bytes ++ List.replicate (x.size - c.bytes.length) none).drop off).take n, poison := c.poison / 2 ^ (off / 32) }
  | none => .of (if x.isOctets then s.bytesAt p k off n else (toBytes x.size (s.rd p k)).drop off)

/-- R540: a cursor below the oldest record moves to it, and the records passed over are counted. -/
def State.moveCursor (s : State) (p : Part) : State :=
  match p with
  | .vager =>
    let c := s.rd p O.REC_CURSOR_7840
    let oldest := (s.vager.recorder.ring.head?.map fun r => r.seq).getD 0
    if c < oldest then (s.wr p O.REC_CURSOR_7840 oldest).bump p O.REC_SKIPPED_7840 32 (oldest - c) else s
  | .staris d =>
    let c := s.rd p O.SREC_CURSOR_7800
    let oldest := ((s.die d).recorder.ring.head?.map fun r => r.seq).getD 0
    if c < oldest then s.wr p O.SREC_CURSOR_7800 oldest else s

/-- R493: the operational key and its request are made on first need; their bytes are free values. -/
def State.needCsr (s : State) : State :=
  if s.rd .vager O.OP_CSR_BYTES_7470 ≠ 0 then s
  else
    let (n, s) := s.takeNat
    let (x, s) := s.takeNat
    let len := n % 1024 + 1
    (s.wr .vager O.OP_CSR_BYTES_7470 len).writeOctets .vager O.OP_CSR_7470 1024 (toBytes len x)

/-- A read of what a domain of a Staris holds wakes it (R557, R558). -/
def State.wakeForRead (s : State) (d : Die) (index sub : Nat) : State :=
  if (index = 0x3010 ∧ (sub = 3 ∨ sub = 5)) ∨ (index = 0x3020 ∧ sub = 9) ∨ (0x3090 ≤ index ∧ index < 0x3098 ∧ 3 ≤ sub) then
    s.wakeDie d 1
  else if index = 0x3450 ∧ sub = 9 then s.wakeDie d 2
  else s

/-- What a read does before it takes the value. -/
def State.beforeRead (s : State) (p : Part) (index sub : Nat) : State :=
  match p with
  | .vager =>
    if index = 0x7840 ∧ sub = 4 then s.moveCursor p
    else if index = 0x7470 ∧ (sub = 1 ∨ sub = 2) then s.needCsr
    else s
  | .staris d => if index = 0x7800 ∧ sub = 4 then s.moveCursor p else s.wakeForRead d index sub

/-- A read that a rule of the owning chapter turns away: a global counter from the non-secure world (R86), and the local buffer
while the unit runs (R137). -/
def State.readRefusal (s : State) (p : Part) (w : Writer) (index sub : Nat) : Nat :=
  match p with
  | .vager => stOk
  | .staris d =>
    if index = 0x3010 ∧ (sub = 2 ∨ sub = 3) ∧ w.secure = false ∧ (s.ctr d (s.rd p O.CNT_SELECT_3010)).global then stAccess
    else if index = 0x3450 ∧ sub = 9 ∧ ((s.tr d).unit = .running ∨ (s.tr d).unit = .triggered) then stRefused
    else stOk

/-- R511: whether a segment at `off` of `n` bytes keeps to the rules. -/
def segmentOk (x : SubInfo) (off n : Nat) : Bool :=
  x.isOctets && decide (off + n ≤ x.size) && off % 32 == 0 && (n % 32 == 0 || off + n == x.size)

/-- The answer to a read: its status, data and poison map, and LAST (R508). -/
structure Reading where
  status : Nat := 0
  data : List Nat := []
  poison : Nat := 0
  last : Bool := false
deriving DecidableEq, Repr

/-- Bytes not given are free values (log entry 45). -/
def fillFree (free : List Nat) (l : List (Option Nat)) : List Nat := (l.zip free).map fun e => e.1.getD e.2

/-- The tests of a read (R475, R510, R511): a status. `seg` is a segment's OFFSET and LEN. -/
def State.judgeRead (s : State) (p : Part) (w : Writer) (seg : Option (Nat × Nat)) (index sub : Nat) : Nat :=
  match idxInfo p index with
  | none => stNoObject
  | some i =>
    match i.find sub with
    | none => stNoSub
    | some x =>
      let (sec, role) := s.objWorld p i index x
      if mayReach w sec role = false then stAccess
      else if x.access = 2 then stAccessKind
      else match seg with
        | none => if x.seg then stSegment else s.readRefusal p w index sub
        | some (off, n) => if segmentOk x off n then s.readRefusal p w index sub else stSegment

/-- A read of an object, or of a segment of it, by `w` (R503, R504, R510, R511, R513). -/
def State.readObject (s : State) (p : Part) (w : Writer) (seg : Option (Nat × Nat)) (index sub : Nat) : Reading × State :=
  let st := s.judgeRead p w seg index sub
  if st ≠ stOk then ({ status := st }, s)
  else
    match idxInfo p index, subInfo p index sub with
    | some i, some x =>
      if sub = 0 then ({ data := [i.top] }, s)
      else
        let s := s.beforeRead p index sub
        let off := (seg.map Prod.fst).getD 0
        let n := (seg.map Prod.snd).getD x.size
        let c := s.objectBytes p w x index off n
        let last := seg.isSome && off + n == x.size
        let mask := c.poison % 2 ^ granulesOf c.bytes.length
        if c.bytes.all Option.isSome then ({ data := c.bytes.filterMap id, poison := mask, last := last }, s)
        else
          let (f, s) := s.takeNat
          ({ data := fillFree (toBytes c.bytes.length f) c.bytes, poison := mask, last := last }, s)
    | _, _ => ({ status := stNoObject }, s)

end Sys2Proof.Machine
end

