-- ==== Sys2Proof/Machine/DictWrite.lean ====
section
/-! DEFINITION. Machine/DictWrite.lean: what a write of an object does (R501 to R504, R510, R511, R517): the objects whose write is a
command of its own, the rules of the owning chapters that refuse a write, and the write itself. -/

namespace Sys2Proof.Machine
open Sys2Proof

/-- A command run by a write: the status that it answers and the state it leaves. -/
def State.through (s : State) (r : State → Result) : Nat × State :=
  match r { s with out := [] } with
  | .next t =>
    let sts := t.out.filterMap fun o => match o with
      | .answer x => some x
      | _ => none
    let rest := t.out.filter fun o => match o with
      | .answer _ => false
      | _ => true
    (sts.getLast?.getD stOk, { t with out := s.out ++ rest })
  | _ => (stRefused, s)

/-- A write of 0 to a BOOL object that asks for something only with 1. -/
def whenOne (v : Nat) (r : State → Result) : Option (State → Result) :=
  some (if v = 0 then fun s => .next (s.answer stOk) else r)

/-! ### Writes that are commands of their own: a Staris -/

/-- Comparators, events, counters, sensors and streams (0x2000 to 0x306F). -/
def State.writeCapture (s : State) (d : Die) (w : Writer) (index sub v : Nat) (data : List Nat) : Option (State → Result) :=
  let p := Part.staris d
  let n := Fin.ofNat 65536 (s.rd p O.CNT_SELECT_3010)
  let m := Fin.ofNat 65536 (s.rd p O.STREAM_SELECT_3060)
  let x := s.sstream d m.val
  if 0x2010 ≤ index ∧ index < 0x2030 ∧ sub = 5 then
    let c := Fin.ofNat 32 (index - 0x2010)
    some (if v = 1 then execCmpArm d c w else execCmpDisarm d c w)
  else
    match index, sub with
    | 0x2001, 1 => some (execIncrementWrite d w v)
    | 0x2001, 2 => some (execModeWrite d w v)
    | 0x2003, 1 => some (execStepWrite d w v)
    | 0x3000, 2 => some (execPolarityWrite d w data)
    | 0x3000, 6 => some (execEvtFlagsClear d w data)
    | 0x3010, 2 => some (execCntConfigWrite d w n v)
    | 0x3010, 4 => whenOne v (execCntClear d w n)
    | 0x3020, 5 => whenOne v (execSnapRelease d w)
    | 0x3031, 4 => some fun s => .next ((s.clearBits p O.DROOP_SEEN_3031 16 data).answer stOk)
    | 0x3032, 1 => some (execCanaryCodeWrite d w data)
    | 0x3060, 2 => some (execStreamSourceWrite d w m v)
    | 0x3060, 3 => some (execStreamScheduleWrite d w m v x.phase)
    | 0x3060, 4 => some (execStreamScheduleWrite d w m x.period v)
    | 0x3060, 5 => some (execStreamEnableWrite d w m (v == 1))
    | 0x3060, 9 => some (execStreamStartArm d w (v == 1))
    | _, _ => none

/-- SRC_LOST_CLEAR: a 1 clears that source's count (0x3401:06). -/
def State.clearLost (s : State) (d : Die) (data : List Nat) : State :=
  ((List.range 256).filter fun i => bitAt (data.getD (i / 8) 0) (i % 8)).foldl
    (fun s i => s.setElem (.staris d) O.SRC_LOST_3401 4 i 0) s

/-- Dumps, sequencers, trace, keys, energy, reset and worlds of a Staris (0x3070 to 0x7C0F). -/
def State.writeStaris (_s : State) (d : Die) (w : Writer) (index sub v : Nat) (data : List Nat) : Option (State → Result) :=
  let one := v == 1
  if 0x3070 ≤ index ∧ index < 0x3080 ∧ sub = 7 then some (execDumpArm d w (Fin.ofNat 16 (index - 0x3070)) one)
  else if 0x3090 ≤ index ∧ index < 0x3098 ∧ sub = 1 then some (execCleatProgramWrite d w (Fin.ofNat 8 (index - 0x3090)) data)
  else if 0x3090 ≤ index ∧ index < 0x3098 ∧ sub = 2 then
    let q := Fin.ofNat 8 (index - 0x3090)
    some (if one then execCleatStart d w q else execCleatStop d w q)
  else if 0x3410 ≤ index ∧ index < 0x3414 ∧ sub = 5 then
    let c := Fin.ofNat 4 (index - 0x3410)
    some (if one then execTraceConfigStart d (some w) c else execTraceConfigStop d (some w) c)
  else if 0x5010 ≤ index ∧ index < 0x5014 ∧ sub = 1 then some (execKeyEpochWrite d w (Fin.ofNat 4 (index - 0x5010)) v)
  else if 0x5010 ≤ index ∧ index < 0x5014 ∧ sub = 2 then some (execKeyValueWrite d w (Fin.ofNat 4 (index - 0x5010)) data)
  else if 0x5010 ≤ index ∧ index < 0x5014 ∧ sub = 4 then whenOne v (execKeyClear d w (Fin.ofNat 4 (index - 0x5010)))
  else if 0x7010 ≤ index ∧ index < 0x7020 ∧ sub = 8 then
    let dom := Fin.ofNat 16 (index - 0x7010)
    some (if v = 1 then execDomHangCommand d w dom else if v = 2 then execDomResetCommand d w dom else execDomSampleCommand d w dom)
  else if 0x7C08 ≤ index ∧ index < 0x7C0B ∧ sub = 2 then whenOne v (execWakeWrite (.staris d) w (Fin.ofNat 3 (index - 0x7C08)))
  else
    match index, sub with
    | 0x3400, 1 => some (execPennantModeWrite d w v)
    | 0x3401, 6 => some fun s => .next ((s.clearLost d data).answer stOk)
    | 0x3450, 1 => some (execSinkSelectWrite d w v)
    | 0x3450, 7 => whenOne v (execSinkReset d w)
    | 0x3460, 3 => some (execTrigArm d w one)
    | 0x3460, 4 => whenOne v (execTrigForce d w)
    | 0x6003, 1 => some fun s =>
      let x := ofBytes data
      .next (s.energyOp d (some w) (bits x 119 112) (bits x 109 96) (bits x 63 0) (bits x 95 64))
    | 0x6004, 9 => whenOne v (execTotalsClear d w)
    | 0x7000, 6 => whenOne v (execReturnToService d w)
    | 0x7000, 10 => whenOne v (execSoftReset d w)
    | 0x7400, 2 => some (execAuthNsPrivWrite d w one)
    | 0x7400, 3 => some (execAuthSecureWrite d w one)
    | 0x7401, 1 => some (execLkOfferWrite d (some w) data)
    | _, _ => none

/-! ### Writes that are commands of their own: Vager -/

/-- Time, trace slices and ports (0x2100 to 0x38FF). -/
def State.writePorts (s : State) (w : Writer) (index sub v : Nat) (_data : List Nat) : Option (State → Result) :=
  if 0x3590 ≤ index ∧ index < 0x35A0 then
    let p := Fin.ofNat 16 (index - 0x3590)
    match sub with
    | 1 => some (execSliceConfigWrite p w v (s.rd .vager (O.SLICE_BYTES_3590 p.val)))
    | 2 => some (execSliceConfigWrite p w (s.rd .vager (O.SLICE_OFFSET_3590 p.val)) v)
    | 8 => whenOne v (execSliceReset p w)
    | _ => none
  else if 0x3810 ≤ index ∧ index < 0x3820 then
    let p := Fin.ofNat 16 (index - 0x3810)
    match sub with
    | 0x11 => some (execPortEnableWrite p w (v == 1))
    | 0x15 => whenOne v (execLaneClear p w)
    | 0x17 => whenOne v (execPairAccept p w)
    | _ => none
  else
    match index, sub with
    | 0x2100, 4 => some (execSecondsSetWrite w v)
    | 0x2101, 2 => some (execSourceWrite w v)
    | 0x2105, 5 => whenOne v (execTsqPop w)
    | 0x2105, 7 => whenOne v (execTsqOverflowClear w)
    | _, _ => none

/-- A write of BCAST_SUBMIT: the header granule, then the body of LENGTH granules (R213, R223). -/
def submitBytes (data : List Nat) : Nat × List Nat :=
  let h := ofBytes (data.take 32)
  (h, (List.range (min 128 (bits h 27 16))).map fun i => ofBytes ((data.drop (32 * (i + 1))).take 32))

/-- The tree, contexts, plans, rows, builders, sketches, references and models (0x4000 to 0x4BFF). -/
def State.writeTree (s : State) (w : Writer) (index sub v : Nat) (data : List Nat) : Option (State → Result) :=
  if 0x4100 ≤ index ∧ index < 0x4140 ∧ sub = 6 then whenOne v (execCtxFree w (Fin.ofNat 64 (index - 0x4100)))
  else if 0x4360 ≤ index ∧ index < 0x4364 ∧ sub = 2 then some (execPlanBytesWrite w (Fin.ofNat 4 (index - 0x4360)) v)
  else if 0x4880 ≤ index ∧ index < 0x48C0 ∧ sub = 3 then
    let m := Fin.ofNat 64 (index - 0x4880)
    some (if v = 1 then execModelLoad w m else execModelUnload w m)
  else
    match index, sub with
    | 0x4000, 5 => whenOne v (execStreamClear w)
    | 0x4300, 16 => whenOne v (execTreeCommit w)
    | 0x4350, 1 => some fun s =>
      let (h, b) := submitBytes data
      .next (s.bcastSubmit h b)
    | 0x4810, 2 => some (execEntDescWrite w v)
    | 0x4810, 4 => whenOne v (execEntClear w)
    | 0x4830, 2 => some (execBldConfigWrite w data)
    | 0x4830, 4 => whenOne v (execBldReset w)
    | 0x4838, 2 => some (execSkWindowWrite w v)
    | 0x4840, 2 => some (execRefValueWrite w (toSigned 64 v))
    | 0x4840, 3 => some fun s =>
      let r := s.rd .vager O.REF_SELECT_4840
      .next ((s.setRefReg r { s.refReg r with source := v % 2 ^ 19 }).answer stOk)
    | _, _ =>
      let _ := s
      none

/-- Shroud, Stay, batches and the fabric (0x5440 to 0x64FF). -/
def State.writeUnits (s : State) (w : Writer) (index sub v : Nat) (data : List Nat) : Option (State → Result) :=
  if 0x5450 ≤ index ∧ index < 0x5460 ∧ sub = 1 then some (execProfDataWrite w (Fin.ofNat 16 (index - 0x5450)) data)
  else if 0x5450 ≤ index ∧ index < 0x5460 ∧ sub = 5 then whenOne v (execProfClear w (Fin.ofNat 16 (index - 0x5450)))
  else if 0x6420 ≤ index ∧ index < 0x6422 ∧ sub = 8 then
    let q := Fin.ofNat 2 (index - 0x6420)
    some (if v = 1 then execChangeSchedule w q else execChangeCancel w q)
  else if 0x6440 ≤ index ∧ index < 0x6450 ∧ 1 ≤ sub ∧ sub ≤ 5 then
    let n := index - 0x6440
    let value : Int := if sub = 3 ∨ sub = 4 then toSigned 64 v else (v : Int)
    some (execCbsConfigWrite w (Fin.ofNat 2 (n / 8)) (Fin.ofNat 8 n) (Fin.ofNat 5 (sub - 1)) value)
  else
    match index, sub with
    | 0x5478, 3 => some (execHeldPinWrite w (v == 1))
    | 0x5480, 4 => whenOne v (execReplayGo w)
    | 0x5880, 1 => some (execStayBytesWrite w v)
    | 0x5880, 4 => some (execCutArmWrite w (ofBytes data))
    | 0x5880, 7 => whenOne v (execCutAbandon w)
    | 0x5880, 9 => some (execCoordTrayWrite w v)
    | 0x5890, 2 => some fun s =>
      .next ((s.setElem .vager O.MAP_ENTRY_5890 32 (s.rd .vager O.MAP_SELECT_5890)
        (ofBytes (keptBytes O.MAP_ENTRY_5890 0 data))).answer stOk)
    | 0x5898, 4 => some (execHostAckWrite w v)
    | 0x58A0, 4 => some (execPrepInject w (ofBytes (data.take 2)) ((data.drop 4).take 32))
    | 0x58B0, 1 => some (execRstPropose w (ofBytes data))
    | 0x58B0, 7 => whenOne v (execRstLoaded w)
    | 0x58B0, 8 => some (execRstConfirm w v)
    | 0x58B0, 9 => some (execRstFilled w v)
    | 0x6081, 7 => some (execBatchAck w v)
    | 0x6400, 1 => some (execClassMapWrite w data)
    | _, _ =>
      let _ := s
      none

/-- MGMT_COMMIT: 0x1100:03 to 0x1100:0A take effect and are stored, and the sessions whose local address ceases to exist close (R529). -/
def State.commitNetwork (s : State) : State :=
  let v := Part.vager
  let num := fun (s : State) (k : Nat) => s.setVager { s.vager with nor := { s.vager.nor with
    obj := Tbl.set vagerDefault s.vager.nor.obj k (s.rd v k) } }
  let oct := fun (s : State) (k : Nat) => (List.range 16).foldl (fun s i => s.setVager { s.vager with nor := { s.vager.nor with
    oct := Tbl.set octDefaultAt s.vager.nor.oct (octKey k i) (s.ob v k i) } }) s
  let s := [3, 5, 7, 8, 9, 10].foldl (fun s i => num s (objKey 0x1100 i)) s
  let s := [4, 6].foldl (fun s i => oct s (objKey 0x1100 i)) s
  s.closeSessions fun x => s.addressExists x.address == false

/-- MGMT_COMMIT (R505, R529). -/
def execMgmtCommit (w : Writer) (value : Bool) (s : State) : Result :=
  .next (s.writeBy w true .fleet fun s => (if value then s.commitNetwork else s).answer stOk)

/-- Faults, worlds, the recorder, firmware and power of Vager (0x1100, 0x7080 to 0x7CFF). `serial` is the serial number of the
session's certificate (R542). -/
def State.writeService (s : State) (w : Writer) (serial index sub v : Nat) (_data : List Nat) : Option (State → Result) :=
  if 0x70C0 ≤ index ∧ index < 0x70D0 ∧ sub = 3 then whenOne v (execPortOosClear w (Fin.ofNat 16 (index - 0x70C0)))
  else if 0x70C0 ≤ index ∧ index < 0x70D0 ∧ sub = 8 then whenOne v (execHangSampleRelease w (Fin.ofNat 16 (index - 0x70C0)))
  else if 0x7460 ≤ index ∧ index < 0x7468 ∧ sub = 2 then
    some fun s =>
      let (f, s) := s.takeNat
      execTaBytesWrite w (Fin.ofNat 8 (index - 0x7460)) v (bitAt f 0) s
  else if 0x7C48 ≤ index ∧ index < 0x7C4B ∧ sub = 2 then whenOne v (execWakeWrite .vager w (Fin.ofNat 3 (index - 0x7C48)))
  else
    match index, sub with
    | 0x1100, 11 => some (execMgmtCommit w (v == 1))
    | 0x70A0, 5 => whenOne v (execInstClear w)
    | 0x7100, 1 => whenOne v (execWarmReset w)
    | 0x7442, 1 => some (execDbgGrantWrite w (v == 1))
    | 0x7470, 4 => some fun s =>
      let (f, s) := s.takeNat
      execOpCertBytesWrite w v (bitAt f 0) (bitAt f 1) s
    | 0x7840, 5 => some (if v = 1 then execRecFreeze w else execRecThaw w)
    | 0x7840, 9 => whenOne v (execRecClear w serial)
    | 0x7848, 7 => some fun s => .next (s.answer stRefused)
    | 0x7860, 4 => some (execFwStageBytesWrite w v)
    | 0x7860, 7 => some (execMaintStopWrite w (v == 1))
    | 0x7860, 8 => some (if v = 1 then execFwActivateCrowsNest w else execFwActivateStaris w)
    | 0x7860, 9 => whenOne v (execFwConfirm w)
    | _, _ =>
      let _ := s
      none

/-- The DMA channels of either part (0x6800, 0x6840). -/
def writeDma (p : Part) (w : Writer) (index sub v : Nat) (data : List Nat) : Option (State → Result) :=
  let n := match p with
    | .vager => Fin.ofNat 16 (index - 0x6840)
    | .staris _ => Fin.ofNat 16 (index - 0x6800)
  match sub with
  | 1 => some (execShadowDescWrite p n w (ofBytes data))
  | 2 => some (match v with
    | 1 => execDmaArm p n w
    | 2 => execDmaCancel p n w
    | 3 => execDmaAbort p n w
    | 4 => execDmaClear p n w
    | _ => execDmaReset p n w)
  | _ => none

/-- The command that a write of an object is, where it is one: the command's row has the write as its way in. -/
def State.ownWrite (s : State) (p : Part) (w : Writer) (serial index sub v : Nat) (data : List Nat) : Option (State → Result) :=
  if 0x6800 ≤ index ∧ index < 0x6900 then writeDma p w index sub v data
  else
    match p with
    | .staris d => if index < 0x3070 then s.writeCapture d w index sub v data else s.writeStaris d w index sub v data
    | .vager =>
      if 0x2000 ≤ index ∧ index < 0x4000 then s.writePorts w index sub v data
      else if 0x4000 ≤ index ∧ index < 0x5000 then s.writeTree w index sub v data
      else if 0x5000 ≤ index ∧ index < 0x6800 then s.writeUnits w index sub v data
      else s.writeService w serial index sub v data

/-! ### Writes that a rule of the owning chapter refuses -/

/-- Two ranges of bytes meet. -/
def rangesMeet (a n b m : Nat) : Bool := n != 0 && m != 0 && decide (a < b + m) && decide (b < a + n)

/-- A region table that a write would make break R343 or R344: a reserved kind, DEDUP with a kind that forbids it, an enabled region
with tag 0, or enabled regions that overlap. `r` holds the region's base, bytes, tag, kind and flags after the write. -/
def State.regionBad (s : State) (d : Die) (r base bytes tag kind flags : Nat) : Bool :=
  let p := Part.staris d
  let meets := (List.range 64).any fun q => q != r && bitAt (s.rd p (O.REG_FLAGS_5810 q)) 0
    && rangesMeet base bytes (s.rd p (O.REG_BASE_5810 q)) (s.rd p (O.REG_BYTES_5810 q))
  decide (5 ≤ kind) || (bitAt flags 1 && (kind == 3 || kind == 4)) || (bitAt flags 0 && (tag == 0 || meets))

/-- A write of a region (R343). -/
def State.regionRefused (s : State) (d : Die) (r sub v : Nat) : Bool :=
  let p := Part.staris d
  let f := fun (i k : Nat) => if sub = i then v else s.rd p k
  s.rd p O.STAY_STATE_5800 != 0
    || s.regionBad d r (f 1 (O.REG_BASE_5810 r)) (f 2 (O.REG_BYTES_5810 r)) (f 3 (O.REG_TAG_5810 r)) (f 4 (O.REG_KIND_5810 r))
      (f 5 (O.REG_FLAGS_5810 r))

/-- The drop thresholds no longer rise with priority up to 2,047 (R132). -/
def State.threshBad (s : State) (d : Die) (sub v : Nat) : Bool :=
  let p := Part.staris d
  let t := fun (i k : Nat) => if sub = i then v else s.rd p k
  let t0 := t 1 O.PRIO_THRESH_0_3440
  let t1 := t 2 O.PRIO_THRESH_1_3440
  let t2 := t 3 O.PRIO_THRESH_2_3440
  let t3 := t 4 O.PRIO_THRESH_3_3440
  (decide (t0 < t1) && decide (t1 < t2) && decide (t2 < t3) && decide (t3 ≤ 2047)) == false

/-- A slot would belong to two reset domains (R456). -/
def State.slotsMeet (s : State) (d : Die) (dom : Nat) (data : List Nat) : Bool :=
  (List.range 16).any fun e => e != dom && (List.range 256).any fun i =>
    bitAt (data.getD (i / 8) 0) (i % 8) && s.obit (.staris d) (O.DOM_SLOTS_7010 e) i

/-- The status with which a rule of the owning chapter refuses a write at a Staris, or 0. -/
def State.refusalS (s : State) (d : Die) (w : Writer) (index sub v : Nat) (data : List Nat) : Nat :=
  let p := Part.staris d
  let no := fun (b : Bool) => if b then stRefused else stOk
  if 0x2010 ≤ index ∧ index < 0x2030 ∧ sub ≤ 4 then
    if sub = 3 ∧ index < 0x2020 ∧ (v = 1 ∨ v = 3) then stAccess else no (s.rd p (O.CMP_ARM_2010 (index - 0x2010)) == 1)
  else if 0x3040 ≤ index ∧ index < 0x3044 ∧ sub = 1 then no (data.any fun c => decide (0x62 ≤ c))
  else if 0x3070 ≤ index ∧ index < 0x3080 ∧ sub = 3 then no (!w.secure && v == 0)
  else if 0x5810 ≤ index ∧ index < 0x5850 then no (s.regionRefused d (index - 0x5810) sub v)
  else if 0x6800 ≤ index ∧ index < 0x6804 ∧ sub = 11 then no (s.rd p (O.DMA_STATE index) != 0)
  else if 0x7010 ≤ index ∧ index < 0x7020 ∧ sub = 1 then no (s.slotsMeet d (index - 0x7010) data)
  else if 0x7410 ≤ index ∧ index < 0x7418 ∧ sub ≤ 2 then no (v % 4096 != 0)
  else if index = 0x3440 then no (s.threshBad d sub v)
  else if index = 0x3460 ∧ sub = 1 then no (v != 0xFFFF && !sourceDefined v)
  else if index = 0x3460 ∧ sub = 2 then no (v % 32 != 0 || decide (s.sinkBytes d < v))
  else if index = 0x5400 ∧ sub = 6 then no ((s.die d).shroud.ring.any fun e => !e.freed)
  else stOk

/-- A region entry of HBM that breaks R479. -/
def State.hregBad (s : State) (base bytes : Nat) : Bool :=
  let first := 576000000000 - s.rd .vager O.STAY_BYTES_5880
  base % 4096 != 0 || bytes % 4096 != 0
    || (bytes != 0 && (decide (base < first) || decide (576000000000 < base + bytes)))

/-- The status with which a rule of the owning chapter refuses a write at Vager, or 0. -/
def State.refusalV (s : State) (index sub v : Nat) : Nat :=
  let p := Part.vager
  let no := fun (b : Bool) => if b then stRefused else stOk
  if 0x4880 ≤ index ∧ index < 0x48C0 ∧ (sub = 2 ∨ (5 ≤ sub ∧ sub ≤ 7)) then no (s.rd p (O.MDL_STATE_4880 (index - 0x4880)) != 0)
  else if 0x4900 ≤ index ∧ index < 0x4A00 ∧ sub ≤ 2 then
    let a := index - 0x4900
    let hi := toSigned 32 (if sub = 1 then v else s.rd p (O.ALM_RAISE_4900 a))
    let lo := toSigned 32 (if sub = 2 then v else s.rd p (O.ALM_CLEAR_4900 a))
    no (decide (hi < lo))
  else if index = 0x5884 ∨ (0x5888 ≤ index ∧ index ≤ 0x5898) then no (!s.cutIdle && !(index == 0x5890 && sub == 1))
  else if 0x6420 ≤ index ∧ index < 0x6422 ∧ sub ≤ 5 then no (s.rd p (O.CHANGE_STATE_6420 (index - 0x6420)) == 1)
  else if 0x6840 ≤ index ∧ index < 0x6850 ∧ sub = 11 then no (s.rd p (O.DMA_STATE index) != 0)
  else if 0x7448 ≤ index ∧ index < 0x7458 ∧ sub ≤ 2 then
    let r := index - 0x7448
    no (s.hregBad (if sub = 1 then v else s.rd p (O.HREG_BASE_7448 r)) (if sub = 2 then v else s.rd p (O.HREG_BYTES_7448 r)))
  else if index = 0x3580 ∧ sub = 1 then no (decide (572000000000 < v + s.rd p O.STAY_BYTES_5880))
  else if index = 0x6080 ∧ sub = 3 then no (!s.vager.ledger.held.isEmpty)
  else stOk

/-- The status with which a rule of the owning chapter refuses a write, or 0. -/
def State.writeRefusal (s : State) (p : Part) (w : Writer) (index sub v : Nat) (data : List Nat) : Nat :=
  match p with
  | .vager => s.refusalV index sub v
  | .staris d => s.refusalS d w index sub v data

/-! ### The write -/

/-- The granularity to which a selector or an offset is rounded down when it is written. -/
def roundingOf (p : Part) (index sub : Nat) : Nat :=
  match p with
  | .staris _ => if index = 0x3020 ∧ sub = 8 then 256 else if index = 0x3450 ∧ sub = 8 then 4096 else 1
  | .vager =>
    if index = 0x4002 ∧ sub = 5 then 256
    else if (0x3590 ≤ index ∧ index < 0x35A0 ∧ sub = 6) ∨ (index = 0x5478 ∧ sub = 4) ∨ (index = 0x6081 ∧ sub = 4)
        ∨ (0x70C0 ≤ index ∧ index < 0x70D0 ∧ sub = 6) then 4096
    else 1

/-- What a write of a plain object brings with it: trace sources are judged again under a new configuration (R123), the intake
goes on under new weights (R178), queued drain writes go out under a new MAX_WRITES (R363), and what holds a DMA channel may have changed (R429). -/
def State.afterWrite (s : State) (p : Part) (index sub : Nat) : State :=
  match p with
  | .vager =>
    if index = 0x5883 ∧ sub = 6 then s.startWrites
    else if 0x5888 ≤ index ∧ index < 0x5890 ∧ sub = 1 then s.dmaSettle p 15
    else if 0x3810 ≤ index ∧ index < 0x3820 ∧ sub = 20 then [1, 2, 3, 4, 5, 6].foldl (fun s c => s.intakeAll c) s
    else s
  | .staris d =>
    if 0x3070 ≤ index ∧ index < 0x3080 ∧ sub = 4 then s.dmaSettle p 1 else
    if 0x3410 ≤ index ∧ index < 0x3414 ∧ (sub = 1 ∨ sub = 4) then (s.retraceAll d).retraceCfg d (index - 0x3410)
    else if 0x3430 ≤ index ∧ index < 0x3438 then (List.range 4).foldl (fun s c => s.retraceCfg d c) (s.retraceAll d)
    else s

/-- The object takes the value (R502). -/
def State.putObject (s : State) (p : Part) (x : SubInfo) (index : Nat) (data : List Nat) : State :=
  let k := objKey index x.sub
  let s := if x.isOctets then s.writeOctets p k x.size data
    else
      let r := roundingOf p index x.sub
      s.wr p k ((ofBytes data &&& x.mask) / r * r)
  s.afterWrite p index x.sub

/-- R517: a plain write of an RWE object is staged as a group due at once, which waits for its point of application. -/
def State.stageNow (s : State) (p : Part) (w : Writer) (node index sub : Nat) (data : List Nat) : (Nat × Bool) × State :=
  if s.stageRoom p 1 = false then ((stBusy, false), s)
  else
    let e : SheetEntry := { index := index, sub := sub, node := node, len := data.length, offset := 0, data := data }
    let g : SGroup := { group := 0, node := node, kind := 1, time := s.outcomeTime p, w := w, entries := [e], due := true }
    ((stOk, true), (s.newGroup p g).2)

/-- The write of an object that has passed the tests of `judge`. `apply` says that a staged group applies it. -/
def State.doWrite (s : State) (p : Part) (w : Writer) (serial : Nat) (apply : Bool) (x : SubInfo) (index : Nat) (data : List Nat) :
    (Nat × Bool) × State :=
  let full := if x.isOctets then data ++ List.replicate (x.size - data.length) 0 else data
  let v := if x.isOctets then 0 else ofBytes data
  let r := s.writeRefusal p w index x.sub v full
  if r ≠ stOk then ((r, false), s)
  else
    match s.ownWrite p w serial index x.sub v full with
    | some f =>
      let (st, s) := s.through f
      ((st, false), s)
    | none =>
      if x.access = 3 ∧ apply = false then
        s.stageNow p w (match p with
          | .vager => 0
          | .staris d => d.val + 1) index x.sub data
      else ((stOk, false), s.putObject p x index data)

/-- The access as it counts for an object: that of R476 for the trust anchors. -/
def State.writerFor (s : State) (p : Part) (w : Writer) (index : Nat) : Writer :=
  match p with
  | .vager => s.anchorWriter w index
  | .staris _ => w

/-- A whole write of an object by `w` (R502, R504, R510): its status, and whether it joined a staged group. -/
def State.writeObject (s : State) (p : Part) (w : Writer) (serial : Nat) (apply : Bool) (index sub : Nat) (data : List Nat) :
    (Nat × Bool) × State :=
  let w := s.writerFor p w index
  let st := s.judge p w false index sub data
  if st ≠ stOk then ((st, false), s)
  else
    match subInfo p index sub with
    | some x => s.doWrite p w serial apply x index data
    | none => ((stNoSub, false), s)

/-- The tests of a segmented write (R475, R510, R511). -/
def State.judgeSegment (s : State) (p : Part) (w : Writer) (index sub off n : Nat) : Nat :=
  match idxInfo p index with
  | none => stNoObject
  | some i =>
    match i.find sub with
    | none => stNoSub
    | some x =>
      let (sec, role) := s.objWorld p i index x
      if mayReach w sec role = false then stAccess
      else if x.access = 0 ∨ x.access = 4 then stAccessKind
      else if segmentOk x off n then stOk
      else stSegment

/-- A segmented write by `w` (R511): bytes outside its range stay as they are. An object that is only written, and so acts as a whole,
keeps its segments and acts with the one that ends it (log entry 165). -/
def State.writeSegment (s : State) (p : Part) (w : Writer) (serial index sub off : Nat) (data : List Nat) : (Nat × Bool) × State :=
  let w := s.writerFor p w index
  let st := s.judgeSegment p w index sub off data.length
  if st ≠ stOk then ((st, false), s)
  else
    match subInfo p index sub with
    | none => ((stNoSub, false), s)
    | some x =>
      if x.seg then ((stOk, false), s.setBytes p (objKey index sub) off (keptBytes (objKey index sub) off data))
      else
        let key := objKey index sub
        let cur := if x.access = 2 then s.bytesAt p key 0 x.size
          else (s.objectBytes p w x index 0 x.size).bytes.map fun b => b.getD 0
        let all := cur.take off ++ data ++ cur.drop (off + data.length)
        if x.access = 2 ∧ off + data.length < x.size then ((stOk, false), s.setBytes p key off data)
        else if x.inRange all then s.doWrite p w serial false x index all else ((stRange, false), s)

/-- REGISTER_WRITE. A register of the dictionary is written through its block of memory-mapped registers, or by the firmware: the
write obeys the world and role of its object and is answered with its status (R444, R475, R510). -/
def execRegisterWrite (p : Part) (w : Writer) (index sub : Nat) (data : List Nat) (s : State) : Result :=
  let ((st, _), s) := s.writeObject p w 0 false index sub data
  .next (s.answer st)

end Sys2Proof.Machine
end

