-- ==== Sys2Proof/Machine/Groups.lean ====
section
/-! DEFINITION. Machine/Groups.lean: staged groups as they take effect (R514 to R521): at their instant, at the opening of their epoch,
with a broadcast, at the slice boundary of the energy ledger, and by way of a Staris. -/

namespace Sys2Proof.Machine
open Sys2Proof

/-- Entries written in their order, up to the first that fails: its place and status (R514). -/
def State.applyEntries (p : Part) (g : SGroup) : List SheetEntry → Nat → State → Option (Nat × Nat) × State
  | [], _, s => (none, s)
  | e :: t, i, s =>
    let ((st, _), s) := s.writeObject p g.w g.serial true e.index e.sub e.data
    if st ≠ stOk then (some (i, st), s) else State.applyEntries p g t (i + 1) s

/-- A group takes effect: every entry applies, or none does and the group fails; what the failing entry's refusal shows stays
(R510, R514). -/
def State.applyGroup (s : State) (p : Part) (g : SGroup) : State :=
  match State.applyEntries p g g.entries 0 s with
  | (none, t) => t.groupLeaves p g 2 0 0 (t.outcomeTime p)
  | (some (i, st), _) =>
    let s := match g.entries[i]? with
      | none => s
      | some e =>
        let ((alone, _), t) := s.writeObject p g.w g.serial true e.index e.sub e.data
        if alone ≠ stOk then t else s
    s.groupLeaves p g 3 i st (s.outcomeTime p)

/-- A group holds an object of the ledger configuration, which applies at a slice boundary (R399, R515). -/
def SGroup.ledger (g : SGroup) : Bool := g.entries.any fun e => 0x6000 ≤ e.index && e.index ≤ 0x6002

/-- A context of the epoch stands in one of the states listed. -/
def State.epochContext (s : State) (states : List Nat) (epoch : Nat) : Option Nat :=
  (List.range 64).find? fun x => states.contains (s.ctxState x) && s.rd .vager (O.CTX_EPOCH_4100 x) == epoch % 2 ^ 32

/-- The instant of a group has come (R515, R516, R517): also where its epoch was OPEN before it was staged. -/
def State.groupDue (s : State) (p : Part) (g : SGroup) : Bool :=
  match p with
  | .vager => g.node == 0 && (g.due || (g.kind == 1 && decide (g.time ≤ s.extNow))
      || (g.kind == 2 && (s.epochContext [2] g.time).isSome))
  | .staris d => g.due || (g.kind == 3 && reached (s.ns (.staris d)) (g.time % 2 ^ 32))

/-- A group whose instant has come applies, or waits for the slice boundary (R515). -/
def State.applyIfDue (s : State) (p : Part) (n : Nat) : State :=
  let x := s.staging p
  match x.groups.find? fun g => g.group == n with
  | none => s
  | some g =>
    if s.groupDue p g = false then s
    else if p ≠ .vager ∧ g.ledger then
      s.setStaging p { x with groups := x.groups.map fun y => if y.group = n then { y with due := true } else y }
    else s.applyGroup p g

/-- Every group whose instant has come, in ascending GROUP order (R517). -/
def State.applyDue (s : State) (p : Part) : State :=
  ((s.staging p).groups.map SGroup.group).foldl (fun s n => s.applyIfDue p n) s

/-- STAGED_GROUP_APPLY. A group reaches its instant (R514, R515). -/
def execStagedGroupApply (p : Part) (group : Nat) (s : State) : Result := .next (s.applyIfDue p group)

/-- STAGE_EPOCH_EXPIRY. A group of KIND 2 that has stayed pending for STAGE_EPOCH_LIFE expires (R516). -/
def execStageEpochExpiry (group : Nat) (s : State) : Result :=
  match (s.staging .vager).groups.find? fun g => g.group == group with
  | none => .next s
  | some g =>
    if g.kind = 2 ∧ g.forwarded = false ∧ g.made + 10 ^ 9 * s.rd .vager O.STAGE_EPOCH_LIFE_1101 ≤ s.extNow then
      .next (s.groupLeaves .vager g 5 0 0 s.extNow)
    else .next s

/-- The instant of a group held for a Staris, once it is known: WHEN, or the OPEN_TIME of its epoch's context (R516). -/
def State.heldInstant (s : State) (g : SGroup) : Option Nat :=
  if g.kind = 1 then some g.time
  else (s.epochContext [1, 2] g.time).map fun x => s.rd .vager (O.CTX_OPEN_TIME_4100 x)

/-- STAGED_GROUP_FORWARD. No earlier than 1 s before its instant a held group goes to its Staris as KIND 3 (R520), unless the writes
of its world are withheld from that Staris (R487). -/
def execStagedGroupForward (group : Nat) (s : State) : Result :=
  let x := s.staging .vager
  match x.groups.find? fun g => g.group == group && g.node != 0 && !g.forwarded with
  | none => .next s
  | some g =>
    match s.heldInstant g with
    | none => .next s
    | some t =>
      let d := nodeDie g.node
      if s.extNow + 10 ^ 9 < t then .next s
      else if s.withheld g.w d then
        .next ((s.bump .vager O.WITHHELD_WRITES_7480 32 g.entries.length).groupLeaves .vager g 3 0 stWithheld s.extNow)
      else
        let s := s.setStaging .vager { x with
          groups := x.groups.map fun y => if y.group = group then { y with forwarded := true } else y }
        let word : SheetEntry := { index := 0x1020, sub := 3, node := 0, len := 16, offset := 0, data := stageWord 3 0 (t % 2 ^ 32) }
        let req : SheetReq := { version := 1, op := 3, tid := 0, stop := false, resend := false, sound := true
                                entries := word :: g.entries }
        .next (s.proxySubmit d { tid := 0, w := g.w, req := req, group := some group })

/-! ### Epochs and broadcasts (R218, R223, R516, R521) -/

/-- BCAST_RX. A broadcast from the parent is applied in its order, forwarded and answered (R223); the staged groups that it makes due
apply (R516, R521). -/
def execBcastRx (m : TreeMsg) (s : State) : Result := .next (s.treeIn m 0x21 fun s => (s.bcastRx m).applyDue .vager)

/-- BCAST_SUBMIT. Fleet software submits a broadcast at the root (R223). -/
def execBcastSubmit (w : Writer) (header : Nat) (body : List Nat) (s : State) : Result :=
  .next (s.writeBy w true .fleet fun s => (s.bcastSubmit header body).applyDue .vager)

/-- CONTEXT_OPEN_TIME. A PENDING context reaches its OPEN_TIME and becomes OPEN, and the groups keyed to its epoch apply (R218,
R516). -/
def execContextOpenTime (x : Fin 64) (s : State) : Result :=
  if s.ctxState x.val = 1 ∧ s.rd .vager (O.CTX_OPEN_TIME_4100 x.val) ≤ s.extNow then
    .next ((s.openContext x.val).applyDue .vager)
  else .next s

/-! ### The slice boundary of the energy ledger (R387 to R399) -/

/-- The staged configurations that wait for this boundary, in ascending GROUP order (R399, R515). -/
def State.ledgerGroups (s : State) (d : Die) : List SGroup := (s.staging (.staris d)).groups.filter fun g => g.due && g.ledger

/-- Staged configurations apply, each all or none. -/
def State.applyLedger (s : State) (d : Die) (gs : List SGroup) : State := gs.foldl (fun s g => s.applyGroup (.staris d) g) s

/-- One of the groups has been applied. -/
def State.someApplied (s : State) (d : Die) (gs : List SGroup) : Bool :=
  (s.staging (.staris d)).outcomes.any fun o => o.state == 2 && gs.any fun g => g.group == o.group

/-- LEDGER_CONFIG_APPLY and SEGMENT_RECORD (R394, R399): where a staged configuration applies, every open request's segment ends under
the old one and the new one is announced; otherwise full segments end. A change waits while the record queue lacks room for it. -/
def State.segmentBoundary (s : State) (d : Die) : State :=
  let full := fun (s : State) => (s.en d).reqs.foldl (fun s x => s.fullSegment d x) s
  let gs := s.ledgerGroups d
  if gs.isEmpty ∨ s.configRoom d = false then full s
  else
    let t := s.applyLedger d gs
    if t.someApplied d gs then ((s.endSegments d).applyLedger d gs).announceConfig d else full t

/-- ENERGY_SLICE_BOUNDARY. A slice of 10 µs ends: samples that did not arrive are replaced (`missing` names their rails), the energy is
split and pooled, final records come first, then segments and configurations, then waiting operations (R387 to R399). -/
def execEnergySliceBoundary (d : Die) (missing : List (Fin 16)) (s : State) : Result :=
  let s := missing.foldl (fun s r => s.fillSample d r.val) s
  let s := (s.creditSlice d).clearTotals d
  let s := (s.en d).ops.foldl (fun s x => s.finalRecord d x) s
  let s := s.segmentBoundary d
  .next ((s.en d).ops.foldl (fun s x => s.serveOp d x) s)

end Sys2Proof.Machine
end

