-- ==== Sys2Proof/Machine/Sheet.lean ====
section
/-! DEFINITION. Machine/Sheet.lean: the Sheet protocol (R499 to R526): requests of sessions and mailboxes, DICT_REQs at a Staris, and
their answers. -/

namespace Sys2Proof.Machine
open Sys2Proof

/-- An operation that a request may name (R509). -/
def validOp (op : Nat) : Bool := decide (1 ≤ op) && decide (op ≤ 10) && op != 8

/-- An operation whose request entries carry data (R509). -/
def carriesData (op : Nat) : Bool := op != 1 && op != 5

/-- The first entry of a STAGE request is the stage entry (R514). -/
def isStageEntry (e : SheetEntry) : Bool := e.index == 0x1020 && e.sub == 3 && e.data.length == 16

/-- LENGTH and COUNT agree with the content, and a STAGE request begins with its stage entry (R507, R514). -/
def reqSound (r : SheetReq) : Bool :=
  r.sound && (!carriesData r.op || r.entries.all fun e => e.len == e.data.length)
    && (r.op != 3 || match r.entries with
      | e :: _ => isStageEntry e
      | [] => false)

/-- MSTATUS of a request as it arrives, 0 where it may be carried out (R507). -/
def mstatusOf (r : SheetReq) : Nat :=
  if r.version ≠ 1 then 0x82 else if validOp r.op = false then 0x83 else if reqSound r = false then 0x81 else 0

/-! ### Entries that a dictionary carries out itself (R500, R509) -/

/-- A read answered as an entry (R508). -/
def readEntry (e : SheetEntry) (r : Reading) : RespEntry :=
  { index := e.index, sub := e.sub, node := e.node, status := r.status, staged := false, last := r.last, data := r.data,
    poison := r.poison }

/-- STAGE_CANCEL of a group of a part that has not been forwarded: it leaves pending (R518); refused where none is pending. -/
def State.cancelGroup (s : State) (p : Part) (n : Nat) : Nat × State :=
  match (s.staging p).groups.find? fun g => g.group == n && !g.forwarded with
  | none => (stRefused, s)
  | some g => (stOk, s.groupLeaves p g 4 0 0 (s.outcomeTime p))

/-- The tests of the one entry of a STAGE_CANCEL, a SUBSCRIBE or an SPDM request (R509). -/
def soleEntry (index sub n : Nat) (e : SheetEntry) : Nat :=
  if e.index ≠ index ∨ e.sub ≠ sub then stNoObject else if e.data.length ≠ n then stLength else stOk

/-- SUBSCRIBE (R522): a session's registration, of which Vager holds eight. -/
def State.subscribe (s : State) (src : Option SheetSource) (e : SheetEntry) : Nat × State :=
  match src with
  | some (.session id) =>
    let mask := e.data.headD 0 % 4
    let others := s.vager.sessions.filter fun x => x.id != id && x.mask != 0
    if mask ≠ 0 ∧ 8 ≤ others.length then (stRefused, s.bump .vager O.NOTIFY_REFUSED_1102 32)
    else
      let put := fun (x : Session) => if x.id = id then { x with mask := mask } else x
      (stOk, s.setVager { s.vager with sessions := s.vager.sessions.map put })
  | _ => (stRefused, s)

/-- SPDM carried by Sheet (R523): the SPDM message as entry data. Its header, of the request's version, the code and two parameters that
are free values, precedes the content. -/
def State.sheetSpdm (s : State) (e : SheetEntry) : RespEntry × State :=
  if bitAt (s.rd .vager O.SPDM_PATHS_7490) 1 = false then (statusEntry e stRefused, s)
  else
    let ((code, content), s) := s.spdmAnswer e.data
    let (f, s) := s.takeNat
    ({ statusEntry e stOk with data := [e.data.headD 0x10, code] ++ toBytes 2 f ++ content }, s)

/-- One entry carried out by the dictionary of part `p` for the access `w` (R504, R509, R510). -/
def State.runEntry (s : State) (p : Part) (src : Option SheetSource) (w : Writer) (serial op : Nat) (e : SheetEntry) :
    RespEntry × State :=
  let answer := fun (r : (Nat × Bool) × State) => ({ statusEntry e r.1.1 with staged := r.1.2 }, r.2)
  let sole := fun (index sub n : Nat) (k : Nat × State) =>
    let st := soleEntry index sub n e
    if st ≠ stOk then (statusEntry e st, s) else (statusEntry e k.1, k.2)
  match op with
  | 1 =>
    let (r, s) := s.readObject p w none e.index e.sub
    (readEntry e r, s)
  | 2 => answer (s.writeObject p w serial false e.index e.sub e.data)
  | 4 => sole 0x1020 1 4 (s.cancelGroup p (ofBytes e.data))
  | 5 =>
    let (r, s) := s.readObject p w (some (e.offset, e.len)) e.index e.sub
    (readEntry e r, s)
  | 6 => answer (s.writeSegment p w serial e.index e.sub e.offset e.data)
  | 7 => if p = .vager then sole 0x1102 1 1 (s.subscribe src e) else (statusEntry e stNoObject, s)
  | 9 => if p = .vager ∧ e.index = 0 ∧ e.sub = 0 then s.sheetSpdm e else (statusEntry e stNoObject, s)
  | _ => ({ statusEntry e stOk with data := e.data }, s)

/-- Entries in their order; after STOP's first failure the rest are not tried (R510). Each entry comes with its place in the response
and the access that it holds. -/
def State.runEntries (p : Part) (src : Option SheetSource) (serial op : Nat) (stop : Bool) :
    List (Nat × Writer × SheetEntry) → State → List (Nat × RespEntry) × State
  | [], s => ([], s)
  | (i, w, e) :: t, s =>
    let (r, s) := s.runEntry p src w serial op e
    if stop ∧ r.status ≠ stOk then ((i, r) :: t.map fun x => (x.1, statusEntry x.2.2 stNotTried), s)
    else
      let (rs, s) := State.runEntries p src serial op stop t s
      ((i, r) :: rs, s)

/-! ### STAGE (R514, R597) -/

/-- KIND and WHEN of a stage word (R514). -/
def stageKind (word : List Nat) : Nat := word.headD 0
def stageWhen (word : List Nat) : Nat := ofBytes ((word.drop 8).take 8)

/-- The answers of one node to a STAGE: the copy of the stage entry, and its WRITE entries (R514, R597). -/
def stageAnswer (node : Nat) (word : List Nat) (entries : List SheetEntry) (sts : List Nat) (copy group : Nat) :
    RespEntry × List RespEntry :=
  let c : SheetEntry := { index := 0x1020, sub := 3, node := node, len := 16, offset := 0, data := [] }
  let ok := group != 0 || copy == 0
  ({ statusEntry c copy with staged := ok, data := stageWord (stageKind word) group (stageWhen word) },
   (entries.zip sts).map fun x => { statusEntry x.1 x.2 with staged := ok })

/-- STAGE on one node: the group is held by `holder` and judged as objects of `target`; `kinds` are those that the node can take. -/
def State.stageOn (s : State) (holder target : Part) (kinds : List Nat) (w : Writer) (serial node : Nat) (word : List Nat)
    (entries : List SheetEntry) : (RespEntry × List RespEntry) × State :=
  let all := fun (st : Nat) => (stageAnswer node word entries (List.replicate entries.length st) st 0, s)
  if kinds.contains (stageKind word) = false then all stRange
  else
    let g : SGroup := { group := 0, node := node, kind := stageKind word, time := stageWhen word, w := w, serial := serial
                        entries := entries }
    let ((sts, copy, k), s) := s.formGroup holder g target
    (stageAnswer node word entries sts copy k, s)

/-! ### Requests that a Staris answers (R500, R519, R526) -/

/-- The answer of a Staris to a request of its own window or to a DICT_REQ: every entry is its own (R500). -/
def State.starisAnswer (s : State) (d : Die) (w : Writer) (r : SheetReq) : SheetResp × State :=
  let p := Part.staris d
  let m := mstatusOf r
  if m ≠ 0 then ({ op := r.op, tid := r.tid, mstatus := m, entries := [] }, s.bump p O.MALFORMED_1011 32)
  else
    let s := s.bump p O.REQUESTS_1011 64
    let (es, s) :=
      if r.op = 3 then
        let word := (r.entries.headD { index := 0, sub := 0, node := 0, len := 0, offset := 0, data := [] }).data
        let ((c, es), s) := s.stageOn p p [3] w 0 (d.val + 1) word (r.entries.drop 1)
        (c :: es, s)
      else
        let (rs, s) := State.runEntries p none 0 r.op r.stop (r.entries.mapIdx fun i e => (i, w, e)) s
        (rs.map Prod.snd, s)
    ({ op := r.op, tid := r.tid, mstatus := 0, entries := es }, s.countEntries p (es.map RespEntry.status))

/-- DICT_REQ_RX. A Staris carries out the entries of a DICT_REQ under its PWORLD and PROLE and answers with one DICT_RESP (R519,
R520). -/
def execDictReqRx (d : Die) (w : Writer) (r : SheetReq) (s : State) : Result :=
  let (a, s) := s.starisAnswer d w r
  .next ((s.sendDict false d 2 (respBytes a)).applyDue (.staris d))

/-! ### Requests that Vager answers or carries on -/

/-- A mailbox serves the entry: before READY only three indices (R551), in RECOVERY only two, of Vager itself (R532). -/
def State.serves (s : State) (src : SheetSource) (e : SheetEntry) : Bool :=
  match src with
  | .session _ => true
  | .mailbox _ =>
    if s.rd .vager O.CN_STATE_7848 = 4 then (e.index == 0x1000 || e.index == 0x7860) && e.node == 0
    else s.rd .vager O.BOOT_STAGE_7C40 == 5 || e.index == 0x1000 || e.index == 0x7860 || e.index == 0x7C40

/-- The access of an entry: in RECOVERY the BAR 2 mailbox holds world S and the fleet role for the firmware objects (R532). -/
def State.entryWriter (s : State) (src : SheetSource) (w : Writer) (e : SheetEntry) : Writer :=
  if src = .mailbox .bar2 ∧ s.rd .vager O.CN_STATE_7848 = 4 ∧ e.index = 0x7860 then { secure := true, role := .fleet } else w

/-- A request joins those in hand, with room for `n` entries in its response; its number. -/
def State.openWait (s : State) (src : SheetSource) (op tid n : Nat) : Nat × State :=
  let x := s.vager.sheet
  let w : SheetWait := { number := x.nextWait, source := src, op := op, tid := tid, entries := List.replicate n none }
  (x.nextWait, s.setSheet { x with waits := x.waits ++ [w], nextWait := x.nextWait + 1 })

/-- One status for every entry of a list. -/
def allStatus (es : List (Nat × Writer × SheetEntry)) (st : Nat) : List (Nat × RespEntry) :=
  es.map fun x => (x.1, statusEntry x.2.2 st)

/-- The entries of a request for one Staris go out in one DICT_REQ (R519), unless they are writes withheld from it (R487). -/
def State.proxyEntries (s : State) (n : Nat) (d : Die) (w : Writer) (op : Nat) (stop : Bool)
    (es : List (Nat × Writer × SheetEntry)) : State :=
  if (op = 2 ∨ op = 6) ∧ s.withheld w d then
    (s.bump .vager O.WITHHELD_WRITES_7480 32 es.length).placeEntries n (allStatus es stWithheld)
  else
    let req : SheetReq := { version := 1, op := op, tid := 0, stop := stop, resend := false, sound := true
                            entries := es.map fun x => x.2.2 }
    s.proxySubmit d { tid := 0, w := w, req := req, wait := some n, places := es.map Prod.fst }

/-- STAGE_CANCEL of a group of a Staris (R518): one that Vager holds leaves pending, one that it has forwarded is cancelled there
under its GROUP of that Staris, and one that Vager does not know is the Staris's own. -/
def State.cancelRemote (s : State) (n : Nat) (d : Die) (x : Nat × Writer × SheetEntry) : State :=
  let (i, w, e) := x
  let st := soleEntry 0x1020 1 4 e
  if st ≠ stOk then s.placeEntries n [(i, statusEntry e st)]
  else
    let k := ofBytes e.data
    match (s.staging .vager).groups.find? fun g => g.group == k && g.node == d.val + 1 with
    | none => s.proxyEntries n d w 4 false [x]
    | some g =>
      match g.forwarded, g.remote with
      | false, _ =>
        let (st, s) := s.cancelGroup .vager k
        s.placeEntries n [(i, statusEntry e st)]
      | true, some r => s.proxyEntries n d w 4 false [(i, w, { e with data := toBytes 4 r })]
      | true, none => s.placeEntries n [(i, statusEntry e stRefused)]

/-- The entries of one node are carried out or carried on (R499, R500). -/
def State.runNode (s : State) (n : Nat) (src : SheetSource) (w : Writer) (serial op : Nat) (stop : Bool) (node : Nat)
    (es : List (Nat × Writer × SheetEntry)) : State :=
  if node = 0 ∨ op = 10 then
    let (rs, s) := State.runEntries .vager (some src) serial op stop es s
    (s.countEntries .vager (rs.map fun x => x.2.status)).placeEntries n rs
  else if 16 < node ∨ op = 7 ∨ op = 9 then
    (s.countEntries .vager (es.map fun _ => stNoObject)).placeEntries n (allStatus es stNoObject)
  else if op = 4 then es.foldl (fun s x => s.cancelRemote n (nodeDie node) x) s
  else s.proxyEntries n (nodeDie node) w op stop es

/-- A request but a STAGE: each entry in its place; entries that the mailbox does not serve now are answered BUSY (R551). -/
def State.runRequest (s : State) (src : SheetSource) (w : Writer) (serial : Nat) (r : SheetReq) : State :=
  let (n, s) := s.openWait src r.op r.tid r.entries.length
  let es := r.entries.mapIdx fun i e => (i, s.entryWriter src w e, e)
  let (now, later) := es.partition fun x => s.serves src x.2.2
  let nodes := (now.map fun x => x.2.2.node).eraseDups
  let s := if later.isEmpty then s else (s.countEntries .vager (later.map fun _ => stBusy)).placeEntries n (allStatus later stBusy)
  let s := nodes.foldl (fun s k => s.runNode n src w serial r.op r.stop k (now.filter fun x => x.2.2.node == k)) s
  s.tryRespond n

/-- STAGE on one node named by a request at Vager: its copy of the stage entry and its WRITE entries. -/
def State.stageNode (s : State) (src : SheetSource) (w : Writer) (serial : Nat) (word : List Nat) (node : Nat)
    (es : List SheetEntry) : (RespEntry × List RespEntry) × State :=
  let all := fun (st : Nat) => stageAnswer node word es (List.replicate es.length st) st 0
  if (es.all fun e => s.serves src e) = false then (all stBusy, s)
  else if 16 < node then (all stNoObject, s)
  else if node ≠ 0 ∧ s.withheld w (nodeDie node) then (all stWithheld, s.bump .vager O.WITHHELD_WRITES_7480 32 es.length)
  else
    let w := match es with
      | e :: _ => s.entryWriter src w e
      | [] => w
    s.stageOn .vager (nodePart node) [1, 2] w serial node word es

/-- A STAGE request at Vager: one group on each node named, the copies first and then the WRITE entries in their order (R514). -/
def State.runStage (s : State) (src : SheetSource) (w : Writer) (serial : Nat) (r : SheetReq) : State :=
  let word := (r.entries.headD { index := 0, sub := 0, node := 0, len := 0, offset := 0, data := [] }).data
  let es := r.entries.drop 1
  let nodes := (es.map SheetEntry.node).eraseDups
  let step := fun (a : List (Nat × RespEntry × List RespEntry) × State) (k : Nat) =>
    let ((c, rs), s) := a.2.stageNode src w serial word k (es.filter fun e => e.node == k)
    (a.1 ++ [(k, c, rs)], s)
  let (parts, s) := nodes.foldl step ([], s)
  let at_ := fun (i : Nat) (e : SheetEntry) =>
    let before := ((es.take i).filter fun f => f.node == e.node).length
    match parts.find? fun x => x.1 == e.node with
    | some x => x.2.2.getD before (statusEntry e stNotTried)
    | none => statusEntry e stNotTried
  let rs := es.mapIdx at_
  let s := s.countEntries .vager ((rs.filter fun e => e.node == 0).map RespEntry.status)
  (s.respond src { op := 3, tid := r.tid, mstatus := 0, entries := parts.map (fun x => x.2.1) ++ rs })

/-- A request at Vager, of a session or a mailbox of Vager (R507, R509). Groups whose instant has passed apply at once (R515). -/
def State.vagerRequest (s : State) (src : SheetSource) (w : Writer) (serial : Nat) (r : SheetReq) : State :=
  let m := mstatusOf r
  if m ≠ 0 then
    (s.bump .vager O.MALFORMED_1011 32).respond src { op := r.op, tid := r.tid, mstatus := m, entries := [] }
  else
    let s := s.bump .vager O.REQUESTS_1011 64
    let s := if r.op = 3 then s.runStage src w serial r else s.runRequest src w serial r
    s.applyDue .vager

/-- A session is not idle now (R494). -/
def State.touchSession (s : State) (id : Nat) : State :=
  s.setVager { s.vager with sessions := s.vager.sessions.map fun x => if x.id = id then { x with usedAt := s.vager.ticks } else x }

/-- A request of a management session: one whose TID matches a kept response is answered from the store (R512). -/
def State.sessionRequest (s : State) (id : Nat) (r : SheetReq) : State :=
  match s.vager.sessions.find? fun x => x.id == id with
  | none => s
  | some x =>
    let s := s.touchSession id
    match x.kept.find? fun k => k.1 == r.tid with
    | some k => (s.bump .vager O.CACHED_ANSWERS_1011 32).emit (.sheet id k.2)
    | none => s.vagerRequest (.session id) { secure := x.secure, role := x.role } x.serial r

/-- A request taken as the operation of its row, where OP is one that R509 defines. -/
def asOp (op : Nat) (r : SheetReq) : SheetReq := if validOp r.op then { r with op := op } else r

/-- SHEET_READ (R509). -/
def execSheetRead (session : Nat) (r : SheetReq) (s : State) : Result := .next (s.sessionRequest session (asOp 1 r))

/-- SHEET_WRITE (R504, R517). -/
def execSheetWrite (session : Nat) (r : SheetReq) (s : State) : Result := .next (s.sessionRequest session (asOp 2 r))

/-- SHEET_STAGE (R514, R597). -/
def execSheetStage (session : Nat) (r : SheetReq) (s : State) : Result := .next (s.sessionRequest session (asOp 3 r))

/-- SHEET_STAGE_CANCEL (R509, R518). -/
def execSheetStageCancel (session : Nat) (r : SheetReq) (s : State) : Result := .next (s.sessionRequest session (asOp 4 r))

/-- SHEET_SEG_READ (R511). -/
def execSheetSegRead (session : Nat) (r : SheetReq) (s : State) : Result := .next (s.sessionRequest session (asOp 5 r))

/-- SHEET_SEG_WRITE (R511). -/
def execSheetSegWrite (session : Nat) (r : SheetReq) (s : State) : Result := .next (s.sessionRequest session (asOp 6 r))

/-- SHEET_SUBSCRIBE (R522). -/
def execSheetSubscribe (session : Nat) (r : SheetReq) (s : State) : Result := .next (s.sessionRequest session (asOp 7 r))

/-- SHEET_SPDM (R523). -/
def execSheetSpdm (session : Nat) (r : SheetReq) (s : State) : Result := .next (s.sessionRequest session (asOp 9 r))

/-- SHEET_ECHO (R509). -/
def execSheetEcho (session : Nat) (r : SheetReq) (s : State) : Result := .next (s.sessionRequest session (asOp 10 r))

/-- PROXY_TIMEOUT. The oldest DICT_REQ of a port has stayed unanswered for PROXY_TIMEOUT (R520). -/
def execProxyTimeout (p : Die) (s : State) : Result :=
  let x := s.proxy p.val
  match x.outstanding with
  | [] => .next s
  | i :: t =>
    if i.sent + 1000 * s.rd .vager O.PROXY_TIMEOUT_1101 ≤ s.extNow then
      let s := (s.setProxy p.val { x with outstanding := t }).bump .vager (O.PROXY_TIMEOUTS_1030 p.val) 32
      .next (State.proxyPump 1 (s.proxyFailed i stTimeout) p)
    else .next s

/-! ### Mailboxes (R524 to R526) -/

/-- The aperture takes the access: BAR 2 while HOST_SECURE is 1 (R524), the upper half of a Staris window while WIN_SECURE is 1 and
the die marks the access secure (R474). -/
def State.apertureOpen (s : State) (a : Aperture) (sec : Bool) : Bool :=
  match a with
  | .bar0 => true
  | .bar2 => s.rd .vager O.HOST_SECURE_7443 == 1
  | .low _ => true
  | .high d => sec && s.rd (.staris d) O.WIN_SECURE_7400 == 1

/-- The access of a mailbox: the aperture's world and the host role (R526). -/
def apertureWriter : Aperture → Writer
  | .bar0 => { secure := false, role := .host }
  | .bar2 => { secure := true, role := .host }
  | .low _ => { secure := false, role := .host }
  | .high _ => { secure := true, role := .host }

/-- MB_GO. The request in the mailbox's buffer is submitted; a write through a closed aperture or to a busy mailbox is dropped and
counted (R524, R525). -/
def execMbGo (a : Aperture) (sec : Bool) (vector : Nat) (r : SheetReq) (s : State) : Result :=
  let m := s.mailbox a
  if s.apertureOpen a sec = false ∨ m.state = 1 then .next (s.bump (aperturePart a) O.APERTURE_DROPS_1011 32)
  else
    let s := s.setMailbox a { m with state := 1, vector := vector % 2 ^ 16, response := none }
    match aperturePart a with
    | .vager => .next (s.vagerRequest (.mailbox a) (apertureWriter a) 0 r)
    | .staris d =>
      let own := { r with entries := r.entries.map fun e => { e with node := d.val + 1 } }
      let (x, s) := s.starisAnswer d (apertureWriter a) own
      .next ((s.respond (.mailbox a) x).applyDue (.staris d))

/-! ### Sessions and the management port -/

/-- SESSION_CLOSE. A management session is closed by its peer (R522). -/
def execSessionClose (session : Nat) (s : State) : Result := .next (s.closeSessions fun x => x.id == session)

/-- MGMT_LINK_CHANGE. The management link comes up or goes down: the PTP port starts again, and a pending STACK_OWNER takes effect
(R49). -/
def execMgmtLinkChange (link : Fin 3) (s : State) : Result :=
  let s := s.wr .vager O.MGMT_LINK_1100 link.val
  let t := s.vager.time
  .next (s.setVt { t with
    gm := none, annCount := 0, annLog := none, syncLog := none, ptp := {}, stackOwner := s.rd .vager O.STACK_OWNER_2102
    port := if link.val = 0 then .initializing else .listening })

end Sys2Proof.Machine
end

