-- ==== Sys2Proof/Machine/Tap.lean ====
section
/-! DEFINITION. Machine/Tap.lean: the command-descriptor tap and the spare-core remap port (R572, R573, R579). -/

namespace Sys2Proof.Machine
open Sys2Proof

/-- A context entry of an engine slot (0x3001:01). -/
def contextEntry (c : CdtWord) : Nat := fld 63 1 1 + fld 32 14 c.ectx + c.epoch % 2 ^ 32

/-- The descriptor writes an enabled Stay region (R351). -/
def State.writesRegion (s : State) (d : Die) (c : CdtWord) : Bool :=
  let p := Part.staris d
  (List.range 64).any fun r =>
    s.regOn d r && decide (c.base < s.rd p (O.REG_BASE_5810 r) + s.rd p (O.REG_BYTES_5810 r))
      && decide (s.rd p (O.REG_BASE_5810 r) < c.base + c.bytes)

/-- CUT_TORN: a descriptor that writes an enabled region between CUT_READY and CUT_RELEASE aborts the cut (R351, R352). -/
def State.cutTorn (s : State) (d : Die) (c : CdtWord) : State :=
  if s.rd (.staris d) O.STAY_STATE_5800 = 2 ∧ s.writesRegion d c = true then s.stopCut d 4 else s

/-- The descriptor of `slot` and `dseq` is no longer outstanding. -/
def State.endDescriptor (s : State) (d : Die) (c : CdtWord) : State :=
  let x := s.cap d
  s.setCap d { x with descs := x.descs.filter fun y => y.slot != c.slot || y.dseq != c.dseq }

/-- DESCRIPTOR_START. The slot's context is the descriptor's; copies and a cut that it tears are marked; the answer carries SELECT
(R82, R108, R313, R351, R573). -/
def execDescriptorStart (d : Die) (c : CdtWord) (s : State) : Result :=
  let s := s.setElem (.staris d) O.ENGINE_CONTEXT_3001 8 c.slot (contextEntry c)
  let s := s.endDescriptor d c
  let x : Descriptor := { slot := c.slot, dseq := c.dseq, base := c.base, bytes := c.bytes, tag := c.tag, step := c.step,
                          epoch := c.epoch, since := (s.die d).ticks }
  let s := s.setCap d { s.cap d with descs := (s.cap d).descs ++ [x] }
  let s := (s.tearDumps d c.base c.bytes).cutTorn d c
  let (sel, s) := s.shroudSelect d c
  .next (s.emit (.cdtAck d.val c.slot sel))

/-- The domains of the slot see a completion (R457, R462). -/
def State.slotDone (s : State) (d : Die) (slot : Nat) : State :=
  let now := s.ns (.staris d)
  ((List.range 16).filter fun i => s.inDomain d i slot).foldl (fun s i =>
    let x := s.dom d i
    s.setDom d i { x with lastDone := now, doneTick := (s.die d).ticks }) s

/-- DESCRIPTOR_DONE. Each dump slot that matches starts its copy (R106, R107); the slot's domains see a completion. -/
def execDescriptorDone (d : Die) (c : CdtWord) (s : State) : Result :=
  let s := (s.endDescriptor d c).slotDone d c.slot
  let s := ((List.range 16).filter fun n => s.dumpMatches d n c).foldl (fun s n => s.dumpStart d n c) s
  .next (s.emit (.cdtAck d.val c.slot false))

/-- DESCRIPTOR_ABANDON. The descriptor is outstanding no more; it does not complete (R572). -/
def execDescriptorAbandon (d : Die) (c : CdtWord) (s : State) : Result :=
  .next ((s.endDescriptor d c).emit (.cdtAck d.val c.slot false))

/-- SPARE_CORE_REMAP. A remapped source is treated as a source reset and its end; a remapped slot keeps its context entry
(R148, R579). -/
def execSpareCoreRemap (d : Die) (source : Fin 256) (_slot : Fin 256) (kind : Fin 4) (s : State) : Result :=
  if bitAt kind.val 0 then .next ((s.sourceReset d source.val).sourceResetExit d source.val) else .next s

end Sys2Proof.Machine
end

