-- ==== Sys2Proof/Machine/Dispatch.lean ====
section
/-! DEFINITION. Machine/Dispatch.lean: the meaning of each command, one arm per constructor. -/

namespace Sys2Proof.Machine
open Sys2Proof

def exec (i : Instr) (s : State) : Host.Outcome State Fault Refusal :=
  match i with
  | .counterWrap p => Sys2Proof.Machine.execCounterWrap p s
  | .incrementWrite d w value => Sys2Proof.Machine.execIncrementWrite d w value s
  | .modeWrite d w value => Sys2Proof.Machine.execModeWrite d w value s
  | .stepWrite d w value => Sys2Proof.Machine.execStepWrite d w value s
  | .twExchangePeriod => Sys2Proof.Machine.execTwExchangePeriod s
  | .downWordRx d word poison => Sys2Proof.Machine.execDownWordRx d word poison s
  | .upWordRx p word poison => Sys2Proof.Machine.execUpWordRx p word poison s
  | .starisHoldoverTimeout d => Sys2Proof.Machine.execStarisHoldoverTimeout d s
  | .ptpMessageRx m => Sys2Proof.Machine.execPtpMessageRx m s
  | .announceTimeout => Sys2Proof.Machine.execAnnounceTimeout s
  | .syncTimeout => Sys2Proof.Machine.execSyncTimeout s
  | .ptpEventTx seqId msgType domain => Sys2Proof.Machine.execPtpEventTx seqId msgType domain s
  | .tsqPop w => Sys2Proof.Machine.execTsqPop w s
  | .tsqOverflowClear w => Sys2Proof.Machine.execTsqOverflowClear w s
  | .sourceWrite w value => Sys2Proof.Machine.execSourceWrite w value s
  | .secondsSetWrite w seconds => Sys2Proof.Machine.execSecondsSetWrite w seconds s
  | .secondsSetStep => Sys2Proof.Machine.execSecondsSetStep s
  | .ppsInEdge => Sys2Proof.Machine.execPpsInEdge s
  | .ppsOutEdge => Sys2Proof.Machine.execPpsOutEdge s
  | .pllLossOfLock p => Sys2Proof.Machine.execPllLossOfLock p s
  | .pllRelock p => Sys2Proof.Machine.execPllRelock p s
  | .cmpArm d n w => Sys2Proof.Machine.execCmpArm d n w s
  | .cmpDisarm d n w => Sys2Proof.Machine.execCmpDisarm d n w s
  | .comparatorFire d n => Sys2Proof.Machine.execComparatorFire d n s
  | .eventEdge d input high merged => Sys2Proof.Machine.execEventEdge d input high merged s
  | .polarityWrite d w polarity => Sys2Proof.Machine.execPolarityWrite d w polarity s
  | .staleScan d held => Sys2Proof.Machine.execStaleScan d held s
  | .evtFlagsClear d w mask => Sys2Proof.Machine.execEvtFlagsClear d w mask s
  | .descriptorStart d c => Sys2Proof.Machine.execDescriptorStart d c s
  | .descriptorDone d c => Sys2Proof.Machine.execDescriptorDone d c s
  | .descriptorAbandon d c => Sys2Proof.Machine.execDescriptorAbandon d c s
  | .cntConfigWrite d w n value => Sys2Proof.Machine.execCntConfigWrite d w n value s
  | .cntClear d w n => Sys2Proof.Machine.execCntClear d w n s
  | .freeze d => Sys2Proof.Machine.execFreeze d s
  | .snapRelease d w => Sys2Proof.Machine.execSnapRelease d w s
  | .converterResult d r => Sys2Proof.Machine.execConverterResult d r s
  | .railConverterRephase d c => Sys2Proof.Machine.execRailConverterRephase d c s
  | .converterSequenceStart d c => Sys2Proof.Machine.execConverterSequenceStart d c s
  | .sequencePeriodRestart d c => Sys2Proof.Machine.execSequencePeriodRestart d c s
  | .droopTrip d n => Sys2Proof.Machine.execDroopTrip d n s
  | .canaryFail d n => Sys2Proof.Machine.execCanaryFail d n s
  | .canaryCodeWrite d w codes => Sys2Proof.Machine.execCanaryCodeWrite d w codes s
  | .marginPassStart d k => Sys2Proof.Machine.execMarginPassStart d k s
  | .marginDwellEnd d r tripped => Sys2Proof.Machine.execMarginDwellEnd d r tripped s
  | .marginTimingProbeDone d n passed => Sys2Proof.Machine.execMarginTimingProbeDone d n passed s
  | .streamStartArm d w value => Sys2Proof.Machine.execStreamStartArm d w value s
  | .streamStartReached d => Sys2Proof.Machine.execStreamStartReached d s
  | .streamPeriodicSample d n => Sys2Proof.Machine.execStreamPeriodicSample d n s
  | .streamEnableWrite d w n value => Sys2Proof.Machine.execStreamEnableWrite d w n value s
  | .streamScheduleWrite d w n period phase => Sys2Proof.Machine.execStreamScheduleWrite d w n period phase s
  | .streamSourceWrite d w n value => Sys2Proof.Machine.execStreamSourceWrite d w n value s
  | .dumpArm d w n value => Sys2Proof.Machine.execDumpArm d w n value s
  | .dumpTrigger d n => Sys2Proof.Machine.execDumpTrigger d n s
  | .dumpCopyEnd d n data refused => Sys2Proof.Machine.execDumpCopyEnd d n data refused s
  | .dumpHoldExpiry d n => Sys2Proof.Machine.execDumpHoldExpiry d n s
  | .cleatProgramWrite d w q program => Sys2Proof.Machine.execCleatProgramWrite d w q program s
  | .cleatStart d w q => Sys2Proof.Machine.execCleatStart d w q s
  | .cleatStop d w q => Sys2Proof.Machine.execCleatStop d w q s
  | .halt d q => Sys2Proof.Machine.execHalt d q s
  | .nop d q => Sys2Proof.Machine.execNop d q s
  | .reservedOpcode d q => Sys2Proof.Machine.execReservedOpcode d q s
  | .ldi d q => Sys2Proof.Machine.execLdi d q s
  | .addi d q => Sys2Proof.Machine.execAddi d q s
  | .mov d q => Sys2Proof.Machine.execMov d q s
  | .rdtime d q => Sys2Proof.Machine.execRdtime d q s
  | .rdcnt d q => Sys2Proof.Machine.execRdcnt d q s
  | .wtime d q => Sys2Proof.Machine.execWtime d q s
  | .wedge d q => Sys2Proof.Machine.execWedge d q s
  | .wcnt d q => Sys2Proof.Machine.execWcnt d q s
  | .wsig d q => Sys2Proof.Machine.execWsig d q s
  | .waitConditionMet d q => Sys2Proof.Machine.execWaitConditionMet d q s
  | .waitTimeout d q => Sys2Proof.Machine.execWaitTimeout d q s
  | .jmp d q => Sys2Proof.Machine.execJmp d q s
  | .jnz d q => Sys2Proof.Machine.execJnz d q s
  | .djnz d q => Sys2Proof.Machine.execDjnz d q s
  | .jto d q => Sys2Proof.Machine.execJto d q s
  | .jlt d q => Sys2Proof.Machine.execJlt d q s
  | .act d q => Sys2Proof.Machine.execAct d q s
  | .setcmp d q => Sys2Proof.Machine.execSetcmp d q s
  | .sample d q => Sys2Proof.Machine.execSample d q s
  | .emit d q => Sys2Proof.Machine.execEmit d q s
  | .signal d q => Sys2Proof.Machine.execSignal d q s
  | .event d q => Sys2Proof.Machine.execEvent d q s
  | .cleatSignalAction d q => Sys2Proof.Machine.execCleatSignalAction d q s
  | .traceWord d src cycles t => Sys2Proof.Machine.execTraceWord d src cycles t s
  | .cycleIdleLimit d src => Sys2Proof.Machine.execCycleIdleLimit d src s
  | .tstampInterval d => Sys2Proof.Machine.execTstampInterval d s
  | .sourceLpEntry d src cycles => Sys2Proof.Machine.execSourceLpEntry d src cycles s
  | .sourceLpExit d src => Sys2Proof.Machine.execSourceLpExit d src s
  | .sourceReset d src => Sys2Proof.Machine.execSourceReset d src s
  | .sourceResetExit d src => Sys2Proof.Machine.execSourceResetExit d src s
  | .traceConfigStart d w c => Sys2Proof.Machine.execTraceConfigStart d w c s
  | .traceConfigStop d w c => Sys2Proof.Machine.execTraceConfigStop d w c s
  | .pennantModeWrite d w value => Sys2Proof.Machine.execPennantModeWrite d w value s
  | .sinkSelectWrite d w value => Sys2Proof.Machine.execSinkSelectWrite d w value s
  | .sinkReset d w => Sys2Proof.Machine.execSinkReset d w s
  | .sinkGranuleWrite d => Sys2Proof.Machine.execSinkGranuleWrite d s
  | .trigArm d w value => Sys2Proof.Machine.execTrigArm d w value s
  | .trigForce d w => Sys2Proof.Machine.execTrigForce d w s
  | .traceGranuleRx p g poison => Sys2Proof.Machine.execTraceGranuleRx p g poison s
  | .traceFreezeNoticeRx p => Sys2Proof.Machine.execTraceFreezeNoticeRx p s
  | .traceCtlRx d => Sys2Proof.Machine.execTraceCtlRx d s
  | .sliceConfigWrite p w offset bytes => Sys2Proof.Machine.execSliceConfigWrite p w offset bytes s
  | .sliceReset p w => Sys2Proof.Machine.execSliceReset p w s
  | .signalDetect v p => Sys2Proof.Machine.execSignalDetect v p s
  | .laneTrainingDone v p good => Sys2Proof.Machine.execLaneTrainingDone v p good s
  | .trainingAttemptFail v p => Sys2Proof.Machine.execTrainingAttemptFail v p s
  | .fecLockLoss v p => Sys2Proof.Machine.execFecLockLoss v p s
  | .linkCtlInitRx v p item => Sys2Proof.Machine.execLinkCtlInitRx v p item s
  | .linkCtlInitAckRx v p item => Sys2Proof.Machine.execLinkCtlInitAckRx v p item s
  | .pairHelloRx p item digest => Sys2Proof.Machine.execPairHelloRx p item digest s
  | .laneSwapRx p item => Sys2Proof.Machine.execLaneSwapRx p item s
  | .laneDropRx p item => Sys2Proof.Machine.execLaneDropRx p item s
  | .laneAckRx p item => Sys2Proof.Machine.execLaneAckRx p item s
  | .laneReportRx p item => Sys2Proof.Machine.execLaneReportRx p item s
  | .retrainReqRx v p => Sys2Proof.Machine.execRetrainReqRx v p s
  | .laneCancelRx p item => Sys2Proof.Machine.execLaneCancelRx p item s
  | .linkCtlAbandon v p => Sys2Proof.Machine.execLinkCtlAbandon v p s
  | .laneCancelTimeout p => Sys2Proof.Machine.execLaneCancelTimeout p s
  | .laneAckDeadline p => Sys2Proof.Machine.execLaneAckDeadline p s
  | .laneSwitch v p => Sys2Proof.Machine.execLaneSwitch v p s
  | .laneDropSwitch v p => Sys2Proof.Machine.execLaneDropSwitch v p s
  | .deskewHoldEnd v p => Sys2Proof.Machine.execDeskewHoldEnd v p s
  | .laneWindowEnd v p => Sys2Proof.Machine.execLaneWindowEnd v p s
  | .flitTransmit v p => Sys2Proof.Machine.execFlitTransmit v p s
  | .flitRx v p f => Sys2Proof.Machine.execFlitRx v p f s
  | .replayTimeout v p => Sys2Proof.Machine.execReplayTimeout v p s
  | .retrainTimeout v p => Sys2Proof.Machine.execRetrainTimeout v p s
  | .laneSignalLoss v p detect => Sys2Proof.Machine.execLaneSignalLoss v p detect s
  | .failedSilenceTimeout d => Sys2Proof.Machine.execFailedSilenceTimeout d s
  | .portEnableWrite p w value => Sys2Proof.Machine.execPortEnableWrite p w value s
  | .laneClear p w => Sys2Proof.Machine.execLaneClear p w s
  | .pairAccept p w => Sys2Proof.Machine.execPairAccept p w s
  | .controlMergeRelease => Sys2Proof.Machine.execControlMergeRelease s
  | .mergeStallExpiry p => Sys2Proof.Machine.execMergeStallExpiry p s
  | .streamRecordIntake p data poison errors => Sys2Proof.Machine.execStreamRecordIntake p data poison errors s
  | .trayPartialClose x g round => Sys2Proof.Machine.execTrayPartialClose x g round s
  | .mergedRoundClose x g round => Sys2Proof.Machine.execMergedRoundClose x g round s
  | .partialRx m => Sys2Proof.Machine.execPartialRx m s
  | .partAckRx m => Sys2Proof.Machine.execPartAckRx m s
  | .bcastRx m => Sys2Proof.Machine.execBcastRx m s
  | .backRx m => Sys2Proof.Machine.execBackRx m s
  | .heartbeatRx m => Sys2Proof.Machine.execHeartbeatRx m s
  | .adoptRx m => Sys2Proof.Machine.execAdoptRx m s
  | .adoptAckRx m => Sys2Proof.Machine.execAdoptAckRx m s
  | .adoptNakRx m => Sys2Proof.Machine.execAdoptNakRx m s
  | .treeHeartbeatPeriod => Sys2Proof.Machine.execTreeHeartbeatPeriod s
  | .neighbourDead tray => Sys2Proof.Machine.execNeighbourDead tray s
  | .treeAdoptWaitExpiry slot => Sys2Proof.Machine.execTreeAdoptWaitExpiry slot s
  | .treeCommit w => Sys2Proof.Machine.execTreeCommit w s
  | .bcastSubmit w header body => Sys2Proof.Machine.execBcastSubmit w header body s
  | .contextOpenTime x => Sys2Proof.Machine.execContextOpenTime x s
  | .contextCloseTime x => Sys2Proof.Machine.execContextCloseTime x s
  | .drainLimitExpiry x => Sys2Proof.Machine.execDrainLimitExpiry x s
  | .ctxFree w x => Sys2Proof.Machine.execCtxFree w x s
  | .streamClear w => Sys2Proof.Machine.execStreamClear w s
  | .planBytesWrite w j bytes => Sys2Proof.Machine.execPlanBytesWrite w j bytes s
  | .planDigestDone => Sys2Proof.Machine.execPlanDigestDone s
  | .builderSweep n error => Sys2Proof.Machine.execBuilderSweep n error s
  | .bldConfigWrite w config => Sys2Proof.Machine.execBldConfigWrite w config s
  | .bldReset w => Sys2Proof.Machine.execBldReset w s
  | .entDescWrite w value => Sys2Proof.Machine.execEntDescWrite w value s
  | .entClear w => Sys2Proof.Machine.execEntClear w s
  | .refValueWrite w value => Sys2Proof.Machine.execRefValueWrite w value s
  | .skWindowWrite w value => Sys2Proof.Machine.execSkWindowWrite w value s
  | .passStart m => Sys2Proof.Machine.execPassStart m s
  | .workItemDone m row lane cacheHit bank errors node => Sys2Proof.Machine.execWorkItemDone m row lane cacheHit bank errors node s
  | .laneProbeDone g lane ok => Sys2Proof.Machine.execLaneProbeDone g lane ok s
  | .probeIntervalExpiry g lane => Sys2Proof.Machine.execProbeIntervalExpiry g lane s
  | .passRelease m => Sys2Proof.Machine.execPassRelease m s
  | .modelLoad w m => Sys2Proof.Machine.execModelLoad w m s
  | .modelLoadDone m => Sys2Proof.Machine.execModelLoadDone m s
  | .modelUnload w m => Sys2Proof.Machine.execModelUnload w m s
  | .blockSpareFillDone g block => Sys2Proof.Machine.execBlockSpareFillDone g block s
  | .egressBlock d header data poison late => Sys2Proof.Machine.execEgressBlock d header data poison late s
  | .sidebandBlock d header attached data poison late => Sys2Proof.Machine.execSidebandBlock d header attached data poison late s
  | .poisonConsumeReport d slot tag step => Sys2Proof.Machine.execPoisonConsumeReport d slot tag step s
  | .combineTimeout d comb => Sys2Proof.Machine.execCombineTimeout d comb s
  | .coalesceWindowEnd d code => Sys2Proof.Machine.execCoalesceWindowEnd d code s
  | .keyEpochWrite d w k value => Sys2Proof.Machine.execKeyEpochWrite d w k value s
  | .keyValueWrite d w k value => Sys2Proof.Machine.execKeyValueWrite d w k value s
  | .keyClear d w k => Sys2Proof.Machine.execKeyClear d w k s
  | .sampleNotice d sid offset bytes entry => Sys2Proof.Machine.execSampleNotice d sid offset bytes entry s
  | .sampleSkip d sid code => Sys2Proof.Machine.execSampleSkip d sid code s
  | .recomputeAnswer d sid declined result => Sys2Proof.Machine.execRecomputeAnswer d sid declined result s
  | .poisonRequestAnswer d resident => Sys2Proof.Machine.execPoisonRequestAnswer d resident s
  | .verdictCommand d granule => Sys2Proof.Machine.execVerdictCommand d granule s
  | .recomputeCommand d granule => Sys2Proof.Machine.execRecomputeCommand d granule s
  | .poisonReqCommand d granule => Sys2Proof.Machine.execPoisonReqCommand d granule s
  | .shroudSampleRx p msg => Sys2Proof.Machine.execShroudSampleRx p msg s
  | .shroudRecomputeRx p msg => Sys2Proof.Machine.execShroudRecomputeRx p msg s
  | .shroudNoticeRx p granule => Sys2Proof.Machine.execShroudNoticeRx p granule s
  | .clusterRunDone c wrong => Sys2Proof.Machine.execClusterRunDone c wrong s
  | .arbitrationReverifyDone p sid => Sys2Proof.Machine.execArbitrationReverifyDone p sid s
  | .recomputeTimeout p sid => Sys2Proof.Machine.execRecomputeTimeout p sid s
  | .katDue c => Sys2Proof.Machine.execKatDue c s
  | .katDone c pass => Sys2Proof.Machine.execKatDone c pass s
  | .verdictRelease p sid => Sys2Proof.Machine.execVerdictRelease p sid s
  | .profDataWrite w j data => Sys2Proof.Machine.execProfDataWrite w j data s
  | .profClear w j => Sys2Proof.Machine.execProfClear w j s
  | .heldPinWrite w value => Sys2Proof.Machine.execHeldPinWrite w value s
  | .replayGo w => Sys2Proof.Machine.execReplayGo w s
  | .replayDone wrong => Sys2Proof.Machine.execReplayDone wrong s
  | .cutArmWrite w arm => Sys2Proof.Machine.execCutArmWrite w arm s
  | .cutArmCommand d head => Sys2Proof.Machine.execCutArmCommand d head s
  | .cutCancelCommand d => Sys2Proof.Machine.execCutCancelCommand d s
  | .cutReady d step => Sys2Proof.Machine.execCutReady d step s
  | .readyTimeout d => Sys2Proof.Machine.execReadyTimeout d s
  | .absorptionComplete d data => Sys2Proof.Machine.execAbsorptionComplete d data s
  | .stayChunkRx p header spoilt data => Sys2Proof.Machine.execStayChunkRx p header spoilt data s
  | .chunkDigestDone slot errors => Sys2Proof.Machine.execChunkDigestDone slot errors s
  | .stayEndRx p granule => Sys2Proof.Machine.execStayEndRx p granule s
  | .digestsRx header body => Sys2Proof.Machine.execDigestsRx header body s
  | .exchangeWaitExpiry => Sys2Proof.Machine.execExchangeWaitExpiry s
  | .nvmeCapsuleRespRx t cid ok => Sys2Proof.Machine.execNvmeCapsuleRespRx t cid ok s
  | .nvmeR2tRx t cid ttag offset length errors => Sys2Proof.Machine.execNvmeR2tRx t cid ttag offset length errors s
  | .nvmeIcrespRx t q hdgst ddgst most => Sys2Proof.Machine.execNvmeIcrespRx t q hdgst ddgst most s
  | .nvmeC2hDataRx t id => Sys2Proof.Machine.execNvmeC2hDataRx t id s
  | .nvmeTermReqRx t => Sys2Proof.Machine.execNvmeTermReqRx t s
  | .nvmeWriteRetry t cid => Sys2Proof.Machine.execNvmeWriteRetry t cid s
  | .hostAckWrite w value => Sys2Proof.Machine.execHostAckWrite w value s
  | .prepResendPeriod => Sys2Proof.Machine.execPrepResendPeriod s
  | .handoffRx header body => Sys2Proof.Machine.execHandoffRx header body s
  | .handoffAckRx header => Sys2Proof.Machine.execHandoffAckRx header s
  | .handoffNakRx header => Sys2Proof.Machine.execHandoffNakRx header s
  | .preparedRx header digest => Sys2Proof.Machine.execPreparedRx header digest s
  | .unusableRx header => Sys2Proof.Machine.execUnusableRx header s
  | .commitRx header digest => Sys2Proof.Machine.execCommitRx header digest s
  | .commitAckRx header => Sys2Proof.Machine.execCommitAckRx header s
  | .abortRx header => Sys2Proof.Machine.execAbortRx header s
  | .commitWaitExpiry => Sys2Proof.Machine.execCommitWaitExpiry s
  | .coordTrayWrite w value => Sys2Proof.Machine.execCoordTrayWrite w value s
  | .prepInject w pos digest => Sys2Proof.Machine.execPrepInject w pos digest s
  | .cutAbandon w => Sys2Proof.Machine.execCutAbandon w s
  | .stayBytesWrite w value => Sys2Proof.Machine.execStayBytesWrite w value s
  | .rstPropose w proposal => Sys2Proof.Machine.execRstPropose w proposal s
  | .rstLoaded w => Sys2Proof.Machine.execRstLoaded w s
  | .rstLoadedTimeout => Sys2Proof.Machine.execRstLoadedTimeout s
  | .rstConfirm w cut => Sys2Proof.Machine.execRstConfirm w cut s
  | .rstFilled w value => Sys2Proof.Machine.execRstFilled w value s
  | .fillVerifyDone slot => Sys2Proof.Machine.execFillVerifyDone slot s
  | .stayApertureWrite w offset bytes data => Sys2Proof.Machine.execStayApertureWrite w offset bytes data s
  | .restoreBeginCommand d head => Sys2Proof.Machine.execRestoreBeginCommand d head s
  | .restoreCancelCommand d => Sys2Proof.Machine.execRestoreCancelCommand d s
  | .restoreChunkRx d header data => Sys2Proof.Machine.execRestoreChunkRx d header data s
  | .restoreMarkerRx d granule => Sys2Proof.Machine.execRestoreMarkerRx d granule s
  | .restoreEndRx p granule => Sys2Proof.Machine.execRestoreEndRx p granule s
  | .energySliceBoundary d missing => Sys2Proof.Machine.execEnergySliceBoundary d missing s
  | .requestOpen d w ctx reqId epoch => Sys2Proof.Machine.execRequestOpen d w ctx reqId epoch s
  | .requestClose d w ctx reqId epoch => Sys2Proof.Machine.execRequestClose d w ctx reqId epoch s
  | .totalsClear d w => Sys2Proof.Machine.execTotalsClear d w s
  | .batchAck w bsn => Sys2Proof.Machine.execBatchAck w bsn s
  | .frameEnqueue kind q dst len => Sys2Proof.Machine.execFrameEnqueue kind q dst len s
  | .frameTxDone q => Sys2Proof.Machine.execFrameTxDone q s
  | .gateEntryEnd q => Sys2Proof.Machine.execGateEntryEnd q s
  | .anchorInstant q => Sys2Proof.Machine.execAnchorInstant q s
  | .anchorLossExpiry q => Sys2Proof.Machine.execAnchorLossExpiry q s
  | .changeSchedule w q => Sys2Proof.Machine.execChangeSchedule w q s
  | .changeCancel w q => Sys2Proof.Machine.execChangeCancel w q s
  | .gateTakeover q => Sys2Proof.Machine.execGateTakeover q s
  | .classMapWrite w map => Sys2Proof.Machine.execClassMapWrite w map s
  | .cbsConfigWrite w q c field value => Sys2Proof.Machine.execCbsConfigWrite w q c field value s
  | .fabricLinkUp q => Sys2Proof.Machine.execFabricLinkUp q s
  | .shadowDescWrite p n w desc => Sys2Proof.Machine.execShadowDescWrite p n w desc s
  | .dmaArm p n w => Sys2Proof.Machine.execDmaArm p n w s
  | .dmaCancel p n w => Sys2Proof.Machine.execDmaCancel p n w s
  | .dmaAbort p n w => Sys2Proof.Machine.execDmaAbort p n w s
  | .dmaClear p n w => Sys2Proof.Machine.execDmaClear p n w s
  | .dmaReset p n w => Sys2Proof.Machine.execDmaReset p n w s
  | .dmaTransferStart p n => Sys2Proof.Machine.execDmaTransferStart p n s
  | .dmaAccessDone p n a => Sys2Proof.Machine.execDmaAccessDone p n a s
  | .dmaTransferEnd p n recordOk => Sys2Proof.Machine.execDmaTransferEnd p n recordOk s
  | .dmaChannelClaim p n => Sys2Proof.Machine.execDmaChannelClaim p n s
  | .dmaChannelRelease p n => Sys2Proof.Machine.execDmaChannelRelease p n s
  | .classifierLeak p errors => Sys2Proof.Machine.execClassifierLeak p errors s
  | .hbmRowRepairDone => Sys2Proof.Machine.execHbmRowRepairDone s
  | .watchdogAssert d dom => Sys2Proof.Machine.execWatchdogAssert d dom s
  | .hangWindowExpiry d dom => Sys2Proof.Machine.execHangWindowExpiry d dom s
  | .domHangCommand d w dom => Sys2Proof.Machine.execDomHangCommand d w dom s
  | .domResetCommand d w dom => Sys2Proof.Machine.execDomResetCommand d w dom s
  | .domSampleCommand d w dom => Sys2Proof.Machine.execDomSampleCommand d w dom s
  | .hangCommand d dom => Sys2Proof.Machine.execHangCommand d dom s
  | .outOfServiceCommand d => Sys2Proof.Machine.execOutOfServiceCommand d s
  | .hangSampleSent d dom data => Sys2Proof.Machine.execHangSampleSent d dom data s
  | .resetHoldExpiry d dom => Sys2Proof.Machine.execResetHoldExpiry d dom s
  | .resetDone d dom kept => Sys2Proof.Machine.execResetDone d dom kept s
  | .resetAckTimeout d dom => Sys2Proof.Machine.execResetAckTimeout d dom s
  | .returnToService d w => Sys2Proof.Machine.execReturnToService d w s
  | .portOosClear w p => Sys2Proof.Machine.execPortOosClear w p s
  | .hangSampleRx p msg => Sys2Proof.Machine.execHangSampleRx p msg s
  | .hangSampleRelease w p => Sys2Proof.Machine.execHangSampleRelease w p s
  | .instClear w => Sys2Proof.Machine.execInstClear w s
  | .softReset d w => Sys2Proof.Machine.execSoftReset d w s
  | .warmReset w => Sys2Proof.Machine.execWarmReset w s
  | .perstAssert => Sys2Proof.Machine.execPerstAssert s
  | .perstDeassert => Sys2Proof.Machine.execPerstDeassert s
  | .pcieFlr => Sys2Proof.Machine.execPcieFlr s
  | .pciePowerStateChange state => Sys2Proof.Machine.execPciePowerStateChange state s
  | .vagerPowerOn spares foreign => Sys2Proof.Machine.execVagerPowerOn spares foreign s
  | .pwrgoodFall => Sys2Proof.Machine.execPwrgoodFall s
  | .starisResetRelease d => Sys2Proof.Machine.execStarisResetRelease d s
  | .authNsPrivWrite d w value => Sys2Proof.Machine.execAuthNsPrivWrite d w value s
  | .authSecureWrite d w value => Sys2Proof.Machine.execAuthSecureWrite d w value s
  | .authExpiry d sec => Sys2Proof.Machine.execAuthExpiry d sec s
  | .dbgGrantWrite w value => Sys2Proof.Machine.execDbgGrantWrite w value s
  | .dbgExpiry => Sys2Proof.Machine.execDbgExpiry s
  | .lkOfferWrite d w offer => Sys2Proof.Machine.execLkOfferWrite d w offer s
  | .linkKeyEstablished p failed => Sys2Proof.Machine.execLinkKeyEstablished p failed s
  | .linkKeyRetry p => Sys2Proof.Machine.execLinkKeyRetry p s
  | .dtlsHandshake h => Sys2Proof.Machine.execDtlsHandshake h s
  | .sessionIdleExpiry session => Sys2Proof.Machine.execSessionIdleExpiry session s
  | .taBytesWrite w a value valid => Sys2Proof.Machine.execTaBytesWrite w a value valid s
  | .opCertBytesWrite w value matching expired => Sys2Proof.Machine.execOpCertBytesWrite w value matching expired s
  | .spdmRequest request => Sys2Proof.Machine.execSpdmRequest request s
  | .sheetRead session r => Sys2Proof.Machine.execSheetRead session r s
  | .sheetWrite session r => Sys2Proof.Machine.execSheetWrite session r s
  | .sheetStage session r => Sys2Proof.Machine.execSheetStage session r s
  | .sheetStageCancel session r => Sys2Proof.Machine.execSheetStageCancel session r s
  | .sheetSegRead session r => Sys2Proof.Machine.execSheetSegRead session r s
  | .sheetSegWrite session r => Sys2Proof.Machine.execSheetSegWrite session r s
  | .sheetSubscribe session r => Sys2Proof.Machine.execSheetSubscribe session r s
  | .sheetSpdm session r => Sys2Proof.Machine.execSheetSpdm session r s
  | .sheetEcho session r => Sys2Proof.Machine.execSheetEcho session r s
  | .stagedGroupApply p group => Sys2Proof.Machine.execStagedGroupApply p group s
  | .stageEpochExpiry group => Sys2Proof.Machine.execStageEpochExpiry group s
  | .stagedGroupForward group => Sys2Proof.Machine.execStagedGroupForward group s
  | .dictReqRx d w r => Sys2Proof.Machine.execDictReqRx d w r s
  | .proxyTimeout p => Sys2Proof.Machine.execProxyTimeout p s
  | .mbGo a sec vector r => Sys2Proof.Machine.execMbGo a sec vector r s
  | .mgmtCommit w value => Sys2Proof.Machine.execMgmtCommit w value s
  | .cnKick w => Sys2Proof.Machine.execCnKick w s
  | .cnWatchdogExpiry => Sys2Proof.Machine.execCnWatchdogExpiry s
  | .cnCoreFault => Sys2Proof.Machine.execCnCoreFault s
  | .cnRestartDelayEnd => Sys2Proof.Machine.execCnRestartDelayEnd s
  | .cnBootVerifyDone slot0 slot1 => Sys2Proof.Machine.execCnBootVerifyDone slot0 slot1 s
  | .cnSensorSample thermal rails => Sys2Proof.Machine.execCnSensorSample thermal rails s
  | .recordNorWriteDone => Sys2Proof.Machine.execRecordNorWriteDone s
  | .norSectorEraseDone => Sys2Proof.Machine.execNorSectorEraseDone s
  | .recFreeze w => Sys2Proof.Machine.execRecFreeze w s
  | .recThaw w => Sys2Proof.Machine.execRecThaw w s
  | .recFreezeLimitExpiry => Sys2Proof.Machine.execRecFreezeLimitExpiry s
  | .recClear w serial => Sys2Proof.Machine.execRecClear w serial s
  | .recClearDone => Sys2Proof.Machine.execRecClearDone s
  | .opHourBoundary => Sys2Proof.Machine.execOpHourBoundary s
  | .fwStageBytesWrite w value => Sys2Proof.Machine.execFwStageBytesWrite w value s
  | .fwStageCheckDone signed written => Sys2Proof.Machine.execFwStageCheckDone signed written s
  | .maintStopWrite w value => Sys2Proof.Machine.execMaintStopWrite w value s
  | .fwActivateCrowsNest w => Sys2Proof.Machine.execFwActivateCrowsNest w s
  | .fwActivateStaris w => Sys2Proof.Machine.execFwActivateStaris w s
  | .fwConfirm w => Sys2Proof.Machine.execFwConfirm w s
  | .fwTrialExpiry => Sys2Proof.Machine.execFwTrialExpiry s
  | .powerRevisit p busy hbmIdle => Sys2Proof.Machine.execPowerRevisit p busy hbmIdle s
  | .domainWakeDone p domain => Sys2Proof.Machine.execDomainWakeDone p domain s
  | .wakeWrite p w f => Sys2Proof.Machine.execWakeWrite p w f s
  | .wakeHoldExpiry p f => Sys2Proof.Machine.execWakeHoldExpiry p f s
  | .registerWrite p w index sub data => Sys2Proof.Machine.execRegisterWrite p w index sub data s
  | .retrainDone v p => Sys2Proof.Machine.execRetrainDone v p s
  | .spareCoreRemap d source slot kind => Sys2Proof.Machine.execSpareCoreRemap d source slot kind s
  | .sessionClose session => Sys2Proof.Machine.execSessionClose session s
  | .mgmtLinkChange link => Sys2Proof.Machine.execMgmtLinkChange link s

end Sys2Proof.Machine
end

