-- ==== Sys2Proof/WellFormed.lean ====
section
/-! DEFINITION. WellFormed.lean: which commands a sender can form: every operand fits the field that the spec gives it, bytes are bytes
and granules are granules. A command that is not well formed comes from no bus; the machine's meanings do not depend on it. -/

namespace Sys2Proof

/-- A number fits a field of `w` bits. -/
def fits (w x : Nat) : Bool := decide (x < 2 ^ w)

/-- A number fits a two's complement field of `w` bits. -/
def fitsSigned (w : Nat) (x : Int) : Bool := decide (-(2 ^ (w - 1) : Int) ≤ x) && decide (x < (2 ^ (w - 1) : Int))

/-- Every number fits a field of `w` bits. -/
def allFit (w : Nat) (l : List Nat) : Bool := l.all (fits w)

/-- Granules of 256 bits, each with its poison mark. -/
def granulesFit (l : List (Nat × Bool)) : Bool := l.all fun g => fits 256 g.1

/-- A descriptor event at the tap (R572). -/
def cdtOk (c : CdtWord) : Bool :=
  fits 64 c.base && fits 40 c.bytes && fits 32 c.tag && fits 32 c.step && fits 32 c.epoch && fits 14 c.ectx && fits 8 c.slot
    && fits 8 c.opcode && fits 16 c.dseq

/-- A trace word (R574). -/
def trcOk (t : TrcWord) : Bool := fits 64 t.addr && fits 64 t.aux && fits 8 t.opc

/-- What a receiver hands over: codewords of nine lanes of 10-bit symbols (R154). -/
def flitOk (f : FlitIn) : Bool := f.words.all fun w => w.lanes.length == 9 && w.lanes.all fun l => allFit 10 l

/-- An entry of a Sheet request (R508). -/
def entryOk (e : SheetEntry) : Bool :=
  fits 16 e.index && fits 8 e.sub && fits 8 e.node && fits 16 e.len && fits 40 e.offset && allFit 8 e.data

/-- A Sheet request (R507). -/
def sheetOk (r : SheetReq) : Bool := fits 8 r.version && fits 8 r.op && fits 32 r.tid && r.entries.all entryOk

/-- A message of the pod tree (R213). -/
def treeOk (m : TreeMsg) : Bool :=
  fits 128 m.address && fits 8 m.type && fits 64 m.round && fits 32 m.epoch && fits 32 m.bseq && fits 14 m.missing
    && fits 14 m.cover && fits 13 m.src && fits 8 m.group && allFit 256 m.body

/-- An error names one of the 384 pseudo-channels (R446), and at most the 288 bits of a codeword (R31). -/
def hbmOk (e : HbmError) : Bool := decide (e.channel < 384) && fits 32 e.row && fits 288 e.flips

/-- Errors of the granules of a read of `n` of them. -/
def errorsOk (n : Nat) (l : List (Nat × HbmError)) : Bool := l.all fun e => decide (e.1 < n) && hbmOk e.2

/-- An error of an SRAM bank, or of one of the granules of HBM. -/
def memOk (e : MemError) : Bool :=
  match e with
  | .sram bank _ => fits 16 bank
  | .hbm granule e => decide (granule < 18000000000) && hbmOk e

/-- The memories' answer to a granule of a transfer. -/
def dmaOk (a : DmaAccess) : Bool := fits 256 a.data && a.error.all hbmOk

/-- A finished handshake (R490): a chain of at most four certificates names each anchor once. -/
def handshakeOk (h : Handshake) : Bool := allFit 8 h.key && decide h.anchors.Nodup && decide (h.address < 3)

/-- A PTP header: a domain of eight bits, a clock identity of eight bytes, a sequenceId of sixteen bits, a logMessageInterval of
eight (R47, R64). -/
def ptpHeaderOk (h : PtpHeader) : Bool :=
  fits 8 h.domain && decide (h.transport < 3) && fits 64 h.identity && fits 16 h.seqId && fitsSigned 8 h.log

/-- A PTP message: its header, and times of 64 bits (R47). -/
def ptpOk : PtpMessage → Bool
  | .announce h ds => ptpHeaderOk h && fits 64 ds.identity
  | .sync h _ origin _ => ptpHeaderOk h && fits 64 origin
  | .followUp h origin _ => ptpHeaderOk h && fits 64 origin
  | .delayReq h => ptpHeaderOk h
  | .delayResp h received _ => ptpHeaderOk h && fits 64 received
  | .pdelayReq h => ptpHeaderOk h
  | .pdelayResp h _ received _ => ptpHeaderOk h && fits 64 received
  | .pdelayFollowUp h origin _ => ptpHeaderOk h && fits 64 origin
  | .other => true

/-- A converter result: a rail's codes have twelve bits (R93). -/
def converterOk : ConverterSample → Bool
  | .thermal _ value => fitsSigned 32 value
  | .optical _ value => fitsSigned 32 value
  | .rail _ volts amps => fits 12 volts && fits 12 amps
  | .check channel code => fits 5 channel && fits 12 code

/-- Every operand of the command fits its field. -/
def Instr.wellFormed : Instr → Bool
  | .counterWrap _ => true
  | .incrementWrite _ _ value => fits 64 value
  | .modeWrite _ _ value => fits 8 value
  | .stepWrite _ _ value => fits 32 value
  | .twExchangePeriod => true
  | .downWordRx _ word _ => fits 256 word
  | .upWordRx _ word _ => fits 256 word
  | .starisHoldoverTimeout _ => true
  | .ptpMessageRx m => ptpOk m
  | .announceTimeout => true
  | .syncTimeout => true
  | .ptpEventTx seqId msgType domain => fits 16 seqId && fits 4 msgType && fits 8 domain
  | .tsqPop _ => true
  | .tsqOverflowClear _ => true
  | .sourceWrite _ value => fits 8 value
  | .secondsSetWrite _ seconds => fits 64 seconds
  | .secondsSetStep => true
  | .ppsInEdge => true
  | .ppsOutEdge => true
  | .pllLossOfLock _ => true
  | .pllRelock _ => true
  | .cmpArm _ _ _ => true
  | .cmpDisarm _ _ _ => true
  | .comparatorFire _ _ => true
  | .eventEdge _ _ _ _ => true
  | .polarityWrite _ _ polarity => allFit 8 polarity
  | .staleScan _ _ => true
  | .evtFlagsClear _ _ mask => allFit 8 mask
  | .descriptorStart _ c => cdtOk c
  | .descriptorDone _ c => cdtOk c
  | .descriptorAbandon _ c => cdtOk c
  | .cntConfigWrite _ _ _ value => fits 64 value
  | .cntClear _ _ _ => true
  | .freeze _ => true
  | .snapRelease _ _ => true
  | .converterResult _ r => converterOk r
  | .railConverterRephase _ _ => true
  | .converterSequenceStart _ _ => true
  | .sequencePeriodRestart _ _ => true
  | .droopTrip _ _ => true
  | .canaryFail _ _ => true
  | .canaryCodeWrite _ _ codes => allFit 8 codes
  | .marginPassStart _ _ => true
  | .marginDwellEnd _ _ _ => true
  | .marginTimingProbeDone _ _ _ => true
  | .streamStartArm _ _ _ => true
  | .streamStartReached _ => true
  | .streamPeriodicSample _ _ => true
  | .streamEnableWrite _ _ _ _ => true
  | .streamScheduleWrite _ _ _ period phase => fits 16 period && fits 32 phase
  | .streamSourceWrite _ _ _ value => fits 32 value
  | .dumpArm _ _ _ _ => true
  | .dumpTrigger _ _ => true
  | .dumpCopyEnd _ _ data _ => granulesFit data
  | .dumpHoldExpiry _ _ => true
  | .cleatProgramWrite _ _ _ program => allFit 8 program
  | .cleatStart _ _ _ => true
  | .cleatStop _ _ _ => true
  | .halt _ _ => true
  | .nop _ _ => true
  | .reservedOpcode _ _ => true
  | .ldi _ _ => true
  | .addi _ _ => true
  | .mov _ _ => true
  | .rdtime _ _ => true
  | .rdcnt _ _ => true
  | .wtime _ _ => true
  | .wedge _ _ => true
  | .wcnt _ _ => true
  | .wsig _ _ => true
  | .waitConditionMet _ _ => true
  | .waitTimeout _ _ => true
  | .jmp _ _ => true
  | .jnz _ _ => true
  | .djnz _ _ => true
  | .jto _ _ => true
  | .jlt _ _ => true
  | .act _ _ => true
  | .setcmp _ _ => true
  | .sample _ _ => true
  | .emit _ _ => true
  | .signal _ _ => true
  | .event _ _ => true
  | .cleatSignalAction _ _ => true
  | .traceWord _ _ cycles t => fits 32 cycles && trcOk t
  | .cycleIdleLimit _ _ => true
  | .tstampInterval _ => true
  | .sourceLpEntry _ _ cycles => fits 32 cycles
  | .sourceLpExit _ _ => true
  | .sourceReset _ _ => true
  | .sourceResetExit _ _ => true
  | .traceConfigStart _ _ _ => true
  | .traceConfigStop _ _ _ => true
  | .pennantModeWrite _ _ value => fits 8 value
  | .sinkSelectWrite _ _ value => fits 8 value
  | .sinkReset _ _ => true
  | .sinkGranuleWrite _ => true
  | .trigArm _ _ _ => true
  | .trigForce _ _ => true
  | .traceGranuleRx _ g _ => fits 256 g
  | .traceFreezeNoticeRx _ => true
  | .traceCtlRx _ => true
  | .sliceConfigWrite _ _ offset bytes => fits 64 offset && fits 64 bytes
  | .sliceReset _ _ => true
  | .signalDetect _ _ => true
  | .laneTrainingDone _ _ good => fits 9 good
  | .trainingAttemptFail _ _ => true
  | .fecLockLoss _ _ => true
  | .linkCtlInitRx _ _ item => fits 256 item
  | .linkCtlInitAckRx _ _ item => fits 256 item
  | .pairHelloRx _ item digest => fits 256 item && allFit 8 digest
  | .laneSwapRx _ item => fits 256 item
  | .laneDropRx _ item => fits 256 item
  | .laneAckRx _ item => fits 256 item
  | .laneReportRx _ item => fits 256 item
  | .retrainReqRx _ _ => true
  | .laneCancelRx _ item => fits 256 item
  | .linkCtlAbandon _ _ => true
  | .laneCancelTimeout _ => true
  | .laneAckDeadline _ => true
  | .laneSwitch _ _ => true
  | .laneDropSwitch _ _ => true
  | .deskewHoldEnd _ _ => true
  | .laneWindowEnd _ _ => true
  | .flitTransmit _ _ => true
  | .flitRx _ _ f => flitOk f
  | .replayTimeout _ _ => true
  | .retrainTimeout _ _ => true
  | .laneSignalLoss _ _ detect => fits 9 detect
  | .failedSilenceTimeout _ => true
  | .portEnableWrite _ _ _ => true
  | .laneClear _ _ => true
  | .pairAccept _ _ => true
  | .controlMergeRelease => true
  | .mergeStallExpiry _ => true
  | .streamRecordIntake _ data _ errors => fits 256 data && errorsOk (2 ^ 22) errors
  | .trayPartialClose _ _ round => fits 64 round
  | .mergedRoundClose _ _ round => fits 64 round
  | .partialRx m => treeOk m
  | .partAckRx m => treeOk m
  | .bcastRx m => treeOk m
  | .backRx m => treeOk m
  | .heartbeatRx m => treeOk m
  | .adoptRx m => treeOk m
  | .adoptAckRx m => treeOk m
  | .adoptNakRx m => treeOk m
  | .treeHeartbeatPeriod => true
  | .neighbourDead tray => fits 13 tray
  | .treeAdoptWaitExpiry _ => true
  | .treeCommit _ => true
  | .bcastSubmit _ header body => fits 256 header && allFit 256 body
  | .contextOpenTime _ => true
  | .contextCloseTime _ => true
  | .drainLimitExpiry _ => true
  | .ctxFree _ _ => true
  | .streamClear _ => true
  | .planBytesWrite _ _ bytes => fits 32 bytes
  | .planDigestDone => true
  | .builderSweep n error => fits 22 n && error.all hbmOk
  | .bldConfigWrite _ config => allFit 8 config
  | .bldReset _ => true
  | .entDescWrite _ value => fits 64 value
  | .entClear _ => true
  | .refValueWrite _ value => fitsSigned 64 value
  | .skWindowWrite _ value => fits 32 value
  | .passStart _ => true
  | .workItemDone _ row _ _ _ errors node => fits 20 row && errorsOk 4 errors && node.all fun x => fits 20 x.1
  | .laneProbeDone _ _ _ => true
  | .probeIntervalExpiry _ _ => true
  | .passRelease _ => true
  | .modelLoad _ _ => true
  | .modelLoadDone _ => true
  | .modelUnload _ _ => true
  | .blockSpareFillDone _ block => fits 6 block
  | .egressBlock _ header data _ _ => fits 256 header && allFit 256 data
  | .sidebandBlock _ header attached data _ _ => fits 256 header && fits 256 attached && allFit 256 data
  | .poisonConsumeReport _ slot tag step => fits 8 slot && fits 32 tag && fits 32 step
  | .combineTimeout _ comb => fits 16 comb
  | .coalesceWindowEnd _ code => fits 8 code
  | .keyEpochWrite _ _ _ value => fits 32 value
  | .keyValueWrite _ _ _ value => allFit 8 value
  | .keyClear _ _ _ => true
  | .sampleNotice _ sid offset bytes entry => fits 32 sid && fits 40 offset && fits 32 bytes && granulesFit entry
  | .sampleSkip _ sid code => fits 32 sid && fits 8 code
  | .recomputeAnswer _ sid _ result => fits 32 sid && granulesFit result
  | .poisonRequestAnswer _ _ => true
  | .verdictCommand _ granule => fits 256 granule
  | .recomputeCommand _ granule => fits 256 granule
  | .poisonReqCommand _ granule => fits 256 granule
  | .shroudSampleRx _ msg => granulesFit msg
  | .shroudRecomputeRx _ msg => granulesFit msg
  | .shroudNoticeRx _ granule => fits 256 granule
  | .clusterRunDone _ _ => true
  | .arbitrationReverifyDone _ sid => fits 32 sid
  | .recomputeTimeout _ sid => fits 32 sid
  | .katDue _ => true
  | .katDone _ _ => true
  | .verdictRelease _ sid => fits 32 sid
  | .profDataWrite _ _ data => allFit 8 data
  | .profClear _ _ => true
  | .heldPinWrite _ _ => true
  | .replayGo _ => true
  | .replayDone _ => true
  | .cutArmWrite _ arm => fits 256 arm
  | .cutArmCommand _ head => fits 192 head
  | .cutCancelCommand _ => true
  | .cutReady _ step => fits 32 step
  | .readyTimeout _ => true
  | .absorptionComplete _ data => data.all granulesFit
  | .stayChunkRx _ header _ data => fits 256 header && granulesFit data
  | .chunkDigestDone _ errors => errorsOk 131072 errors
  | .stayEndRx _ granule => fits 256 granule
  | .digestsRx header body => fits 256 header && allFit 256 body
  | .exchangeWaitExpiry => true
  | .nvmeCapsuleRespRx _ cid _ => fits 16 cid
  | .nvmeR2tRx _ cid ttag offset length errors =>
    fits 16 cid && fits 16 ttag && fits 32 offset && fits 32 length && errorsOk 131072 errors
  | .nvmeIcrespRx _ _ _ _ most => fits 32 most
  | .nvmeC2hDataRx _ _ => true
  | .nvmeTermReqRx _ => true
  | .nvmeWriteRetry _ cid => fits 16 cid
  | .hostAckWrite _ value => fits 64 value
  | .prepResendPeriod => true
  | .handoffRx header body => fits 256 header && allFit 256 body
  | .handoffAckRx header => fits 256 header
  | .handoffNakRx header => fits 256 header
  | .preparedRx header digest => fits 256 header && fits 256 digest
  | .unusableRx header => fits 256 header
  | .commitRx header digest => fits 256 header && fits 256 digest
  | .commitAckRx header => fits 256 header
  | .abortRx header => fits 256 header
  | .commitWaitExpiry => true
  | .coordTrayWrite _ value => fits 16 value
  | .prepInject _ pos digest => fits 16 pos && allFit 8 digest
  | .cutAbandon _ => true
  | .stayBytesWrite _ value => fits 64 value
  | .rstPropose _ proposal => fits 512 proposal
  | .rstLoaded _ => true
  | .rstLoadedTimeout => true
  | .rstConfirm _ cut => fits 32 cut
  | .rstFilled _ value => fits 32 value
  | .fillVerifyDone _ => true
  | .stayApertureWrite _ offset _ _ => fits 40 offset
  | .restoreBeginCommand _ head => fits 192 head
  | .restoreCancelCommand _ => true
  | .restoreChunkRx _ header data => fits 256 header && granulesFit data
  | .restoreMarkerRx _ granule => fits 256 granule
  | .restoreEndRx _ granule => fits 256 granule
  | .energySliceBoundary _ _ => true
  | .requestOpen _ _ ctx reqId epoch => fits 16 ctx && fits 64 reqId && fits 32 epoch
  | .requestClose _ _ ctx reqId epoch => fits 16 ctx && fits 64 reqId && fits 32 epoch
  | .totalsClear _ _ => true
  | .batchAck _ bsn => fits 64 bsn
  | .frameEnqueue _ _ dst len => fits 128 dst && decide (len ≤ 9000)
  | .frameTxDone _ => true
  | .gateEntryEnd _ => true
  | .anchorInstant _ => true
  | .anchorLossExpiry _ => true
  | .changeSchedule _ _ => true
  | .changeCancel _ _ => true
  | .gateTakeover _ => true
  | .classMapWrite _ map => allFit 8 map
  | .cbsConfigWrite _ _ _ _ value => fitsSigned 64 value
  | .fabricLinkUp _ => true
  | .shadowDescWrite _ _ _ desc => fits 512 desc
  | .dmaArm _ _ _ => true
  | .dmaCancel _ _ _ => true
  | .dmaAbort _ _ _ => true
  | .dmaClear _ _ _ => true
  | .dmaReset _ _ _ => true
  | .dmaTransferStart _ _ => true
  | .dmaAccessDone _ _ a => dmaOk a
  | .dmaTransferEnd _ _ _ => true
  | .dmaChannelClaim _ _ => true
  | .dmaChannelRelease _ _ => true
  | .classifierLeak _ errors => errors.all memOk
  | .hbmRowRepairDone => true
  | .watchdogAssert _ _ => true
  | .hangWindowExpiry _ _ => true
  | .domHangCommand _ _ _ => true
  | .domResetCommand _ _ _ => true
  | .domSampleCommand _ _ _ => true
  | .hangCommand _ _ => true
  | .outOfServiceCommand _ => true
  | .hangSampleSent _ _ data => granulesFit data
  | .resetHoldExpiry _ _ => true
  | .resetDone _ _ _ => true
  | .resetAckTimeout _ _ => true
  | .returnToService _ _ => true
  | .portOosClear _ _ => true
  | .hangSampleRx _ msg => granulesFit msg
  | .hangSampleRelease _ _ => true
  | .instClear _ => true
  | .softReset _ _ => true
  | .warmReset _ => true
  | .perstAssert => true
  | .perstDeassert => true
  | .pcieFlr => true
  | .pciePowerStateChange state => fits 2 state
  | .vagerPowerOn _ _ => true
  | .pwrgoodFall => true
  | .starisResetRelease _ => true
  | .authNsPrivWrite _ _ _ => true
  | .authSecureWrite _ _ _ => true
  | .authExpiry _ _ => true
  | .dbgGrantWrite _ _ => true
  | .dbgExpiry => true
  | .lkOfferWrite _ _ offer => allFit 8 offer
  | .linkKeyEstablished _ _ => true
  | .linkKeyRetry _ => true
  | .dtlsHandshake h => handshakeOk h
  | .sessionIdleExpiry _ => true
  | .taBytesWrite _ _ value _ => fits 16 value
  | .opCertBytesWrite _ value _ _ => fits 16 value
  | .spdmRequest request => allFit 8 request
  | .sheetRead _ r => sheetOk r
  | .sheetWrite _ r => sheetOk r
  | .sheetStage _ r => sheetOk r
  | .sheetStageCancel _ r => sheetOk r
  | .sheetSegRead _ r => sheetOk r
  | .sheetSegWrite _ r => sheetOk r
  | .sheetSubscribe _ r => sheetOk r
  | .sheetSpdm _ r => sheetOk r
  | .sheetEcho _ r => sheetOk r
  | .stagedGroupApply _ group => fits 32 group
  | .stageEpochExpiry group => fits 32 group
  | .stagedGroupForward group => fits 32 group
  | .dictReqRx _ _ r => sheetOk r
  | .proxyTimeout _ => true
  | .mbGo _ _ vector r => fits 16 vector && sheetOk r
  | .mgmtCommit _ _ => true
  | .cnKick _ => true
  | .cnWatchdogExpiry => true
  | .cnCoreFault => true
  | .cnRestartDelayEnd => true
  | .cnBootVerifyDone _ _ => true
  | .cnSensorSample thermal rails => thermal.all (fitsSigned 32) && allFit 16 rails
  | .recordNorWriteDone => true
  | .norSectorEraseDone => true
  | .recFreeze _ => true
  | .recThaw _ => true
  | .recFreezeLimitExpiry => true
  | .recClear _ _ => true
  | .recClearDone => true
  | .opHourBoundary => true
  | .fwStageBytesWrite _ value => fits 32 value
  | .fwStageCheckDone _ _ => true
  | .maintStopWrite _ _ => true
  | .fwActivateCrowsNest _ => true
  | .fwActivateStaris _ => true
  | .fwConfirm _ => true
  | .fwTrialExpiry => true
  | .powerRevisit _ _ _ => true
  | .domainWakeDone _ _ => true
  | .wakeWrite _ _ _ => true
  | .wakeHoldExpiry _ _ => true
  | .registerWrite _ _ index sub data => fits 16 index && fits 8 sub && allFit 8 data
  | .retrainDone _ _ => true
  | .spareCoreRemap _ _ _ _ => true
  | .sessionClose _ => true
  | .mgmtLinkChange _ => true

end Sys2Proof
end

