-- ==== Sys2Proof/Safety.lean ====
section
/-! DEFINITION. Safety.lean: what counts as a sound state and a safe run of the tray, in the terms that claims use. -/

namespace Sys2Proof.Machine
open Sys2Proof

/-- The object and octet tables of every part are in their canonical form. -/
def State.tablesWf (s : State) : Bool :=
  Tbl.wf vagerDefault s.vager.obj && Tbl.wf octDefaultAt s.vager.oct
    && allDies.all fun d => Tbl.wf starisDefault (s.die d).obj && Tbl.wf octDefaultAt (s.die d).oct

/-- HBM is in its canonical form: rising granule numbers, and no granule listed that reads as an unwritten one does. -/
def Memory.wf (s : State) : Bool := Tbl.wf (fun _ => ({ poison := true } : Gran)) s.vager.hbm

/-- Every command that waits could have come from a sender. -/
def State.queueWf (s : State) : Bool := s.pending.all Instr.wellFormed

/-- A step that answers a state, and not a fault or a refusal. -/
def isNext (o : Host.Outcome State Fault Refusal) : Bool :=
  match o with
  | .next _ => true
  | .fault _ => false
  | .refused _ => false

/-- A run of `n` steps stops at no fault and no refusal. -/
def safeFor : Nat → State → Bool
  | 0, _ => true
  | n + 1, s =>
    match step s with
    | .next t => safeFor n t
    | .fault _ => false
    | .refused _ => false

end Sys2Proof.Machine
end

