-- ==== Sys2Proof/Certificates/Slice0/Obligations.lean ====
section
/-! DEFINITION. Certificates/Slice0/Obligations.lean: the statements for the provers. Each says which rules of spec/ it formalises;
where it rests on the model's own choice, it names the log entry. -/

open Sys2Proof Sys2Proof.Machine

/-- Sequencer `q` of die `d` is RUNNING in the state `x`, and the instruction `w` at its program counter has the opcode `op` (R110,
R111). -/
def Sys2Proof.Machine.cleatAt (s : State) (d : Die) (q op : Nat) (x : Seq) (w : Nat) : Prop :=
  x = s.seqr d q ∧ x.state = .running ∧ w = s.instrAt d q x.pc ∧ iOp w = op

/-- The datagram `m` comes in on a fabric port that is up, with the TYPE of its row (R21, R213). -/
def Sys2Proof.Machine.treeComes (s : State) (m : TreeMsg) (type : Nat) : Prop :=
  s.rd .vager (O.PORT_STATE_6410 m.port.val) ≠ 0 ∧ m.type = type

/-- For every command and every state: a step of a state whose queue begins with that command is the command's own effect on the
state with the rest of the queue. The queue is the model's own (log entry 1). -/
def Obligations.StepTakesTheFrontCommand : Prop :=
  ∀ (c : Instr) (rest : List Instr) (s : State), s.pending = c :: rest → step s = exec c { s with pending := rest }

/-- A step on an empty queue answers a next state: Vager's island and every Staris's island tick once, those in FAULT excepted
(R40, R599), the counter of each advancing by its increment modulo 2^64. That an idle step is a tick is the model's choice (log
entry 1). -/
def Obligations.EmptyQueueTicks : Prop :=
  ∀ s : State, s.pending = [] → ∃ t, step s = .next t ∧ t.pending = [] ∧
    (s.tstate .vager ≠ 5 → t.vager.time.counter = (s.vager.time.counter + s.vager.time.inc) % 2 ^ 64) ∧
    (s.tstate .vager = 5 → t.vager = s.vager) ∧
    ∀ d : Die, if s.tstate (.staris d) = 5 then t.die d = s.die d
      else (t.die d).time.counter = ((s.die d).time.counter + (s.die d).time.inc) % 2 ^ 64

/-- Each command on a Staris's counter, mode and comparators, in the states where it acts, answers the state that its rule gives:
the tick that wraps the nanosecond field, the write of INCREMENT and a step in MANUAL, the write of MODE, the entry to HOLDOVER
from ACQUIRING or LOCKED, and the arm, disarm and fire of a comparator. -/
def Obligations.LanyardStarisCommandsComplete : Prop :=
  (∀ (s : State) (d : Die), 2 ^ 64 ≤ (s.die d).time.counter + (s.die d).time.inc →
    exec (.counterWrap (.staris d)) s = .next (s.tickStaris d)) ∧
  (∀ (s : State) (d : Die) (w : Writer) (v : Nat), mayReach w true .fleet = true → s.tstate (.staris d) = 4 →
    incOk (v % 2 ^ 40) = true → exec (.incrementWrite d w v) s = .next ((s.setInc d (v % 2 ^ 40)).answer stOk)) ∧
  (∀ (s : State) (d : Die) (w : Writer), mayReach w true .fleet = true →
    (s.wr (.staris d) O.MODE_2001 1).tstate (.staris d) = 0 →
    exec (.modeWrite d w 1) s = .next (((s.wr (.staris d) O.MODE_2001 1).goStaris d 4).answer stOk)) ∧
  (∀ (s : State) (d : Die) (w : Writer) (v : Nat), mayReach w true .fleet = true → s.tstate (.staris d) = 4 →
    exec (.stepWrite d w v) s = .next ((s.stepStaris d (toSigned 32 v)).answer stOk)) ∧
  (∀ (s : State) (d : Die), s.tstate (.staris d) = 1 ∨ s.tstate (.staris d) = 2 →
    ((s.goStaris d 3).bump (.staris d) O.HOLDOVER_ENTRIES_2002 32).st d = (s.die d).time → (s.die d).time.incs = [] →
    exec (.starisHoldoverTimeout d) s = .next ((s.goStaris d 3).bump (.staris d) O.HOLDOVER_ENTRIES_2002 32)) ∧
  (∀ (s : State) (d : Die) (n : Fin 32) (w : Writer), mayReach w (cmpSecure n.val) (cmpRole n.val) = true →
    s.armRefused d n.val = false → exec (.cmpArm d n w) s = .next
      (((s.wr (.staris d) (O.CMP_ARM_2010 n.val) 1).wr (.staris d) (O.CMP_STATUS_2010 n.val) 1).answer stOk)) ∧
  (∀ (s : State) (d : Die) (n : Fin 32) (w : Writer), mayReach w (cmpSecure n.val) (cmpRole n.val) = true →
    exec (.cmpDisarm d n w) s = .next ((s.disarmCmp d n.val).answer stOk)) ∧
  (∀ (s : State) (d : Die) (n : Fin 32), s.cmpDue d n.val (s.ns (.staris d)) = true →
    exec (.comparatorFire d n) s = .next (s.fireCmp d n.val false))

/-- Each command on Vager's time, its PTP port, its timestamp queue, 1PPS and the PLL, in the states where it acts, answers the
state that its rule gives. A 1PPS edge in is shown with a source that does not use it, so that it is timestamped and counted alone
(R68); the loss of a grandmaster takes Vager to HOLDOVER with its cause. -/
def Obligations.LanyardVagerCommandsComplete : Prop :=
  (∀ (s : State), 2 ^ 64 ≤ s.vager.time.counter + s.vager.time.inc → exec (.counterWrap .vager) s = .next s.tickVager) ∧
  (∀ (s : State) (h : PtpHeader), h.domain = s.rd .vager O.DOMAIN_2102 → h.transport = s.rd .vager O.TRANSPORT_2102 →
    s.ownStack = true → s.rd .vager O.PROFILE_2102 = 0 → s.vager.time.port = .master →
    exec (.ptpMessageRx (.delayReq h)) s = .next (s.emit (.ptp 9 h.seqId (some h.identity) (some s.extNow)))) ∧
  (∀ (s u : State) (h : PtpHeader) (g : PtpDataset) (origin : Nat) (c : Int), h.domain = s.rd .vager O.DOMAIN_2102 →
    h.transport = s.rd .vager O.TRANSPORT_2102 → s.ownStack = true → s.vager.time.gm = some g → g.identity = h.identity →
    u = s.setVt { s.vager.time with syncLog := some h.log, syncAt := s.vager.ticks } →
    exec (.ptpMessageRx (.sync h true origin c)) s = .next (u.setVt { u.vager.time with
      ptp := { s.vager.time.ptp with sync := some (h.seqId, s.stamp, c) } })) ∧
  (∀ (s : State), s.announceLate = true → s.rd .vager O.SLAVE_ONLY_2102 = 1 →
    exec .announceTimeout s = .next ((s.setVt { s.vager.time with
      gm := none, annCount := 0, annLog := none, syncLog := none, ptp := {}, port := .listening }).sourceLost 1)) ∧
  (∀ (s : State), s.syncLate = true → s.announceLate = false →
    exec .syncTimeout s = .next ((s.setVt { s.vager.time with annCount := 0 }).sourceLost 2)) ∧
  (∀ (s u : State) (q m n : Nat), m % 16 = 0 → s.vager.time.tsq.length < 64 →
    u = (s.setVt { s.vager.time with tsq := s.vager.time.tsq ++
      [{ seqId := q % 2 ^ 16, msgType := 0, domain := n % 256, time := s.extNow }] }).showTsq.emit (.ptp 0 (q % 2 ^ 16) none none) →
    u.ownStack = true → exec (.ptpEventTx q m n) s = .next (u.emit (.ptp 8 (q % 2 ^ 16) none (some u.extNow)))) ∧
  (∀ (s : State) (q m n : Nat), m % 16 = 0 → 64 ≤ s.vager.time.tsq.length →
    exec (.ptpEventTx q m n) s = .next ((s.bump .vager O.TSQ_OVERFLOW_2105 32).emit (.ptp 0 (q % 2 ^ 16) none none))) ∧
  (∀ (s : State) (w : Writer), mayReach w false .host = true →
    exec (.tsqPop w) s = .next ((s.setVt { s.vager.time with tsq := s.vager.time.tsq.tail }).showTsq.answer stOk)
      ∧ exec (.tsqOverflowClear w) s = .next ((s.wr .vager O.TSQ_OVERFLOW_2105 0).answer stOk)) ∧
  (∀ (s : State) (w : Writer), mayReach w true .fleet = true → s.tstate .vager ≠ 5 →
    exec (.sourceWrite w 3) s = .next (((s.wr .vager O.SOURCE_2101 3).goVager 4 0).answer stOk)) ∧
  (∀ (s : State) (w : Writer) (n : Nat), mayReach w true .fleet = true → s.secondsAllowed = true →
    exec (.secondsSetWrite w n) s =
      .next ((s.setVt { s.vager.time with
        secondsStep := some (n % 2 ^ 64, (s.extNow / 10 ^ 9 + 1) * 10 ^ 9) }).answer stOk)) ∧
  (∀ (s u : State) (n whole : Nat), s.vager.time.secondsStep = some (n, whole) → whole ≤ s.extNow →
    u = s.setVt { s.vager.time with secondsStep := none } →
    u.secondsAllowed = true → exec .secondsSetStep s = .next (u.vagerStep ((n * 10 ^ 9 : Nat) - (whole : Int)))) ∧
  (∀ (s : State), s.rd .vager O.SOURCE_2101 = 0 ∨ s.rd .vager O.SOURCE_2101 = 3 →
    exec .ppsInEdge s = .next ((s.wr .vager O.PPS_IN_EDGE_2104 s.extNow).bump .vager O.PPS_IN_COUNT_2104 32)) ∧
  (∀ (s : State) (k : Nat), s.rd .vager O.PPS_OUT_ENABLE_2104 = 1 → s.rd .vager O.PPS_OUT_WHEN_2104 = 0 →
    s.tstate .vager = 2 ∨ s.tstate .vager = 3 →
    (s.extNow : Int) - toSigned 32 (s.rd .vager O.PPS_OUT_OFFSET_2104) = (k : Int) * 10 ^ 9 → s.vager.time.ppsLast ≠ some k →
    exec .ppsOutEdge s = .next ((s.setVt { s.vager.time with ppsLast := some k }).emit
      (.pps s.extNow (s.rd .vager O.PPS_OUT_WIDTH_2104)))) ∧
  (∀ (s : State), exec (.pllLossOfLock .vager) s = .next (s.goVager 5 0)) ∧
  (∀ (s : State) (d : Die), s.tstate (.staris d) ≠ 5 → exec (.pllLossOfLock (.staris d)) s =
    .next ((((s.faultDisarm d).wr (.staris d) O.STREAM_START_ARM_3060 0).setCap d
      { ((s.faultDisarm d).wr (.staris d) O.STREAM_START_ARM_3060 0).cap d with started := none }).goStaris d 5)) ∧
  (∀ (s u : State) (d : Die), s.tstate (.staris d) = 5 →
    u = ((s.setSt d { s.st d with counter := 0, wraps := 0, incs := [] }).setInc d incNominal).goStaris d 0 →
    u.rd (.staris d) O.MODE_2001 = 0 → exec (.pllRelock (.staris d)) s = .next u)

/-- The end of an exchange period counts the DOWN words that were not answered in it as lost and sends one DOWN word to every port
that is up (R55). A Staris discards and counts a word that is poisoned (R302) or whose TYPE is not that of a DOWN word (R56), and
accepts one whose TYPE is right and whose SEQ follows: it counts it, notes whether Vager is in holdover, takes LOCK before STEP
and INC, and answers with an UP word. Vager shows the STATE of every UP word, drops one that answers no outstanding DOWN word, and
takes the exchange of one that answers it. -/
def Obligations.TimeWordsComplete : Prop :=
  (∀ (s : State), exec .twExchangePeriod s = .next (allDies.foldl State.exchange s)) ∧
  (∀ (s : State) (d : Die) (word : Nat) (poison : Bool), bits word 7 0 ≠ 1 ∨ poison = true →
    exec (.downWordRx d word poison) s = .next (s.bump (.staris d) O.TW_DISCARDED_2002 32)) ∧
  (∀ (s v : State) (d : Die) (word l : Nat), bits word 7 0 = 1 → (s.st d).lastSeq = some l →
    1 ≤ subMod 16 (bits word 31 16) l → subMod 16 (bits word 31 16) l ≤ 32767 →
    v = ((s.setSt d { s.st d with lastSeq := some (bits word 31 16) }).bump (.staris d) O.TW_ACCEPTED_2002 32).wr (.staris d)
      O.UPSTREAM_HOLDOVER_2002 (ofBool (bitAt word 10)) →
    exec (.downWordRx d word false) s = .next ((((v.downTransition d (bitAt word 11)).downStep d (bitAt word 9)
      (toSigned 32 (bits word 127 96))).downInc d (bitAt word 8) (bits word 87 48)).sendUp d (s.counter (.staris d))
        (bits word 31 16))) ∧
  (∀ (s : State) (p : Die) (word : Nat), bits word 7 0 = 2 → (s.pt p).sent = [] →
    exec (.upWordRx p word false) s = .next (s.wr .vager (O.PORT_STARIS_STATE_2110 p.val) (bits word 15 12))) ∧
  (∀ (s u v : State) (p : Die) (word : Nat) (y : SentWord), bits word 7 0 = 2 → bits word 15 12 ≠ 5 →
    u = s.wr .vager (O.PORT_STARIS_STATE_2110 p.val) (bits word 15 12) →
    (u.pt p).sent.find? (fun x => x.seq == bits word 47 32) = some y → y.void = false →
    v = u.setPt p { u.pt p with sent := (u.pt p).sent.erase y } →
    exec (.upWordRx p word false) s = .next (v.portExchange p
      (exchangeOffset y.tx (bits word 191 128) (bits word 255 192) (v.counter .vager)
        (toSigned 32 (v.rd .vager (O.PORT_ASYMMETRY_2110 p.val))))
      (exchangeDelay y.tx (bits word 191 128) (bits word 255 192) (v.counter .vager))))

/-- An event edge sets its line's level and is taken as an edge, or, where it merges into one still pending, marks the input
overrun (R78). The flags are cleared where a 1 is written (R80). A configuration word is stored without its reserved bits; a clear
takes COUNT and WRAPPED together (R86). The polarity, the freeze of the counters, the release of the bank and the stale scan act
as their rules say. -/
def Obligations.EventAndCounterCommandsComplete : Prop :=
  (∀ (s u : State) (d : Die) (i : Fin 4096) (h : Bool),
    u = s.setCap d { s.cap d with level := Tbl.set (fun _ => false) (s.cap d).level i.val h } → u.inputActive d i.val = true →
    exec (.eventEdge d i h false) s = .next (u.inputEdge d i.val true)
      ∧ exec (.eventEdge d i h true) s = .next ((u.setObit (.staris d) O.EVT_OVERRUN_3000 i.val true).markOverrun d i.val)) ∧
  (∀ (s u : State) (d : Die) (w : Writer) (l : List Nat), mayReach w true .operator = true → l.length ≤ 512 →
    u = s.writeOctets (.staris d) O.EVT_POLARITY_3000 512 l →
    ∀ old kept : List Nat, old = s.bytesAt (.staris d) O.EVT_STUCK_NOW_3000 0 512 →
    kept = (old.zip ((s.bytesAt (.staris d) O.EVT_POLARITY_3000 0 512).zip
      (u.bytesAt (.staris d) O.EVT_POLARITY_3000 0 512))).map (fun x => Nat.land x.1 (255 - Nat.xor x.2.1 x.2.2)) →
    exec (.polarityWrite d w l) s = .next (((((List.range 4096).filter fun i =>
      bitAt (old.getD (i / 8) 0) (i % 8) && !bitAt (kept.getD (i / 8) 0) (i % 8)).foldl (fun s i => s.markOverrun d i) u).setBytes
        (.staris d) O.EVT_STUCK_NOW_3000 0 kept).answer stOk)) ∧
  (∀ (s : State) (d : Die) (i : Nat), i < 4096 → s.inputActive d i = true → s.obit (.staris d) O.EVT_STUCK_SEEN_3000 i = true →
    exec (.staleScan d [i]) s = .next (((s.setObit (.staris d) O.EVT_STUCK_NOW_3000 i true).setObit (.staris d)
      O.EVT_STUCK_SEEN_3000 i true).markOverrun d i)) ∧
  (∀ (s : State) (d : Die) (w : Writer) (l : List Nat), mayReach w true .operator = true → l.length ≤ 512 →
    exec (.evtFlagsClear d w l) s = .next (((s.clearBits (.staris d) O.EVT_STUCK_SEEN_3000 512 l).clearBits (.staris d)
      O.EVT_OVERRUN_3000 512 l).answer stOk)) ∧
  (∀ (s : State) (d : Die) (w : Writer) (n : Fin 65536) (v : Nat), mayReach w false .host = true →
    cfgEdge (cfgClean v) ≠ 3 → cfgQkind (cfgClean v) = 1 → sourceDefined (cfgSource (cfgClean v)) = true →
    (s.ctr d n.val).global = false → cfgGlobal (cfgClean v) = false → s.bankSpent d 0 (n.val / 1024) = false →
    exec (.cntConfigWrite d w n v) s =
      .next ((s.setCtr d n.val { s.ctr d n.val with cfg := cfgClean v, wasGlobal := false }).answer stOk)) ∧
  (∀ (s : State) (d : Die) (w : Writer) (n : Fin 65536), mayReach w false .host = true →
    w.secure = true ∨ (s.ctr d n.val).global = false →
    exec (.cntClear d w n) s =
      .next ((s.setCtr d n.val { s.ctr d n.val with count := 0, wrapped := false, wasGlobal := false }).answer stOk)) ∧
  (∀ (s t : State) (d : Die) (a : FiredAction), s.takeAction d 3 none = some (a, t) →
    exec (.freeze d) s = .next (t.freezeCounters d a.counter a.state)) ∧
  (∀ (s : State) (d : Die) (w : Writer), mayReach w true .operator = true →
    exec (.snapRelease d w) s = .next ((s.wr (.staris d) O.SNAP_STATE_3020 0).answer stOk))

/-- A thermal result is stored and advances its converter's sequence (R93); a re-phase notes the firing tick for its converter and
its four rails (R94, R387); a sequence starts; a droop or canary trip sets its sticky flag and raises its internal event, unless
margining has borrowed it (R96, R97, R99); a margin pass starts, and its dwells and probes search eight codes (R98). -/
def Obligations.SensorAndMarginCommandsComplete : Prop :=
  (∀ (s u : State) (d : Die) (n : Fin 64) (v : Int),
    u = (s.setElem (.staris d) O.THERMAL_3030 2 n.val (ofSigned 16 v)).advanceSequence d n.val →
    toSigned 16 (ofSigned 16 v) ≤ toSigned 32 (s.rd (.staris d) O.THERMAL_LIMIT_3030) →
    exec (.converterResult d (.thermal n v)) s = .next u) ∧
  (∀ (s : State) (d : Die) (r : Fin 16) (v a : Nat),
    exec (.converterResult d (.rail r v a)) s = .next (s.railSample d r.val (v % 2 ^ 12) (a % 2 ^ 12))) ∧
  (∀ (s t : State) (d : Die) (c : Fin 4) (a : FiredAction), s.takeAction d 1 (some c.val) = some (a, t) →
    exec (.railConverterRephase d c) s = .next (t.rephase d c.val a.counter)) ∧
  (∀ (s t : State) (d : Die) (c : Fin 4) (a : FiredAction), s.takeAction d 1 (some (4 + c.val)) = some (a, t) →
    exec (.converterSequenceStart d c) s = .next (t.startSequence d c.val)) ∧
  (∀ (s : State) (d : Die) (c : Fin 4), s.rd (.staris d) (O.SEQ_PERIOD_3040 c.val) ≠ 0 →
    exec (.sequencePeriodRestart d c) s = .next (s.startSequence d c.val)) ∧
  (∀ (s u : State) (d : Die) (n : Fin 128), s.marginOn d 0 = false →
    u = s.setCap d { s.cap d with streams := (s.cap d).streams.map fun e =>
      (e.1, if e.2.kind = 6 ∧ e.2.index = n.val then { e.2 with trips := e.2.trips + 1 } else e.2) } →
    exec (.droopTrip d n) s = .next (((u.setObit (.staris d) O.DROOP_SEEN_3031 n.val true).setElem (.staris d) O.DROOP_LAST_3031 4
      n.val (u.ns (.staris d))).internalEvent d (0x1000 + n.val))) ∧
  (∀ (s : State) (d : Die) (n : Fin 256), (s.cap d).sweeping ≠ some n.val →
    exec (.canaryFail d n) s = .next ((s.setObit (.staris d) O.CANARY_SEEN_3032 n.val true).internalEvent d (0x1080 + n.val))) ∧
  (∀ (s : State) (d : Die) (w : Writer) (l : List Nat), mayReach w true .operator = true → l.length ≤ 256 →
    exec (.canaryCodeWrite d w l) s = .next (((s.writeOctets (.staris d) O.CANARY_CODE_3032 256 l).writeOctets (.staris d)
      O.CANARY_SEEN_3032 32 []).answer stOk)) ∧
  (∀ (s : State) (d : Die), s.marginOn d 1 = true → (s.cap d).sweeping = none →
    exec (.marginPassStart d .timing) s =
      .next (s.setCap d { s.cap d with sweeping := some 0, tSearch := { code := 128, tries := 0 } })) ∧
  (∀ (s : State) (d : Die) (r : Fin 16) (b : Bool) (m : MarginSearch), Tbl.find (s.cap d).vSearch r.val = some m →
    s.marginOn d 0 = true → (m.step b).tries < 8 →
    exec (.marginDwellEnd d r b) s =
      .next (s.setCap d { s.cap d with vSearch := Tbl.insert (s.cap d).vSearch r.val (m.step b) })) ∧
  (∀ (s : State) (d : Die) (n : Fin 256) (b : Bool), (s.cap d).sweeping = some n.val → s.marginOn d 1 = true →
    ((s.cap d).tSearch.step b).tries < 8 →
    exec (.marginTimingProbeDone d n b) s = .next (s.setCap d { s.cap d with tSearch := (s.cap d).tSearch.step b }))

/-- The start of periodic sampling is armed and disarmed; when it is reached, every stream with a period gets its first instant. A
sample that falls due makes a record and the next instant lies one period on; one more than 2 µs late is counted. A stream's
source, schedule and enable are written; a dump slot is armed with its status cleared, triggered, and its hold dropped when the
hold ends. -/
def Obligations.StreamAndDumpCommandsComplete : Prop :=
  (∀ (s : State) (d : Die) (w : Writer) (b : Bool), mayReach w false .host = true →
    exec (.streamStartArm d w b) s = .next ((s.wr (.staris d) O.STREAM_START_ARM_3060 (ofBool b)).answer stOk)) ∧
  (∀ (s u : State) (d : Die), s.rd (.staris d) O.STREAM_START_ARM_3060 = 1 → s.tstate (.staris d) ≠ 5 →
    reached (s.ns (.staris d)) (s.rd (.staris d) O.STREAM_START_3060) = true → u = s.wr (.staris d) O.STREAM_START_ARM_3060 0 →
    ∃ start : Int, start = s.nsLong d - (subMod 32 (s.ns (.staris d)) (s.rd (.staris d) O.STREAM_START_3060) : Nat) ∧
      exec (.streamStartReached d) s = .next (u.setCap d { u.cap d with
        started := some start
        streams := (u.cap d).streams.map fun e =>
          (e.1, { e.2 with next := if e.2.period = 0 then 0 else nextSample start start e.2.phase e.2.period }) })) ∧
  (∀ (s u v : State) (d : Die) (n : Fin 65536) (x : SStream), x = s.sstream d n.val → x.enable = true → x.period ≠ 0 →
    (s.cap d).started.isSome = true → s.tstate (.staris d) ≠ 5 → reached (s.ns (.staris d)) x.next = true →
    u = (if 2000 < subMod 32 (s.ns (.staris d)) x.next then s.bump (.staris d) O.STREAM_LATE_3060 32 else s) →
    v = u.setSstream d n.val { x with next := (x.next + 10000 * x.period) % 2 ^ 32 } →
    exec (.streamPeriodicSample d n) s = .next (v.takeRecord d n.val false)) ∧
  (∀ (s u : State) (d : Die) (w : Writer) (n : Fin 65536) (x : SStream), mayReach w false .host = true → x = s.sstream d n.val →
    w.secure = true ∨ s.globalSource d x.source = false → fastPeriod x.period = false →
    u = s.setSstream d n.val { x with enable := true, byNs := !w.secure } →
    exec (.streamEnableWrite d w n true) s = .next (((u.rebase d n.val).schedule d n.val).answer stOk)) ∧
  (∀ (s u : State) (d : Die) (w : Writer) (n : Fin 65536) (x : SStream) (a b : Nat), mayReach w false .host = true →
    x = s.sstream d n.val → x.enable = false → u = s.setSstream d n.val { x with period := a % 2 ^ 16, phase := b % 2 ^ 32 } →
    exec (.streamScheduleWrite d w n a b) s = .next (((u.wr (.staris d) O.STREAM_FAST_COUNT_3060
      (s.rd (.staris d) O.STREAM_FAST_COUNT_3060)).schedule d n.val).answer stOk)) ∧
  (∀ (s : State) (d : Die) (w : Writer) (n : Fin 65536) (x : SStream) (v c : Nat), mayReach w false .host = true →
    x = s.sstream d n.val → x.enable = false → c = fld 28 4 (v / 2 ^ 28) + v % 2 ^ 16 → bits c 31 28 < 9 →
    indexDefined (bits c 31 28) (bits c 15 0) = true →
    exec (.streamSourceWrite d w n v) s = .next (((s.setSstream d n.val { x with source := c, trips := 0 }).rebase d n.val).answer stOk)) ∧
  (∀ (s u : State) (d : Die) (w : Writer) (n : Fin 16), mayReach w false .host = true →
    w.secure = true ∨ s.rd (.staris d) (O.DUMP_EPOCH_3070 n.val) ≠ 0 →
    u = ((s.setDslot d n.val { s.dslot d n.val with triggered := false }).wr (.staris d) (O.DUMP_STATUS_3070 n.val) 0).wr
      (.staris d) (O.DUMP_BYTES_3070 n.val) 0 →
    exec (.dumpArm d w n true) s = .next ((u.dumpArmed d n.val true).answer stOk)) ∧
  (∀ (s t : State) (d : Die) (n : Fin 16) (a : FiredAction), s.takeAction d 6 (some n.val) = some (a, t) →
    exec (.dumpTrigger d n) s = .next (t.triggerDump d n.val)) ∧
  (∀ (s : State) (d : Die) (n : Fin 16) (c : DumpCopy), (s.dslot d n.val).copy = some c → c.held = true →
    exec (.dumpHoldExpiry d n) s =
      .next ((s.setDslot d n.val { s.dslot d n.val with copy := some { c with held := false } }).dropHold d)) ∧
  (∀ (s : State) (d : Die) (n : Fin 16) (c : DumpCopy) (l : List (Nat × Bool)), (s.dslot d n.val).copy = some c →
    s.dumpWaits d n.val = false → bitAt (s.rd (.staris d) (O.DUMP_STATUS_3070 n.val)) 5 = false → l.length = granulesOf c.bytes →
    (s.dumpSend d n.val (s.dumpMessage d n.val c l) none).2 = l.length + 2 →
    exec (.dumpCopyEnd d n l none) s =
      .next ((s.dumpSend d n.val (s.dumpMessage d n.val c l) none).1.dumpDone d n.val c l.length))

/-- A RUNNING sequencer that executes HALT, NOP, LDI, ADDI, MOV, RDTIME, RDCNT, JMP, JNZ, DJNZ, JTO or JLT changes its own
registers, program counter and state as the opcode table gives it, and nothing else of the machine; every other opcode is fault 1,
and a jump whose ARG[15:8] is not zero is fault 3. -/
def Obligations.CleatInstructionsComplete : Prop :=
  (∀ (s : State) (d : Die) (q : Fin 8) (x : Seq) (w : Nat), cleatAt s d q.val 0 x w →
    exec (.halt d q) s = .next (s.setSeqr d q.val ({ x with state := .halted }))) ∧
  (∀ (s : State) (d : Die) (q : Fin 8) (x : Seq) (w : Nat), cleatAt s d q.val 1 x w →
    exec (.nop d q) s = .next (s.setSeqr d q.val (x.next))) ∧
  (∀ (s : State) (d : Die) (q : Fin 8) (x : Seq) (w : Nat), cleatAt s d q.val 2 x w →
    exec (.ldi d q) s = .next (s.setSeqr d q.val ((x.setReg (iXa w) (iImm w)).next))) ∧
  (∀ (s : State) (d : Die) (q : Fin 8) (x : Seq) (w : Nat), cleatAt s d q.val 3 x w →
    exec (.addi d q) s = .next (s.setSeqr d q.val ((x.setReg (iXa w) (x.reg (iXa w) + iImm w)).next))) ∧
  (∀ (s : State) (d : Die) (q : Fin 8) (x : Seq) (w : Nat), cleatAt s d q.val 4 x w →
    exec (.mov d q) s = .next (s.setSeqr d q.val ((x.setReg (iXa w) (x.reg (iXb w))).next))) ∧
  (∀ (s : State) (d : Die) (q : Fin 8) (x : Seq) (w : Nat), cleatAt s d q.val 5 x w →
    exec (.rdtime d q) s = .next (s.setSeqr d q.val ((x.setReg (iXa w) (s.ns (.staris d))).next))) ∧
  (∀ (s : State) (d : Die) (q : Fin 8) (x : Seq) (w : Nat), cleatAt s d q.val 6 x w → s.seqMayCount d q.val (iArg w) = true →
    exec (.rdcnt d q) s = .next (s.setSeqr d q.val (x.setReg (iXa w) ((s.ctr d (iArg w)).count)).next)) ∧
  (∀ (s : State) (d : Die) (q : Fin 8) (x : Seq) (w : Nat), cleatAt s d q.val 0x10 x w →
    exec (.jmp d q) s = .next (s.setSeqr d q.val (if iArg w / 256 ≠ 0 then x.fail 3 else { x with pc := iArg w % 256 }))) ∧
  (∀ (s : State) (d : Die) (q : Fin 8) (x : Seq) (w : Nat), cleatAt s d q.val 0x11 x w →
    exec (.jnz d q) s = .next (s.setSeqr d q.val (if iArg w / 256 ≠ 0 then x.fail 3 else if x.reg (iXa w) ≠ 0 then { x with pc := iArg w % 256 } else x.next))) ∧
  (∀ (s : State) (d : Die) (q : Fin 8) (x : Seq) (w : Nat), cleatAt s d q.val 0x12 x w →
    exec (.djnz d q) s = .next (s.setSeqr d q.val (if iArg w / 256 ≠ 0 then x.fail 3
      else (x.setReg (iXa w) (x.reg (iXa w) + (2 ^ 32 - 1))).jump w ((x.setReg (iXa w) (x.reg (iXa w) + (2 ^ 32 - 1))).reg (iXa w) != 0)))) ∧
  (∀ (s : State) (d : Die) (q : Fin 8) (x : Seq) (w : Nat), cleatAt s d q.val 0x13 x w →
    exec (.jto d q) s = .next (s.setSeqr d q.val (if iArg w / 256 ≠ 0 then x.fail 3 else if x.timeout = true then { x with pc := iArg w % 256 } else x.next))) ∧
  (∀ (s : State) (d : Die) (q : Fin 8) (x : Seq) (w : Nat), cleatAt s d q.val 0x14 x w →
    exec (.jlt d q) s = .next (s.setSeqr d q.val (if iArg w / 256 ≠ 0 then x.fail 3
      else if 2 ^ 31 ≤ subMod 32 (x.reg (iXa w)) (x.reg (iXb w)) then { x with pc := iArg w % 256 } else x.next))) ∧
  (∀ (s : State) (d : Die) (q : Fin 8) (x : Seq), x = s.seqr d q.val → x.state = .running →
    iOp (s.instrAt d q.val x.pc) ∉ definedOps → exec (.reservedOpcode d q) s = .next (s.setSeqr d q.val (x.fail 1)))

/-- A RUNNING sequencer that executes a wait begins it; a wait whose condition holds ends, and one whose time is up ends with the
timeout flag set; ACT, SETCMP, SAMPLE, EMIT, SIGNAL and EVENT act as the opcode table gives them, on operands that raise no fault.
A program is written and started while the sequencer is IDLE, and a stop clears its signals and its wait. -/
def Obligations.CleatWaitsAndActionsComplete : Prop :=
  (∀ (s : State) (d : Die) (q : Fin 8) (x : Seq) (w : Nat), cleatAt s d q.val 8 x w →
    exec (.wtime d q) s = .next (s.beginWait d q.val x (.time (x.reg (iXa w))))) ∧
  (∀ (s : State) (d : Die) (q : Fin 8) (x : Seq) (w : Nat), cleatAt s d q.val 9 x w →
    exec (.wedge d q) s = .next (s.beginWait d q.val x (.edge (iArg w) (waitLimit x w)))) ∧
  (∀ (s : State) (d : Die) (q : Fin 8) (x : Seq) (w : Nat), cleatAt s d q.val 10 x w → s.seqMayCount d q.val (iArg w) = true →
    exec (.wcnt d q) s = .next (s.beginWait d q.val x (.count (iArg w) (x.reg (iXa w)) (waitLimit x w)))) ∧
  (∀ (s : State) (d : Die) (q : Fin 8) (x : Seq) (w : Nat), cleatAt s d q.val 11 x w →
    exec (.wsig d q) s = .next (s.beginWait d q.val x (.signal (waitLimit x w)))) ∧
  (∀ (s : State) (d : Die) (q : Fin 8) (x : Seq), x = s.seqr d q.val → x.state = .waiting → s.waitHolds d x = true →
    exec (.waitConditionMet d q) s = .next (s.setSeqr d q.val x.waitDone)) ∧
  (∀ (s : State) (d : Die) (q : Fin 8) (x : Seq), x = s.seqr d q.val → x.state = .waiting → s.waitExpired d x = true →
    s.waitHolds d x = false → exec (.waitTimeout d q) s = .next (s.setSeqr d q.val { x with timeout := true }.next)) ∧
  (∀ (s : State) (d : Die) (q : Fin 8) (x : Seq) (w : Nat), cleatAt s d q.val 0x18 x w → iImm w % 256 < 8 → actionArgOk (iImm w % 256) (iArg w) = true →
    seqSecure q.val = true ∨ (iImm w % 256 ≠ 1 ∧ iImm w % 256 ≠ 3) →
    exec (.act d q) s = .next ((s.setSeqr d q.val x.next).startAction d (iImm w % 256) (iArg w))) ∧
  (∀ (s : State) (d : Die) (q : Fin 8) (x : Seq) (w : Nat), cleatAt s d q.val 0x19 x w → iArg w < 32 → cmpSecure (iArg w) = seqSecure q.val →
    exec (.setcmp d q) s = .next ((((s.setSeqr d q.val x.next).disarmCmp d (iArg w)).wr (.staris d) (O.CMP_TARGET_2010 (iArg w))
      (x.reg (iXa w))).armCmp d (iArg w))) ∧
  (∀ (s : State) (d : Die) (q : Fin 8) (x : Seq) (w : Nat), cleatAt s d q.val 0x1A x w → ((s.setSeqr d q.val x.next).sstream d (iArg w)).enable = true →
    exec (.sample d q) s = .next ((s.setSeqr d q.val x.next).takeRecord d (iArg w) true)) ∧
  (∀ (s : State) (d : Die) (q : Fin 8) (x : Seq) (w : Nat), cleatAt s d q.val 0x1B x w → (s.sstream d (iArg w)).kind = 8 →
    (s.sstream d (iArg w)).enable = true →
    exec (.emit d q) s = .next (((s.setSeqr d q.val x.next).setSstream d (iArg w) { s.sstream d (iArg w) with
      emitted := x.reg (iXa w) }).takeRecord d (iArg w) true)) ∧
  (∀ (s : State) (d : Die) (q : Fin 8) (x : Seq) (w : Nat), cleatAt s d q.val 0x1C x w →
    exec (.signal d q) s = .next ((s.setSeqr d q.val x.next).addSignal d (iArg w % 8))) ∧
  (∀ (s : State) (d : Die) (q : Fin 8) (x : Seq) (w : Nat), cleatAt s d q.val 0x1D x w →
    exec (.event d q) s = .next (((s.setSeqr d q.val x.next).recordS d 0x0030 (x.reg (iXa w)) (iImm w % 2 ^ 16)).internalEvent d
      (0x1200 + q.val))) ∧
  (∀ (s t : State) (d : Die) (q : Fin 8) (a : FiredAction), s.takeAction d 7 (some q.val) = some (a, t) →
    exec (.cleatSignalAction d q) s = .next (t.addSignal d q.val)) ∧
  (∀ (s : State) (d : Die) (w : Writer) (q : Fin 8) (l : List Nat), mayReach w (seqSecure q.val) (seqRole q.val) = true →
    l.length ≤ 2048 → (s.seqr d q.val).state = .idle →
    exec (.cleatProgramWrite d w q l) s = .next ((s.writeOctets (.staris d) (O.CLEAT_PROGRAM_3090 q.val) 2048 l).answer stOk)
      ∧ exec (.cleatStart d w q) s =
        .next ((s.setSeqr d q.val { state := .running, signals := (s.seqr d q.val).signals }).answer stOk)) ∧
  (∀ (s : State) (d : Die) (w : Writer) (q : Fin 8), mayReach w (seqSecure q.val) (seqRole q.val) = true →
    exec (.cleatStop d w q) s = .next ((s.setSeqr d q.val { s.seqr d q.val with
      state := .idle, signals := 0, wait := .none, fault := 0, edgeSeen := false }).answer stOk))

/-- A trace word that no comparator matches updates its source, which is judged again, and becomes a packet where the source is
traced. A source that has been idle too long, or leaves low power, sends a SYNC; a source in low power is marked so; a source
reset and its end act on that source. Configurations start and stop by a write and by a fired action; the mode, the sink and the
trigger unit are written in the states that allow it. -/
def Obligations.TraceCommandsComplete : Prop :=
  (∀ (s u v x : State) (d : Die) (n : Fin 256) (c : Nat) (t : TrcWord),
    u = s.setTsrc d n.val { s.tsrc d n.val with cyc := (s.tsrc d n.val).cyc + c, addr := t.addr, sec := t.sec, priv := t.priv } →
    u.excluded d n.val = false → v = u.setTsrc d n.val { u.tsrc d n.val with clear := t.addr } →
    (∀ a, a < 16 → sourceNamed (v.rd (.staris d) (O.ACMP_SOURCE_3420 a)) n.val = false ∨
      v.rd (.staris d) (O.ACMP_ADDR_3420 a) ≠ t.addr) →
    x = v.retrace d n.val → (x.tsrc d n.val).quiet = false →
    exec (.traceWord d n c t) s = .next (if (x.tsrc d n.val).traced = true
      then x.traceWordPacket d n.val (x.ob (.staris d) O.SRC_KIND_3401 n.val) (s.tsrc d n.val).addr t else x)) ∧
  (∀ (s : State) (d : Die) (n : Fin 256), (s.tsrc d n.val).traced = true → (s.tsrc d n.val).quiet = false →
    exec (.cycleIdleLimit d n) s = .next (s.syncAfterAtoms d n.val 5)) ∧
  (∀ (s : State) (d : Die), s.rd (.staris d) O.PENNANT_MODE_3400 = 1 → s.allIdle d = false →
    exec (.tstampInterval d) s = .next ((s.offerWord d 0 [tstampWord (s.counter (.staris d))]).getD s)) ∧
  (∀ (s u : State) (d : Die) (n : Fin 256) (c : Nat), (s.tsrc d n.val).traced = false →
    u = s.setTsrc d n.val { s.tsrc d n.val with cyc := (s.tsrc d n.val).cyc + c } →
    exec (.sourceLpEntry d n c) s = .next ((u.setTsrc d n.val { u.tsrc d n.val with lowPower := true }).setObit
      (.staris d) O.SRC_LOW_POWER_3401 n.val true)) ∧
  (∀ (s u v : State) (d : Die) (n : Fin 256) (c : Nat), (s.tsrc d n.val).traced = true → (s.tsrc d n.val).quiet = false →
    u = s.setTsrc d n.val { s.tsrc d n.val with cyc := (s.tsrc d n.val).cyc + c } →
    v = (u.emitAfterAtoms d n.val fun cyc => lpEntryWord cyc n.val).1 →
    exec (.sourceLpEntry d n c) s = .next ((v.setTsrc d n.val { v.tsrc d n.val with lowPower := true }).setObit
      (.staris d) O.SRC_LOW_POWER_3401 n.val true)) ∧
  (∀ (s u : State) (d : Die) (n : Fin 256), (s.tsrc d n.val).traced = true → (s.tsrc d n.val).lowPower = true →
    (s.tsrc d n.val).inReset = false →
    u = (s.setTsrc d n.val { s.tsrc d n.val with lowPower := false, cyc := 0 }).setObit (.staris d)
      O.SRC_LOW_POWER_3401 n.val false → exec (.sourceLpExit d n) s = .next (u.emitSync d n.val 3).1) ∧
  (∀ (s : State) (d : Die) (n : Fin 256), exec (.sourceReset d n) s = .next (s.sourceReset d n.val)
    ∧ exec (.sourceResetExit d n) s = .next (s.sourceResetExit d n.val)) ∧
  (∀ (s t : State) (d : Die) (c : Fin 4) (a : FiredAction), s.takeAction d 4 (some c.val) = some (a, t) →
    exec (.traceConfigStart d none c) s = .next (t.startCfg d c.val).1) ∧
  (∀ (s t : State) (d : Die) (c : Fin 4) (a : FiredAction), s.takeAction d 5 (some c.val) = some (a, t) →
    exec (.traceConfigStop d none c) s = .next (t.stopCfg d c.val)) ∧
  (∀ (s : State) (d : Die) (w : Writer) (c : Fin 4), mayReach w false .operator = true →
    exec (.traceConfigStop d (some w) c) s = .next ((s.stopCfg d c.val).answer stOk)) ∧
  (∀ (s : State) (d : Die) (w : Writer) (v : Nat), mayReach w false .operator = true → v ≤ 1 → s.allIdle d = true →
    exec (.pennantModeWrite d w v) s = .next ((s.wr (.staris d) O.PENNANT_MODE_3400 v).answer stOk)) ∧
  (∀ (s : State) (d : Die) (w : Writer) (v : Nat), mayReach w false .operator = true → v ≤ 2 →
    (s.tr d).unit = .idle ∨ (s.tr d).unit = .frozen →
    exec (.sinkSelectWrite d w v) s =
      .next (((s.wr (.staris d) O.SINK_SELECT_3450 v).dmaSettle (.staris d) 3).answer stOk)) ∧
  (∀ (s : State) (d : Die) (w : Writer) (b : Bool), mayReach w false .operator = true →
    exec (.trigArm d w b) s = .next ((s.setArmed d b).answer stOk)
      ∧ exec (.trigForce d w) s = .next ((s.trigger d 2 0).answer stOk))

/-- A whole granule leaves the staging queue and moves the write pointer on; a reset of the sink returns the unit to IDLE. At
Vager a granule fills its slice and, past a full slice, is discarded and counted; a freeze is noted; a slice is placed and reset.
A Staris whose slice is full enters FULL. The descriptor taps give the slot its context, end the outstanding descriptor and
acknowledge. -/
def Obligations.TraceSinkCommandsComplete : Prop :=
  (∀ (s : State) (d : Die), (s.tr d).queue = [] → exec (.sinkGranuleWrite d) s = .next s) ∧
  (∀ (s u : State) (d : Die) (g : TGran) (q : List TGran), (s.tr d).queue = g :: q → 4 ≤ g.words.length →
    s.rd (.staris d) O.SINK_FAULT_3400 ≠ 1 → (s.tr d).freezing = false → s.sinkTakes d = true → s.sinkPut d g = some u →
    exec (.sinkGranuleWrite d) s = .next (u.sinkAdvance d g)) ∧
  (∀ (s u : State) (d : Die) (w : Writer), mayReach w false .operator = true → (s.tr d).unit = .frozen →
    u = [O.WRITE_PTR_3450, O.WRAPPED_3450, O.SINK_FAULT_3400, O.TRIG_STATUS_3460, O.TRIG_TIME_3460, O.TRIG_OFFSET_3460,
      O.TRIG_PRE_BYTES_3460, O.TRIG_ARM_3460, O.WORDS_WRITTEN_3400].foldl (fun s k => s.wr (.staris d) k 0)
        (s.setTr d { s.tr d with unit := .idle, written := 0, post := none, trigAt := none, freezing := false }) →
    exec (.sinkReset d w) s = .next ((u.wr (.staris d) O.STAGE_PEAK_3440 (u.tr d).queue.length).answer stOk)) ∧
  (∀ (s : State) (p : Die) (g : Nat) (b : Bool),
    s.rd .vager (O.SLICE_BYTES_3590 p.val) ≤ s.rd .vager (O.SLICE_WPTR_3590 p.val) →
    exec (.traceGranuleRx p g b) s = .next (s.bump .vager (O.SLICE_DISCARDED_3590 p.val) 32)) ∧
  (∀ (s u v : State) (p : Die) (g : Nat) (b : Bool),
    s.rd .vager (O.SLICE_WPTR_3590 p.val) + 32 < s.rd .vager (O.SLICE_BYTES_3590 p.val) →
    u = (if b = true then s.countPort O.TRACE_POISON_5080 p.val else s) →
    v = (u.setHbm (u.sliceBase p + s.rd .vager (O.SLICE_WPTR_3590 p.val) / 32) { data := g % 2 ^ 256, poison := b }).bump .vager
        (O.SLICE_GRANULES_3590 p.val) 64 →
    exec (.traceGranuleRx p g b) s =
      .next (v.wr .vager (O.SLICE_WPTR_3590 p.val) (s.rd .vager (O.SLICE_WPTR_3590 p.val) + 32))) ∧
  (∀ (s : State) (p : Die), exec (.traceFreezeNoticeRx p) s = .next (s.wr .vager (O.SLICE_FROZEN_3590 p.val) 1)) ∧
  (∀ (s : State) (d : Die), (s.tr d).unit = .running ∨ (s.tr d).unit = .triggered →
    exec (.traceCtlRx d) s = .next (s.sinkFull d)) ∧
  (∀ (s : State) (p : Die) (w : Writer) (a n : Nat), mayReach w false .operator = true → a % 4096 = 0 → n % 4096 = 0 →
    a + n ≤ s.rd .vager O.TRACE_REGION_BYTES_3580 → s.rd (.staris p) O.SINK_SELECT_3450 ≠ 2 →
    (∀ q, q < 16 → q ≠ p.val →
      slicesMeet a n (s.rd .vager (O.SLICE_OFFSET_3590 q)) (s.rd .vager (O.SLICE_BYTES_3590 q)) = false) →
    exec (.sliceConfigWrite p w a n) s =
      .next (((s.wr .vager (O.SLICE_OFFSET_3590 p.val) a).wr .vager (O.SLICE_BYTES_3590 p.val) n).answer stOk)) ∧
  (∀ (s : State) (p : Die) (w : Writer), mayReach w false .operator = true →
    exec (.sliceReset p w) s = .next ((((s.wr .vager (O.SLICE_WPTR_3590 p.val) 0).wr .vager (O.SLICE_WRAPPED_3590 p.val) 0).wr
      .vager (O.SLICE_FROZEN_3590 p.val) 0).answer stOk)) ∧
  (∀ (s u v x : State) (d : Die) (c : CdtWord),
    u = (s.setElem (.staris d) O.ENGINE_CONTEXT_3001 8 c.slot (contextEntry c)).endDescriptor d c →
    v = u.setCap d { u.cap d with descs := (u.cap d).descs ++
      [{ slot := c.slot, dseq := c.dseq, base := c.base, bytes := c.bytes, tag := c.tag, step := c.step, epoch := c.epoch,
         since := (u.die d).ticks }] } →
    x = (v.tearDumps d c.base c.bytes).cutTorn d c →
    exec (.descriptorStart d c) s = .next ((x.shroudSelect d c).2.emit (.cdtAck d.val c.slot (x.shroudSelect d c).1))) ∧
  (∀ (s u : State) (d : Die) (c : CdtWord), u = (s.endDescriptor d c).slotDone d c.slot →
    exec (.descriptorDone d c) s = .next ((((List.range 16).filter fun n => u.dumpMatches d n c).foldl
      (fun s n => s.dumpStart d n c) u).emit (.cdtAck d.val c.slot false))
      ∧ exec (.descriptorAbandon d c) s = .next ((s.endDescriptor d c).emit (.cdtAck d.val c.slot false)))

/-- At either end: signal on seven lanes takes DOWN to TRAINING (at Vager once the port is enabled and step 7 of R550 is reached);
a failed attempt counts; training on seven lanes or more leads to PAIRING; the loss of FEC lock in PAIRING trains again; INIT is
answered; INIT_ACK sends PAIR_HELLO from a Staris; Vager checks PAIR_HELLO; a retrain is asked for, ends or times out; FAILED ends
in silence. PORT_ENABLE, PAIR_ACCEPT and LANE_CLEAR are written. -/
def Obligations.LinkTrainingCommandsComplete : Prop :=
  (∀ (s : State) (v : Bool) (p : Die), s.linkState v p = 0 → v = false ∨ s.portBegins p = true →
    exec (.signalDetect v p) s = .next ((s.setLink v p { s.link v p with attempts := 0, keepState := false }).goLink v p 1)) ∧
  (∀ (s : State) (v : Bool) (p : Die), exec (.trainingAttemptFail v p) s = .next (s.attemptFailed v p)) ∧
  (∀ (s : State) (p : Die) (good : Nat), s.linkState false p = 1 →
    7 ≤ (lanesOf (laneMask ((List.range 9).filter fun i => bitAt good i))).length →
    exec (.laneTrainingDone false p good) s =
      .next ((s.assignLanes false p (laneMask ((List.range 9).filter fun i => bitAt good i))).enterPairing false p)) ∧
  (∀ (s : State) (v : Bool) (p : Die), s.linkState v p = 2 → exec (.fecLockLoss v p) s = .next (s.goLink v p 1)) ∧
  (∀ (s : State) (v : Bool) (p : Die), s.linkState v p ≠ 2 → exec (.fecLockLoss v p) s = .next (s.retrain v p)) ∧
  (∀ (s : State) (v : Bool) (p : Die) (item : Nat), s.linkState v p = 2 → (readItem item).code = ctlInit →
    (s.link v p).keepState = true →
    exec (.linkCtlInitRx v p item) s =
      .next ((s.setLink v p (s.link v p)).pushAnswer v p { code := ctlInitAck, seq := (readItem item).seq })) ∧
  (∀ (s u : State) (p : Die) (item : Nat), s.linkState false p = 2 → (readItem item).code = ctlInitAck →
    (s.link false p).initDone = false → u = s.dropItem false p (readItem item).seq → (u.link false p).keepState = false →
    ∃ v, v = u.setLink false p { u.link false p with initDone := true, keepState := false } ∧
      exec (.linkCtlInitAckRx false p item) s = .next (v.pushItem false p
        { code := ctlPairHello, digest := v.identityDigest p })) ∧
  (∀ (s u : State) (p : Die) (item : Nat) (d : List Nat), s.linkState true p = 2 → (readItem item).code = ctlPairHello →
    (s.link true p).lastHello ≠ some (readItem item).seq → d.length = 48 →
    u = s.setLink true p { s.link true p with
      lastHello := some (readItem item).seq, hello := d, linkups := ((s.link true p).linkups + 1) % 2 ^ 32 } →
    exec (.pairHelloRx p item d) s = .next ((u.pairCheck p d).checkService p d)) ∧
  (∀ (s u : State) (p : Die) (w : Writer), mayReach w true .fleet = true → s.rd .vager (O.PAIR_STATUS_3810 p.val) = 2 →
    u = (s.setBytes .vager (O.PAIRED_DIGEST_3810 p.val) 0 (s.link true p).hello).wr .vager (O.PAIR_STATUS_3810 p.val) 1 →
    exec (.pairAccept p w) s =
      .next ((u.wr .vager O.PAIR_WITHHELD_7480 (setBit (u.rd .vager O.PAIR_WITHHELD_7480) p.val false)).answer stOk)) ∧
  (∀ (s : State) (v : Bool) (p : Die), exec (.retrainReqRx v p) s = .next (s.retrain v p)) ∧
  (∀ (s : State) (p : Die), s.linkState false p = 5 → exec (.retrainDone false p) s =
    .next ((s.setLink false p { s.link false p with
      replayFails := 0, ctl := (s.link false p).ctl.filter fun i => i.code != ctlRetrainReq, ctlTurn := 0 }).goUp false p)) ∧
  (∀ (s : State) (v : Bool) (p : Die), s.linkState v p = 5 → exec (.retrainTimeout v p) s =
    .next ((s.setLink v p { s.link v p with keepState := true, attempts := 0, ctl := [], ctlTurn := 0 }).goLink v p 1)) ∧
  (∀ (s : State) (d : Die), s.linkState false d = 6 → exec (.failedSilenceTimeout d) s = .next (s.linkDown false d)) ∧
  (∀ (s : State) (p : Die) (w : Writer), mayReach w true .fleet = true →
    exec (.portEnableWrite p w true) s = .next ((s.wr .vager (O.PORT_ENABLE_3810 p.val) 1).answer stOk)
      ∧ exec (.portEnableWrite p w false) s =
        .next (((s.wr .vager (O.PORT_ENABLE_3810 p.val) 0).linkDown true p).answer stOk)
      ∧ exec (.laneClear p w) s = .next ((s.setLink true p { s.link true p with laneClear := true }).answer stOk))

/-- A lane change that Vager asks for is taken or dropped; its answer agrees it, or issues it again after a cancel; one unanswered
is cancelled and then retrained for; at its codeword each end switches, or drops to seven lanes and holds until the deskew ends. A
window's counts are judged at Vager and reported by a Staris; the loss of signal on lanes retrains or fails the link. -/
def Obligations.LaneCommandsComplete : Prop :=
  (∀ (s : State) (p : Die) (i : Nat), (readItem i).code = ctlLaneSwap → exec (.laneSwapRx p i) s = .next (s.takeChange p (readItem i) false)) ∧
  (∀ (s : State) (p : Die) (i : Nat), (readItem i).code = ctlLaneDrop → exec (.laneDropRx p i) s = .next (s.takeChange p (readItem i) true)) ∧
  (∀ (s : State) (p : Die) (i : Nat) (c : LaneChange), (readItem i).code = ctlLaneCancel → s.codewords false p < (readItem i).cw →
    (s.link false p).change = some c → c.seq = (readItem i).seq →
    exec (.laneCancelRx p i) s = .next ((s.setLink false p { s.link false p with change := none }).pushAnswer false p
      { code := ctlLaneAck, seq := (readItem i).seq })) ∧
  (∀ (s u : State) (p : Die) (i : Nat) (c : LaneChange), (s.link true p).change = some c → (readItem i).code = ctlLaneAck →
    c.seq = (readItem i).seq → c.cancelling = false → u = s.dropItem true p (readItem i).seq →
    exec (.laneAckRx p i) s = .next (u.setLink true p { u.link true p with change := some { c with acked := true } })) ∧
  (∀ (s : State) (p : Die) (c : LaneChange), (s.link true p).change = some c → c.acked = false → c.cancelling = false →
    c.cw ≤ s.codewords true p + 1024 → exec (.laneAckDeadline p) s =
      .next (((s.setLink true p { s.link true p with change := some { c with cancelling := true } }).dropItem true p c.seq).pushAnswer
        true p { code := ctlLaneCancel, seq := c.seq, laneA := c.laneA, laneB := c.laneB, cw := c.cw })) ∧
  (∀ (s : State) (p : Die) (c : LaneChange), (s.link true p).change = some c → c.cancelling = true →
    exec (.laneCancelTimeout p) s = .next (((s.setLink true p { s.link true p with
      change := none, toRetire := c.laneA :: (s.link true p).toRetire }).retrain true p).pushItem true p { code := ctlRetrainReq })) ∧
  (∀ (s u : State) (p : Die) (c : LaneChange), s.changeDue false p false = some c →
    u = s.setLink false p { s.link false p with change := none } →
    exec (.laneSwitch false p) s = .next ((u.lwr false p kLanes (setBit (setBit (u.lrd false p kLanes) c.laneA false) c.laneB
      true)).lwr false p kSpare 0xFF)) ∧
  (∀ (s u : State) (p : Die) (c : LaneChange), s.changeDue false p true = some c →
    u = s.setLink false p { s.link false p with change := none, deskew := true } →
    exec (.laneDropSwitch false p) s = .next (u.lwr false p kLanes (setBit (u.lrd false p kLanes) c.laneA false))) ∧
  (∀ (s u : State) (p : Die), (s.link false p).deskew = true → u = s.setLink false p { s.link false p with deskew := false } →
    u.linkState false p = 3 → exec (.deskewHoldEnd false p) s = .next (u.goLink false p 4)) ∧
  (∀ (s u : State) (p : Die), 3 ≤ s.linkState false p → s.linkState false p ≤ 5 →
    u = s.setLink false p { s.link false p with window := [] } →
    exec (.laneWindowEnd false p) s = .next (u.pushItem false p { code := ctlLaneReport, data :=
      ((((List.range 9).map (s.laneCount false p)).mapIdx fun i n => fld (24 * i) 24 (min n 0xFFFFFF)).sum) })) ∧
  (∀ (s u : State) (p : Die) (i : Nat), (readItem i).code = ctlLaneReport → (s.link true p).lastReport ≠ some (readItem i).seq →
    u = s.setLink true p { s.link true p with lastReport := some (readItem i).seq } →
    exec (.laneReportRx p i) s = .next (u.judgeLanes p fun k =>
      decide (u.rd .vager O.LANE_SYMBOL_LIMIT_3840 < (readItem i).data / 2 ^ (24 * k) % 2 ^ 24) ||
        ((readItem i).data / 2 ^ (24 * k) % 2 ^ 24 == 0xFFFFFF && k == u.lrd true p kSpare))) ∧
  (∀ (s u : State) (v : Bool) (p : Die) (m : Nat), s.linkState v p = 3 →
    u = s.setLink v p { s.link v p with spareDead := decide (s.lrd v p kSpare < 9) && !bitAt m (s.lrd v p kSpare) } →
    ((lanesOf (s.lrd v p kLanes)).filter fun i => !bitAt m i).length = 1 →
    exec (.laneSignalLoss v p m) s = .next ((u.retrain v p).pushItem v p { code := ctlRetrainReq })) ∧
  (∀ (s : State) (v : Bool) (p : Die) (k : Nat), (s.link v p).ctl.findIdx? (fun i => i.code != 2 && i.code != 6) = some k →
    exec (.linkCtlAbandon v p) s = .next (s.setLink v p ((s.link v p).dropCtl k)))

/-- A flit time sends the item, the replay, the data or the NULL that is due, in that order. The codewords that a receiver takes
are kept until a flit is whole; the flit is then taken, or, where it overruns the edge FIFO, counted and lost. An unacknowledged
flit that times out is replayed. Vager releases a control message whose port has stopped counting late, and the first message once
no counted port can send an earlier one. -/
def Obligations.FlitAndMergeCommandsComplete : Prop :=
  (∀ (s t : State) (v : Bool) (p : Die), 2 ≤ s.linkState v p → s.linkState v p ≤ 5 → s.sendCtl v p = some t →
    exec (.flitTransmit v p) s = .next t) ∧
  (∀ (s t : State) (v : Bool) (p : Die), s.carriesData v p = true → 2 ≤ s.linkState v p → s.linkState v p ≤ 5 →
    s.sendCtl v p = none → s.sendReplay v p = some t → exec (.flitTransmit v p) s = .next t) ∧
  (∀ (s t : State) (v : Bool) (p : Die), s.carriesData v p = true → 2 ≤ s.linkState v p → s.linkState v p ≤ 5 →
    s.sendCtl v p = none → s.sendReplay v p = none → s.sendData v p = some t → exec (.flitTransmit v p) s = .next t) ∧
  (∀ (s : State) (v : Bool) (p : Die), 2 ≤ s.linkState v p → s.linkState v p ≤ 5 → s.sendCtl v p = none →
    s.carriesData v p = false ∨ (s.sendReplay v p = none ∧ s.sendData v p = none) →
    exec (.flitTransmit v p) s = .next (s.sendFlit v p [] (s.link v p).nextSeq false 2)) ∧
  (∀ (s : State) (v : Bool) (p : Die) (f : FlitIn), 2 ≤ s.linkState v p → s.linkState v p ≤ 5 →
    ((s.takeWords v p f).link v p).nextFlit = none → exec (.flitRx v p f) s = .next (s.takeWords v p f)) ∧
  (∀ (s u : State) (v : Bool) (p : Die) (f : FlitIn) (cws : List Nat) (ok : Bool) (rest : List RxWord),
    2 ≤ s.linkState v p → s.linkState v p ≤ 5 → u = s.takeWords v p f → (u.link v p).nextFlit = some (cws, ok, rest) →
    exec (.flitRx v p f) s = .next (if f.overrun = true
      then (u.setLink v p { u.link v p with rxWords := rest }).edgeOverrun v p
      else (u.setLink v p { u.link v p with rxWords := rest }).takeFlit v p cws ok)) ∧
  (∀ (s : State) (v : Bool) (p : Die) (f : SentFlit) (l : List SentFlit), (s.link v p).replay = f :: l → s.carriesData v p = true →
    exec (.replayTimeout v p) s = .next (s.takeNak v p f.seq none)) ∧
  (∀ (s : State) (m : CtlMsg),
    s.vager.merge.find? (fun m => s.mustGo m) = some m →
    exec .controlMergeRelease s = .next ((s.setVager { s.vager with merge := s.vager.merge.erase m }).releaseLate m)) ∧
  (∀ (s u : State) (m : CtlMsg),
    s.vager.merge.find? (fun m => s.mustGo m) = none →
    s.mergeHead = some m → s.marksReach m = true →
    u = s.setVager { s.vager with merge := s.vager.merge.erase m, lastRelease := some m.qtime } →
    exec .controlMergeRelease s =
      .next ((u.batchWindow (u.extend m.qtime)).deliverControl m (u.extend m.qtime))) ∧
  (∀ (s u v : State) (p : Die), u = s.setLink true p { s.link true p with counted := false } →
    v = u.setVager { u.vager with merge := u.vager.merge.filter fun m => !(m.port == p.val && !u.pairing m.port) } →
    exec (.mergeStallExpiry p) s =
      .next ((u.vager.merge.filter fun m => m.port == p.val && !u.pairing m.port).foldl (fun s m => s.releaseLate m) v))

/-- A poisoned granule of records is counted and applied to nothing; the two halves of another are applied, but for one of KIND 15
and those of a claimed stream. A round's own partial closes at its deadline or when every member of a STEP group is in, and the
merged one when it is complete. A child's PARTIAL is acknowledged and merged; an acknowledged partial of this Vager's is resent no
more. A context drains at its CLOSE_TIME and is freed at the drain limit or by a write; a plan's length completes its load. -/
def Obligations.StreamAndRoundCommandsComplete : Prop :=
  (∀ (s : State) (p : Die) (g : Nat) (l : List (Nat × HbmError)),
    exec (.streamRecordIntake p g true l) s =
      .next (s.setElem .vager O.POISONED_4001 4 p.val ((s.elem .vager O.POISONED_4001 4 p.val + 1) % 2 ^ 32))) ∧
  (∀ (s u : State) (p : Die) (g : Nat) (l : List (Nat × HbmError)), u = (s.readBuilders l).2 → bits g 127 0 % 16 ≠ 15 →
    bits g 255 128 % 16 = 15 → u.claimed (bits (bits g 127 0) 31 16) = false →
    exec (.streamRecordIntake p g false l) s = .next (u.applyRecord p.val (bits g 127 0) (s.readBuilders l).1)) ∧
  (∀ (s : State) (w : Writer), mayReach w false .operator = true → ∃ sid, sid = s.rd .vager O.STREAM_SELECT_4000 % 2 ^ 20 ∧
    exec (.streamClear w) s = .next ((s.setVstream sid { s.vstream sid with
      records := 0, gaps := 0, late := 0, unbound := 0, gap := false, ovr := false, unlocked := false, wrap := false }).answer
        stOk)) ∧
  (∀ (s : State) (x : Fin 64) (g : Fin 16) (k : Nat) (r : Round), s.round (16 * x.val + g.val) k = some r →
    (s.group (16 * x.val + g.val)).deadline r ≤ s.extNow →
    exec (.trayPartialClose x g k) s = .next (s.closeOwn (16 * x.val + g.val) k)) ∧
  (∀ (s : State) (x : Fin 64) (g : Fin 16) (k : Nat) (r : Round), s.round (16 * x.val + g.val) k = some r →
    s.complete (16 * x.val + g.val) r = true →
    exec (.mergedRoundClose x g k) s = .next (s.closeRound (16 * x.val + g.val) k 0)) ∧
  (∀ (s u : State) (m : TreeMsg) (k x : Nat), treeComes s m 0x11 → s.kidOf m.src = some k →
    u = s.sendTree m.src 0x12 m.round m.epoch 0 0 0 m.group m.standing false [] → u.ctxOf m.epoch = some x →
    grpEnable (u.group (16 * x + m.group % 16)).cfg = true → m.standing = false →
    exec (.partialRx m) s = .next (u.mergeKid (16 * x + m.group % 16) k m)) ∧
  (∀ (s : State) (m : TreeMsg), treeComes s m 0x11 → s.kidOf m.src = none → exec (.partialRx m) s = .next s.discardTree) ∧
  (∀ (s : State) (m : TreeMsg), treeComes s m 0x12 → s.treeUp = some m.src →
    s.vager.tree.up.filter (fun u => u.epoch == m.epoch && u.group == m.group && u.round == m.round) = [] →
    exec (.partAckRx m) s = .next (s.setTree { s.vager.tree with up := s.vager.tree.up })) ∧
  (∀ (s : State) (x : Fin 64), s.ctxState x.val = 2 → s.rd .vager (O.CTX_CLOSE_TIME_4100 x.val) ≠ 0 →
    s.rd .vager (O.CTX_CLOSE_TIME_4100 x.val) ≤ s.extNow → exec (.contextCloseTime x) s = .next (s.drainContext x.val)) ∧
  (∀ (s : State) (x : Fin 64), s.ctxState x.val = 3 →
    s.rd .vager (O.CTX_CLOSE_TIME_4100 x.val) + 1000 * s.rd .vager O.DRAIN_LIMIT_4140 ≤ s.extNow →
    exec (.drainLimitExpiry x) s = .next (s.freeContext x.val)) ∧
  (∀ (s : State) (w : Writer) (x : Fin 64), mayReach w true .fleet = true →
    exec (.ctxFree w x) s = .next ((s.freeContext x.val).answer stOk)) ∧
  (∀ (s : State) (w : Writer) (j : Fin 4) (n : Nat), mayReach w true .host = true → n % 32 = 0 → n ≤ 67108864 →
    exec (.planBytesWrite w j n) s =
      .next (((s.wr .vager (O.PLAN_BYTES_4360 j.val) n).wr .vager (O.PLAN_STATE_4360 j.val) 1).answer stOk)) ∧
  (∀ (s : State) (j : Nat), (List.range 4).find? (fun j => s.rd .vager (O.PLAN_STATE_4360 j) == 1) = some j →
    exec .planDigestDone s = .next ((s.setBytes .vager (O.PLAN_TRAY_DIGEST_4360 j) 0 (sha256 (s.bytesAt .vager (O.PLAN_DATA_4360 j)
      0 (s.rd .vager (O.PLAN_BYTES_4360 j))))).wr .vager (O.PLAN_STATE_4360 j) 2))

/-- A broadcast that is not the parent's is discarded; a child's BACK is gathered; a heartbeat of a neighbour changes nothing and
any other is discarded; an orphan is adopted, again answered, or refused; an ORPHANED Vager becomes ADOPTED or ISOLATED by its
fallback's answer; what is unacknowledged is resent every period; a dead neighbour orphans or isolates this Vager or leaves its
slot DEAD; a wait for orphans ends; the tree plan is committed; a broadcast is submitted; a context opens at its time. -/
def Obligations.PodTreeCommandsComplete : Prop :=
  (∀ (s : State) (m : TreeMsg), treeComes s m 0x21 → s.treeUp = none → exec (.bcastRx m) s = .next (s.discardTree.applyDue .vager)) ∧
  (∀ (s u : State) (m : TreeMsg) (k : Nat), treeComes s m 0x22 → s.kidOf m.src = some k → 64 ≤ k →
    u = s.wr .vager (O.ADOPT_LAST_BACK_4370 (k - 64)) m.bseq →
    u.vager.tree.bcasts.find? (fun b => b.bseq == m.bseq) = none → exec (.backRx m) s = .next u) ∧
  (∀ (s : State) (m : TreeMsg), treeComes s m 0x31 → s.treeUp = some m.src → exec (.heartbeatRx m) s = .next s) ∧
  (∀ (s : State) (m : TreeMsg), treeComes s m 0x31 → s.treeUp ≠ some m.src → s.kidOf m.src = none →
    exec (.heartbeatRx m) s = .next s.discardTree) ∧
  (∀ (s : State) (m : TreeMsg) (k : Nat), treeComes s m 0x32 → s.deadKids.any (fun k => s.kidTray k == m.src) = false →
    s.kidOf m.src = none → (List.range 96).find? (fun k => s.kidState k == 0) = some k →
    exec (.adoptRx m) s = .next (s.adoptInto k m)) ∧
  (∀ (s : State) (m : TreeMsg), treeComes s m 0x32 → s.deadKids.any (fun k => s.kidTray k == m.src) = false →
    s.kidOf m.src = none → (List.range 96).find? (fun k => s.kidState k == 0) = none →
    exec (.adoptRx m) s = .next (s.sendTreeTo m.address m.src 0x34 0 0 0 0 0 0 false false [])) ∧
  (∀ (s : State) (m : TreeMsg), treeComes s m 0x33 → s.rd .vager O.TREE_STATE_4300 = 2 → m.src = s.vager.tree.fallback →
    exec (.adoptAckRx m) s = .next ((s.wr .vager O.TREE_STATE_4300 3).vager.tree.up.foldl (fun s u => s.sendTreeUp u true)
      (s.wr .vager O.TREE_STATE_4300 3))) ∧
  (∀ (s : State) (m : TreeMsg), treeComes s m 0x34 → s.rd .vager O.TREE_STATE_4300 = 2 → m.src = s.vager.tree.fallback →
    exec (.adoptNakRx m) s = .next s.isolate) ∧
  (∀ (s t u v : State) (tray : Nat), s.treeUp = some tray → t = s.sendTree tray 0x31 0 0 0 0 0 0 false false [] →
    u = (t.liveKids.map t.kidTray).foldl (fun s t => s.sendTree t 0x31 0 0 0 0 0 0 false false []) t →
    u.rd .vager O.TREE_STATE_4300 ≠ 2 → v = u.vager.tree.up.foldl (fun s x => s.sendTreeUp x true) u → v.vager.tree.bcasts = [] →
    exec .treeHeartbeatPeriod s = .next v) ∧
  (∀ (s : State) (tray : Nat), s.treeUp = some tray → s.rd .vager O.TREE_STATE_4300 ≠ 3 →
    exec (.neighbourDead tray) s = .next (s.wr .vager O.TREE_STATE_4300 2).sendAdopt) ∧
  (∀ (s : State) (tray k : Nat), s.treeUp ≠ some tray → s.kidOf tray = some k →
    exec (.neighbourDead tray) s = .next (s.kidDead k)) ∧
  (∀ (s : State) (k : Fin 96), s.vager.tree.awaiting.contains k.val = true →
    exec (.treeAdoptWaitExpiry (some k)) s = .next (s.adoptionDone k.val)) ∧
  (∀ (s : State), s.rd .vager O.TREE_STATE_4300 = 2 → exec (.treeAdoptWaitExpiry none) s = .next s.isolate) ∧
  (∀ (s : State) (w : Writer), mayReach w true .fleet = true → 
    exec (.treeCommit w) s = .next (s.commitTree.answer stOk)) ∧
  (∀ (s : State) (w : Writer) (h : Nat) (b : List Nat), mayReach w true .fleet = true →
    exec (.bcastSubmit w h b) s = .next ((s.bcastSubmit h b).applyDue .vager)) ∧
  (∀ (s : State) (m : TreeMsg), treeComes s m 0x21 → s.treeUp = some m.src →
    reached (s.rd .vager O.TREE_LAST_BSEQ_4300) m.bseq = false → m.bseq = (s.rd .vager O.TREE_LAST_BSEQ_4300 + 1) % 2 ^ 32 →
    exec (.bcastRx m) s = .next ((State.drainAhead 8 (s.processBcast m.bseq m.epoch m.body)).applyDue .vager)) ∧
  (∀ (s : State) (x : Fin 64), s.ctxState x.val = 1 → s.rd .vager (O.CTX_OPEN_TIME_4100 x.val) ≤ s.extNow →
    exec (.contextOpenTime x) s = .next ((s.openContext x.val).applyDue .vager))

/-- A builder's configuration is taken with its state cleared, or refused under R248 with its code and a count; BLD_RESET clears
the state and keeps the configuration; a row's descriptor and a row's features are written; a sketch slot's window is written with
the slot cleared; a reference value is written where no group writes it; the sweep faults a builder whose state reads as poison
and otherwise does its part of R247. -/
def Obligations.BuilderCommandsComplete : Prop :=
  (∀ (s : State) (w : Writer) (l : List Nat) (n : Nat), mayReach w true .operator = true → l.length ≤ 32 →
    n = s.rd .vager O.BLD_SELECT_4830 % 2 ^ 22 →
    (s.builderRefusal n (ofBytes l) = 0 →
      exec (.bldConfigWrite w l) s = .next ((s.setBuilder n { cfg := ofBytes l }).answer stOk)) ∧
    (s.builderRefusal n (ofBytes l) ≠ 0 → exec (.bldConfigWrite w l) s = .next (((s.bump .vager O.BLD_REFUSED_4830 32).wr
      .vager O.BLD_REFUSE_CODE_4830 (s.builderRefusal n (ofBytes l))).answer stRefused))) ∧
  (∀ (s : State) (w : Writer) (n : Nat), mayReach w true .operator = true → n = s.rd .vager O.BLD_SELECT_4830 % 2 ^ 22 →
    exec (.bldReset w) s = .next ((s.setBuilder n { cfg := (s.builder n).cfg }).answer stOk)) ∧
  (∀ (s : State) (w : Writer) (v r : Nat), mayReach w true .operator = true → r = s.rd .vager O.ENT_SELECT_4810 % 2 ^ 20 →
    bits (fld 24 8 (v / 2 ^ 24) + v % 2 ^ 16) 31 28 ≤ 5 → (s.enabledBuilders.any fun e => bldRow e.2.cfg == r) = false →
    exec (.entDescWrite w v) s =
      .next ((s.setFrow r { s.frow r with desc := fld 24 8 (v / 2 ^ 24) + v % 2 ^ 16 }).answer stOk)) ∧
  (∀ (s : State) (w : Writer) (r : Nat), mayReach w true .operator = true → r = s.rd .vager O.ENT_SELECT_4810 % 2 ^ 20 →
    exec (.entClear w) s = .next ((s.setFrow r { s.frow r with feat := [], poison := 0 }).answer stOk)) ∧
  (∀ (s : State) (w : Writer) (v : Nat), mayReach w true .operator = true → 1000 ≤ v → v ≤ 3600000000 →
    exec (.skWindowWrite w v) s = .next ((s.setSketch (s.rd .vager O.SK_SELECT_4838) { window := v }).answer stOk)) ∧
  (∀ (s : State) (w : Writer) (v : Int) (r : Nat), mayReach w true .operator = true → r = s.rd .vager O.REF_SELECT_4840 →
    (s.refReg r).source % 2 ^ 16 = 0xFFFF → exec (.refValueWrite w v) s =
      .next ((s.setRefReg r { s.refReg r with value := toSigned 64 (ofSigned 64 v), nan := false }).answer stOk)) ∧
  (∀ (s : State) (n : Nat) (er : Option HbmError), s.ttOn = true → bldEnable (s.builder n).cfg = true → (s.builder n).fault = false →
    exec (.builderSweep n er) s = .next (if (s.readBuilder n er).1 then (s.readBuilder n er).2.builderFault n
      else (s.readBuilder n er).2.builderSweep n))

/-- A periodic start that is due starts a pass; an item whose row is read and whose blocks are filled is done on an active lane; a
pass with every item done and every probe passed is released; a matching probe set ends the lane's probing, a mismatch counts, is
a lane error and has the lane's items run again; an idle lane starts its probe set; a staged image loads into an EMPTY slot and is
LOADED or REFUSED with its code; a slot is unloaded; a spare block is filled. -/
def Obligations.TellTaleCommandsComplete : Prop :=
  (∀ (s : State) (m : Fin 64) (t : Nat), s.dueStart m.val = some t → exec (.passStart m) s = .next (s.passStart m.val t false)) ∧
  (∀ (s u : State) (m : Fin 64) (row : Nat) (lane : Fin 17) (hit : Bool) (f : Option (Fin 64 × Bool))
    (er : List (Nat × HbmError)) (p : Pass) (y : Model) (g : Nat), (s.mslot m.val).pass = some p → (s.mslot m.val).model = some y →
    p.todo.find? (fun e => e.2 == row) = some (g, row) → s.ttOn = true →
    ((s.mslot m.val).phys.any fun b => b.1 / 64 == g && (s.laneGroup g).filling.contains b.2) = false →
    (s.laneGroup g).active.contains lane.val = true → s.inLane g m.val row = true →
    p.barred.contains (row, 17 * g + lane.val) = false → (s.frow row).kind ≠ 0 → u = s.readRow row hit f er →
    exec (.workItemDone m row lane hit f er none) s =
      .next ((u.evalItem m.val p y (g, row) lane.val none).nodeError m.val g y none)) ∧
  (∀ (s : State) (m : Fin 64) (p : Pass) (y : Model), (s.mslot m.val).pass = some p → (s.mslot m.val).model = some y →
    s.ttOn = true → p.todo = [] → p.probing = [] →
    exec (.passRelease m) s = .next ((s.setMslot m.val { s.mslot m.val with pass := none }).releasePass m.val p y)) ∧
  (∀ (s u : State) (g : Fin 4) (lane : Fin 17), (s.laneGroup g.val).idleProbe.contains lane.val = true →
    u = s.setLaneGroup g.val { s.laneGroup g.val with idleProbe := (s.laneGroup g.val).idleProbe.erase lane.val } →
    exec (.laneProbeDone g lane true) s = .next (u.setVager { u.vager with models := u.vager.models.map fun e =>
      (e.1, { e.2 with pass := e.2.pass.map fun p => { p with probing := p.probing.erase (17 * g.val + lane.val) } }) }) ∧
      exec (.laneProbeDone g lane false) s =
        .next (((u.redoLane g.val lane.val fun p => p.probing.contains (17 * g.val + lane.val)).bump .vager O.PROBE_FAILS_4800
          32).classify 4 (17 * g.val + lane.val) true)) ∧
  (∀ (s : State) (g : Fin 4) (lane : Fin 17), (s.laneGroup g.val).active.contains lane.val = true →
    s.ttOn = true → s.laneIdle g.val lane.val = true → (s.laneGroup g.val).idleProbe.contains lane.val = false → exec (.probeIntervalExpiry g lane) s =
      .next (s.setLaneGroup g.val { s.laneGroup g.val with idleProbe := (s.laneGroup g.val).idleProbe ++ [lane.val] })) ∧
  (∀ (s : State) (w : Writer) (m : Fin 64), mayReach w true .operator = true → s.mdlState m.val = 0 →
    exec (.modelLoad w m) s = .next ((((List.range 4).foldl (fun s g =>
      if bitAt (s.rd .vager (O.MDL_PLACE_4880 m.val)) g then s.wakeVager (18 + g) else s)
        (s.setMslot m.val { s.mslot m.val with
          image := s.bytesAt .vager O.STAGE_DATA_4A00 0 (s.rd .vager O.STAGE_BYTES_4A00) })).setMdlState m.val 1).answer stOk)) ∧
  (∀ (s : State) (m : Fin 64) (gs : List Nat) (code : Nat), s.mdlState m.val = 1 →
    gs = (List.range 4).filter (fun g => bitAt (s.rd .vager (O.MDL_PLACE_4880 m.val)) g) →
    code = s.loadError m.val (parseImage (s.mslot m.val).image) gs →
    (code = 0 → exec (.modelLoadDone m) s =
      .next ((s.wr .vager (O.MDL_LOAD_ERROR_4880 m.val) 0).finishLoad m.val (parseImage (s.mslot m.val).image).2 gs)) ∧
    (code ≠ 0 → exec (.modelLoadDone m) s = .next (((s.wr .vager (O.MDL_LOAD_ERROR_4880 m.val) code).setMslot m.val
      { s.mslot m.val with image := [] }).setMdlState m.val 5))) ∧
  (∀ (s : State) (w : Writer) (m : Fin 64), mayReach w true .operator = true →
    (s.mdlState m.val = 2 ∨ s.mdlState m.val = 5 ∨ s.mdlState m.val = 6 →
      exec (.modelUnload w m) s = .next ((s.freeSlot m.val).answer stOk)) ∧
    (s.mdlState m.val = 3 →
      exec (.modelUnload w m) s = .next (((s.setMdlState m.val 4).freeIfRetired m.val).answer stOk))) ∧
  (∀ (s : State) (g : Fin 4) (b : Nat), exec (.blockSpareFillDone g b) s =
    .next (s.setLaneGroup g.val { s.laneGroup g.val with filling := (s.laneGroup g.val).filling.erase b }))

/-- An egress block with the checking disabled is unchecked; poisoned, it counts as poisoned with verdict 3; with a check that
agrees it is good with verdict 1; else it is bad with verdict 2 and reported. A sideband block with no key slot is counted in
NO_KEY and given verdict 0. A combine beyond COMB_TIMEOUT is abandoned, a window's last event reported with its number, a poison
report charged to the epoch in force, an epoch and a key taken, a slot emptied. -/
def Obligations.DigestCommandsComplete : Prop :=
  (∀ (s : State) (d : Die) (h : Nat) (l : List Nat) (po late : Bool) (ev : Nat → Nat), s.dieDomain d 3 = 0 →
    ev = (fun x => eventGranule (bits h 191 160) (bits h 159 128) (bits h 127 96) (s.ns (.staris d)) x 0 (bits h 71 64) 0 1) →
    bitAt (s.rd (.staris d) O.DT_ENABLE_5000) 0 = false →
    exec (.egressBlock d h l po late) s = .next ((s.unchecked d (s.keySlot d (bits h 127 96))).verdict d false (bits h 63 48) 0
      none late (ev 0))) ∧
  (∀ (s : State) (d : Die) (h n c : Nat) (l : List Nat) (po late : Bool) (ev : Nat → Nat), s.dieDomain d 3 = 0 →
    ev = (fun x => eventGranule (bits h 191 160) (bits h 159 128) (bits h 127 96) (s.ns (.staris d)) x 0 (bits h 71 64) 0 1) →
    bitAt (s.rd (.staris d) O.DT_ENABLE_5000) 0 = true → bits h 191 160 ≠ 0 → n = bits h 95 72 →
    c = crc64 (((l ++ List.replicate n 0).take n).flatMap (toBytes 32)) (bits h 191 160) →
    (po = true ∨ bits h 255 192 = Nat.xor c crcPoison → exec (.egressBlock d h l po late) s =
      .next (((s.bump (.staris d) O.BLK_POISONED_5001 32).internalEvent d 0x1302).verdict d false (bits h 63 48) 3 none late
        (ev 0))) ∧
    (po = false → bits h 255 192 ≠ Nat.xor c crcPoison → bits h 255 192 = c → exec (.egressBlock d h l po late) s =
      .next (((s.bump (.staris d) O.BLK_GOOD_5001 64).internalEvent d 0x1300).verdict d false (bits h 63 48) 1 none late
        (ev 0))) ∧
    (po = false → bits h 255 192 ≠ Nat.xor c crcPoison → bits h 255 192 ≠ c → exec (.egressBlock d h l po late) s =
      .next (((((s.bump (.staris d) O.BLK_BAD_5001 32).internalEvent d 0x1301).setBytes (.staris d) O.LAST_BAD_5001 0
        (toBytes 32 (ev c))).digestEvent d (ev c)).verdict d false (bits h 63 48) 2 none late (ev 0)))) ∧
  (∀ (s : State) (d : Die) (h a : Nat) (l : List Nat) (po late : Bool), s.dieDomain d 3 = 0 →
    s.keySlot d (bits h 191 160) = none → bits h 111 110 = 1 → exec (.sidebandBlock d h a l po late) s =
      .next (((s.bump (.staris d) O.NO_KEY_5020 32).unchecked d none).verdict d true (bits h 99 84) 0 none late
        (s.sideEvent d (s.readSide d 0 h []) 7 0))) ∧
  (∀ (s : State) (d : Die) (n : Nat), exec (.combineTimeout d n) s = .next (s.abandonAll d fun x => x.num == n)) ∧
  (∀ (s : State) (d : Die) (code n g : Nat), Tbl.find (s.ck d).windows code = some (n, g) → n ≠ 0 →
    exec (.coalesceWindowEnd d code) s = .next (((s.setCk d { s.ck d with windows := Tbl.erase (s.ck d).windows code }).bump
      (.staris d) O.EVENTS_COALESCED_5030 32 n).sendDigestEvent d (setFld g 16 8 (min n 255)))) ∧
  (∀ (s : State) (d : Die) (slot tag step k : Nat), (s.slotContext d slot).1 ≠ 0 →
    s.keySlot d (s.slotContext d slot).1 = some k → exec (.poisonConsumeReport d slot tag step) s =
      .next (((s.bump (.staris d) (O.POISON_CONSUMED_5010 k) 32).internalEvent d 0x1309).digestEvent d
        (eventGranule tag step (s.slotContext d slot).1 ((s.bump (.staris d) (O.POISON_CONSUMED_5010 k) 32).ns (.staris d)) 0 0
          slot 0 6))) ∧
  (∀ (s : State) (d : Die) (w : Writer) (k : Fin 4) (v : Nat), mayReach w true .fleet = true → v ≠ 0 → v < 2 ^ 32 →
    s.rd (.staris d) (O.KEY_STATE_5010 k.val) = 0 →
    ((List.range 4).any fun i => s.rd (.staris d) (O.KEY_STATE_5010 i) != 0 && s.rd (.staris d) (O.KEY_EPOCH_5010 i) == v) = false →
    exec (.keyEpochWrite d w k v) s = .next
      (((s.wr (.staris d) (O.KEY_EPOCH_5010 k.val) v).wr (.staris d) (O.KEY_STATE_5010 k.val) 1).answer stOk)) ∧
  (∀ (s : State) (d : Die) (w : Writer) (k : Fin 4) (v y : List Nat), mayReach w true .fleet = true → v.length = 32 →
    s.rd (.staris d) (O.KEY_STATE_5010 k.val) = 1 →
    y = kmac128 v (toBytes 4 (s.rd (.staris d) (O.KEY_EPOCH_5010 k.val))) nameFp →
    exec (.keyValueWrite d w k v) s = .next (((s.setCk d { s.ck d with keys := Tbl.insert (s.ck d).keys k.val {
        key := v
        r0 := ofBytes (y.take 8) % (fpPrime - 3) + 2
        r1 := ofBytes ((y.drop 8).take 8) % (fpPrime - 3) + 2 } }).wr
        (.staris d) (O.KEY_STATE_5010 k.val) 2).answer stOk)) ∧
  (∀ (s u v : State) (d : Die) (w : Writer) (k : Fin 4), mayReach w true .fleet = true →
    u = s.abandonAll d (fun x => x.slot == k.val) →
    v = ((u.setCk d { u.ck d with keys := Tbl.erase (u.ck d).keys k.val }).wr (.staris d) (O.KEY_EPOCH_5010 k.val) 0).wr
      (.staris d) (O.KEY_STATE_5010 k.val) 0 →
    exec (.keyClear d w k) s = .next (([O.LIN_GOOD_5010 k.val, O.LIN_COMBINE_BAD_5010 k.val, O.LIN_RECV_BAD_5010 k.val,
      O.KMAC_GOOD_5010 k.val, O.KMAC_RECV_BAD_5010 k.val, O.UNCHECKED_5010 k.val, O.POISON_CONSUMED_5010 k.val,
      O.POISON_DROPPED_5010 k.val].foldl (fun s i => s.wr (.staris d) i 0) v).answer stOk))

/-- A noticed entry that fits is read and sent; a skip is announced; the die's answers to a recompute and to a poison request are
forwarded; a verdict frees the ring entry; a recompute and a poison request are put to the die. At Vager a sample joins the pool
or is discarded as OVERLOAD; a skip settles its sample; E is judged; no E in time settles. -/
def Obligations.ShroudSampleCommandsComplete : Prop :=
  (∀ (s : State) (d : Die) (sid off n : Nat) (l : List (Nat × Bool)) (y : ShSel), (s.shd d).sels.find? (fun y => y.sid == sid) = some y →
    (s.setShd d { s.shd d with sels := (s.shd d).sels.erase y }).linkUp false d = true →
    n ≤ (s.setShd d { s.shd d with sels := (s.shd d).sels.erase y }).rd (.staris d) O.SH_MAX_SAMPLE_5400 →
    ringFits (s.shd d).ring ((s.setShd d { s.shd d with sels := (s.shd d).sels.erase y }).rd (.staris d) O.SH_RING_BYTES_5400) off
      n = true →
    exec (.sampleNotice d sid off n l) s =
      .next ((s.setShd d { s.shd d with sels := (s.shd d).sels.erase y }).sendSample d y.slot sid off n l)) ∧
  (∀ (s : State) (d : Die) (sid code : Nat) (y : ShSel), (s.shd d).sels.find? (fun y => y.sid == sid) = some y →
    exec (.sampleSkip d sid code) s = .next ((s.setShd d { s.shd d with sels := (s.shd d).sels.erase y }).shSkip d y code)) ∧
  (∀ (s : State) (d : Die) (sid : Nat) (l : List (Nat × Bool)) (e : ShEntry), s.heldEntry d sid = some e →
    exec (.recomputeAnswer d sid true l) s =
      .next ((s.bump (.staris d) O.RECOMPUTE_DECLINED_5401 32).notice d (entrySel e) 0x10) ∧
    exec (.recomputeAnswer d sid false l) s = .next ((s.bump (.staris d) O.RECOMPUTES_5401 32).sendTap d
      ((flagHeader (setBit (setFld (setFld e.header 24 8 1) 0 8 0x52) 48 true) (classed (sectionsOf 1 l)), false) ::
        sectionGranules (classed (sectionsOf 1 l))))) ∧
  (∀ (s : State) (d : Die) (a : ShSel) (t : List ShSel) (b : Bool), (s.shd d).asks = a :: t →
    exec (.poisonRequestAnswer d b) s = .next ((s.setShd d { s.shd d with asks := t }).notice d a (if b then 0x20 else 0x21))) ∧
  (∀ (s : State) (d : Die) (g : Nat) (e : ShEntry), s.heldEntry d (bits g 255 224) = some e →
    exec (.verdictCommand d g) s = .next ((s.setShd d { s.shd d with ring := dropFreed ((s.shd d).ring.map fun e =>
      if e.sid = bits g 255 224 then { e with freed := true, waiting := none } else e) }).emit (.shrFree d.val (bits g 255 224)))) ∧
  (∀ (s : State) (d : Die) (g : Nat) (e : ShEntry), s.heldEntry d (bits g 255 224) = some e →
    exec (.recomputeCommand d g) s = .next (s.emit (.shrRecompute d.val (bits g 255 224) (bits g 119 112)))) ∧
  (∀ (s : State) (d : Die) (g : Nat) (e : ShEntry), s.heldEntry d (bits g 255 224) = some e →
    exec (.poisonReqCommand d g) s = .next (((s.setShd d { s.shd d with asks := (s.shd d).asks ++ [{
        sid := bits g 255 224, tag := bits g 223 192
        step := bits g 191 160, epoch := bits e.header 191 160, slot := bits g 119 112 }] }).bump
        (.staris d) O.POISON_REQS_5401 32).emit (.poisonRequest d.val (bits g 223 192) (bits g 191 160) (bits g 159 128)))) ∧
  (∀ (s u v : State) (p : Die) (m : List (Nat × Bool)) (x : Sample),
    u = (s.tapPoison p m).noteSid p (bits (m.headD (0, false)).1 159 128) →
    x = { port := p.val, sid := bits (m.headD (0, false)).1 159 128, msg := if u.poolFull m.length then m.take 1 else m } →
    v = (u.setSh { u.sh with pool := u.sh.pool ++ [x] }).poolChanged →
    exec (.shroudSampleRx p m) s = .next (if u.poolFull m.length then v.settle x 4 6 else v.sampleIn x)) ∧
  (∀ (s u : State) (p : Die) (g : Nat) (x : Sample), 1 ≤ bits g 47 40 → bits g 47 40 ≤ 4 →
    u = s.noteSid p (bits g 159 128) →
    x = {
      port := p.val
      sid := bits g 159 128
      msg := [(fld 128 128 (g / 2 ^ 128) + fld 49 8 (bits g 63 56) + 0x51, false)] } →
    exec (.shroudNoticeRx p g) s =
      .next ((u.setSh { u.sh with pool := u.sh.pool ++ [x] }).poolChanged.settle x 4 (bits g 47 40))) ∧
  (∀ (s u : State) (p : Die) (m : List (Nat × Bool)) (x : Sample) (e : List Nat), u = s.tapPoison p m →
    u.sample p.val (bits (m.headD (0, false)).1 159 128) = some x → x.phase = .waitE → goodE x.operands m = some e →
    differing (resultOf x.operands x.operands.d) e = [] →
    exec (.shroudRecomputeRx p m) s = .next (u.settle x (if x.agreed.isNone then 0x0B else 7) x.ndiff)) ∧
  (∀ (s : State) (p : Die) (sid : Nat) (x : Sample), s.sample p.val sid = some x → x.phase = .waitE →
    exec (.recomputeTimeout p sid) s = .next (s.settle x 0x0A x.ndiff))

/-- A cluster's result joins its sample; a reverification settles INPUT_BAD or goes to a second cluster; a self-test is due,
passed, or failed with the cluster retired; a settled verdict that waits for no cluster is released; a profile is taken, refused
or cleared; a held sample is pinned or unpinned; a replay starts and ends. -/
def Obligations.ShroudClusterCommandsComplete : Prop :=
  (∀ (s : State) (c : Fin 18) (port sid : Nat) (wr : Option (List Nat)), (s.cluster c.val).job = some (port, sid) →
    exec (.clusterRunDone c wr) s = .next (((s.runEnds c.val).takeResult c.val port sid wr).shroudDispatch 40)) ∧
  (∀ (s : State) (p : Die) (sid : Nat) (x y : Sample), s.sample p.val sid = some x → x.phase = .reverify →
    y = { x with steps := setBit x.steps 0 true } → exec (.arbitrationReverifyDone p sid) s =
      .next (if (y.sections.any fun z => sectionClass z != 0) then (s.settle y 6 2).shroudDispatch 40
        else (s.enterSecond y).shroudDispatch 40)) ∧
  (∀ (s : State) (c : Fin 18), s.clState c.val = 1 → (s.cluster c.val).testing = false →
    s.rd .vager O.KAT_SAMPLES_5440 ≤ (s.cluster c.val).samples → exec (.katDue c) s =
    .next ((s.nameCluster c.val).shroudDispatch 40)) ∧
  (∀ (s u v : State) (c : Fin 18), (s.cluster c.val).testing = true →
    u = s.setCluster c.val { s.cluster c.val with testing := false, samples := 0, work := 0 } →
    v = u.setSh { u.sh with pool := u.sh.pool.map fun x => { x with wait := x.wait.filter fun e => !(e.1 == c.val && e.2) } } →
    exec (.katDone c true) s = .next ((if v.clState c.val = 4 then v.setClState c.val 1 else v).shroudDispatch 40)) ∧
  (∀ (s : State) (c : Fin 18), (s.cluster c.val).testing = true → exec (.katDone c false) s =
    .next (((s.setElem .vager O.KAT_FAILS_5441 4 c.val ((s.elem .vager O.KAT_FAILS_5441 4 c.val + 1) % 2 ^ 32)).permanent
      3 c.val none []).classify 3 c.val true)) ∧
  (∀ (s : State) (p : Die) (sid code : Nat) (x : Sample), s.sample p.val sid = some x → x.verdict = some code → x.wait = [] →
    exec (.verdictRelease p sid) s = .next (s.releaseVerdict x code)) ∧
  (∀ (s u v : State) (w : Writer) (j : Fin 16) (l : List Nat), mayReach w true .fleet = true → l.length ≤ 64 →
    profCode (ofBytes l) = 0 → s.profBusy j.val = false → u = s.writeOctets .vager (O.PROF_DATA_5450 j.val) 64 l →
    v = u.setBytes .vager (O.PROF_DIGEST_5450 j.val) 0 (sha256 (u.bytesAt .vager (O.PROF_DATA_5450 j.val) 0 64)) →
    exec (.profDataWrite w j l) s =
      .next (((v.wr .vager (O.PROF_STATE_5450 j.val) 1).wr .vager (O.PROF_REFUSE_5450 j.val) 0).answer stOk)) ∧
  (∀ (s : State) (w : Writer) (j : Fin 16) (l : List Nat), mayReach w true .fleet = true → l.length ≤ 64 →
    profCode (ofBytes l) ≠ 0 → exec (.profDataWrite w j l) s = .next (((s.wr .vager (O.PROF_STATE_5450 j.val) 2).wr .vager
      (O.PROF_REFUSE_5450 j.val) (profCode (ofBytes l))).answer stRefused)) ∧
  (∀ (s : State) (w : Writer) (j : Fin 16), mayReach w true .fleet = true → s.profBusy j.val = false →
    exec (.profClear w j) s = .next (((((s.writeOctets .vager (O.PROF_DATA_5450 j.val) 64 []).writeOctets .vager
      (O.PROF_DIGEST_5450 j.val) 32 []).wr .vager (O.PROF_STATE_5450 j.val) 0).wr .vager (O.PROF_REFUSE_5450 j.val) 0).answer
        stOk)) ∧
  (∀ (s : State) (w : Writer) (x : Sample), mayReach w true .operator = true → s.heldSample = some x →
    ((s.sh.pool.filter fun y => y.pinned).length < 16 → exec (.heldPinWrite w true) s =
      .next ((s.setSh { s.sh with pool := s.sh.pool.map fun y =>
        if y.port == x.port && y.sid == x.sid && y.released == x.released then { y with pinned := true } else y }).poolChanged.answer
          stOk)) ∧
    (x.released = true → exec (.heldPinWrite w false) s =
      .next ((s.setSh { s.sh with pool := s.sh.pool.filter fun y =>
        !(y.port == x.port && y.sid == x.sid && y.released == x.released) }).poolChanged.answer stOk))) ∧
  (∀ (s : State) (w : Writer) (c : Nat), mayReach w true .operator = true → s.rd .vager O.REPLAY_STATE_5480 ≠ 1 →
    s.replayCluster = some c → s.replaySample.operands.reserved = false →
    s.rd .vager O.REPLAY_BYTES_5480 ≠ 0 → exec (.replayGo w) s =
      .next ((((s.setSh { s.sh with replay := some c }).wr .vager O.REPLAY_STATE_5480 1).wakeCluster c).answer stOk)) ∧
  (∀ (s : State) (c : Nat) (wr : Option (List Nat)), s.sh.replay = some c → s.clState c = 1 → (s.cluster c).job = none →
    (s.cluster c).testing = false →
    exec (.replayDone wr) s = .next ((s.finishReplay c wr).shroudDispatch 40))

/-- CUT_ARM starts a cut or is refused with its code; CUT_ARM_COMMAND arms a Staris; CUT_CANCEL ends its cut with CANCEL;
CUT_READY begins absorption on DMA channel 2 or ends the cut on a step mismatch; READY_WAIT ends it; a complete absorption is
sent, ended and the die released; a chunk lands in its slot or discards the cut; a chunk's digest is taken; an END is recorded or
discards the cut; a cut is abandoned; STAY_BYTES is set. -/
def Obligations.CutAbsorptionCommandsComplete : Prop :=
  (∀ (s : State) (w : Writer) (a : Nat), mayReach w true .fleet = true →
    (s.armCode a = 0 → exec (.cutArmWrite w a) s = .next ((s.startCut a).answer stOk)) ∧
    (s.armCode a ≠ 0 →
      exec (.cutArmWrite w a) s = .next ((s.wr .vager O.CUT_REFUSE_5880 (s.armCode a)).answer stRefused))) ∧
  (∀ (s v : State) (d : Die) (h : Nat), s.rd (.staris d) O.STAY_STATE_5800 < 2 →
    v = (((s.wr (.staris d) O.ARM_CUT_5800 (bits h 191 160)).wr (.staris d) O.ARM_STEP_5800 (bits h 159 128)).wr (.staris d)
      O.ARM_EPOCH_5800 (bits h 127 96)).wr (.staris d) O.STAY_STATE_5800 1 → v.slotsNeeded d ≤ bits h 95 80 →
    exec (.cutArmCommand d h) s = .next (v.emit (.cutArmed d.val (bits h 159 128)))) ∧
  (∀ (s : State) (d : Die), exec (.cutCancelCommand d) s = .next (s.stopCut d 6)) ∧
  (∀ (s u : State) (d : Die) (step : Nat), s.rd (.staris d) O.STAY_STATE_5800 = 1 →
    u = s.wr (.staris d) O.LAST_READY_5800 (s.ns (.staris d)) →
    (step % 2 ^ 32 = u.rd (.staris d) O.ARM_STEP_5800 → exec (.cutReady d step) s = .next (((u.setStd d { u.std d with
      tReady := u.ns (.staris d) }).wr (.staris d) O.STAY_STATE_5800 2).dmaSettle (.staris d) 2)) ∧
    (step % 2 ^ 32 ≠ u.rd (.staris d) O.ARM_STEP_5800 → exec (.cutReady d step) s = .next (u.stopCut d 2))) ∧
  (∀ (s : State) (d : Die), s.rd (.staris d) O.STAY_STATE_5800 = 1 → exec (.readyTimeout d) s = .next (s.stopCut d 1)) ∧
  (∀ (s : State) (d : Die) (l : List (List (Nat × Bool))), s.rd (.staris d) O.STAY_STATE_5800 = 2 → s.dmaState (.staris d) 2 = 3 →
    exec (.absorptionComplete d l) s = .next (((((List.range (s.slotOrder d).length).zip (s.slotOrder d)).foldl
      (fun s e => s.sendChunk d e.2.1 e.2.2 (l.getD e.1 [])) s).endCut d (s.slotOrder d).length 0).shroudResume d)) ∧
  (∀ (s : State) (p : Die) (h r c : Nat) (b : Bool) (l : List (Nat × Bool)), r = bits h 79 74 →
    c = bits h 127 104 → s.cutState = 1 ∨ s.cutState = 2 →
    (bits h 191 160 = armCut s.arm → bitAt (armMask s.arm) p.val = true → c < s.regChunks p r →
      s.regFirst p r + c < s.rd .vager O.CHUNK_SLOTS_5880 → exec (.stayChunkRx p h b l) s = .next (s.landChunk p h b l)) ∧
    (bits h 191 160 ≠ armCut s.arm → exec (.stayChunkRx p h b l) s = .next (s.discardCut 7))) ∧
  (∀ (s u : State) (n : Nat) (er : List (Nat × HbmError)), s.cutState = 2 → (Tbl.find s.stay.chunks n).isSome = true →
    (s.chunk n).digest = none → u = s.readSlot n 0 (er.filter fun e => decide (e.1 < (s.chunk n).len)) →
    ((u.slotData n (s.chunk n).len).any fun g => g.poison) = false → exec (.chunkDigestDone n er) s =
      .next ((u.setChunk n { s.chunk n with
        digest := some (granulesDigest ((u.slotData n (s.chunk n).len).map fun g => g.data)) }).checkAbsorbed)) ∧
  (∀ (s : State) (p : Die) (g : Nat), s.cutState = 1 ∨ s.cutState = 2 →
    bits g 191 160 = armCut s.arm → bitAt (armMask s.arm) p.val = true →
    (bits g 71 64 = 0 → exec (.stayEndRx p g) s = .next ((s.setStay { s.stay with
      ends := Tbl.insert s.stay.ends p.val (s.extend (bits g 159 128), s.extend (bits g 127 96)) }).checkAbsorbed)) ∧
    (bits g 71 64 ≠ 0 → exec (.stayEndRx p g) s = .next (s.discardCut (bits g 71 64)))) ∧
  (∀ (s : State) (w : Writer), mayReach w true .fleet = true → 1 ≤ s.cutState → s.cutState ≤ 5 →
    exec (.cutAbandon w) s = .next ((s.abandonCut 10).answer stOk)) ∧
  (∀ (s : State) (w : Writer) (n : Nat), mayReach w true .fleet = true → n % 4096 = 0 → n ≤ 512000000000 →
    n + s.rd .vager O.TRACE_REGION_BYTES_3580 ≤ 572000000000 → s.cutIdle = true → s.rstState = 0 →
    ((List.range 16).any fun r => s.rd .vager (O.HREG_ENABLE_7448 r) == 1 &&
      (decide (s.rd .vager (O.HREG_BASE_7448 r) < 576000000000 - n) ||
        decide (576000000000 < s.rd .vager (O.HREG_BASE_7448 r) + s.rd .vager (O.HREG_BYTES_7448 r)))) = false →
    exec (.stayBytesWrite w n) s =
      .next (((s.wr .vager O.STAY_BYTES_5880 n).wr .vager O.CHUNK_SLOTS_5880 (n / 67108864)).answer stOk))

/-- A segment of a peer's list is kept and the peer counted as heard when its list is complete; EXCHANGE_WAIT starts draining; a
target's answers set the connection up; an R2T is served or finds the chunk spoilt; a Write is done, fails or is retried; a target
ends the connection; HOST_ACK frees host records; a HANDOFF is taken or refused and its answer recorded. -/
def Obligations.CutStorageCommandsComplete : Prop :=
  (∀ (s u : State) (h n : Nat) (b : List Nat) (l : PeerList), s.smHere h 1 3 = true → s.stayPeers.contains (smSrc h) = true →
    (s.peerList (smSrc h)).segs.contains (smArg0 h) = false →
    l = ⟨smArg0 h :: (s.peerList (smSrc h)).segs, if smLast h then some (smArg0 h) else (s.peerList (smSrc h)).last,
      (s.peerList (smSrc h)).entries ++ readEntries b⟩ → n = smSrc h →
    u = s.setStay { s.stay with peers := Tbl.insert s.stay.peers n l } →
    exec (.digestsRx h b) s = .next (if l.complete then u.bump .vager O.PEERS_HEARD_5882 16 else u).checkPeers) ∧
  (∀ (s : State), s.cutState = 3 → exec .exchangeWaitExpiry s = .next s.enterDraining) ∧
  (∀ (s u : State) (t : Fin 8) (cid : Nat) (x : DrainWrite),
    s.stay.writes.find? (fun x => x.cid == cid && x.tgt == t.val && x.stage == .outstanding) = some x →
    u = s.setStay { s.stay with writes := s.stay.writes.filter fun y => y.cid != cid } →
    exec (.nvmeCapsuleRespRx t cid true) s =
      .next (if (u.stay.writes.any fun y => y.item == x.item) then u else u.itemDurable x.item).pump ∧
    exec (.nvmeCapsuleRespRx t cid false) s = .next ((s.bump .vager (O.TGT_ERRORS_5888 t.val) 32).failWrite cid)) ∧
  (∀ (s u : State) (t : Fin 8) (cid tag off len n k : Nat) (er : List (Nat × HbmError)) (x : DrainWrite),
    s.stay.writes.find? (fun x => x.cid == cid && x.tgt == t.val && x.stage == .outstanding) = some x → x.item = .chunk k →
    n = min (granulesOf len) (x.count - off / 32) →
    u = s.readSlot k (x.first + off / 32) (er.filter fun e => decide (e.1 < n)) →
    ((((u.itemData x.item).drop (x.first + off / 32)).take n).any fun g => g.poison) = true →
    exec (.nvmeR2tRx t cid tag off len er) s = .next (u.chunkSpoilt k).pump) ∧
  (∀ (s : State) (t : Fin 8) (cid tag off len n most : Nat) (er : List (Nat × HbmError)) (x : DrainWrite),
    s.stay.writes.find? (fun x => x.cid == cid && x.tgt == t.val && x.stage == .outstanding) = some x → x.item = .manifest →
    n = min (granulesOf len) (x.count - off / 32) →
    most = (if (s.conn t.val x.queue).most = 0 then len else (s.conn t.val x.queue).most) →
    exec (.nvmeR2tRx t cid tag off len er) s = .next (((s.conn t.val x.queue).h2cPieces cid tag most (len / most + 1) off
      (((((s.itemData .manifest).drop (x.first + off / 32)).take n).flatMap (fun g : Gran => toBytes 32 g.data) ++
        List.replicate len 0).take len)).foldl (fun s pdu => s.sendPdu t.val x.queue pdu) s)) ∧
  (∀ (s u v : State) (t : Fin 8) (hd dd : Bool) (most : Nat), (s.target t.val).stage = 1 →
    u = (s.setTarget t.val { s.target t.val with
      stage := 2, conns := Tbl.insert (s.target t.val).conns 0 { hdgst := hd, ddgst := dd, most := most } }).fabricsConnect t.val 0 →
    v = (u.sendCmd t.val 0 (sqePropertySet 1) []).sendCmd t.val 0 (sqePropertyGet 2) [] →
    exec (.nvmeIcrespRx t 0 hd dd most) s = .next ((v.sendCmd t.val 0 (sqeIdentify 3 0 1) []).sendCmd t.val 0
      (sqeIdentify 4 (v.rd .vager (O.TGT_NSID_5888 t.val)) 0) [])) ∧
  (∀ (s : State) (t : Fin 8) (lba meta_ mdts : Nat), (s.target t.val).stage = 2 →
    exec (.nvmeC2hDataRx t (.controller mdts)) s =
      .next ((s.setTarget t.val { s.target t.val with mdts := some mdts }).identified t.val) ∧
    ((lba = 512 ∨ lba = 4096) ∧ meta_ = 0 → exec (.nvmeC2hDataRx t (.nspace lba meta_)) s =
      .next (((s.setTarget t.val { s.target t.val with formatKnown := true }).wr .vager (O.TGT_LBA_BYTES_5888 t.val)
        lba).identified t.val)) ∧
    (¬((lba = 512 ∨ lba = 4096) ∧ meta_ = 0) → exec (.nvmeC2hDataRx t (.nspace lba meta_)) s =
      .next ((s.sendPdu t.val 0 (s.conn t.val 0).termReq).loseTarget t.val))) ∧
  (∀ (s : State) (t : Fin 8), (s.target t.val).stage ≠ 0 → exec (.nvmeTermReqRx t) s = .next (s.loseTarget t.val)) ∧
  (∀ (s : State) (t : Fin 8) (cid : Nat) (x : DrainWrite),
    s.stay.writes.find? (fun x => x.cid == cid && x.tgt == t.val && x.stage == .backoff) = some x →
    exec (.nvmeWriteRetry t cid) s = .next ((((s.setStay { s.stay with writes := s.stay.writes.map fun y =>
      if y.cid = cid then { y with stage := .waiting, backoff := min 1000 (2 * y.backoff) } else y }).bump .vager
        O.WRITE_RETRIES_5882 32).connect t.val).pump)) ∧
  (∀ (s u : State) (w : Writer) (v old : Nat) (gone left : List (DrainItem × Nat)), mayReach w false .host = true →
    old = s.rd .vager O.HOST_ACK_5898 → subMod 64 v old ≤ subMod 64 (s.rd .vager O.HOST_WRITE_5898) old →
    u = s.wr .vager O.HOST_ACK_5898 (v % 2 ^ 64) →
    u.stay.hostRecs.partition (fun e => decide (subMod 64 e.2 old ≤ subMod 64 v old)) = (gone, left) →
    exec (.hostAckWrite w v) s = .next (((gone.foldl (fun s e => s.itemDurable e.1)
      (u.setStay { u.stay with hostRecs := left })).pump).answer stOk)) ∧
  (∀ (s : State) (h : Nat) (b : List Nat) (e : PeerEntry) (es : List PeerEntry), s.smHere h 3 5 = true → readEntries b = e :: es →
    ((s.stay.chunks.filter fun x => x.2.dedup && x.2.key == (e.rtag, e.chunk)).any fun x =>
      x.2.owner == some (s.holderOf x.2) && !x.2.poison) = true →
    exec (.handoffRx h b) s =
      .next (s.sendStay (smSrc h) (armCut s.arm) (armEpoch s.arm) 0x73 0 (smArg1 h) false false [])) ∧
  (∀ (s u v : State) (h : Nat) (x : Handoff), s.smHere h 4 4 = true → s.handoffOf h = some x →
    u = s.setStay { s.stay with handoffs := s.stay.handoffs.filter fun y => y.slot != x.slot } →
    v = u.setChunk x.slot { u.chunk x.slot with owner := some x.asked, handed := true } →
    exec (.handoffAckRx h) s =
      .next (((v.wr .vager O.CHUNKS_OWNED_5882 (v.rd .vager O.CHUNKS_OWNED_5882 - 1)).bump .vager
        O.CHUNKS_DEDUPED_5882 32).checkDrained)) ∧
  (∀ (s : State) (h : Nat) (x : Handoff), s.smHere h 4 4 = true → s.handoffOf h = some x →
    exec (.handoffNakRx h) s = .next (State.handTo x.slot x.left s).pump.checkDrained)

/-- The coordinator records a PREPARED and an UNUSABLE; COMMIT is taken and answered, its answer stops the repeats; ABORT is
taken; the period resends what is owed; COMMIT_WAIT records and reports the lowest missing position; the coordinator is changed; a
digest read back from storage is injected. -/
def Obligations.CutCommitCommandsComplete : Prop :=
  (∀ (s : State) (h g : Nat), s.smHere h 1 6 = true → armLo s.arm ≤ smSrc h → smArg0 h = armStep s.arm →
    exec (.preparedRx h g) s = .next (s.coordTake (smSrc h - armLo s.arm) (toBytes 32 g))) ∧
  (∀ (s : State) (h : Nat), s.smHere h 1 8 = true → exec (.unusableRx h) s = .next (s.coordUnusable (smArg0 h))) ∧
  (∀ (s : State) (h g : Nat), s.smHere h 5 6 = true → exec (.commitRx h g) s = .next ((s.localCommit (toBytes 32 g)).sendStay
    (smSrc h) (armCut s.arm) (armEpoch s.arm) 0x78 0 0 false false [])) ∧
  (∀ (s : State) (h : Nat), s.smHere h 1 8 = true → s.rd .vager O.COORD_STATE_58A0 = 2 → smSrc h ∉ s.stay.coord.acks →
    exec (.commitAckRx h) s =
      .next (s.setStay { s.stay with coord := { s.stay.coord with acks := smSrc h :: s.stay.coord.acks } })) ∧
  (∀ (s : State) (h : Nat), s.smHere h 1 5 = true → exec (.abortRx h) s = .next s.takeAbort) ∧
  (∀ (s u : State), s.cutState = 5 → u = s.sendPrepared true → u.rd .vager O.COORD_STATE_58A0 ≠ 2 →
    u.stay.coord.aborting = none → u.stay.handoffs = [] → exec .prepResendPeriod s = .next u.pump) ∧
  (∀ (s : State), s.rd .vager O.COORD_STATE_58A0 = 1 → 4 ≤ s.cutState → s.cutState ≤ 6 →
    exec .commitWaitExpiry s = .next ((s.recordV 0x0052 (s.rd .vager O.COORD_MISSING_58A0)).report {
      code := 0x31, detail := s.rd .vager O.COORD_MISSING_58A0 })) ∧
  (∀ (s : State) (w : Writer) (v : Nat), mayReach w true .fleet = true → v < 8192 → v ≠ s.rd .vager O.COORD_TRAY_5880 →
    (v = s.vager.tree.self → (s.wr .vager O.COORD_TRAY_5880 v).vager.tree.self = s.vager.tree.self →
      1 ≤ (s.wr .vager O.COORD_TRAY_5880 v).cutState → (s.wr .vager O.COORD_TRAY_5880 v).cutState ≤ 6 →
      exec (.coordTrayWrite w v) s = .next ((s.wr .vager O.COORD_TRAY_5880 v).startCoord.answer stOk)) ∧
    (v ≠ (s.wr .vager O.COORD_TRAY_5880 v).vager.tree.self →
      s.rd .vager O.COORD_TRAY_5880 ≠ (s.wr .vager O.COORD_TRAY_5880 v).vager.tree.self →
      exec (.coordTrayWrite w v) s = .next ((s.wr .vager O.COORD_TRAY_5880 v).answer stOk))) ∧
  (∀ (s : State) (w : Writer) (pos : Nat) (l : List Nat), mayReach w true .fleet = true → s.rd .vager O.COORD_STATE_58A0 = 1 →
    pos < armHi s.arm + 1 - armLo s.arm → l.length = 32 →
    exec (.prepInject w pos l) s = .next ((s.coordTake pos l).answer stOk))

/-- A proposal is taken or refused while a restore runs; the loaded record is judged; a proposal that is not loaded in time is
refused; a confirmation starts the push or the filling; a filled slot is hashed and compared; the aperture takes a granule in
FILLING. A Staris begins, cancels, writes a chunk or refuses it, and ends its restore; Vager counts the die done. -/
def Obligations.RestoreCommandsComplete : Prop :=
  (∀ (s : State) (w : Writer) (x : Nat), mayReach w true .fleet = true → ¬(1 ≤ s.rstState ∧ s.rstState ≤ 4) →
    ¬(1 ≤ s.cutState ∧ s.cutState ≤ 5) → exec (.rstPropose w x) s = .next ((s.propose (x % 2 ^ 512)).answer stOk)) ∧
  (∀ (s : State) (w : Writer), mayReach w true .host = true → s.rstState = 1 →
    (s.loadedCode = 0 → exec (.rstLoaded w) s = .next ((s.planRst (s.octGranules .vager O.RST_MANIFEST_58B0
      (3 + 2 * bits (s.elem .vager O.RST_MANIFEST_58B0 32 0) 55 32)) true).answer stOk)) ∧
    (s.loadedCode ≠ 0 → exec (.rstLoaded w) s = .next ((s.refuseRst s.loadedCode).answer stOk))) ∧
  (∀ (s : State), s.rstState = 1 → exec .rstLoadedTimeout s = .next (s.refuseRst 2)) ∧
  (∀ (s : State) (w : Writer) (cut : Nat), mayReach w true .fleet = true → s.rstState = 2 →
    cut % 2 ^ 32 = propCut s.rst.proposal → s.lacksSource (manMask [s.rst.params]) = false →
    (((List.range 16).any fun i => s.ob .vager O.RST_PLAN_58B0 i == 2) = true → exec (.rstConfirm w cut) s =
      .next ((((s.wr .vager O.RST_STATE_58B0 3).wr .vager O.SHADOW_CUT_5881 0).setStay { s.stay with kept := [] }).checkFilled.answer
        stOk)) ∧
    (s.ob .vager O.RST_PLAN_58B0 0 ≠ 2 → ((List.range 16).any fun i => s.ob .vager O.RST_PLAN_58B0 i == 2) = false →
      exec (.rstConfirm w cut) s = .next (s.startPush.answer stOk))) ∧
  (∀ (s : State) (w : Writer) (v n : Nat), mayReach w true .host = true →
    n = bits v 31 28 * s.rd .vager O.CHUNK_SLOTS_5880 + bits v 12 0 → s.rstState = 3 → (Tbl.find s.rst.chunks n).isSome = true →
    n ∉ s.rst.hashing →
    exec (.rstFilled w v) s = .next ((s.setRst { s.rst with hashing := s.rst.hashing ++ [n] }).answer stOk)) ∧
  (∀ (s u : State) (n : Nat) (e : List Nat × Nat) (todo : List Nat), Tbl.find s.rst.chunks n = some e → s.rstState = 3 → n ∈ s.rst.hashing →
    s.slotGood n e = true → todo = s.rst.todo.filter (fun x => x != n) →
    u = s.setRst { s.rst with hashing := s.rst.hashing.filter (fun x => x != n), todo := s.rst.todo.filter (fun x => x != n) } →
    exec (.fillVerifyDone n) s = .next ((u.wr .vager O.RST_REMAINING_58B0 todo.length).checkFilled)) ∧
  (∀ (s : State) (w : Writer) (off x : Nat), w.secure = true → s.rstState = 3 → off % 32 = 0 →
    off + 32 ≤ s.rd .vager O.STAY_BYTES_5880 → exec (.stayApertureWrite w off 32 x) s =
      .next (s.setHbm (s.stayBase + off / 32) { data := x % 2 ^ 256 })) ∧
  (∀ (s : State) (d : Die) (h : Nat), s.rd (.staris d) O.STAY_STATE_5800 = 0 →
    exec (.restoreBeginCommand d h) s = .next (((((s.setStd d { s.std d with
      tReady := s.ns (.staris d), tWrite := 0, chunks := 0, refused := false,
      head := fld 224 32 (bits h 127 96) + fld 192 32 (bits h 159 128) + fld 160 32 (bits h 191 160) }).wr (.staris d)
        O.STAY_STATE_5800 3).emit (.restoreHold d.val true)).dmaSettle (.staris d) 2))) ∧
  (∀ (s : State) (d : Die), s.rd (.staris d) O.STAY_STATE_5800 = 3 →
    exec (.restoreCancelCommand d) s = .next (s.endRestore d)) ∧
  (∀ (s v : State) (d : Die) (h r c : Nat) (l : List (Nat × Bool)), r = bits h 79 74 →
    c = bits h 127 104 → s.rd (.staris d) O.STAY_STATE_5800 = 3 → c < s.regChunks d r →
    bits h 159 128 = s.rd (.staris d) (O.REG_TAG_5810 r) → bits h 103 80 = s.chunkLen d r c → l.length = s.chunkLen d r c →
    v = ((List.range l.length).zip l).foldl (fun x e => x.emit (.dieWrite d.val true
      (s.rd (.staris d) (O.REG_BASE_5810 r) + c * chunkBytes + 32 * e.1) (e.2.1 % 2 ^ 256) e.2.2)) s →
    exec (.restoreChunkRx d h l) s = .next ((v.setStd d { v.std d with
      chunks := (v.std d).chunks + 1, tWrite := v.ns (.staris d) }).bump (.staris d) O.BYTES_RESTORED_5800 64 (32 * l.length))) ∧
  (∀ (s : State) (d : Die) (g : Nat), s.rd (.staris d) O.STAY_STATE_5800 = 3 →
    exec (.restoreMarkerRx d g) s = .next ((s.send false d 5 [{ data := (endGranule (bits g 255 224) (bits g 223 192) (bits g 191 160)
      (s.std d).tReady (s.std d).tWrite (s.std d).chunks (if (s.std d).refused = true then 3 else 0) 0x66) }]).endRestore d)) ∧
  (∀ (s v : State) (p : Die) (g : Nat), s.rstState = 4 →
    bitAt (manMask [s.rst.params]) p.val = true → bits g 191 160 = propCut s.rst.proposal → bits g 71 64 = 0 →
    v = s.wr .vager O.RST_DIES_DONE_58B0 (setBit (s.rd .vager O.RST_DIES_DONE_58B0) p.val true) →
    v.rd .vager O.RST_DIES_DONE_58B0 ≠ manMask [s.rst.params] → exec (.restoreEndRx p g) s = .next v)

/-- A request is opened or closed on its context, or refused with its code; a slice ends; TOTALS_CLEAR waits for a boundary;
BATCH_ACK frees batches. An entry of a gate list ends; an anchor instant and the loss of anchors restart the list; a change is
scheduled, cancelled or takes over. -/
def Obligations.EnergyAndGateCommandsComplete : Prop :=
  (∀ (s : State) (d : Die) (w : Writer) (ctx r e : Nat),
    (opRefusal (s.en d) 1 ctx r = none → exec (.requestOpen d (some w) ctx r e) s =
      .next ((s.setOp d ctx (some { close := false, reqId := r % 2 ^ 64, epoch := e % 2 ^ 32 })).answer stOk)) ∧
    (opRefusal (s.en d) 2 ctx r = none → exec (.requestClose d (some w) ctx r e) s =
      .next ((s.setOp d ctx (some { close := true, reqId := r % 2 ^ 64, epoch := e % 2 ^ 32 })).answer stOk)) ∧
    (opRefusal (s.en d) 1 ctx r = none → exec (.requestOpen d none ctx r e) s =
      .next ((s.setOp d ctx (some { close := false, reqId := r % 2 ^ 64, epoch := e % 2 ^ 32 })).emit (.markAck d.val false))) ∧
    (∀ c, opRefusal (s.en d) 1 ctx r = some c → exec (.requestOpen d (some w) ctx r e) s =
      .next (((s.bump (.staris d) O.REQ_REFUSED_6003 32).wr (.staris d) O.REQ_REFUSE_CODE_6003 c).answer stRefused))) ∧
  (∀ (s u : State) (d : Die) (l : List (Fin 16)), u = ((l.foldl (fun s r => s.fillSample d r.val) s).creditSlice d).clearTotals d →
    (u.en d).ops = [] → ((u.segmentBoundary d).en d).ops = [] →
    exec (.energySliceBoundary d l) s = .next (u.segmentBoundary d)) ∧
  (∀ (s : State) (d : Die) (w : Writer), mayReach w true .fleet = true →
    exec (.totalsClear d w) s = .next ((s.setEn d { s.en d with clearTotals := true }).answer stOk)) ∧
  (∀ (s : State) (w : Writer) (n : Nat), mayReach w false .host = true → exec (.batchAck w n) s =
    .next ((s.setLedger { s.vager.ledger with held := s.vager.ledger.held.filter fun b => decide (n < b.bsn) }).answer stOk)) ∧
  (∀ (s u : State) (q : Fin 2) (t i : Nat), (s.gate q.val).entryEnd = some t → t ≤ s.extNow → u = s.accrue q.val →
    i = u.rd .vager (O.OPER_ENTRY_6420 q.val) + 1 →
    (i < u.rd .vager (O.OPER_LENGTH_6420 q.val) → exec (.gateEntryEnd q) s = .next ((u.enterEntry q.val i t).serve q.val)) ∧
    (u.rd .vager (O.OPER_LENGTH_6420 q.val) ≤ i → u.stepping q.val = false →
      exec (.gateEntryEnd q) s = .next ((u.enterEntry q.val 0 t).serve q.val)) ∧
    (u.rd .vager (O.OPER_LENGTH_6420 q.val) ≤ i → u.stepping q.val = true →
      exec (.gateEntryEnd q) s = .next (u.setGate q.val { u.gate q.val with entryEnd := none }))) ∧
  (∀ (s a b u v : State) (q : Fin 2) (t : Nat), (s.gate q.val).anchorAt = some t → t ≤ s.extNow → a = s.accrue q.val →
    b = a.takeoverBy q.val t → u = b.setGate q.val { b.gate q.val with anchorAt := none } → bitAt (u.rd .vager (O.OPER_MODE_6420 q.val)) 0 = true →
    v = ((u.bump .vager (O.ANCHORS_6420 q.val) 32).wr .vager (O.ANCHOR_FREE_6420 q.val) 0).enterEntry q.val 0 t →
    exec (.anchorInstant q) s = .next (((v.setGate q.val { v.gate q.val with lastAnchor := t }).countOverrun q.val a).serve q.val)) ∧
  (∀ (s : State) (q : Fin 2), s.stepping q.val = true →
    (s.gate q.val).lastAnchor + 1000 * s.rd .vager (O.ANCHOR_LOSS_6420 q.val) ≤ s.extNow →
    exec (.anchorLossExpiry q) s = .next ((((s.accrue q.val).wr .vager (O.ANCHOR_FREE_6420 q.val) 1).enterEntry q.val 0
      ((s.gate q.val).lastAnchor + 1000 * s.rd .vager (O.ANCHOR_LOSS_6420 q.val))).serve q.val)) ∧
  (∀ (s : State) (w : Writer) (q : Fin 2), mayReach w true .operator = true →
    (s.changeRefusal q.val = 0 → exec (.changeSchedule w q) s =
      .next (((s.wr .vager (O.CHANGE_REFUSE_6420 q.val) 0).wr .vager (O.CHANGE_STATE_6420 q.val) 1).answer stOk)) ∧
    (2 ≤ s.changeRefusal q.val → exec (.changeSchedule w q) s = .next (((s.wr .vager (O.CHANGE_REFUSE_6420 q.val)
      (s.changeRefusal q.val)).wr .vager (O.CHANGE_STATE_6420 q.val) 2).answer stRefused)) ∧
    (s.rd .vager (O.CHANGE_STATE_6420 q.val) = 1 →
      exec (.changeCancel w q) s = .next ((s.wr .vager (O.CHANGE_STATE_6420 q.val) 0).answer stOk))) ∧
  (∀ (s : State) (q : Fin 2) (t : Nat), t = s.rd .vager (O.CHANGE_TIME_6420 q.val) →
    s.rd .vager (O.CHANGE_STATE_6420 q.val) = 1 → t ≤ s.extNow →
    exec (.gateTakeover q) s =
      .next ((((s.accrue q.val).takeAdmin q.val t).countOverrun q.val (s.accrue q.val)).serve q.val))

/-- A packet of at most 9,000 bytes joins its queue as a frame, LINK traffic at its own port and any other at the port of its
route; the frame in transmission ends, waiting settings take effect and the next frame starts; the class map is written, or
refused where it would starve a kind; a shaper's setting is in force at once on an idle port and waits otherwise; a port that
comes up has every credit reset. -/
def Obligations.FabricAndShaperCommandsComplete : Prop :=
  (∀ (s : State) (k : Fin 6) (q : Fin 2) (dst n : Nat), n ≤ 9000 →
    (k = 0 → exec (.frameEnqueue k q dst n) s = .next (s.enqueueFrame q.val 0 n dst none)) ∧
    (∀ p hop, k ≠ 0 → s.route dst = some (p, hop) →
      exec (.frameEnqueue k q dst n) s = .next (s.enqueueFrame p k.val n hop none))) ∧
  (∀ (s u : State) (q : Fin 2), u = (s.accrue q.val).endFrame q.val →
    exec (.frameTxDone q) s = .next (((List.range 8).foldl (fun s c =>
      if ((s.gate q.val).shaper c).pendingSet then s.applyCbs q.val c else s) u).serve q.val)) ∧
  (∀ (s : State) (w : Writer) (l : List Nat), mayReach w true .fleet = true → l.length ≤ 8 →
    ((l.take 6).any fun c => decide (7 < c)) = false →
    (([0, 1].any fun q => s.gateEnabled q &&
      s.starves (s.operList q) (bitAt (s.rd .vager (O.OPER_MODE_6420 q)) 0) l) = false →
      exec (.classMapWrite w l) s = .next ((s.writeOctets .vager O.CLASS_MAP_6400 8 (l.take 6)).answer stOk)) ∧
    (([0, 1].any fun q => s.gateEnabled q &&
      s.starves (s.operList q) (bitAt (s.rd .vager (O.OPER_MODE_6420 q)) 0) l) = true →
      exec (.classMapWrite w l) s = .next (s.answer stRefused))) ∧
  (∀ (s u : State) (w : Writer) (q : Fin 2) (c : Fin 8) (v : Int), mayReach w true .operator = true → 0 ≤ v → v < 2 ^ 63 →
    u = (s.accrue q.val).wr .vager (O.CBS_ENABLE_6440 (cbsIndex q.val c.val) + 2) (ofSigned 64 v) →
    exec (.cbsConfigWrite w q c 2 v) s = .next ((if (u.gate q.val).tx.isNone then u.applyCbs q.val c.val
      else u.setGate q.val ((u.gate q.val).setShaper c.val { (u.gate q.val).shaper c.val with pendingSet := true })).answer stOk)) ∧
  (∀ (s : State) (w : Writer) (q : Fin 2) (c : Fin 8) (v : Int), mayReach w true .operator = true → -(2 ^ 63) ≤ v → v < 0 →
    exec (.cbsConfigWrite w q c 2 v) s = .next (s.answer stRefused)) ∧
  (∀ (s : State) (q : Fin 2), exec (.fabricLinkUp q) s = .next (((List.range 8).foldl (fun s c => s.applyCbs q.val c)
    ((s.accrue q.val).wr .vager (O.PORT_STATE_6410 q.val) 1)).serve q.val))

/-- The shadow descriptor is written or refused while it is valid; ARM makes it valid and an IDLE channel takes it; CANCEL, ABORT,
CLEAR and RESET act as R437 says; a claimed channel refuses with code 1. A transfer starts or faults; a granule moves; a finished
transfer is signalled and the channel goes on; a unit claims and releases its channel. -/
def Obligations.DmaCommandsComplete : Prop :=
  (∀ (s : State) (p : Part) (n : Fin 16) (w : Writer) (x : Nat), n.val < dmaCount p → mayReach w (s.dmaSecure p n) .host = true →
    (s.rd p (O.DMA_SHADOW_VALID (dmaIndex p n)) = 0 → exec (.shadowDescWrite p n w x) s =
      .next ((s.setElem p (O.DMA_SHADOW_DESC (dmaIndex p n)) 64 0 x).answer stOk)) ∧
    (s.rd p (O.DMA_SHADOW_VALID (dmaIndex p n)) = 1 → exec (.shadowDescWrite p n w x) s = .next (s.dmaRefuse p n 2))) ∧
  (∀ (s u : State) (p : Part) (n : Fin 16) (w : Writer), n.val < dmaCount p → mayReach w (s.dmaSecure p n) .host = true →
    (s.dmaState p n = 3 → exec (.dmaArm p n w) s = .next (s.dmaRefuse p n 1) ∧
      exec (.dmaCancel p n w) s = .next (s.dmaRefuse p n 1) ∧ exec (.dmaAbort p n w) s = .next (s.dmaRefuse p n 1) ∧
      exec (.dmaReset p n w) s = .next (s.dmaRefuse p n 1)) ∧
    (s.dmaState p n = 0 → s.rd p (O.DMA_SHADOW_VALID (dmaIndex p n)) = 0 → u = s.wr p (O.DMA_SHADOW_VALID (dmaIndex p n)) 1 →
      u.dmaState p n = 0 → exec (.dmaArm p n w) s = .next ((u.dmaTake p n).answer stOk)) ∧
    (s.dmaState p n = 1 → exec (.dmaCancel p n w) s = .next ((s.wr p (O.DMA_SHADOW_VALID (dmaIndex p n)) 0).answer stOk) ∧
      exec (.dmaReset p n w) s =
        .next ((((s.dmaAborted p n).wr p (O.DMA_SHADOW_VALID (dmaIndex p n)) 0).dmaNext p n).answer stOk)) ∧
    (s.dmaState p n = 1 → (s.dmaCh p n).live = true → (s.dmaCh p n).moved < descTotal (s.dmaActive p n) →
      (s.dmaCh p n).stopAt = none →
      exec (.dmaAbort p n w) s =
        .next ((s.setDmaCh p n { s.dmaCh p n with stopAt := some ((s.dmaCh p n).moved + 64) }).answer stOk)) ∧
    (s.dmaState p n = 2 → exec (.dmaClear p n w) s = .next ((s.dmaNext p n).answer stOk)) ∧
    (s.dmaState p n ≠ 2 → exec (.dmaClear p n w) s = .next (s.dmaRefuse p n 3))) ∧
  (∀ (s : State) (p : Part) (n : Fin 16), n.val < dmaCount p → s.dmaState p n = 1 → (s.dmaCh p n).live = false →
    (descFault p (s.dmaActive p n) = none → exec (.dmaTransferStart p n) s =
      .next (s.setDmaCh p n { s.dmaCh p n with live := true, moved := 0, poison := false })) ∧
    (∀ code a, descFault p (s.dmaActive p n) = some (code, a) →
      exec (.dmaTransferStart p n) s = .next (s.dmaFault p n code a))) ∧
  (∀ (s : State) (d : Die) (n : Fin 16) (a : DmaAccess), s.dmaState (.staris d) n = 1 → (s.dmaCh (.staris d) n).live = true →
    (s.dmaCh (.staris d) n).moved < s.dmaEnd (.staris d) n →
    exec (.dmaAccessDone (.staris d) n a) s = .next (s.dmaMove (.staris d) n a)) ∧
  (∀ (s : State) (n : Fin 16) (a : DmaAccess), s.dmaState .vager n = 1 → (s.dmaCh .vager n).live = true →
    (s.dmaCh .vager n).moved < s.dmaEnd .vager n → bits (s.rd .vager O.PCIE_STATE_7C40) 1 0 = 0 →
    exec (.dmaAccessDone .vager n a) s = .next (s.dmaMove .vager n a)) ∧
  (∀ (s : State) (p : Part) (n : Fin 16) (b : Bool), s.dmaState p n = 1 → (s.dmaCh p n).live = true →
    descTotal (s.dmaActive p n) ≤ (s.dmaCh p n).moved → ∀ u, u =
      s.dmaSignal p n (s.dmaActive p n) 0 0 (32 * (s.dmaCh p n).moved) (s.dmaCh p n).poison b →
    (bits (u.rd p (O.DMA_LAST_STATUS (dmaIndex p n))) 7 0 ≠ 2 → exec (.dmaTransferEnd p n b) s = .next (u.dmaNext p n)) ∧
    (bits (u.rd p (O.DMA_LAST_STATUS (dmaIndex p n))) 7 0 = 2 → exec (.dmaTransferEnd p n b) s =
      .next (((u.wr p (O.DMA_STATE (dmaIndex p n)) 2).wr p (O.DMA_FAULT_ADDR (dmaIndex p n))
        (descCrecAddr (s.dmaActive p n))).setDmaCh p n { u.dmaCh p n with live := false, stopAt := none }))) ∧
  (∀ (s : State) (p : Part) (n : Fin 16),
    (s.dmaHeld p n = true → exec (.dmaChannelClaim p n) s = .next (s.dmaSettle p n)) ∧
    (s.dmaHeld p n = false → exec (.dmaChannelRelease p n) s = .next (s.dmaSettle p n)))

/-- A watchdog line, a hang window, a command of the die's register and COMMAND 0x70 declare a domain hung with causes 1, 2 and 3;
a domain is reset or sampled by command where its state allows it and refused otherwise; the reset line is released after
RESET_HOLD; the die's answer keeps what it kept and the domain is RUNNING; no answer fails it; a sample ends in the reset; the die
returns to service or is held out of it; Vager holds a hang sample, discards another while it holds one, and releases it. -/
def Obligations.HangCommandsComplete : Prop :=
  (∀ (s : State) (d : Die) (i : Fin 16), s.rd (.staris d) (O.DOM_WATCHDOG_EN_7010 i.val) = 1 →
    exec (.watchdogAssert d i) s = .next (s.hang d i.val 1)) ∧
  (∀ (s : State) (d : Die) (i : Fin 16), s.windowOver d i.val = true →
    exec (.hangWindowExpiry d i) s = .next (s.hang d i.val 2)) ∧
  (∀ (s : State) (d : Die) (w : Writer) (i : Fin 16), mayReach w true .operator = true →
    exec (.domHangCommand d w i) s = .next ((s.hang d i.val 3).answer stOk) ∧
    (s.domState d i.val = 4 ∨ s.domState d i.val = 6 →
      exec (.domResetCommand d w i) s = .next ((s.startReset d i.val).answer stOk)) ∧
    (s.domState d i.val = 0 → exec (.domResetCommand d w i) s = .next (((s.setDom d i.val { s.dom d i.val with
      cause := 3, time := s.ns (.staris d), epoch := s.domEpoch d i.val, flags := 0 }).startReset d i.val).answer stOk)) ∧
    (s.domState d i.val = 4 → exec (.domSampleCommand d w i) s = .next ((s.startSampling d i.val).answer stOk)) ∧
    (s.domState d i.val ≠ 4 → exec (.domSampleCommand d w i) s = .next (s.answer stRefused))) ∧
  (∀ (s : State) (d : Die) (i : Fin 16), exec (.hangCommand d i) s = .next (s.hang d i.val 3)) ∧
  (∀ (s : State) (d : Die), exec (.outOfServiceCommand d) s = .next (s.holdAll d)) ∧
  (∀ (s u v : State) (d : Die) (i : Fin 16) (l : List (Nat × Bool)), s.domState d i.val = 2 → s.linkUp false d = false →
    (s.fd d).sampling.head? ≠ some i.val → u = s.setFd d { s.fd d with sampling := (s.fd d).sampling.erase i.val } →
    v = u.setDom d i.val { s.dom d i.val with flags := setBit (s.dom d i.val).flags 3 true } →
    exec (.hangSampleSent d i l) s = .next ((v.hangReport d i.val 2).startReset d i.val)) ∧
  (∀ (s : State) (d : Die) (i : Fin 16), s.domState d i.val = 3 →
    ((s.dom d i.val).asserted = true → exec (.resetHoldExpiry d i) s = .next (s.resetLine d i.val false)) ∧
    ((s.dom d i.val).asserted = false → exec (.resetAckTimeout d i) s =
      .next ((s.setDomState d i.val 6).hangReport d i.val 5))) ∧
  (∀ (s u : State) (d : Die) (i : Fin 16) (kept f : Nat), s.domState d i.val = 3 → (s.dom d i.val).asserted = false →
    f = setFld (s.dom d i.val).flags 0 2 kept →
    u = (s.setDom d i.val { s.dom d i.val with flags := f }).flagHistory d i.val f →
    (bitAt kept 1 = true → exec (.resetDone d i kept) s = .next ((u.setDomState d i.val 0).hangReport d i.val 3)) ∧
    (bitAt kept 1 = false → exec (.resetDone d i kept) s = .next (((u.discardEntries d fun e =>
      u.inDomain d i.val (bits e.header 56 49)).setDomState d i.val 0).hangReport d i.val 3))) ∧
  (∀ (s : State) (d : Die) (w : Writer), mayReach w true .fleet = true →
    exec (.returnToService d w) s = .next ((s.toService d).answer stOk)) ∧
  (∀ (s u v : State) (p : Die) (l : List (Nat × Bool)), u = s.tapPoison p l →
    (u.rd .vager (O.HANG_SAMPLE_STATE_70C0 p.val) = 2 →
      exec (.hangSampleRx p l) s = .next (u.bump .vager (O.HANG_SAMPLES_DISCARDED_70C0 p.val) 32)) ∧
    (u.rd .vager (O.HANG_SAMPLE_STATE_70C0 p.val) ≠ 2 →
      v = u.setClf { u.clf with hangs := Tbl.set (fun _ => []) u.clf.hangs p.val l } →
      exec (.hangSampleRx p l) s = .next ((v.setBytes .vager (O.HANG_SAMPLE_HEADER_70C0 p.val) 0 (toBytes 32
        (l.headD (0, false)).1)).wr .vager (O.HANG_SAMPLE_STATE_70C0 p.val) 2))) ∧
  (∀ (s : State) (w : Writer) (p : Die), mayReach w false .operator = true → exec (.hangSampleRelease w p) s =
    .next ((((s.setClf { s.clf with hangs := Tbl.set (fun _ => []) s.clf.hangs p.val [] }).writeOctets .vager
      (O.HANG_SAMPLE_HEADER_70C0 p.val) 32 []).wr .vager (O.HANG_SAMPLE_STATE_70C0 p.val) 0).answer stOk))

/-- A part's levels leak; the oldest HBM row repair ends with its row's level at zero; a unit's level is cleared; a port's
out-of-service record is cleared; a Staris is reset softly, or released from its power-on reset with only its constants kept;
Vager is powered on, reset warm by a write or by PERST#, its PCIe function answers, is reset and changes its power state; PWRGOOD
falls and leaves the mark. -/
def Obligations.ResetAndClassifierCommandsComplete : Prop :=
  (∀ (s u : State) (l : List MemError), u = l.foldl (fun s e => s.memError .vager e) s →
    exec (.classifierLeak .vager l) s = .next (u.setClf { u.clf with
      levels := leakLevels (fun k => u.rd .vager (O.CLS_LEAK_7090 (k / 65536))) u.clf.levels })) ∧
  (∀ (s u : State) (d : Die) (l : List MemError), u = l.foldl (fun s e => s.memError (.staris d) e) s →
    exec (.classifierLeak (.staris d) l) s = .next (u.setDie d { u.die d with
      faults := { (u.die d).faults with
        levels := leakLevels (fun _ => u.rd (.staris d) O.SRAM_LEAK_7030) (u.die d).faults.levels } })) ∧
  (∀ (s : State) (pc r : Nat) (t : List (Nat × Nat)), s.clf.repairs = (pc, r) :: t →
    exec .hbmRowRepairDone s = .next (s.setClf { s.clf with
      repairs := t
      rows := Tbl.set (fun _ => 0) s.clf.rows (pc * 2 ^ 32 + r) 0
      levels := Tbl.set (fun _ => 0) s.clf.levels (instKey 1 pc) 0 })) ∧
  (∀ (s : State) (w : Writer) (n : Nat), mayReach w true .fleet = true → n = s.rd .vager O.INST_SELECT_70A0 →
    exec (.instClear w) s = .next ((s.setClf { s.clf with
      levels := Tbl.set (fun _ => 0) s.clf.levels (instKey (bits n 23 16) (bits n 15 0)) 0 }).answer stOk)) ∧
  (∀ (s u : State) (w : Writer) (p : Die), mayReach w true .fleet = true →
    u = ((s.wr .vager (O.PORT_SERVICE_70C0 p.val) 0).setBytes .vager (O.PORT_OOS_DIGEST_70C0 p.val) 0
      (List.replicate 48 0)).answer stOk → u.withheld w p = true →
    exec (.portOosClear w p) s = .next (u.bump .vager O.WITHHELD_WRITES_7480 32)) ∧
  (∀ (s : State) (d : Die) (w : Writer), mayReach w true .fleet = true →
    exec (.softReset d w) s = .next ((s.softReset d).answer stOk)) ∧
  (∀ (s : State) (d : Die), exec (.starisResetRelease d) s = .next (s.setDie d {
    obj := keepObjects (constKey (.staris d)) (s.objs (.staris d)),
    oct := keepOctets (constKey (.staris d)) (s.octs (.staris d)) })) ∧
  (∀ (s : State) (l : List Nat) (f : Bool), exec (.vagerPowerOn l f) s = .next (s.powerOn l f)) ∧
  (∀ (s : State) (w : Writer), mayReach w true .fleet = true → exec (.warmReset w) s = .next ((s.answer stOk).warmReset 1)) ∧
  (∀ (s : State), exec .perstAssert s = .next (s.warmReset 2)) ∧
  (∀ (s : State), exec .perstDeassert s = .next (s.moveVager 30 0)) ∧
  (∀ (s u : State), u = s.wr .vager O.PCIE_STATE_7C40 (setFld (s.rd .vager O.PCIE_STATE_7C40) 0 2 0) →
    exec .pcieFlr s = .next ((List.range (dmaCount .vager)).foldl (fun s n =>
      if s.dmaState .vager n = 1 ∧ (descSrcSpace (s.dmaActive .vager n) = 1 ∨ descDstSpace (s.dmaActive .vager n) = 1) then
        (s.dmaAborted .vager n).dmaNext .vager n else s) u)) ∧
  (∀ (s : State) (n : Nat), n % 4 = 0 ∨ n % 4 = 3 → n / 4 % 4 ≠ 3 →
    exec (.pciePowerStateChange n) s = .next (s.setPcie (n % 16))) ∧
  (∀ (s : State) (r : Recorder),
    r = (if s.rd .vager O.REC_STATE_7840 = 2 then s.rcd.erased.cleared else s.rcd.erased).program →
    exec .pwrgoodFall s = .next (s.setRcd { r with mark := some r.hold.length }))

/-- A grant is written and expires; the debug port opens, opens again, is refused by its fuse, closes and expires; an offer of a
link key is taken with its free answer, or refused to any writer but Vager; an established key brings the link up, a failed one is
counted; a retry drops an offer; an association or a session opens and idles out; an anchor and a certificate are judged; an SPDM
request over PCIe is answered. -/
def Obligations.WorldAndKeyCommandsComplete : Prop :=
  (∀ (s : State) (d : Die) (w : Writer) (v : Bool),
    (mayReach w true .operator = true → exec (.authNsPrivWrite d w v) s = .next (s.writeGrant d false v)) ∧
    (mayReach w true .fleet = true → exec (.authSecureWrite d w v) s = .next (s.writeGrant d true v))) ∧
  (∀ (s : State) (d : Die) (sec : Bool), (if sec then (s.die d).auth.sec else (s.die d).auth.nsPriv) ≤ (s.die d).ticks →
    exec (.authExpiry d sec) s = .next (s.withdrawGrant d sec 4)) ∧
  (∀ (s u : State) (w : Writer), mayReach w true .fleet = true →
    exec (.dbgGrantWrite w false) s = .next ((s.closeDebug 3).answer stOk) ∧
    (bitAt (s.rd .vager O.DEBUG_FUSE_7441) 0 = true → exec (.dbgGrantWrite w true) s = .next (s.answer stRefused)) ∧
    (bitAt (s.rd .vager O.DEBUG_FUSE_7441) 0 = false → s.rd .vager O.DBG_GRANT_7442 ≠ 1 →
      u = s.setVager { s.vager with dbgUntil := s.vager.ticks + 10 ^ 9 * s.rd .vager O.DBG_DURATION_7442 } →
      exec (.dbgGrantWrite w true) s =
        .next ((((u.wr .vager O.DBG_GRANT_7442 1).bump .vager O.DBG_OPENS_7442 32).recordGrant .vager 2 1).answer stOk))) ∧
  (∀ (s : State), s.vager.dbgUntil ≤ s.vager.ticks → exec .dbgExpiry s = .next (s.closeDebug 4)) ∧
  (∀ (s u v t : State) (d : Die) (l : List Nat) (a k : Nat), s.keyWaits d = false → s.takeNat = (a, u) → u.takeNat = (k, v) →
    t = (v.writeOctets (.staris d) O.LK_OFFER_7401 192 (v.linkOffer d l)).writeOctets (.staris d) O.LK_ANSWER_7401 256 (toBytes 225 a) →
    exec (.lkOfferWrite d none l) s = .next ((t.wr (.staris d) O.LK_STATE_7401 1).setLink false d
      { t.link false d with newKey := some (k % 2 ^ 384) })) ∧
  (∀ (s : State) (d : Die) (w : Writer) (l : List Nat), mayReach w true .fleet = true →
    exec (.lkOfferWrite d (some w) l) s = .next (s.answer stRefused)) ∧
  (∀ (s : State) (p : Die) (k : Nat), s.linkState true p = 2 → (s.link true p).lastHello.isNone = false →
    (s.link false p).newKey = some k → exec (.linkKeyEstablished p none) s = .next (s.takeLinkKey p k) ∧
      ∀ n, exec (.linkKeyEstablished p (some n)) s = .next (s.linkKeyFailed p)) ∧
  (∀ (s : State) (p : Die), s.rd (.staris p) O.LK_STATE_7401 = 3 → s.keyWaits p = false →
    exec (.linkKeyRetry p) s = .next (s.setLink false p { s.link false p with newKey := none })) ∧
  (∀ (s : State) (h : Handshake), (h.peer = none → exec (.dtlsHandshake h) s = .next (s.openSession h)) ∧
    ∀ t, h.peer = some t → exec (.dtlsHandshake h) s = .next (s.openAssociation t h)) ∧
  (∀ (s : State) (n : Nat), exec (.sessionIdleExpiry n) s = .next (s.closeSessions fun x =>
      x.id == n && decide (x.usedAt + 10 ^ 9 * s.rd .vager O.SESSION_IDLE_7478 ≤ s.vager.ticks)) ∧
    exec (.sessionClose n) s = .next (s.closeSessions fun x => x.id == n)) ∧
  (∀ (s : State) (w : Writer) (a : Fin 8) (n : Nat) (ok : Bool),
    mayReach (s.anchorWriter w (0x7460 + a.val)) true .fleet = true → 0 < n → n ≤ 2048 →
    exec (.taBytesWrite w a n ok) s = .next (((s.wr .vager (O.TA_BYTES_7460 a.val) n).wr .vager (O.TA_STATE_7460 a.val)
      (if ok then 1 else 2)).answer stOk)) ∧
  (∀ (s : State) (w : Writer) (n : Nat) (m e : Bool), mayReach (s.anchorWriter w 0x7470) true .fleet = true → 0 < n →
    exec (.opCertBytesWrite w n m e) s = .next (((s.wr .vager O.OP_CERT_BYTES_7470 (n % 2 ^ 16)).wr .vager
      O.OP_CERT_STATE_7470 (if m = false then 2 else if e then 3 else 1)).answer stOk)) ∧
  (∀ (s u : State) (l : List Nat) (a : Nat × List Nat), bitAt (s.rd .vager O.SPDM_PATHS_7490) 0 = true →
    s.spdmAnswer l = (a, u) → exec (.spdmRequest l) s = .next (u.emit (.spdm a.1 a.2)))

/-- A request of a session whose TID matches a kept response is answered from the store and counted; another that is well formed
is counted, run with the session's world and role, and what is then due applies; one that is malformed is counted and answered
with its MSTATUS and no entries. A request of no session changes nothing. -/
def Obligations.SheetRequestsComplete : Prop :=
  (∀ (s : State) (id : Nat) (r : SheetReq) (x : Session) (k : Nat × SheetResp),
    s.vager.sessions.find? (fun x => x.id == id) = some x → x.kept.find? (fun k => k.1 == r.tid) = some k →
    (r.op = 1 → exec (.sheetRead id r) s = .next (((s.touchSession id).bump .vager O.CACHED_ANSWERS_1011 32).emit (.sheet id k.2))) ∧
    (r.op = 2 → exec (.sheetWrite id r) s = .next (((s.touchSession id).bump .vager O.CACHED_ANSWERS_1011 32).emit (.sheet id k.2))) ∧
    (r.op = 3 → exec (.sheetStage id r) s = .next (((s.touchSession id).bump .vager O.CACHED_ANSWERS_1011 32).emit (.sheet id k.2))) ∧
    (r.op = 4 → exec (.sheetStageCancel id r) s = .next (((s.touchSession id).bump .vager O.CACHED_ANSWERS_1011 32).emit (.sheet id k.2))) ∧
    (r.op = 5 → exec (.sheetSegRead id r) s = .next (((s.touchSession id).bump .vager O.CACHED_ANSWERS_1011 32).emit (.sheet id k.2))) ∧
    (r.op = 6 → exec (.sheetSegWrite id r) s = .next (((s.touchSession id).bump .vager O.CACHED_ANSWERS_1011 32).emit (.sheet id k.2))) ∧
    (r.op = 7 → exec (.sheetSubscribe id r) s = .next (((s.touchSession id).bump .vager O.CACHED_ANSWERS_1011 32).emit (.sheet id k.2))) ∧
    (r.op = 9 → exec (.sheetSpdm id r) s = .next (((s.touchSession id).bump .vager O.CACHED_ANSWERS_1011 32).emit (.sheet id k.2))) ∧
    (r.op = 10 → exec (.sheetEcho id r) s = .next (((s.touchSession id).bump .vager O.CACHED_ANSWERS_1011 32).emit (.sheet id k.2)))) ∧
  (∀ (s : State) (id : Nat) (r : SheetReq) (x : Session), s.vager.sessions.find? (fun x => x.id == id) = some x →
    x.kept.find? (fun k => k.1 == r.tid) = none → mstatusOf r = 0 →
    (r.op = 1 → exec (.sheetRead id r) s = .next ((((s.touchSession id).bump .vager O.REQUESTS_1011 64).runRequest (.session id) ⟨x.secure, x.role⟩ x.serial r).applyDue .vager)) ∧
    (r.op = 2 → exec (.sheetWrite id r) s = .next ((((s.touchSession id).bump .vager O.REQUESTS_1011 64).runRequest (.session id) ⟨x.secure, x.role⟩ x.serial r).applyDue .vager)) ∧
    (r.op = 3 → exec (.sheetStage id r) s = .next ((((s.touchSession id).bump .vager O.REQUESTS_1011 64).runStage (.session id) ⟨x.secure, x.role⟩ x.serial r).applyDue .vager)) ∧
    (r.op = 4 → exec (.sheetStageCancel id r) s = .next ((((s.touchSession id).bump .vager O.REQUESTS_1011 64).runRequest (.session id) ⟨x.secure, x.role⟩ x.serial r).applyDue .vager)) ∧
    (r.op = 5 → exec (.sheetSegRead id r) s = .next ((((s.touchSession id).bump .vager O.REQUESTS_1011 64).runRequest (.session id) ⟨x.secure, x.role⟩ x.serial r).applyDue .vager)) ∧
    (r.op = 6 → exec (.sheetSegWrite id r) s = .next ((((s.touchSession id).bump .vager O.REQUESTS_1011 64).runRequest (.session id) ⟨x.secure, x.role⟩ x.serial r).applyDue .vager)) ∧
    (r.op = 7 → exec (.sheetSubscribe id r) s = .next ((((s.touchSession id).bump .vager O.REQUESTS_1011 64).runRequest (.session id) ⟨x.secure, x.role⟩ x.serial r).applyDue .vager)) ∧
    (r.op = 9 → exec (.sheetSpdm id r) s = .next ((((s.touchSession id).bump .vager O.REQUESTS_1011 64).runRequest (.session id) ⟨x.secure, x.role⟩ x.serial r).applyDue .vager)) ∧
    (r.op = 10 → exec (.sheetEcho id r) s = .next ((((s.touchSession id).bump .vager O.REQUESTS_1011 64).runRequest (.session id) ⟨x.secure, x.role⟩ x.serial r).applyDue .vager))) ∧
  (∀ (s : State) (id : Nat) (r : SheetReq) (x : Session), s.vager.sessions.find? (fun x => x.id == id) = some x →
    x.kept.find? (fun k => k.1 == r.tid) = none → mstatusOf r ≠ 0 →
    (r.op = 1 → exec (.sheetRead id r) s = .next (((s.touchSession id).bump .vager O.MALFORMED_1011 32).respond (.session id) ⟨r.op, r.tid, mstatusOf r, []⟩)) ∧
    (r.op = 2 → exec (.sheetWrite id r) s = .next (((s.touchSession id).bump .vager O.MALFORMED_1011 32).respond (.session id) ⟨r.op, r.tid, mstatusOf r, []⟩)) ∧
    (r.op = 3 → exec (.sheetStage id r) s = .next (((s.touchSession id).bump .vager O.MALFORMED_1011 32).respond (.session id) ⟨r.op, r.tid, mstatusOf r, []⟩)) ∧
    (r.op = 4 → exec (.sheetStageCancel id r) s = .next (((s.touchSession id).bump .vager O.MALFORMED_1011 32).respond (.session id) ⟨r.op, r.tid, mstatusOf r, []⟩)) ∧
    (r.op = 5 → exec (.sheetSegRead id r) s = .next (((s.touchSession id).bump .vager O.MALFORMED_1011 32).respond (.session id) ⟨r.op, r.tid, mstatusOf r, []⟩)) ∧
    (r.op = 6 → exec (.sheetSegWrite id r) s = .next (((s.touchSession id).bump .vager O.MALFORMED_1011 32).respond (.session id) ⟨r.op, r.tid, mstatusOf r, []⟩)) ∧
    (r.op = 7 → exec (.sheetSubscribe id r) s = .next (((s.touchSession id).bump .vager O.MALFORMED_1011 32).respond (.session id) ⟨r.op, r.tid, mstatusOf r, []⟩)) ∧
    (r.op = 9 → exec (.sheetSpdm id r) s = .next (((s.touchSession id).bump .vager O.MALFORMED_1011 32).respond (.session id) ⟨r.op, r.tid, mstatusOf r, []⟩)) ∧
    (r.op = 10 → exec (.sheetEcho id r) s = .next (((s.touchSession id).bump .vager O.MALFORMED_1011 32).respond (.session id) ⟨r.op, r.tid, mstatusOf r, []⟩))) ∧
  (∀ (s : State) (id : Nat) (r : SheetReq), s.vager.sessions.find? (fun x => x.id == id) = none →
    (r.op = 1 → exec (.sheetRead id r) s = .next (s)) ∧
    (r.op = 2 → exec (.sheetWrite id r) s = .next (s)) ∧
    (r.op = 3 → exec (.sheetStage id r) s = .next (s)) ∧
    (r.op = 4 → exec (.sheetStageCancel id r) s = .next (s)) ∧
    (r.op = 5 → exec (.sheetSegRead id r) s = .next (s)) ∧
    (r.op = 6 → exec (.sheetSegWrite id r) s = .next (s)) ∧
    (r.op = 7 → exec (.sheetSubscribe id r) s = .next (s)) ∧
    (r.op = 9 → exec (.sheetSpdm id r) s = .next (s)) ∧
    (r.op = 10 → exec (.sheetEcho id r) s = .next (s)))

/-- A staged group applies at its instant, expires, or goes to its Staris; a Staris answers a DICT_REQ; a proxied request times
out; a mailbox takes a request or drops it; the management settings are committed and the link changes; a register is written and
answered with its status. -/
def Obligations.StagingAndProxyCommandsComplete : Prop :=
  (∀ (s : State) (p : Part) (g : Nat), exec (.stagedGroupApply p g) s = .next (s.applyIfDue p g)) ∧
  (∀ (s : State) (n : Nat) (g : SGroup), (s.staging .vager).groups.find? (fun g => g.group == n) = some g → g.kind = 2 →
    g.forwarded = false → g.made + 10 ^ 9 * s.rd .vager O.STAGE_EPOCH_LIFE_1101 ≤ s.extNow →
    exec (.stageEpochExpiry n) s = .next (s.groupLeaves .vager g 5 0 0 s.extNow)) ∧
  (∀ (s u : State) (n t : Nat) (g : SGroup), (s.staging .vager).groups.find?
      (fun g => g.group == n && g.node != 0 && !g.forwarded) = some g → s.heldInstant g = some t → t ≤ s.extNow + 10 ^ 9 →
    (s.withheld g.w (nodeDie g.node) = true → exec (.stagedGroupForward n) s =
      .next ((s.bump .vager O.WITHHELD_WRITES_7480 32 g.entries.length).groupLeaves .vager g 3 0 stWithheld s.extNow)) ∧
    (s.withheld g.w (nodeDie g.node) = false →
      u = s.setStaging .vager { s.staging .vager with groups := (s.staging .vager).groups.map fun y =>
        if y.group = n then { y with forwarded := true } else y } →
      exec (.stagedGroupForward n) s = .next (u.proxySubmit (nodeDie g.node) {
        tid := 0, w := g.w, group := some n,
        req := { version := 1, op := 3, tid := 0, stop := false, resend := false, sound := true, entries :=
          { index := 0x1020, sub := 3, node := 0, len := 16, offset := 0, data := stageWord 3 0 (t % 2 ^ 32) } :: g.entries } }))) ∧
  (∀ (s v : State) (d : Die) (w : Writer) (r : SheetReq) (a : SheetResp), s.starisAnswer d w r = (a, v) →
    exec (.dictReqRx d w r) s = .next ((v.sendDict false d 2 (respBytes a)).applyDue (.staris d))) ∧
  (∀ (s u : State) (p : Die) (i : ProxyItem) (t : List ProxyItem), (s.proxy p.val).outstanding = i :: t →
    i.sent + 1000 * s.rd .vager O.PROXY_TIMEOUT_1101 ≤ s.extNow →
    u = (s.setProxy p.val { s.proxy p.val with outstanding := t }).bump .vager (O.PROXY_TIMEOUTS_1030 p.val) 32 →
    exec (.proxyTimeout p) s = .next (State.proxyPump 1 (u.proxyFailed i stTimeout) p)) ∧
  (∀ (s : State) (a : Aperture) (b : Bool) (n : Nat) (r : SheetReq),
    (s.apertureOpen a b = false ∨ (s.mailbox a).state = 1 →
      exec (.mbGo a b n r) s = .next (s.bump (aperturePart a) O.APERTURE_DROPS_1011 32)) ∧
    (s.apertureOpen a b = true → (s.mailbox a).state ≠ 1 → aperturePart a = .vager → exec (.mbGo a b n r) s =
      .next ((s.setMailbox a { s.mailbox a with state := 1, vector := n % 2 ^ 16, response := none }).vagerRequest (.mailbox a)
        (apertureWriter a) 0 r))) ∧
  (∀ (s : State) (n : Fin 3), exec (.mgmtLinkChange n) s = .next ((s.wr .vager O.MGMT_LINK_1100 n.val).setVt
    { (s.wr .vager O.MGMT_LINK_1100 n.val).vager.time with
      gm := none, annCount := 0, annLog := none, syncLog := none, ptp := {},
      stackOwner := (s.wr .vager O.MGMT_LINK_1100 n.val).rd .vager O.STACK_OWNER_2102,
      port := if n.val = 0 then .initializing else .listening })) ∧
  (∀ (s : State) (w : Writer), mayReach w true .fleet = true →
    exec (.mgmtCommit w true) s = .next (s.commitNetwork.answer stOk) ∧
    exec (.mgmtCommit w false) s = .next (s.answer stOk)) ∧
  (∀ (s u : State) (p : Part) (w : Writer) (i j st : Nat) (m : Bool) (l : List Nat), s.writeObject p w 0 false i j l = ((st, m), u) →
    exec (.registerWrite p w i j l) s = .next (u.answer st))

/-- The watchdog and a core fault restart the supervisor with codes 1 and 2; the delay ends in BOOT or in a warm reset; a verified
slot is started, or the supervisor enters RECOVERY; the sensors and rails are sampled; an image is checked and accepted or
refused; a maintenance stop is declared or refused; an image is activated for Crow's Nest or for the Staris; its trial is
confirmed or runs out. -/
def Obligations.CrowsNestCommandsComplete : Prop :=
  (∀ (s : State) (w : Writer), mayReach w true .fleet = true → exec (.cnKick w) s =
    .next ((s.setCrow { s.crow with kickAt := s.vager.ticks }).answer stOk)) ∧
  (∀ (s : State), (s.crow.kickAt + 10 ^ 6 * s.rd .vager O.CN_WD_PERIOD_7848 ≤ s.vager.ticks →
    exec .cnWatchdogExpiry s = .next (s.cnRestart 1)) ∧ exec .cnCoreFault s = .next (s.cnRestart 2)) ∧
  (∀ (s : State), (s.rd .vager O.CN_STATE_7848 = 2 → exec .cnRestartDelayEnd s = .next (s.wr .vager O.CN_STATE_7848 0)) ∧
    (s.rd .vager O.CN_STATE_7848 = 3 → exec .cnRestartDelayEnd s = .next (s.warmReset 3))) ∧
  (∀ (s u : State) (a b : Bool), s.rd .vager O.CN_STATE_7848 = 0 →
    (s.bootFallback.bootSlot a b = none →
      u = s.bootFallback.setElem .vager O.BOOT_TIMES_7C40 8 4 s.bootFallback.vager.ticks →
      exec (.cnBootVerifyDone a b) s = .next ((u.wr .vager O.CN_STATE_7848 4).wr .vager O.BOOT_STAGE_7C40 6)) ∧
    (∀ i t v, s.bootFallback.bootSlot a b = some i →
      u = (s.bootFallback.setOb .vager O.FW_ACTIVE_7860 0 i).wr .vager O.CN_STATE_7848 1 →
      t = u.setCrow { u.crow with bootAt := u.vager.ticks, kickAt := u.vager.ticks } →
      v = (t.showImage .vager (t.slotImage i)).newSigningKey → v.rd .vager O.BOOT_STAGE_7C40 ≠ 5 →
      exec (.cnBootVerifyDone a b) s = .next v.bootReady)) ∧
  (∀ (s u v : State) (l : List Int) (m : List Nat),
    u = ((l.take 24).mapIdx fun i x => (i, x)).foldl (fun s e => s.takeSensor e.1 e.2) s →
    v = ((m.take 12).mapIdx fun i x => (i, x)).foldl (fun s e => s.setElem .vager O.RAILS_7850 2 e.1 (e.2 % 2 ^ 16)) u →
    exec (.cnSensorSample l m) s = .next (v.setVager { v.vager with crow := { v.vager.crow with sampled := true } })) ∧
  (∀ (s : State) (w : Writer) (n : Nat), mayReach w true .fleet = true → exec (.fwStageBytesWrite w n) s =
    .next (((s.wr .vager O.FW_STAGE_BYTES_7860 (n % 2 ^ 32)).wr .vager O.FW_STAGE_STATE_7860 1).answer stOk)) ∧
  (∀ (s : State) (sg wt : Bool) (img : List Nat) (e : Nat), s.rd .vager O.FW_STAGE_STATE_7860 = 1 →
    img = s.bytesAt .vager O.FW_STAGE_DATA_7860 0 (min (s.rd .vager O.FW_STAGE_BYTES_7860) 16777216) →
    e = s.stageError img sg wt →
    (e = 0 → exec (.fwStageCheckDone sg wt) s = .next ((s.wr .vager O.FW_STAGE_ERROR_7860 0).acceptImage img)) ∧
    (e ≠ 0 → exec (.fwStageCheckDone sg wt) s =
      .next ((s.wr .vager O.FW_STAGE_ERROR_7860 e).wr .vager O.FW_STAGE_STATE_7860 3))) ∧
  (∀ (s : State) (w : Writer), mayReach w true .fleet = true →
    exec (.maintStopWrite w false) s = .next ((s.wr .vager O.MAINT_STOP_7860 0).answer stOk) ∧
    (((List.range 64).all fun x => s.ctxState x == 0) = true → s.cutIdle = true → s.rstState = 0 →
      exec (.maintStopWrite w true) s = .next ((s.wr .vager O.MAINT_STOP_7860 1).answer stOk)) ∧
    (s.cutIdle = false → exec (.maintStopWrite w true) s = .next (s.answer stRefused))) ∧
  (∀ (s : State) (w : Writer) (i : Nat), mayReach w true .fleet = true →
    (s.stagedSlot 1 = some i → exec (.fwActivateCrowsNest w) s =
      .next ((((s.activateSlot 1 i).setOb .vager O.FW_SLOT_STATE_7860 i 2).answer stOk).warmReset 1)) ∧
    (s.stagedSlot 2 = some i → exec (.fwActivateStaris w) s = .next (allDies.foldl (fun s d =>
      if s.linkUp true d then (s.softReset d).showImage (.staris d) (s.slotImage i) else s) ((s.activateSlot 2 i).answer stOk)))) ∧
  (∀ (s : State) (w : Writer) (i : Nat), mayReach w true .fleet = true → i = s.activeSlot 1 → s.slotState i = 2 →
    s.crow.fallback = false → (s.setOb .vager O.FW_SLOT_STATE_7860 i 1).rd .vager O.FW_SVN_LOCK_7860 ≠ 1 →
    exec (.fwConfirm w) s = .next ((s.setOb .vager O.FW_SLOT_STATE_7860 i 1).answer stOk)) ∧
  (∀ (s : State), s.trialOver = true →
    exec .fwTrialExpiry s = .next (s.setCrow { s.crow with fallback := true }))

/-- A record is programmed and the recorder goes on; a sector's erase ends and its 64 records are lost; the recorder is frozen,
thawed and cleared; an operating hour is stored. A domain that has woken is ON; a function's WAKE holds its domains ON until the
hold ends; a Staris revisits its four domains and Vager its own; a remapped source is reset and leaves its reset. -/
def Obligations.RecorderAndPowerCommandsComplete : Prop :=
  (∀ (s : State), exec .recordNorWriteDone s = .next (s.setRcd s.rcd.program).recorderGo) ∧
  (∀ (s : State), exec .norSectorEraseDone s = .next (s.setRcd s.rcd.erased)) ∧
  (∀ (s u : State) (w : Writer), mayReach w false .operator = true → s.rd .vager O.REC_FREEZE_7840 ≠ 1 →
    u = (s.setRcd { s.rcd with frozenAt := s.vager.ticks }).wr .vager O.REC_FREEZE_7840 1 →
    (u.rd .vager O.REC_STATE_7840 = 0 →
      exec (.recFreeze w) s = .next ((u.wr .vager O.REC_STATE_7840 1).answer stOk)) ∧
    (u.rd .vager O.REC_STATE_7840 ≠ 0 → exec (.recFreeze w) s = .next (u.answer stOk)) ∧
    exec (.recThaw w) s = .next (s.thaw.answer stOk)) ∧
  (∀ (s : State), s.rcd.frozenAt + 10 ^ 9 * s.rd .vager O.REC_FREEZE_LIMIT_7840 ≤ s.vager.ticks →
    exec .recFreezeLimitExpiry s = .next s.thaw) ∧
  (∀ (s : State) (w : Writer) (n : Nat), mayReach w true .fleet = true →
    (s.rd .vager O.REC_STATE_7840 = 0 → exec (.recClear w n) s = .next (((s.wr .vager O.REC_STATE_7840 2).setRcd
        { s.rcd with clearSerial := n % 2 ^ 48 }).answer stOk)) ∧
    (s.rd .vager O.REC_STATE_7840 ≠ 0 → exec (.recClear w n) s = .next (s.answer stRefused))) ∧
  (∀ (s u : State), s.rd .vager O.REC_STATE_7840 = 2 → u = s.setRcd s.rcd.cleared →
    exec .recClearDone s = .next ((u.wr .vager O.REC_STATE_7840 (u.rd .vager O.REC_FREEZE_7840)).recordV 0x0003
      s.rcd.ring.length (fld 48 48 s.rcd.clearSerial)).recorderGo) ∧
  (∀ (s : State), hourLength ≤ s.vager.hourTicks → exec .opHourBoundary s =
    .next ((s.setVager { s.vager with hourTicks := s.vager.hourTicks - hourLength }).bump .vager O.OP_HOURS_7841 32)) ∧
  (∀ (s : State) (n : Nat) (l : List Nat), exec (.powerRevisit .vager n l) s = .next ((((List.range 28).foldl (fun s i =>
    s.revisit .vager i (s.clusterSleeps n i (s.vagerSleeps n l i))) s).fabricDomain 0).fabricDomain 1)) ∧
  (∀ (s : State) (d : Die) (n : Nat) (l : List Nat), exec (.powerRevisit (.staris d) n l) s =
    .next ((List.range 4).foldl (fun s i => s.revisit (.staris d) i (s.dieSleeps d i)) s)) ∧
  (∀ (s : State) (i : Fin 32), s.domainState .vager i.val = 5 →
    exec (.domainWakeDone .vager i) s = .next (s.moveVager i.val 0)) ∧
  (∀ (s : State) (d : Die) (i : Fin 32), i.val < 4 → s.domainState (.staris d) i.val = 5 →
    exec (.domainWakeDone (.staris d) i) s = .next (s.moveDie d i.val 0)) ∧
  (∀ (s : State) (p : Part) (w : Writer) (f : Fin 3), mayReach w false .host = true →
    exec (.wakeWrite p w f) s = .next (((s.setPower p { s.power p with
      holds := Tbl.insert (s.power p).holds f.val (s.ticksOf p + s.wakeHold p) }).wakeFunction p f.val).answer stOk)) ∧
  (∀ (s : State) (p : Part) (f : Fin 3) (t : Nat), Tbl.find (s.power p).holds f.val = some t → t ≤ s.ticksOf p →
    exec (.wakeHoldExpiry p f) s = .next (s.setPower p { s.power p with holds := Tbl.erase (s.power p).holds f.val })) ∧
  (∀ (s : State) (d : Die) (a b : Fin 256) (k : Fin 4),
    (bitAt k.val 0 = true → exec (.spareCoreRemap d a b k) s = .next ((s.sourceReset d a.val).sourceResetExit d a.val)) ∧
    (bitAt k.val 0 = false → exec (.spareCoreRemap d a b k) s = .next s))

/-- Whatever the command, its operands and the state, exec answers a next state. Where a command is not allowed, the refusal that
the spec gives it is an answer in the next state. -/
def Obligations.EveryCommandCompletes : Prop :=
  ∀ (c : Instr) (s : State), ∃ t, exec c s = .next t

/-- The effect of a command is on everything but the queue: whatever the command and the state, the queue after it is the queue
before it. So the order in which senders are served is the order in which they came (the queue is the model's own field, log entry
1). -/
def Obligations.CommandsLeaveTheQueue : Prop :=
  ∀ (c : Instr) (s t : State), exec c s = .next t → t.pending = s.pending

/-- Whatever waits behind the first command waits after the step, in the same order and with nothing added; on an empty queue the
step leaves it empty (the queue and the step on an empty one are the model's own, log entry 1). -/
def Obligations.StepServesTheQueueInOrder : Prop :=
  (∀ (s t : State) (c : Instr) (rest : List Instr), s.pending = c :: rest → step s = .next t → t.pending = rest) ∧
  (∀ (s t : State), s.pending = [] → step s = .next t → t.pending = [])

/-- The invariant of the queue: a step takes the front command and no command's effect puts another into the queue, so what is
well formed stays so, in every state and not only in those that a run reaches. -/
def Obligations.QueueWellFormedKept : Prop :=
  ∀ (s t : State), s.queueWf = true → step s = .next t → t.queueWf = true

/-- The invariant of the queue holds at State.reset. -/
def Obligations.QueueWellFormedAtReset : Prop :=
  State.reset.pending = [] ∧ State.reset.queueWf = true

/-- After reset every scalar object of Vager and of each Staris reads the Default of its table and so does every byte of every
octet object (a value that the table leaves open reads 0, the model's choice of log entry 2); the Lanyard counters read 0 at the
nominal increment; no link, no session, no report and no held message is left; the first free value is the first one (the model's
own field). -/
def Obligations.ResetLeavesTheDefaults : Prop :=
  (∀ (p : Part) (k : Nat), State.reset.rd p k = objDefault p k) ∧
  (∀ (p : Part) (k i : Nat), State.reset.ob p k i = octDefaultAt (octKey k i)) ∧
  (∀ p : Part, State.reset.counter p = 0) ∧
  State.reset.vager.time.inc = 2 ^ 32 ∧ (∀ d : Die, (State.reset.die d).time.inc = 2 ^ 32) ∧
  State.reset.vager.sessions = [] ∧ State.reset.vager.links = [] ∧ State.reset.vager.merge = [] ∧
  (∀ c : Fin 18, State.reset.clState c.val = if c.val < 16 then 1 else 2) ∧
  State.reset.out = [] ∧ State.reset.pending = [] ∧ State.reset.fresh = 0

/-- A writer reaches a secure object of the fleet role only if it is secure and of that role. For each command that writes such an
object, an access by any other writer answers the access error; the state is otherwise the one before, its registers, memories,
links and queue with it. -/
def Obligations.WritesBelowFleetChangeNothing : Prop :=
  (∀ w : Writer, mayReach w true .fleet = false ↔ w.secure = false ∨ w.role ≠ .fleet) ∧
  ∀ (s : State) (w : Writer), mayReach w true .fleet = false →
    (∀ (d : Die) (k : Fin 4) (value : Nat), exec (.keyEpochWrite d w k value) s = .next (s.answer stAccess)) ∧
    (∀ (d : Die) (k : Fin 4) (value : List Nat), exec (.keyValueWrite d w k value) s = .next (s.answer stAccess)) ∧
    (∀ (d : Die) (k : Fin 4), exec (.keyClear d w k) s = .next (s.answer stAccess)) ∧
    (∀ (value : Nat), exec (.fwStageBytesWrite w value) s = .next (s.answer stAccess)) ∧
    (∀ (value : Bool), exec (.maintStopWrite w value) s = .next (s.answer stAccess)) ∧
    exec (.fwActivateCrowsNest w) s = .next (s.answer stAccess) ∧
    exec (.fwActivateStaris w) s = .next (s.answer stAccess) ∧
    exec (.fwConfirm w) s = .next (s.answer stAccess) ∧
    exec (.cnKick w) s = .next (s.answer stAccess) ∧
    (∀ (value : Bool), exec (.mgmtCommit w value) s = .next (s.answer stAccess)) ∧
    (∀ (d : Die), exec (.totalsClear d w) s = .next (s.answer stAccess)) ∧
    exec (.instClear w) s = .next (s.answer stAccess) ∧
    (∀ (map : List Nat), exec (.classMapWrite w map) s = .next (s.answer stAccess)) ∧
    (∀ (header : Nat) (body : List Nat), exec (.bcastSubmit w header body) s = .next (s.answer stAccess)) ∧
    (∀ (d : Die), exec (.returnToService d w) s = .next (s.answer stAccess)) ∧
    (∀ (p : Die), exec (.pairAccept p w) s = .next (s.answer stAccess)) ∧
    (∀ (p : Die), exec (.laneClear p w) s = .next (s.answer stAccess)) ∧
    (∀ (p : Die) (value : Bool), exec (.portEnableWrite p w value) s = .next (s.answer stAccess)) ∧
    (∀ (serial : Nat), exec (.recClear w serial) s = .next (s.answer stAccess)) ∧
    (∀ (d : Die), exec (.softReset d w) s = .next (s.answer stAccess)) ∧
    exec (.warmReset w) s = .next (s.answer stAccess) ∧
    (∀ (p : Die), exec (.portOosClear w p) s = .next (s.answer stAccess)) ∧
    (∀ (j : Fin 16) (data : List Nat), exec (.profDataWrite w j data) s = .next (s.answer stAccess)) ∧
    (∀ (j : Fin 16), exec (.profClear w j) s = .next (s.answer stAccess)) ∧
    (∀ (arm : Nat), exec (.cutArmWrite w arm) s = .next (s.answer stAccess)) ∧
    (∀ (value : Nat), exec (.coordTrayWrite w value) s = .next (s.answer stAccess)) ∧
    (∀ (pos : Nat) (digest : List Nat), exec (.prepInject w pos digest) s = .next (s.answer stAccess)) ∧
    exec (.cutAbandon w) s = .next (s.answer stAccess) ∧
    (∀ (value : Nat), exec (.stayBytesWrite w value) s = .next (s.answer stAccess)) ∧
    (∀ (proposal : Nat), exec (.rstPropose w proposal) s = .next (s.answer stAccess)) ∧
    (∀ (cut : Nat), exec (.rstConfirm w cut) s = .next (s.answer stAccess)) ∧
    (∀ (d : Die) (value : Nat), exec (.incrementWrite d w value) s = .next (s.answer stAccess)) ∧
    (∀ (d : Die) (value : Nat), exec (.modeWrite d w value) s = .next (s.answer stAccess)) ∧
    (∀ (d : Die) (value : Nat), exec (.stepWrite d w value) s = .next (s.answer stAccess)) ∧
    (∀ (value : Nat), exec (.sourceWrite w value) s = .next (s.answer stAccess)) ∧
    (∀ (seconds : Nat), exec (.secondsSetWrite w seconds) s = .next (s.answer stAccess)) ∧
    exec (.treeCommit w) s = .next (s.answer stAccess) ∧
    (∀ (x : Fin 64), exec (.ctxFree w x) s = .next (s.answer stAccess)) ∧
    (∀ (d : Die) (value : Bool), exec (.authSecureWrite d w value) s = .next (s.answer stAccess)) ∧
    (∀ (value : Bool), exec (.dbgGrantWrite w value) s = .next (s.answer stAccess))

/-- For each command that writes an object of the operator role, a secure object of the host role, a comparator or a Cleat
sequencer of its world and role, an anchor or a certificate, or a DMA channel of a world: a writer that may not reach it is
answered the access error and the state is otherwise the one before. -/
def Obligations.WritesBelowTheRoleChangeNothing : Prop :=
  (∀ (s : State) (w : Writer), mayReach w true .operator = false →
    (∀ (config : List Nat), exec (.bldConfigWrite w config) s = .next (s.answer stAccess)) ∧
    exec (.bldReset w) s = .next (s.answer stAccess) ∧
    (∀ (value : Nat), exec (.entDescWrite w value) s = .next (s.answer stAccess)) ∧
    exec (.entClear w) s = .next (s.answer stAccess) ∧
    (∀ (value : Nat), exec (.skWindowWrite w value) s = .next (s.answer stAccess)) ∧
    (∀ (value : Int), exec (.refValueWrite w value) s = .next (s.answer stAccess)) ∧
    (∀ (d : Die) (polarity : List Nat), exec (.polarityWrite d w polarity) s = .next (s.answer stAccess)) ∧
    (∀ (d : Die) (mask : List Nat), exec (.evtFlagsClear d w mask) s = .next (s.answer stAccess)) ∧
    (∀ (d : Die), exec (.snapRelease d w) s = .next (s.answer stAccess)) ∧
    (∀ (d : Die) (codes : List Nat), exec (.canaryCodeWrite d w codes) s = .next (s.answer stAccess)) ∧
    (∀ (q : Fin 2), exec (.changeSchedule w q) s = .next (s.answer stAccess)) ∧
    (∀ (q : Fin 2), exec (.changeCancel w q) s = .next (s.answer stAccess)) ∧
    (∀ (q : Fin 2) (c : Fin 8) (field : Fin 5) (value : Int), exec (.cbsConfigWrite w q c field value) s = .next (s.answer stAccess)) ∧
    (∀ (d : Die) (dom : Fin 16), exec (.domHangCommand d w dom) s = .next (s.answer stAccess)) ∧
    (∀ (d : Die) (dom : Fin 16), exec (.domResetCommand d w dom) s = .next (s.answer stAccess)) ∧
    (∀ (d : Die) (dom : Fin 16), exec (.domSampleCommand d w dom) s = .next (s.answer stAccess)) ∧
    (∀ (value : Bool), exec (.heldPinWrite w value) s = .next (s.answer stAccess)) ∧
    exec (.replayGo w) s = .next (s.answer stAccess) ∧
    (∀ (m : Fin 64), exec (.modelLoad w m) s = .next (s.answer stAccess)) ∧
    (∀ (m : Fin 64), exec (.modelUnload w m) s = .next (s.answer stAccess)) ∧
    (∀ (d : Die) (value : Bool), exec (.authNsPrivWrite d w value) s = .next (s.answer stAccess))) ∧
  (∀ (s : State) (d : Die) (w : Writer) (q : Fin 8) (program : List Nat), mayReach w (seqSecure q.val) (seqRole q.val) = false →
    exec (.cleatProgramWrite d w q program) s = .next (s.answer stAccess)) ∧
  (∀ (s : State) (d : Die) (w : Writer) (q : Fin 8), mayReach w (seqSecure q.val) (seqRole q.val) = false →
    exec (.cleatStart d w q) s = .next (s.answer stAccess)) ∧
  (∀ (s : State) (d : Die) (w : Writer) (q : Fin 8), mayReach w (seqSecure q.val) (seqRole q.val) = false →
    exec (.cleatStop d w q) s = .next (s.answer stAccess)) ∧
  (∀ (s : State) (w : Writer), mayReach w false .operator = false →
    (∀ (p : Die), exec (.hangSampleRelease w p) s = .next (s.answer stAccess)) ∧
    exec (.recFreeze w) s = .next (s.answer stAccess) ∧
    exec (.recThaw w) s = .next (s.answer stAccess) ∧
    exec (.streamClear w) s = .next (s.answer stAccess) ∧
    (∀ (d : Die) (value : Nat), exec (.pennantModeWrite d w value) s = .next (s.answer stAccess)) ∧
    (∀ (d : Die) (value : Nat), exec (.sinkSelectWrite d w value) s = .next (s.answer stAccess)) ∧
    (∀ (d : Die), exec (.sinkReset d w) s = .next (s.answer stAccess)) ∧
    (∀ (d : Die) (value : Bool), exec (.trigArm d w value) s = .next (s.answer stAccess)) ∧
    (∀ (d : Die), exec (.trigForce d w) s = .next (s.answer stAccess)) ∧
    (∀ (p : Die) (offset : Nat) (bytes : Nat), exec (.sliceConfigWrite p w offset bytes) s = .next (s.answer stAccess)) ∧
    (∀ (p : Die), exec (.sliceReset p w) s = .next (s.answer stAccess))) ∧
  (∀ (s : State) (w : Writer), mayReach w true .host = false →
    exec (.rstLoaded w) s = .next (s.answer stAccess) ∧
    (∀ (value : Nat), exec (.rstFilled w value) s = .next (s.answer stAccess)) ∧
    (∀ (j : Fin 4) (bytes : Nat), exec (.planBytesWrite w j bytes) s = .next (s.answer stAccess))) ∧
  (∀ (s : State) (d : Die) (n : Fin 32) (w : Writer), mayReach w (cmpSecure n.val) (cmpRole n.val) = false →
    exec (.cmpArm d n w) s = .next (s.answer stAccess)) ∧
  (∀ (s : State) (d : Die) (n : Fin 32) (w : Writer), mayReach w (cmpSecure n.val) (cmpRole n.val) = false →
    exec (.cmpDisarm d n w) s = .next (s.answer stAccess)) ∧
  (∀ (s : State) (w : Writer) (a : Fin 8) (value : Nat) (valid : Bool), mayReach (s.anchorWriter w (0x7460 + a.val)) true .fleet = false →
    exec (.taBytesWrite w a value valid) s = .next (s.answer stAccess)) ∧
  (∀ (s : State) (w : Writer) (value : Nat) (matching expired : Bool), mayReach (s.anchorWriter w 0x7470) true .fleet = false →
    exec (.opCertBytesWrite w value matching expired) s = .next (s.answer stAccess)) ∧
  (∀ (s : State) (p : Part) (n : Fin 16) (w : Writer), n.val < dmaCount p → mayReach w (s.dmaSecure p n) .host = false →
    (∀ x, exec (.shadowDescWrite p n w x) s = .next (s.answer stAccess)) ∧ exec (.dmaArm p n w) s = .next (s.answer stAccess) ∧
    exec (.dmaCancel p n w) s = .next (s.answer stAccess) ∧ exec (.dmaAbort p n w) s = .next (s.answer stAccess) ∧
    exec (.dmaClear p n w) s = .next (s.answer stAccess) ∧ exec (.dmaReset p n w) s = .next (s.answer stAccess))

/-- Vager, the sixteen Staris, the free values taken and the commands that wait are the same before and after an answer; the log
of outputs (the model's own field) has one entry more, the status. -/
def Obligations.AnswerChangesOnlyTheOutputs : Prop :=
  ∀ (s : State) (x : Nat), (s.answer x).vager = s.vager ∧ (s.answer x).dies = s.dies ∧ (s.answer x).fresh = s.fresh ∧
    (s.answer x).pending = s.pending ∧ (s.answer x).out = s.out ++ [.answer x]

/-- Writing the value v to a scalar object of a part: that object reads v; every other object of that part and every object of the
other parts reads as before; so does every byte of every octet object; time, links, queues, outputs, free values and the other
parts' whole state are the same. A byte of an octet object likewise. -/
def Obligations.ObjectWritesAreFramed : Prop :=
  (∀ (s : State) (p q : Part) (k j v : Nat), (s.wr p k v).rd q j = if q = p ∧ j = k then v else s.rd q j) ∧
  (∀ (s : State) (p q : Part) (k j v i : Nat), (s.wr p k v).ob q j i = s.ob q j i) ∧
  (∀ (s : State) (p q : Part) (k i v j n : Nat), i < 2 ^ 40 → n < 2 ^ 40 →
    (s.setOb p k i v).ob q j n = if q = p ∧ j = k ∧ n = i then v % 256 else s.ob q j n) ∧
  (∀ (s : State) (p q : Part) (k i v j : Nat), (s.setOb p k i v).rd q j = s.rd q j) ∧
  (∀ (s : State) (k v : Nat), (s.wr .vager k v).vager = { s.vager with obj := (s.wr .vager k v).vager.obj } ∧
    (s.wr .vager k v).dies = s.dies) ∧
  (∀ (s : State) (d e : Die) (k v : Nat), (s.wr (.staris d) k v).vager = s.vager ∧
    (s.wr (.staris d) k v).die d = { s.die d with obj := ((s.wr (.staris d) k v).die d).obj } ∧
    (e ≠ d → (s.wr (.staris d) k v).die e = s.die e)) ∧
  (∀ (s : State) (k i v : Nat), (s.setOb .vager k i v).vager = { s.vager with oct := (s.setOb .vager k i v).vager.oct } ∧
    (s.setOb .vager k i v).dies = s.dies) ∧
  (∀ (s : State) (d e : Die) (k i v : Nat), (s.setOb (.staris d) k i v).vager = s.vager ∧
    (s.setOb (.staris d) k i v).die d = { s.die d with oct := ((s.setOb (.staris d) k i v).die d).oct } ∧
    (e ≠ d → (s.setOb (.staris d) k i v).die e = s.die e)) ∧
  (∀ (s : State) (p : Part) (k i v : Nat), (s.wr p k v).out = s.out ∧ (s.wr p k v).fresh = s.fresh ∧
    (s.wr p k v).pending = s.pending ∧ (s.setOb p k i v).out = s.out ∧ (s.setOb p k i v).fresh = s.fresh ∧
    (s.setOb p k i v).pending = s.pending)

/-- For every object of n bytes and every list of k bytes, k at most n: after the write byte i below k is the byte written without
its reserved bits (R8), byte i from k to n − 1 is zero, a byte at or beyond n, of another object or of another part reads as
before, and no scalar object changes. -/
def Obligations.OctetWritesFillWithZeros : Prop :=
  ∀ (s : State) (p q : Part) (k n j i : Nat) (l : List Nat), l.length ≤ n → n ≤ 2 ^ 40 → i < 2 ^ 40 →
    (s.writeOctets p k n l).ob q j i = (if q = p ∧ j = k ∧ i < n then l.getD i 0 % 256 &&& octetKeep k i else s.ob q j i) ∧
    (s.writeOctets p k n l).rd q j = s.rd q j

/-- Writing a granule of HBM with its poison: that granule reads as written unless its page is given up, when it reads as poison;
every other granule reads as before; nothing of Vager but its HBM and nothing of any Staris changes; a memory in canonical form
stays so, and that of reset is. -/
def Obligations.HbmGranulesAreReadAsWritten : Prop :=
  (∀ (s : State) (a b : Nat) (x : Gran), (s.setHbm a x).hbmAt b =
    if s.vager.classifier.dead.contains (b / 128) then { poison := true } else if b = a then x else s.hbmAt b) ∧
  (∀ (s : State) (a : Nat) (x : Gran), (s.setHbm a x).vager = { s.vager with hbm := (s.setHbm a x).vager.hbm } ∧
    (s.setHbm a x).dies = s.dies ∧ (s.setHbm a x).out = s.out) ∧
  (∀ (s : State) (a : Nat) (x : Gran), Memory.wf s = true → Memory.wf (s.setHbm a x) = true) ∧
  Memory.wf State.reset = true

/-- Where the tables of every part list rising keys and no value that an unlisted key reads as, so they do after a write of a
scalar object, of one byte and of any list of bytes of an octet object, an output and a free value (the tables are the model's own
form of the register file). -/
def Obligations.ObjectTablesKeepTheirForm : Prop :=
  State.reset.tablesWf = true ∧
  ∀ s : State, s.tablesWf = true → (∀ p k v, (s.wr p k v).tablesWf = true) ∧ (∀ p k i v, (s.setOb p k i v).tablesWf = true) ∧
    (∀ p k i l, (s.setBytes p k i l).tablesWf = true) ∧ (∀ o, (s.emit o).tablesWf = true) ∧ s.takeNat.2.tablesWf = true

/-- For a writer that may reach the object: while some configuration is not IDLE, whatever the value, the write is answered with
an error and the state is otherwise the one before. While every configuration is IDLE, 0 or 1 is taken: the object reads it, every
other object of every part reads as before, and the write is answered OK. -/
def Obligations.TraceModeNeedsEveryConfigurationIdle : Prop :=
  ∀ (s : State) (d : Die) (w : Writer) (v : Nat), mayReach w false .operator = true →
    (s.allIdle d = false → exec (.pennantModeWrite d w v) s = .next (s.answer (if v ≤ 1 then stRefused else stRange))) ∧
    (s.allIdle d = true → v ≤ 1 → ∃ t, exec (.pennantModeWrite d w v) s = .next t ∧ t.out = s.out ++ [.answer stOk] ∧
      ∀ (q : Part) (k : Nat), t.rd q k = if q = .staris d ∧ k = O.PENNANT_MODE_3400 then v else s.rd q k)

/-- Where the queue holds 64 entries, an event message still leaves: the queue is unchanged, its overflow count is one more modulo
2^32, and every other object and every Staris are as before. A write of 1 to the clear by a writer that may reach it leaves the
count 0 and every other object as before, and is answered OK. -/
def Obligations.TimestampQueueHoldsSixtyFourEntries : Prop :=
  (∀ (s : State) (seq type domain : Nat), s.vager.time.tsq.length = 64 → ∃ t, exec (.ptpEventTx seq type domain) s = .next t ∧
    t.vager.time.tsq = s.vager.time.tsq ∧ t.dies = s.dies ∧ t.out = s.out ++ [.ptp (type % 16) (seq % 2 ^ 16) none none] ∧
    ∀ (q : Part) (k : Nat), t.rd q k =
      if q = .vager ∧ k = O.TSQ_OVERFLOW_2105 then (s.rd .vager O.TSQ_OVERFLOW_2105 + 1) % 2 ^ 32 else s.rd q k) ∧
  (∀ (s : State) (w : Writer), mayReach w false .host = true → ∃ t, exec (.tsqOverflowClear w) s = .next t ∧
    t.vager.time = s.vager.time ∧ t.dies = s.dies ∧ t.out = s.out ++ [.answer stOk] ∧
    ∀ (q : Part) (k : Nat), t.rd q k = if q = .vager ∧ k = O.TSQ_OVERFLOW_2105 then 0 else s.rd q k)

/-- Where the queue has room, the message's sequenceId, messageType, domain and the extended time join the end of the queue,
behind what is there, and the fill level shows the new length; the message leaves, and behind it, where Crow's Nest runs the
stack, the follow-up of a Sync or a Pdelay_Resp with that time (R66); a pop by a writer that may reach it removes the head and
nothing else. -/
def Obligations.TimestampsQueueInTransmitOrder : Prop :=
  (∀ (s : State) (seq type domain : Nat), s.vager.time.tsq.length < 64 → ∃ t, exec (.ptpEventTx seq type domain) s = .next t ∧
    t.vager.time.tsq = s.vager.time.tsq ++
      [{ seqId := seq % 2 ^ 16, msgType := type % 16, domain := domain % 256, time := s.extNow }] ∧
    t.rd .vager O.TSQ_FILL_2105 = s.vager.time.tsq.length + 1 ∧ t.dies = s.dies ∧
    t.out = s.out ++ .ptp (type % 16) (seq % 2 ^ 16) none none ::
      (if (type % 16 = 0 ∨ type % 16 = 3) ∧ s.ownStack = true then
        [.ptp (8 + type % 16 / 3 * 2) (seq % 2 ^ 16) none (some s.extNow)] else []) ∧
    t.rd .vager O.TSQ_OVERFLOW_2105 = s.rd .vager O.TSQ_OVERFLOW_2105) ∧
  (∀ (s : State) (w : Writer), mayReach w false .host = true → ∃ t, exec (.tsqPop w) s = .next t ∧
    t.vager.time.tsq = s.vager.time.tsq.tail ∧ t.rd .vager O.TSQ_FILL_2105 = s.vager.time.tsq.length - 1 ∧ t.dies = s.dies ∧
    t.out = s.out ++ [.answer stOk])

/-- Whatever the source, the time state and the queue, the edge completes; the last edge's time is the extended time at the edge
and the count is one more modulo 2^32. The servo, a change of time state and a rejected edge leave these two objects as they are.
The statement holds for every free value that the servo takes. -/
def Obligations.EveryPpsEdgeIsTimestamped : Prop :=
  ∀ s : State, ∃ t, exec .ppsInEdge s = .next t ∧ t.rd .vager O.PPS_IN_EDGE_2104 = s.extNow ∧
    t.rd .vager O.PPS_IN_COUNT_2104 = (s.rd .vager O.PPS_IN_COUNT_2104 + 1) % 2 ^ 32

/-- Where comparator n of a die is armed, the die is not in FAULT and the nanosecond counter less TARGET, modulo 2^32, is below
2^31, firing sets the fire time to the counter and bit 1 of STATUS; with PERIOD 0 it disarms, with another it adds PERIOD to
TARGET modulo 2^32 and stays armed. Where one of these does not hold, the state does not change. That the tick is the first such
one is the sender's matter. -/
def Obligations.ComparatorFiresAtItsTarget : Prop :=
  ∀ (s : State) (d : Die) (n : Fin 32),
    (s.rd (.staris d) (O.CMP_ARM_2010 n.val) = 1 ∧ s.tstate (.staris d) ≠ 5 ∧
        subMod 32 (s.ns (.staris d)) (s.rd (.staris d) (O.CMP_TARGET_2010 n.val)) < 2 ^ 31 →
      ∃ t, exec (.comparatorFire d n) s = .next t ∧ t.rd (.staris d) (O.CMP_FIRE_TIME_2010 n.val) = s.counter (.staris d) ∧
        bitAt (t.rd (.staris d) (O.CMP_STATUS_2010 n.val)) 1 = true ∧
        (s.rd (.staris d) (O.CMP_PERIOD_2010 n.val) = 0 → t.rd (.staris d) (O.CMP_ARM_2010 n.val) = 0 ∧
          t.rd (.staris d) (O.CMP_TARGET_2010 n.val) = s.rd (.staris d) (O.CMP_TARGET_2010 n.val)) ∧
        (s.rd (.staris d) (O.CMP_PERIOD_2010 n.val) ≠ 0 → t.rd (.staris d) (O.CMP_ARM_2010 n.val) = 1 ∧
          t.rd (.staris d) (O.CMP_TARGET_2010 n.val) =
            (s.rd (.staris d) (O.CMP_TARGET_2010 n.val) + s.rd (.staris d) (O.CMP_PERIOD_2010 n.val)) % 2 ^ 32)) ∧
    (¬(s.rd (.staris d) (O.CMP_ARM_2010 n.val) = 1 ∧ s.tstate (.staris d) ≠ 5 ∧
        subMod 32 (s.ns (.staris d)) (s.rd (.staris d) (O.CMP_TARGET_2010 n.val)) < 2 ^ 31) →
      exec (.comparatorFire d n) s = .next s)

/-- At or beyond MAX_SESSIONS a management handshake only adds one to the failed handshakes. Below it at most one session joins,
so the limit holds after every handshake of a session or an association, where it held before. A tree or Stay association leaves
the sessions as they are. A session that has stayed idle for SESSION_IDLE since its handshake or its last request is closed, and
exactly that one. -/
def Obligations.SessionsStayWithinTheirLimit : Prop :=
  (∀ (s : State) (h : Handshake), h.peer = none → s.rd .vager O.MAX_SESSIONS_7478 ≤ s.vager.sessions.length →
    exec (.dtlsHandshake h) s = .next (s.bump .vager O.HANDSHAKE_FAILS_7478 32)) ∧
  (∀ (s : State) (h : Handshake), s.vager.sessions.length ≤ s.rd .vager O.MAX_SESSIONS_7478 →
    ∃ t, exec (.dtlsHandshake h) s = .next t ∧ t.vager.sessions.length ≤ t.rd .vager O.MAX_SESSIONS_7478) ∧
  (∀ (s : State) (h : Handshake) (p : Nat), h.peer = some p →
    ∃ t, exec (.dtlsHandshake h) s = .next t ∧ t.vager.sessions = s.vager.sessions) ∧
  (∀ (s : State) (id : Nat), ∃ t, exec (.sessionIdleExpiry id) s = .next t ∧ t.vager.sessions = s.vager.sessions.filter fun x =>
    !(x.id == id && decide (x.usedAt + 10 ^ 9 * s.rd .vager O.SESSION_IDLE_7478 ≤ s.vager.ticks)))

/-- Where a port holds a sample, another that arrives for it leaves every held sample as it was and adds one to the port's
discarded count. Where it holds none, the sample is held, and no other port's sample changes. A release by a writer that may reach
it leaves the port without one and every other port's sample as it was. -/
def Obligations.HangSamplesAreHeldPerPort : Prop :=
  (∀ (s : State) (p : Die) (l : List (Nat × Bool)), s.rd .vager (O.HANG_SAMPLE_STATE_70C0 p.val) = 2 →
    ∃ t, exec (.hangSampleRx p l) s = .next t ∧ t.clf.hangs = s.clf.hangs ∧
      t.rd .vager (O.HANG_SAMPLE_STATE_70C0 p.val) = 2 ∧ t.rd .vager (O.HANG_SAMPLES_DISCARDED_70C0 p.val) =
        (s.rd .vager (O.HANG_SAMPLES_DISCARDED_70C0 p.val) + 1) % 2 ^ 32) ∧
  (∀ (s : State) (p q : Die) (l : List (Nat × Bool)), s.rd .vager (O.HANG_SAMPLE_STATE_70C0 p.val) ≠ 2 →
    ∃ t, exec (.hangSampleRx p l) s = .next t ∧ t.rd .vager (O.HANG_SAMPLE_STATE_70C0 p.val) = 2 ∧
      Tbl.get (fun _ => []) t.clf.hangs q.val = if q = p then l else Tbl.get (fun _ => []) s.clf.hangs q.val) ∧
  (∀ (s : State) (w : Writer) (p q : Die), mayReach w false .operator = true →
    ∃ t, exec (.hangSampleRelease w p) s = .next t ∧ t.rd .vager (O.HANG_SAMPLE_STATE_70C0 p.val) = 0 ∧
      t.out = s.out ++ [.answer stOk] ∧
      Tbl.get (fun _ => []) t.clf.hangs q.val = if q = p then [] else Tbl.get (fun _ => []) s.clf.hangs q.val)

/-- For every 256-bit granule: its codeword decodes as good with the same data, and the codeword of the poisoned granule as poison
with the same data. No bit of the granule is lost. -/
def Obligations.GranulesDecodeToWhatWasEncoded : Prop :=
  ∀ g : Nat, g < 2 ^ 256 → k288Decode (k288Encode g false) = .good g ∧ k288Decode (k288Encode g true) = .poison g

/-- For every granule, every one of the 36 symbols and every non-zero error value, the codeword of the poisoned granule with that
symbol error decodes as uncorrectable. -/
def Obligations.PoisonIsNeverDelivered : Prop :=
  ∀ g k e : Nat, g < 2 ^ 256 → k < 36 → 1 ≤ e → e < 256 →
    k288Decode (Nat.xor (k288Encode g true) (e * 2 ^ (8 * k))) = .uncorrectable

/-- For every granule, every one of the 36 symbols and every non-zero error value, the codeword with that symbol error decodes as
corrected with the granule's own data. (No single-symbol syndrome of this code coincides with one of R33's order 3, so the case
that R34 sends to uncorrectable does not arise.) -/
def Obligations.OneSymbolErrorIsCorrected : Prop :=
  ∀ g k e : Nat, g < 2 ^ 256 → k < 36 → 1 ≤ e → e < 256 →
    k288Decode (Nat.xor (k288Encode g false) (e * 2 ^ (8 * k))) = .corrected g
end

