-- ==== Sys2Proof/Laws/Exec.lean ====
section
/-! SUPPORT. Laws/Exec.lean: each command runs its own meaning, by definition. -/

namespace Sys2Proof.Machine
open Sys2Proof

@[simp] theorem exec_counterWrap (p : Part) (s : State) :
    exec (.counterWrap p) s = execCounterWrap p s := by cases s; rfl

@[simp] theorem exec_incrementWrite (d : Die) (w : Writer) (value : Nat) (s : State) :
    exec (.incrementWrite d w value) s = execIncrementWrite d w value s := by cases s; rfl

@[simp] theorem exec_modeWrite (d : Die) (w : Writer) (value : Nat) (s : State) :
    exec (.modeWrite d w value) s = execModeWrite d w value s := by cases s; rfl

@[simp] theorem exec_stepWrite (d : Die) (w : Writer) (value : Nat) (s : State) :
    exec (.stepWrite d w value) s = execStepWrite d w value s := by cases s; rfl

@[simp] theorem exec_twExchangePeriod (s : State) :
    exec (.twExchangePeriod) s = execTwExchangePeriod s := by cases s; rfl

@[simp] theorem exec_downWordRx (d : Die) (word : Nat) (poison : Bool) (s : State) :
    exec (.downWordRx d word poison) s = execDownWordRx d word poison s := by cases s; rfl

@[simp] theorem exec_upWordRx (p : Die) (word : Nat) (poison : Bool) (s : State) :
    exec (.upWordRx p word poison) s = execUpWordRx p word poison s := by cases s; rfl

@[simp] theorem exec_starisHoldoverTimeout (d : Die) (s : State) :
    exec (.starisHoldoverTimeout d) s = execStarisHoldoverTimeout d s := by cases s; rfl

@[simp] theorem exec_ptpMessageRx (m : PtpMessage) (s : State) :
    exec (.ptpMessageRx m) s = execPtpMessageRx m s := by cases s; rfl

@[simp] theorem exec_announceTimeout (s : State) :
    exec (.announceTimeout) s = execAnnounceTimeout s := by cases s; rfl

@[simp] theorem exec_syncTimeout (s : State) :
    exec (.syncTimeout) s = execSyncTimeout s := by cases s; rfl

@[simp] theorem exec_ptpEventTx (seqId : Nat) (msgType : Nat) (domain : Nat) (s : State) :
    exec (.ptpEventTx seqId msgType domain) s = execPtpEventTx seqId msgType domain s := by cases s; rfl

@[simp] theorem exec_tsqPop (w : Writer) (s : State) :
    exec (.tsqPop w) s = execTsqPop w s := by cases s; rfl

@[simp] theorem exec_tsqOverflowClear (w : Writer) (s : State) :
    exec (.tsqOverflowClear w) s = execTsqOverflowClear w s := by cases s; rfl

@[simp] theorem exec_sourceWrite (w : Writer) (value : Nat) (s : State) :
    exec (.sourceWrite w value) s = execSourceWrite w value s := by cases s; rfl

@[simp] theorem exec_secondsSetWrite (w : Writer) (seconds : Nat) (s : State) :
    exec (.secondsSetWrite w seconds) s = execSecondsSetWrite w seconds s := by cases s; rfl

@[simp] theorem exec_secondsSetStep (s : State) :
    exec (.secondsSetStep) s = execSecondsSetStep s := by cases s; rfl

@[simp] theorem exec_ppsInEdge (s : State) :
    exec (.ppsInEdge) s = execPpsInEdge s := by cases s; rfl

@[simp] theorem exec_ppsOutEdge (s : State) :
    exec (.ppsOutEdge) s = execPpsOutEdge s := by cases s; rfl

@[simp] theorem exec_pllLossOfLock (p : Part) (s : State) :
    exec (.pllLossOfLock p) s = execPllLossOfLock p s := by cases s; rfl

@[simp] theorem exec_pllRelock (p : Part) (s : State) :
    exec (.pllRelock p) s = execPllRelock p s := by cases s; rfl

@[simp] theorem exec_cmpArm (d : Die) (n : Fin 32) (w : Writer) (s : State) :
    exec (.cmpArm d n w) s = execCmpArm d n w s := by cases s; rfl

@[simp] theorem exec_cmpDisarm (d : Die) (n : Fin 32) (w : Writer) (s : State) :
    exec (.cmpDisarm d n w) s = execCmpDisarm d n w s := by cases s; rfl

@[simp] theorem exec_comparatorFire (d : Die) (n : Fin 32) (s : State) :
    exec (.comparatorFire d n) s = execComparatorFire d n s := by cases s; rfl

@[simp] theorem exec_eventEdge (d : Die) (input : Fin 4096) (high : Bool) (merged : Bool) (s : State) :
    exec (.eventEdge d input high merged) s = execEventEdge d input high merged s := by cases s; rfl

@[simp] theorem exec_polarityWrite (d : Die) (w : Writer) (polarity : List Nat) (s : State) :
    exec (.polarityWrite d w polarity) s = execPolarityWrite d w polarity s := by cases s; rfl

@[simp] theorem exec_staleScan (d : Die) (held : List Nat) (s : State) :
    exec (.staleScan d held) s = execStaleScan d held s := by cases s; rfl

@[simp] theorem exec_evtFlagsClear (d : Die) (w : Writer) (mask : List Nat) (s : State) :
    exec (.evtFlagsClear d w mask) s = execEvtFlagsClear d w mask s := by cases s; rfl

@[simp] theorem exec_descriptorStart (d : Die) (c : CdtWord) (s : State) :
    exec (.descriptorStart d c) s = execDescriptorStart d c s := by cases s; rfl

@[simp] theorem exec_descriptorDone (d : Die) (c : CdtWord) (s : State) :
    exec (.descriptorDone d c) s = execDescriptorDone d c s := by cases s; rfl

@[simp] theorem exec_descriptorAbandon (d : Die) (c : CdtWord) (s : State) :
    exec (.descriptorAbandon d c) s = execDescriptorAbandon d c s := by cases s; rfl

@[simp] theorem exec_cntConfigWrite (d : Die) (w : Writer) (n : Fin 65536) (value : Nat) (s : State) :
    exec (.cntConfigWrite d w n value) s = execCntConfigWrite d w n value s := by cases s; rfl

@[simp] theorem exec_cntClear (d : Die) (w : Writer) (n : Fin 65536) (s : State) :
    exec (.cntClear d w n) s = execCntClear d w n s := by cases s; rfl

@[simp] theorem exec_freeze (d : Die) (s : State) :
    exec (.freeze d) s = execFreeze d s := by cases s; rfl

@[simp] theorem exec_snapRelease (d : Die) (w : Writer) (s : State) :
    exec (.snapRelease d w) s = execSnapRelease d w s := by cases s; rfl

@[simp] theorem exec_converterResult (d : Die) (r : ConverterSample) (s : State) :
    exec (.converterResult d r) s = execConverterResult d r s := by cases s; rfl

@[simp] theorem exec_railConverterRephase (d : Die) (c : Fin 4) (s : State) :
    exec (.railConverterRephase d c) s = execRailConverterRephase d c s := by cases s; rfl

@[simp] theorem exec_converterSequenceStart (d : Die) (c : Fin 4) (s : State) :
    exec (.converterSequenceStart d c) s = execConverterSequenceStart d c s := by cases s; rfl

@[simp] theorem exec_sequencePeriodRestart (d : Die) (c : Fin 4) (s : State) :
    exec (.sequencePeriodRestart d c) s = execSequencePeriodRestart d c s := by cases s; rfl

@[simp] theorem exec_droopTrip (d : Die) (n : Fin 128) (s : State) :
    exec (.droopTrip d n) s = execDroopTrip d n s := by cases s; rfl

@[simp] theorem exec_canaryFail (d : Die) (n : Fin 256) (s : State) :
    exec (.canaryFail d n) s = execCanaryFail d n s := by cases s; rfl

@[simp] theorem exec_canaryCodeWrite (d : Die) (w : Writer) (codes : List Nat) (s : State) :
    exec (.canaryCodeWrite d w codes) s = execCanaryCodeWrite d w codes s := by cases s; rfl

@[simp] theorem exec_marginPassStart (d : Die) (k : MarginKind) (s : State) :
    exec (.marginPassStart d k) s = execMarginPassStart d k s := by cases s; rfl

@[simp] theorem exec_marginDwellEnd (d : Die) (r : Fin 16) (tripped : Bool) (s : State) :
    exec (.marginDwellEnd d r tripped) s = execMarginDwellEnd d r tripped s := by cases s; rfl

@[simp] theorem exec_marginTimingProbeDone (d : Die) (n : Fin 256) (passed : Bool) (s : State) :
    exec (.marginTimingProbeDone d n passed) s = execMarginTimingProbeDone d n passed s := by cases s; rfl

@[simp] theorem exec_streamStartArm (d : Die) (w : Writer) (value : Bool) (s : State) :
    exec (.streamStartArm d w value) s = execStreamStartArm d w value s := by cases s; rfl

@[simp] theorem exec_streamStartReached (d : Die) (s : State) :
    exec (.streamStartReached d) s = execStreamStartReached d s := by cases s; rfl

@[simp] theorem exec_streamPeriodicSample (d : Die) (n : Fin 65536) (s : State) :
    exec (.streamPeriodicSample d n) s = execStreamPeriodicSample d n s := by cases s; rfl

@[simp] theorem exec_streamEnableWrite (d : Die) (w : Writer) (n : Fin 65536) (value : Bool) (s : State) :
    exec (.streamEnableWrite d w n value) s = execStreamEnableWrite d w n value s := by cases s; rfl

@[simp] theorem exec_streamScheduleWrite (d : Die) (w : Writer) (n : Fin 65536) (period : Nat) (phase : Nat) (s : State) :
    exec (.streamScheduleWrite d w n period phase) s = execStreamScheduleWrite d w n period phase s := by cases s; rfl

@[simp] theorem exec_streamSourceWrite (d : Die) (w : Writer) (n : Fin 65536) (value : Nat) (s : State) :
    exec (.streamSourceWrite d w n value) s = execStreamSourceWrite d w n value s := by cases s; rfl

@[simp] theorem exec_dumpArm (d : Die) (w : Writer) (n : Fin 16) (value : Bool) (s : State) :
    exec (.dumpArm d w n value) s = execDumpArm d w n value s := by cases s; rfl

@[simp] theorem exec_dumpTrigger (d : Die) (n : Fin 16) (s : State) :
    exec (.dumpTrigger d n) s = execDumpTrigger d n s := by cases s; rfl

@[simp] theorem exec_dumpCopyEnd (d : Die) (n : Fin 16) (data : List (Nat × Bool)) (refused : Option Nat) (s : State) :
    exec (.dumpCopyEnd d n data refused) s = execDumpCopyEnd d n data refused s := by cases s; rfl

@[simp] theorem exec_dumpHoldExpiry (d : Die) (n : Fin 16) (s : State) :
    exec (.dumpHoldExpiry d n) s = execDumpHoldExpiry d n s := by cases s; rfl

@[simp] theorem exec_cleatProgramWrite (d : Die) (w : Writer) (q : Fin 8) (program : List Nat) (s : State) :
    exec (.cleatProgramWrite d w q program) s = execCleatProgramWrite d w q program s := by cases s; rfl

@[simp] theorem exec_cleatStart (d : Die) (w : Writer) (q : Fin 8) (s : State) :
    exec (.cleatStart d w q) s = execCleatStart d w q s := by cases s; rfl

@[simp] theorem exec_cleatStop (d : Die) (w : Writer) (q : Fin 8) (s : State) :
    exec (.cleatStop d w q) s = execCleatStop d w q s := by cases s; rfl

@[simp] theorem exec_halt (d : Die) (q : Fin 8) (s : State) :
    exec (.halt d q) s = execHalt d q s := by cases s; rfl

@[simp] theorem exec_nop (d : Die) (q : Fin 8) (s : State) :
    exec (.nop d q) s = execNop d q s := by cases s; rfl

@[simp] theorem exec_reservedOpcode (d : Die) (q : Fin 8) (s : State) :
    exec (.reservedOpcode d q) s = execReservedOpcode d q s := by cases s; rfl

@[simp] theorem exec_ldi (d : Die) (q : Fin 8) (s : State) :
    exec (.ldi d q) s = execLdi d q s := by cases s; rfl

@[simp] theorem exec_addi (d : Die) (q : Fin 8) (s : State) :
    exec (.addi d q) s = execAddi d q s := by cases s; rfl

@[simp] theorem exec_mov (d : Die) (q : Fin 8) (s : State) :
    exec (.mov d q) s = execMov d q s := by cases s; rfl

@[simp] theorem exec_rdtime (d : Die) (q : Fin 8) (s : State) :
    exec (.rdtime d q) s = execRdtime d q s := by cases s; rfl

@[simp] theorem exec_rdcnt (d : Die) (q : Fin 8) (s : State) :
    exec (.rdcnt d q) s = execRdcnt d q s := by cases s; rfl

@[simp] theorem exec_wtime (d : Die) (q : Fin 8) (s : State) :
    exec (.wtime d q) s = execWtime d q s := by cases s; rfl

@[simp] theorem exec_wedge (d : Die) (q : Fin 8) (s : State) :
    exec (.wedge d q) s = execWedge d q s := by cases s; rfl

@[simp] theorem exec_wcnt (d : Die) (q : Fin 8) (s : State) :
    exec (.wcnt d q) s = execWcnt d q s := by cases s; rfl

@[simp] theorem exec_wsig (d : Die) (q : Fin 8) (s : State) :
    exec (.wsig d q) s = execWsig d q s := by cases s; rfl

@[simp] theorem exec_waitConditionMet (d : Die) (q : Fin 8) (s : State) :
    exec (.waitConditionMet d q) s = execWaitConditionMet d q s := by cases s; rfl

@[simp] theorem exec_waitTimeout (d : Die) (q : Fin 8) (s : State) :
    exec (.waitTimeout d q) s = execWaitTimeout d q s := by cases s; rfl

@[simp] theorem exec_jmp (d : Die) (q : Fin 8) (s : State) :
    exec (.jmp d q) s = execJmp d q s := by cases s; rfl

@[simp] theorem exec_jnz (d : Die) (q : Fin 8) (s : State) :
    exec (.jnz d q) s = execJnz d q s := by cases s; rfl

@[simp] theorem exec_djnz (d : Die) (q : Fin 8) (s : State) :
    exec (.djnz d q) s = execDjnz d q s := by cases s; rfl

@[simp] theorem exec_jto (d : Die) (q : Fin 8) (s : State) :
    exec (.jto d q) s = execJto d q s := by cases s; rfl

@[simp] theorem exec_jlt (d : Die) (q : Fin 8) (s : State) :
    exec (.jlt d q) s = execJlt d q s := by cases s; rfl

@[simp] theorem exec_act (d : Die) (q : Fin 8) (s : State) :
    exec (.act d q) s = execAct d q s := by cases s; rfl

@[simp] theorem exec_setcmp (d : Die) (q : Fin 8) (s : State) :
    exec (.setcmp d q) s = execSetcmp d q s := by cases s; rfl

@[simp] theorem exec_sample (d : Die) (q : Fin 8) (s : State) :
    exec (.sample d q) s = execSample d q s := by cases s; rfl

@[simp] theorem exec_emit (d : Die) (q : Fin 8) (s : State) :
    exec (.emit d q) s = execEmit d q s := by cases s; rfl

@[simp] theorem exec_signal (d : Die) (q : Fin 8) (s : State) :
    exec (.signal d q) s = execSignal d q s := by cases s; rfl

@[simp] theorem exec_event (d : Die) (q : Fin 8) (s : State) :
    exec (.event d q) s = execEvent d q s := by cases s; rfl

@[simp] theorem exec_cleatSignalAction (d : Die) (q : Fin 8) (s : State) :
    exec (.cleatSignalAction d q) s = execCleatSignalAction d q s := by cases s; rfl

@[simp] theorem exec_traceWord (d : Die) (src : Fin 256) (cycles : Nat) (t : TrcWord) (s : State) :
    exec (.traceWord d src cycles t) s = execTraceWord d src cycles t s := by cases s; rfl

@[simp] theorem exec_cycleIdleLimit (d : Die) (src : Fin 256) (s : State) :
    exec (.cycleIdleLimit d src) s = execCycleIdleLimit d src s := by cases s; rfl

@[simp] theorem exec_tstampInterval (d : Die) (s : State) :
    exec (.tstampInterval d) s = execTstampInterval d s := by cases s; rfl

@[simp] theorem exec_sourceLpEntry (d : Die) (src : Fin 256) (cycles : Nat) (s : State) :
    exec (.sourceLpEntry d src cycles) s = execSourceLpEntry d src cycles s := by cases s; rfl

@[simp] theorem exec_sourceLpExit (d : Die) (src : Fin 256) (s : State) :
    exec (.sourceLpExit d src) s = execSourceLpExit d src s := by cases s; rfl

@[simp] theorem exec_sourceReset (d : Die) (src : Fin 256) (s : State) :
    exec (.sourceReset d src) s = execSourceReset d src s := by cases s; rfl

@[simp] theorem exec_sourceResetExit (d : Die) (src : Fin 256) (s : State) :
    exec (.sourceResetExit d src) s = execSourceResetExit d src s := by cases s; rfl

@[simp] theorem exec_traceConfigStart (d : Die) (w : Option Writer) (c : Fin 4) (s : State) :
    exec (.traceConfigStart d w c) s = execTraceConfigStart d w c s := by cases s; rfl

@[simp] theorem exec_traceConfigStop (d : Die) (w : Option Writer) (c : Fin 4) (s : State) :
    exec (.traceConfigStop d w c) s = execTraceConfigStop d w c s := by cases s; rfl

@[simp] theorem exec_pennantModeWrite (d : Die) (w : Writer) (value : Nat) (s : State) :
    exec (.pennantModeWrite d w value) s = execPennantModeWrite d w value s := by cases s; rfl

@[simp] theorem exec_sinkSelectWrite (d : Die) (w : Writer) (value : Nat) (s : State) :
    exec (.sinkSelectWrite d w value) s = execSinkSelectWrite d w value s := by cases s; rfl

@[simp] theorem exec_sinkReset (d : Die) (w : Writer) (s : State) :
    exec (.sinkReset d w) s = execSinkReset d w s := by cases s; rfl

@[simp] theorem exec_sinkGranuleWrite (d : Die) (s : State) :
    exec (.sinkGranuleWrite d) s = execSinkGranuleWrite d s := by cases s; rfl

@[simp] theorem exec_trigArm (d : Die) (w : Writer) (value : Bool) (s : State) :
    exec (.trigArm d w value) s = execTrigArm d w value s := by cases s; rfl

@[simp] theorem exec_trigForce (d : Die) (w : Writer) (s : State) :
    exec (.trigForce d w) s = execTrigForce d w s := by cases s; rfl

@[simp] theorem exec_traceGranuleRx (p : Die) (g : Nat) (poison : Bool) (s : State) :
    exec (.traceGranuleRx p g poison) s = execTraceGranuleRx p g poison s := by cases s; rfl

@[simp] theorem exec_traceFreezeNoticeRx (p : Die) (s : State) :
    exec (.traceFreezeNoticeRx p) s = execTraceFreezeNoticeRx p s := by cases s; rfl

@[simp] theorem exec_traceCtlRx (d : Die) (s : State) :
    exec (.traceCtlRx d) s = execTraceCtlRx d s := by cases s; rfl

@[simp] theorem exec_sliceConfigWrite (p : Die) (w : Writer) (offset : Nat) (bytes : Nat) (s : State) :
    exec (.sliceConfigWrite p w offset bytes) s = execSliceConfigWrite p w offset bytes s := by cases s; rfl

@[simp] theorem exec_sliceReset (p : Die) (w : Writer) (s : State) :
    exec (.sliceReset p w) s = execSliceReset p w s := by cases s; rfl

@[simp] theorem exec_signalDetect (v : Bool) (p : Die) (s : State) :
    exec (.signalDetect v p) s = execSignalDetect v p s := by cases s; rfl

@[simp] theorem exec_laneTrainingDone (v : Bool) (p : Die) (good : Nat) (s : State) :
    exec (.laneTrainingDone v p good) s = execLaneTrainingDone v p good s := by cases s; rfl

@[simp] theorem exec_trainingAttemptFail (v : Bool) (p : Die) (s : State) :
    exec (.trainingAttemptFail v p) s = execTrainingAttemptFail v p s := by cases s; rfl

@[simp] theorem exec_fecLockLoss (v : Bool) (p : Die) (s : State) :
    exec (.fecLockLoss v p) s = execFecLockLoss v p s := by cases s; rfl

@[simp] theorem exec_linkCtlInitRx (v : Bool) (p : Die) (item : Nat) (s : State) :
    exec (.linkCtlInitRx v p item) s = execLinkCtlInitRx v p item s := by cases s; rfl

@[simp] theorem exec_linkCtlInitAckRx (v : Bool) (p : Die) (item : Nat) (s : State) :
    exec (.linkCtlInitAckRx v p item) s = execLinkCtlInitAckRx v p item s := by cases s; rfl

@[simp] theorem exec_pairHelloRx (p : Die) (item : Nat) (digest : List Nat) (s : State) :
    exec (.pairHelloRx p item digest) s = execPairHelloRx p item digest s := by cases s; rfl

@[simp] theorem exec_laneSwapRx (p : Die) (item : Nat) (s : State) :
    exec (.laneSwapRx p item) s = execLaneSwapRx p item s := by cases s; rfl

@[simp] theorem exec_laneDropRx (p : Die) (item : Nat) (s : State) :
    exec (.laneDropRx p item) s = execLaneDropRx p item s := by cases s; rfl

@[simp] theorem exec_laneAckRx (p : Die) (item : Nat) (s : State) :
    exec (.laneAckRx p item) s = execLaneAckRx p item s := by cases s; rfl

@[simp] theorem exec_laneReportRx (p : Die) (item : Nat) (s : State) :
    exec (.laneReportRx p item) s = execLaneReportRx p item s := by cases s; rfl

@[simp] theorem exec_retrainReqRx (v : Bool) (p : Die) (s : State) :
    exec (.retrainReqRx v p) s = execRetrainReqRx v p s := by cases s; rfl

@[simp] theorem exec_laneCancelRx (p : Die) (item : Nat) (s : State) :
    exec (.laneCancelRx p item) s = execLaneCancelRx p item s := by cases s; rfl

@[simp] theorem exec_linkCtlAbandon (v : Bool) (p : Die) (s : State) :
    exec (.linkCtlAbandon v p) s = execLinkCtlAbandon v p s := by cases s; rfl

@[simp] theorem exec_laneCancelTimeout (p : Die) (s : State) :
    exec (.laneCancelTimeout p) s = execLaneCancelTimeout p s := by cases s; rfl

@[simp] theorem exec_laneAckDeadline (p : Die) (s : State) :
    exec (.laneAckDeadline p) s = execLaneAckDeadline p s := by cases s; rfl

@[simp] theorem exec_laneSwitch (v : Bool) (p : Die) (s : State) :
    exec (.laneSwitch v p) s = execLaneSwitch v p s := by cases s; rfl

@[simp] theorem exec_laneDropSwitch (v : Bool) (p : Die) (s : State) :
    exec (.laneDropSwitch v p) s = execLaneDropSwitch v p s := by cases s; rfl

@[simp] theorem exec_deskewHoldEnd (v : Bool) (p : Die) (s : State) :
    exec (.deskewHoldEnd v p) s = execDeskewHoldEnd v p s := by cases s; rfl

@[simp] theorem exec_laneWindowEnd (v : Bool) (p : Die) (s : State) :
    exec (.laneWindowEnd v p) s = execLaneWindowEnd v p s := by cases s; rfl

@[simp] theorem exec_flitTransmit (v : Bool) (p : Die) (s : State) :
    exec (.flitTransmit v p) s = execFlitTransmit v p s := by cases s; rfl

@[simp] theorem exec_flitRx (v : Bool) (p : Die) (f : FlitIn) (s : State) :
    exec (.flitRx v p f) s = execFlitRx v p f s := by cases s; rfl

@[simp] theorem exec_replayTimeout (v : Bool) (p : Die) (s : State) :
    exec (.replayTimeout v p) s = execReplayTimeout v p s := by cases s; rfl

@[simp] theorem exec_retrainTimeout (v : Bool) (p : Die) (s : State) :
    exec (.retrainTimeout v p) s = execRetrainTimeout v p s := by cases s; rfl

@[simp] theorem exec_laneSignalLoss (v : Bool) (p : Die) (detect : Nat) (s : State) :
    exec (.laneSignalLoss v p detect) s = execLaneSignalLoss v p detect s := by cases s; rfl

@[simp] theorem exec_failedSilenceTimeout (d : Die) (s : State) :
    exec (.failedSilenceTimeout d) s = execFailedSilenceTimeout d s := by cases s; rfl

@[simp] theorem exec_portEnableWrite (p : Die) (w : Writer) (value : Bool) (s : State) :
    exec (.portEnableWrite p w value) s = execPortEnableWrite p w value s := by cases s; rfl

@[simp] theorem exec_laneClear (p : Die) (w : Writer) (s : State) :
    exec (.laneClear p w) s = execLaneClear p w s := by cases s; rfl

@[simp] theorem exec_pairAccept (p : Die) (w : Writer) (s : State) :
    exec (.pairAccept p w) s = execPairAccept p w s := by cases s; rfl

@[simp] theorem exec_controlMergeRelease (s : State) :
    exec (.controlMergeRelease) s = execControlMergeRelease s := by cases s; rfl

@[simp] theorem exec_mergeStallExpiry (p : Die) (s : State) :
    exec (.mergeStallExpiry p) s = execMergeStallExpiry p s := by cases s; rfl

@[simp] theorem exec_streamRecordIntake (p : Die) (data : Nat) (poison : Bool) (errors : List (Nat × HbmError)) (s : State) :
    exec (.streamRecordIntake p data poison errors) s = execStreamRecordIntake p data poison errors s := by cases s; rfl

@[simp] theorem exec_trayPartialClose (x : Fin 64) (g : Fin 16) (round : Nat) (s : State) :
    exec (.trayPartialClose x g round) s = execTrayPartialClose x g round s := by cases s; rfl

@[simp] theorem exec_mergedRoundClose (x : Fin 64) (g : Fin 16) (round : Nat) (s : State) :
    exec (.mergedRoundClose x g round) s = execMergedRoundClose x g round s := by cases s; rfl

@[simp] theorem exec_partialRx (m : TreeMsg) (s : State) :
    exec (.partialRx m) s = execPartialRx m s := by cases s; rfl

@[simp] theorem exec_partAckRx (m : TreeMsg) (s : State) :
    exec (.partAckRx m) s = execPartAckRx m s := by cases s; rfl

@[simp] theorem exec_bcastRx (m : TreeMsg) (s : State) :
    exec (.bcastRx m) s = execBcastRx m s := by cases s; rfl

@[simp] theorem exec_backRx (m : TreeMsg) (s : State) :
    exec (.backRx m) s = execBackRx m s := by cases s; rfl

@[simp] theorem exec_heartbeatRx (m : TreeMsg) (s : State) :
    exec (.heartbeatRx m) s = execHeartbeatRx m s := by cases s; rfl

@[simp] theorem exec_adoptRx (m : TreeMsg) (s : State) :
    exec (.adoptRx m) s = execAdoptRx m s := by cases s; rfl

@[simp] theorem exec_adoptAckRx (m : TreeMsg) (s : State) :
    exec (.adoptAckRx m) s = execAdoptAckRx m s := by cases s; rfl

@[simp] theorem exec_adoptNakRx (m : TreeMsg) (s : State) :
    exec (.adoptNakRx m) s = execAdoptNakRx m s := by cases s; rfl

@[simp] theorem exec_treeHeartbeatPeriod (s : State) :
    exec (.treeHeartbeatPeriod) s = execTreeHeartbeatPeriod s := by cases s; rfl

@[simp] theorem exec_neighbourDead (tray : Nat) (s : State) :
    exec (.neighbourDead tray) s = execNeighbourDead tray s := by cases s; rfl

@[simp] theorem exec_treeAdoptWaitExpiry (slot : Option (Fin 96)) (s : State) :
    exec (.treeAdoptWaitExpiry slot) s = execTreeAdoptWaitExpiry slot s := by cases s; rfl

@[simp] theorem exec_treeCommit (w : Writer) (s : State) :
    exec (.treeCommit w) s = execTreeCommit w s := by cases s; rfl

@[simp] theorem exec_bcastSubmit (w : Writer) (header : Nat) (body : List Nat) (s : State) :
    exec (.bcastSubmit w header body) s = execBcastSubmit w header body s := by cases s; rfl

@[simp] theorem exec_contextOpenTime (x : Fin 64) (s : State) :
    exec (.contextOpenTime x) s = execContextOpenTime x s := by cases s; rfl

@[simp] theorem exec_contextCloseTime (x : Fin 64) (s : State) :
    exec (.contextCloseTime x) s = execContextCloseTime x s := by cases s; rfl

@[simp] theorem exec_drainLimitExpiry (x : Fin 64) (s : State) :
    exec (.drainLimitExpiry x) s = execDrainLimitExpiry x s := by cases s; rfl

@[simp] theorem exec_ctxFree (w : Writer) (x : Fin 64) (s : State) :
    exec (.ctxFree w x) s = execCtxFree w x s := by cases s; rfl

@[simp] theorem exec_streamClear (w : Writer) (s : State) :
    exec (.streamClear w) s = execStreamClear w s := by cases s; rfl

@[simp] theorem exec_planBytesWrite (w : Writer) (j : Fin 4) (bytes : Nat) (s : State) :
    exec (.planBytesWrite w j bytes) s = execPlanBytesWrite w j bytes s := by cases s; rfl

@[simp] theorem exec_planDigestDone (s : State) :
    exec (.planDigestDone) s = execPlanDigestDone s := by cases s; rfl

@[simp] theorem exec_builderSweep (n : Nat) (error : Option HbmError) (s : State) :
    exec (.builderSweep n error) s = execBuilderSweep n error s := by cases s; rfl

@[simp] theorem exec_bldConfigWrite (w : Writer) (config : List Nat) (s : State) :
    exec (.bldConfigWrite w config) s = execBldConfigWrite w config s := by cases s; rfl

@[simp] theorem exec_bldReset (w : Writer) (s : State) :
    exec (.bldReset w) s = execBldReset w s := by cases s; rfl

@[simp] theorem exec_entDescWrite (w : Writer) (value : Nat) (s : State) :
    exec (.entDescWrite w value) s = execEntDescWrite w value s := by cases s; rfl

@[simp] theorem exec_entClear (w : Writer) (s : State) :
    exec (.entClear w) s = execEntClear w s := by cases s; rfl

@[simp] theorem exec_refValueWrite (w : Writer) (value : Int) (s : State) :
    exec (.refValueWrite w value) s = execRefValueWrite w value s := by cases s; rfl

@[simp] theorem exec_skWindowWrite (w : Writer) (value : Nat) (s : State) :
    exec (.skWindowWrite w value) s = execSkWindowWrite w value s := by cases s; rfl

@[simp] theorem exec_passStart (m : Fin 64) (s : State) :
    exec (.passStart m) s = execPassStart m s := by cases s; rfl

@[simp] theorem exec_workItemDone (m : Fin 64) (row : Nat) (lane : Fin 17) (cacheHit : Bool) (bank : Option (Fin 64 × Bool)) (errors : List (Nat × HbmError)) (node : Option (Nat × Bool)) (s : State) :
    exec (.workItemDone m row lane cacheHit bank errors node) s = execWorkItemDone m row lane cacheHit bank errors node s := by cases s; rfl

@[simp] theorem exec_laneProbeDone (g : Fin 4) (lane : Fin 17) (ok : Bool) (s : State) :
    exec (.laneProbeDone g lane ok) s = execLaneProbeDone g lane ok s := by cases s; rfl

@[simp] theorem exec_probeIntervalExpiry (g : Fin 4) (lane : Fin 17) (s : State) :
    exec (.probeIntervalExpiry g lane) s = execProbeIntervalExpiry g lane s := by cases s; rfl

@[simp] theorem exec_passRelease (m : Fin 64) (s : State) :
    exec (.passRelease m) s = execPassRelease m s := by cases s; rfl

@[simp] theorem exec_modelLoad (w : Writer) (m : Fin 64) (s : State) :
    exec (.modelLoad w m) s = execModelLoad w m s := by cases s; rfl

@[simp] theorem exec_modelLoadDone (m : Fin 64) (s : State) :
    exec (.modelLoadDone m) s = execModelLoadDone m s := by cases s; rfl

@[simp] theorem exec_modelUnload (w : Writer) (m : Fin 64) (s : State) :
    exec (.modelUnload w m) s = execModelUnload w m s := by cases s; rfl

@[simp] theorem exec_blockSpareFillDone (g : Fin 4) (block : Nat) (s : State) :
    exec (.blockSpareFillDone g block) s = execBlockSpareFillDone g block s := by cases s; rfl

@[simp] theorem exec_egressBlock (d : Die) (header : Nat) (data : List Nat) (poison : Bool) (late : Bool) (s : State) :
    exec (.egressBlock d header data poison late) s = execEgressBlock d header data poison late s := by cases s; rfl

@[simp] theorem exec_sidebandBlock (d : Die) (header : Nat) (attached : Nat) (data : List Nat) (poison : Bool) (late : Bool) (s : State) :
    exec (.sidebandBlock d header attached data poison late) s = execSidebandBlock d header attached data poison late s := by cases s; rfl

@[simp] theorem exec_poisonConsumeReport (d : Die) (slot : Nat) (tag : Nat) (step : Nat) (s : State) :
    exec (.poisonConsumeReport d slot tag step) s = execPoisonConsumeReport d slot tag step s := by cases s; rfl

@[simp] theorem exec_combineTimeout (d : Die) (comb : Nat) (s : State) :
    exec (.combineTimeout d comb) s = execCombineTimeout d comb s := by cases s; rfl

@[simp] theorem exec_coalesceWindowEnd (d : Die) (code : Nat) (s : State) :
    exec (.coalesceWindowEnd d code) s = execCoalesceWindowEnd d code s := by cases s; rfl

@[simp] theorem exec_keyEpochWrite (d : Die) (w : Writer) (k : Fin 4) (value : Nat) (s : State) :
    exec (.keyEpochWrite d w k value) s = execKeyEpochWrite d w k value s := by cases s; rfl

@[simp] theorem exec_keyValueWrite (d : Die) (w : Writer) (k : Fin 4) (value : List Nat) (s : State) :
    exec (.keyValueWrite d w k value) s = execKeyValueWrite d w k value s := by cases s; rfl

@[simp] theorem exec_keyClear (d : Die) (w : Writer) (k : Fin 4) (s : State) :
    exec (.keyClear d w k) s = execKeyClear d w k s := by cases s; rfl

@[simp] theorem exec_sampleNotice (d : Die) (sid : Nat) (offset : Nat) (bytes : Nat) (entry : List (Nat × Bool)) (s : State) :
    exec (.sampleNotice d sid offset bytes entry) s = execSampleNotice d sid offset bytes entry s := by cases s; rfl

@[simp] theorem exec_sampleSkip (d : Die) (sid : Nat) (code : Nat) (s : State) :
    exec (.sampleSkip d sid code) s = execSampleSkip d sid code s := by cases s; rfl

@[simp] theorem exec_recomputeAnswer (d : Die) (sid : Nat) (declined : Bool) (result : List (Nat × Bool)) (s : State) :
    exec (.recomputeAnswer d sid declined result) s = execRecomputeAnswer d sid declined result s := by cases s; rfl

@[simp] theorem exec_poisonRequestAnswer (d : Die) (resident : Bool) (s : State) :
    exec (.poisonRequestAnswer d resident) s = execPoisonRequestAnswer d resident s := by cases s; rfl

@[simp] theorem exec_verdictCommand (d : Die) (granule : Nat) (s : State) :
    exec (.verdictCommand d granule) s = execVerdictCommand d granule s := by cases s; rfl

@[simp] theorem exec_recomputeCommand (d : Die) (granule : Nat) (s : State) :
    exec (.recomputeCommand d granule) s = execRecomputeCommand d granule s := by cases s; rfl

@[simp] theorem exec_poisonReqCommand (d : Die) (granule : Nat) (s : State) :
    exec (.poisonReqCommand d granule) s = execPoisonReqCommand d granule s := by cases s; rfl

@[simp] theorem exec_shroudSampleRx (p : Die) (msg : List (Nat × Bool)) (s : State) :
    exec (.shroudSampleRx p msg) s = execShroudSampleRx p msg s := by cases s; rfl

@[simp] theorem exec_shroudRecomputeRx (p : Die) (msg : List (Nat × Bool)) (s : State) :
    exec (.shroudRecomputeRx p msg) s = execShroudRecomputeRx p msg s := by cases s; rfl

@[simp] theorem exec_shroudNoticeRx (p : Die) (granule : Nat) (s : State) :
    exec (.shroudNoticeRx p granule) s = execShroudNoticeRx p granule s := by cases s; rfl

@[simp] theorem exec_clusterRunDone (c : Fin 18) (wrong : Option (List Nat)) (s : State) :
    exec (.clusterRunDone c wrong) s = execClusterRunDone c wrong s := by cases s; rfl

@[simp] theorem exec_arbitrationReverifyDone (p : Die) (sid : Nat) (s : State) :
    exec (.arbitrationReverifyDone p sid) s = execArbitrationReverifyDone p sid s := by cases s; rfl

@[simp] theorem exec_recomputeTimeout (p : Die) (sid : Nat) (s : State) :
    exec (.recomputeTimeout p sid) s = execRecomputeTimeout p sid s := by cases s; rfl

@[simp] theorem exec_katDue (c : Fin 18) (s : State) :
    exec (.katDue c) s = execKatDue c s := by cases s; rfl

@[simp] theorem exec_katDone (c : Fin 18) (pass : Bool) (s : State) :
    exec (.katDone c pass) s = execKatDone c pass s := by cases s; rfl

@[simp] theorem exec_verdictRelease (p : Die) (sid : Nat) (s : State) :
    exec (.verdictRelease p sid) s = execVerdictRelease p sid s := by cases s; rfl

@[simp] theorem exec_profDataWrite (w : Writer) (j : Fin 16) (data : List Nat) (s : State) :
    exec (.profDataWrite w j data) s = execProfDataWrite w j data s := by cases s; rfl

@[simp] theorem exec_profClear (w : Writer) (j : Fin 16) (s : State) :
    exec (.profClear w j) s = execProfClear w j s := by cases s; rfl

@[simp] theorem exec_heldPinWrite (w : Writer) (value : Bool) (s : State) :
    exec (.heldPinWrite w value) s = execHeldPinWrite w value s := by cases s; rfl

@[simp] theorem exec_replayGo (w : Writer) (s : State) :
    exec (.replayGo w) s = execReplayGo w s := by cases s; rfl

@[simp] theorem exec_replayDone (wrong : Option (List Nat)) (s : State) :
    exec (.replayDone wrong) s = execReplayDone wrong s := by cases s; rfl

@[simp] theorem exec_cutArmWrite (w : Writer) (arm : Nat) (s : State) :
    exec (.cutArmWrite w arm) s = execCutArmWrite w arm s := by cases s; rfl

@[simp] theorem exec_cutArmCommand (d : Die) (head : Nat) (s : State) :
    exec (.cutArmCommand d head) s = execCutArmCommand d head s := by cases s; rfl

@[simp] theorem exec_cutCancelCommand (d : Die) (s : State) :
    exec (.cutCancelCommand d) s = execCutCancelCommand d s := by cases s; rfl

@[simp] theorem exec_cutReady (d : Die) (step : Nat) (s : State) :
    exec (.cutReady d step) s = execCutReady d step s := by cases s; rfl

@[simp] theorem exec_readyTimeout (d : Die) (s : State) :
    exec (.readyTimeout d) s = execReadyTimeout d s := by cases s; rfl

@[simp] theorem exec_absorptionComplete (d : Die) (data : List (List (Nat × Bool))) (s : State) :
    exec (.absorptionComplete d data) s = execAbsorptionComplete d data s := by cases s; rfl

@[simp] theorem exec_stayChunkRx (p : Die) (header : Nat) (spoilt : Bool) (data : List (Nat × Bool)) (s : State) :
    exec (.stayChunkRx p header spoilt data) s = execStayChunkRx p header spoilt data s := by cases s; rfl

@[simp] theorem exec_chunkDigestDone (slot : Nat) (errors : List (Nat × HbmError)) (s : State) :
    exec (.chunkDigestDone slot errors) s = execChunkDigestDone slot errors s := by cases s; rfl

@[simp] theorem exec_stayEndRx (p : Die) (granule : Nat) (s : State) :
    exec (.stayEndRx p granule) s = execStayEndRx p granule s := by cases s; rfl

@[simp] theorem exec_digestsRx (header : Nat) (body : List Nat) (s : State) :
    exec (.digestsRx header body) s = execDigestsRx header body s := by cases s; rfl

@[simp] theorem exec_exchangeWaitExpiry (s : State) :
    exec (.exchangeWaitExpiry) s = execExchangeWaitExpiry s := by cases s; rfl

@[simp] theorem exec_nvmeCapsuleRespRx (t : Fin 8) (cid : Nat) (ok : Bool) (s : State) :
    exec (.nvmeCapsuleRespRx t cid ok) s = execNvmeCapsuleRespRx t cid ok s := by cases s; rfl

@[simp] theorem exec_nvmeR2tRx (t : Fin 8) (cid : Nat) (ttag : Nat) (offset : Nat) (length : Nat) (errors : List (Nat × HbmError)) (s : State) :
    exec (.nvmeR2tRx t cid ttag offset length errors) s = execNvmeR2tRx t cid ttag offset length errors s := by cases s; rfl

@[simp] theorem exec_nvmeIcrespRx (t : Fin 8) (q : Fin 9) (hdgst : Bool) (ddgst : Bool) (most : Nat) (s : State) :
    exec (.nvmeIcrespRx t q hdgst ddgst most) s = execNvmeIcrespRx t q hdgst ddgst most s := by cases s; rfl

@[simp] theorem exec_nvmeC2hDataRx (t : Fin 8) (id : NvmeIdentify) (s : State) :
    exec (.nvmeC2hDataRx t id) s = execNvmeC2hDataRx t id s := by cases s; rfl

@[simp] theorem exec_nvmeTermReqRx (t : Fin 8) (s : State) :
    exec (.nvmeTermReqRx t) s = execNvmeTermReqRx t s := by cases s; rfl

@[simp] theorem exec_nvmeWriteRetry (t : Fin 8) (cid : Nat) (s : State) :
    exec (.nvmeWriteRetry t cid) s = execNvmeWriteRetry t cid s := by cases s; rfl

@[simp] theorem exec_hostAckWrite (w : Writer) (value : Nat) (s : State) :
    exec (.hostAckWrite w value) s = execHostAckWrite w value s := by cases s; rfl

@[simp] theorem exec_prepResendPeriod (s : State) :
    exec (.prepResendPeriod) s = execPrepResendPeriod s := by cases s; rfl

@[simp] theorem exec_handoffRx (header : Nat) (body : List Nat) (s : State) :
    exec (.handoffRx header body) s = execHandoffRx header body s := by cases s; rfl

@[simp] theorem exec_handoffAckRx (header : Nat) (s : State) :
    exec (.handoffAckRx header) s = execHandoffAckRx header s := by cases s; rfl

@[simp] theorem exec_handoffNakRx (header : Nat) (s : State) :
    exec (.handoffNakRx header) s = execHandoffNakRx header s := by cases s; rfl

@[simp] theorem exec_preparedRx (header : Nat) (digest : Nat) (s : State) :
    exec (.preparedRx header digest) s = execPreparedRx header digest s := by cases s; rfl

@[simp] theorem exec_unusableRx (header : Nat) (s : State) :
    exec (.unusableRx header) s = execUnusableRx header s := by cases s; rfl

@[simp] theorem exec_commitRx (header : Nat) (digest : Nat) (s : State) :
    exec (.commitRx header digest) s = execCommitRx header digest s := by cases s; rfl

@[simp] theorem exec_commitAckRx (header : Nat) (s : State) :
    exec (.commitAckRx header) s = execCommitAckRx header s := by cases s; rfl

@[simp] theorem exec_abortRx (header : Nat) (s : State) :
    exec (.abortRx header) s = execAbortRx header s := by cases s; rfl

@[simp] theorem exec_commitWaitExpiry (s : State) :
    exec (.commitWaitExpiry) s = execCommitWaitExpiry s := by cases s; rfl

@[simp] theorem exec_coordTrayWrite (w : Writer) (value : Nat) (s : State) :
    exec (.coordTrayWrite w value) s = execCoordTrayWrite w value s := by cases s; rfl

@[simp] theorem exec_prepInject (w : Writer) (pos : Nat) (digest : List Nat) (s : State) :
    exec (.prepInject w pos digest) s = execPrepInject w pos digest s := by cases s; rfl

@[simp] theorem exec_cutAbandon (w : Writer) (s : State) :
    exec (.cutAbandon w) s = execCutAbandon w s := by cases s; rfl

@[simp] theorem exec_stayBytesWrite (w : Writer) (value : Nat) (s : State) :
    exec (.stayBytesWrite w value) s = execStayBytesWrite w value s := by cases s; rfl

@[simp] theorem exec_rstPropose (w : Writer) (proposal : Nat) (s : State) :
    exec (.rstPropose w proposal) s = execRstPropose w proposal s := by cases s; rfl

@[simp] theorem exec_rstLoaded (w : Writer) (s : State) :
    exec (.rstLoaded w) s = execRstLoaded w s := by cases s; rfl

@[simp] theorem exec_rstLoadedTimeout (s : State) :
    exec (.rstLoadedTimeout) s = execRstLoadedTimeout s := by cases s; rfl

@[simp] theorem exec_rstConfirm (w : Writer) (cut : Nat) (s : State) :
    exec (.rstConfirm w cut) s = execRstConfirm w cut s := by cases s; rfl

@[simp] theorem exec_rstFilled (w : Writer) (value : Nat) (s : State) :
    exec (.rstFilled w value) s = execRstFilled w value s := by cases s; rfl

@[simp] theorem exec_fillVerifyDone (slot : Nat) (s : State) :
    exec (.fillVerifyDone slot) s = execFillVerifyDone slot s := by cases s; rfl

@[simp] theorem exec_stayApertureWrite (w : Writer) (offset : Nat) (bytes : Nat) (data : Nat) (s : State) :
    exec (.stayApertureWrite w offset bytes data) s = execStayApertureWrite w offset bytes data s := by cases s; rfl

@[simp] theorem exec_restoreBeginCommand (d : Die) (head : Nat) (s : State) :
    exec (.restoreBeginCommand d head) s = execRestoreBeginCommand d head s := by cases s; rfl

@[simp] theorem exec_restoreCancelCommand (d : Die) (s : State) :
    exec (.restoreCancelCommand d) s = execRestoreCancelCommand d s := by cases s; rfl

@[simp] theorem exec_restoreChunkRx (d : Die) (header : Nat) (data : List (Nat × Bool)) (s : State) :
    exec (.restoreChunkRx d header data) s = execRestoreChunkRx d header data s := by cases s; rfl

@[simp] theorem exec_restoreMarkerRx (d : Die) (granule : Nat) (s : State) :
    exec (.restoreMarkerRx d granule) s = execRestoreMarkerRx d granule s := by cases s; rfl

@[simp] theorem exec_restoreEndRx (p : Die) (granule : Nat) (s : State) :
    exec (.restoreEndRx p granule) s = execRestoreEndRx p granule s := by cases s; rfl

@[simp] theorem exec_energySliceBoundary (d : Die) (missing : List (Fin 16)) (s : State) :
    exec (.energySliceBoundary d missing) s = execEnergySliceBoundary d missing s := by cases s; rfl

@[simp] theorem exec_requestOpen (d : Die) (w : Option Writer) (ctx : Nat) (reqId : Nat) (epoch : Nat) (s : State) :
    exec (.requestOpen d w ctx reqId epoch) s = execRequestOpen d w ctx reqId epoch s := by cases s; rfl

@[simp] theorem exec_requestClose (d : Die) (w : Option Writer) (ctx : Nat) (reqId : Nat) (epoch : Nat) (s : State) :
    exec (.requestClose d w ctx reqId epoch) s = execRequestClose d w ctx reqId epoch s := by cases s; rfl

@[simp] theorem exec_totalsClear (d : Die) (w : Writer) (s : State) :
    exec (.totalsClear d w) s = execTotalsClear d w s := by cases s; rfl

@[simp] theorem exec_batchAck (w : Writer) (bsn : Nat) (s : State) :
    exec (.batchAck w bsn) s = execBatchAck w bsn s := by cases s; rfl

@[simp] theorem exec_frameEnqueue (kind : Fin 6) (q : Fin 2) (dst : Nat) (len : Nat) (s : State) :
    exec (.frameEnqueue kind q dst len) s = execFrameEnqueue kind q dst len s := by cases s; rfl

@[simp] theorem exec_frameTxDone (q : Fin 2) (s : State) :
    exec (.frameTxDone q) s = execFrameTxDone q s := by cases s; rfl

@[simp] theorem exec_gateEntryEnd (q : Fin 2) (s : State) :
    exec (.gateEntryEnd q) s = execGateEntryEnd q s := by cases s; rfl

@[simp] theorem exec_anchorInstant (q : Fin 2) (s : State) :
    exec (.anchorInstant q) s = execAnchorInstant q s := by cases s; rfl

@[simp] theorem exec_anchorLossExpiry (q : Fin 2) (s : State) :
    exec (.anchorLossExpiry q) s = execAnchorLossExpiry q s := by cases s; rfl

@[simp] theorem exec_changeSchedule (w : Writer) (q : Fin 2) (s : State) :
    exec (.changeSchedule w q) s = execChangeSchedule w q s := by cases s; rfl

@[simp] theorem exec_changeCancel (w : Writer) (q : Fin 2) (s : State) :
    exec (.changeCancel w q) s = execChangeCancel w q s := by cases s; rfl

@[simp] theorem exec_gateTakeover (q : Fin 2) (s : State) :
    exec (.gateTakeover q) s = execGateTakeover q s := by cases s; rfl

@[simp] theorem exec_classMapWrite (w : Writer) (map : List Nat) (s : State) :
    exec (.classMapWrite w map) s = execClassMapWrite w map s := by cases s; rfl

@[simp] theorem exec_cbsConfigWrite (w : Writer) (q : Fin 2) (c : Fin 8) (field : Fin 5) (value : Int) (s : State) :
    exec (.cbsConfigWrite w q c field value) s = execCbsConfigWrite w q c field value s := by cases s; rfl

@[simp] theorem exec_fabricLinkUp (q : Fin 2) (s : State) :
    exec (.fabricLinkUp q) s = execFabricLinkUp q s := by cases s; rfl

@[simp] theorem exec_shadowDescWrite (p : Part) (n : Fin 16) (w : Writer) (desc : Nat) (s : State) :
    exec (.shadowDescWrite p n w desc) s = execShadowDescWrite p n w desc s := by cases s; rfl

@[simp] theorem exec_dmaArm (p : Part) (n : Fin 16) (w : Writer) (s : State) :
    exec (.dmaArm p n w) s = execDmaArm p n w s := by cases s; rfl

@[simp] theorem exec_dmaCancel (p : Part) (n : Fin 16) (w : Writer) (s : State) :
    exec (.dmaCancel p n w) s = execDmaCancel p n w s := by cases s; rfl

@[simp] theorem exec_dmaAbort (p : Part) (n : Fin 16) (w : Writer) (s : State) :
    exec (.dmaAbort p n w) s = execDmaAbort p n w s := by cases s; rfl

@[simp] theorem exec_dmaClear (p : Part) (n : Fin 16) (w : Writer) (s : State) :
    exec (.dmaClear p n w) s = execDmaClear p n w s := by cases s; rfl

@[simp] theorem exec_dmaReset (p : Part) (n : Fin 16) (w : Writer) (s : State) :
    exec (.dmaReset p n w) s = execDmaReset p n w s := by cases s; rfl

@[simp] theorem exec_dmaTransferStart (p : Part) (n : Fin 16) (s : State) :
    exec (.dmaTransferStart p n) s = execDmaTransferStart p n s := by cases s; rfl

@[simp] theorem exec_dmaAccessDone (p : Part) (n : Fin 16) (a : DmaAccess) (s : State) :
    exec (.dmaAccessDone p n a) s = execDmaAccessDone p n a s := by cases s; rfl

@[simp] theorem exec_dmaTransferEnd (p : Part) (n : Fin 16) (recordOk : Bool) (s : State) :
    exec (.dmaTransferEnd p n recordOk) s = execDmaTransferEnd p n recordOk s := by cases s; rfl

@[simp] theorem exec_dmaChannelClaim (p : Part) (n : Fin 16) (s : State) :
    exec (.dmaChannelClaim p n) s = execDmaChannelClaim p n s := by cases s; rfl

@[simp] theorem exec_dmaChannelRelease (p : Part) (n : Fin 16) (s : State) :
    exec (.dmaChannelRelease p n) s = execDmaChannelRelease p n s := by cases s; rfl

@[simp] theorem exec_classifierLeak (p : Part) (errors : List MemError) (s : State) :
    exec (.classifierLeak p errors) s = execClassifierLeak p errors s := by cases s; rfl

@[simp] theorem exec_hbmRowRepairDone (s : State) :
    exec (.hbmRowRepairDone) s = execHbmRowRepairDone s := by cases s; rfl

@[simp] theorem exec_watchdogAssert (d : Die) (dom : Fin 16) (s : State) :
    exec (.watchdogAssert d dom) s = execWatchdogAssert d dom s := by cases s; rfl

@[simp] theorem exec_hangWindowExpiry (d : Die) (dom : Fin 16) (s : State) :
    exec (.hangWindowExpiry d dom) s = execHangWindowExpiry d dom s := by cases s; rfl

@[simp] theorem exec_domHangCommand (d : Die) (w : Writer) (dom : Fin 16) (s : State) :
    exec (.domHangCommand d w dom) s = execDomHangCommand d w dom s := by cases s; rfl

@[simp] theorem exec_domResetCommand (d : Die) (w : Writer) (dom : Fin 16) (s : State) :
    exec (.domResetCommand d w dom) s = execDomResetCommand d w dom s := by cases s; rfl

@[simp] theorem exec_domSampleCommand (d : Die) (w : Writer) (dom : Fin 16) (s : State) :
    exec (.domSampleCommand d w dom) s = execDomSampleCommand d w dom s := by cases s; rfl

@[simp] theorem exec_hangCommand (d : Die) (dom : Fin 16) (s : State) :
    exec (.hangCommand d dom) s = execHangCommand d dom s := by cases s; rfl

@[simp] theorem exec_outOfServiceCommand (d : Die) (s : State) :
    exec (.outOfServiceCommand d) s = execOutOfServiceCommand d s := by cases s; rfl

@[simp] theorem exec_hangSampleSent (d : Die) (dom : Fin 16) (data : List (Nat × Bool)) (s : State) :
    exec (.hangSampleSent d dom data) s = execHangSampleSent d dom data s := by cases s; rfl

@[simp] theorem exec_resetHoldExpiry (d : Die) (dom : Fin 16) (s : State) :
    exec (.resetHoldExpiry d dom) s = execResetHoldExpiry d dom s := by cases s; rfl

@[simp] theorem exec_resetDone (d : Die) (dom : Fin 16) (kept : Nat) (s : State) :
    exec (.resetDone d dom kept) s = execResetDone d dom kept s := by cases s; rfl

@[simp] theorem exec_resetAckTimeout (d : Die) (dom : Fin 16) (s : State) :
    exec (.resetAckTimeout d dom) s = execResetAckTimeout d dom s := by cases s; rfl

@[simp] theorem exec_returnToService (d : Die) (w : Writer) (s : State) :
    exec (.returnToService d w) s = execReturnToService d w s := by cases s; rfl

@[simp] theorem exec_portOosClear (w : Writer) (p : Die) (s : State) :
    exec (.portOosClear w p) s = execPortOosClear w p s := by cases s; rfl

@[simp] theorem exec_hangSampleRx (p : Die) (msg : List (Nat × Bool)) (s : State) :
    exec (.hangSampleRx p msg) s = execHangSampleRx p msg s := by cases s; rfl

@[simp] theorem exec_hangSampleRelease (w : Writer) (p : Die) (s : State) :
    exec (.hangSampleRelease w p) s = execHangSampleRelease w p s := by cases s; rfl

@[simp] theorem exec_instClear (w : Writer) (s : State) :
    exec (.instClear w) s = execInstClear w s := by cases s; rfl

@[simp] theorem exec_softReset (d : Die) (w : Writer) (s : State) :
    exec (.softReset d w) s = execSoftReset d w s := by cases s; rfl

@[simp] theorem exec_warmReset (w : Writer) (s : State) :
    exec (.warmReset w) s = execWarmReset w s := by cases s; rfl

@[simp] theorem exec_perstAssert (s : State) :
    exec (.perstAssert) s = execPerstAssert s := by cases s; rfl

@[simp] theorem exec_perstDeassert (s : State) :
    exec (.perstDeassert) s = execPerstDeassert s := by cases s; rfl

@[simp] theorem exec_pcieFlr (s : State) :
    exec (.pcieFlr) s = execPcieFlr s := by cases s; rfl

@[simp] theorem exec_pciePowerStateChange (state : Nat) (s : State) :
    exec (.pciePowerStateChange state) s = execPciePowerStateChange state s := by cases s; rfl

@[simp] theorem exec_vagerPowerOn (spares : List Nat) (foreign : Bool) (s : State) :
    exec (.vagerPowerOn spares foreign) s = execVagerPowerOn spares foreign s := by cases s; rfl

@[simp] theorem exec_pwrgoodFall (s : State) :
    exec (.pwrgoodFall) s = execPwrgoodFall s := by cases s; rfl

@[simp] theorem exec_starisResetRelease (d : Die) (s : State) :
    exec (.starisResetRelease d) s = execStarisResetRelease d s := by cases s; rfl

@[simp] theorem exec_authNsPrivWrite (d : Die) (w : Writer) (value : Bool) (s : State) :
    exec (.authNsPrivWrite d w value) s = execAuthNsPrivWrite d w value s := by cases s; rfl

@[simp] theorem exec_authSecureWrite (d : Die) (w : Writer) (value : Bool) (s : State) :
    exec (.authSecureWrite d w value) s = execAuthSecureWrite d w value s := by cases s; rfl

@[simp] theorem exec_authExpiry (d : Die) (sec : Bool) (s : State) :
    exec (.authExpiry d sec) s = execAuthExpiry d sec s := by cases s; rfl

@[simp] theorem exec_dbgGrantWrite (w : Writer) (value : Bool) (s : State) :
    exec (.dbgGrantWrite w value) s = execDbgGrantWrite w value s := by cases s; rfl

@[simp] theorem exec_dbgExpiry (s : State) :
    exec (.dbgExpiry) s = execDbgExpiry s := by cases s; rfl

@[simp] theorem exec_lkOfferWrite (d : Die) (w : Option Writer) (offer : List Nat) (s : State) :
    exec (.lkOfferWrite d w offer) s = execLkOfferWrite d w offer s := by cases s; rfl

@[simp] theorem exec_linkKeyEstablished (p : Die) (failed : Option Nat) (s : State) :
    exec (.linkKeyEstablished p failed) s = execLinkKeyEstablished p failed s := by cases s; rfl

@[simp] theorem exec_linkKeyRetry (p : Die) (s : State) :
    exec (.linkKeyRetry p) s = execLinkKeyRetry p s := by cases s; rfl

@[simp] theorem exec_dtlsHandshake (h : Handshake) (s : State) :
    exec (.dtlsHandshake h) s = execDtlsHandshake h s := by cases s; rfl

@[simp] theorem exec_sessionIdleExpiry (session : Nat) (s : State) :
    exec (.sessionIdleExpiry session) s = execSessionIdleExpiry session s := by cases s; rfl

@[simp] theorem exec_taBytesWrite (w : Writer) (a : Fin 8) (value : Nat) (valid : Bool) (s : State) :
    exec (.taBytesWrite w a value valid) s = execTaBytesWrite w a value valid s := by cases s; rfl

@[simp] theorem exec_opCertBytesWrite (w : Writer) (value : Nat) (matching : Bool) (expired : Bool) (s : State) :
    exec (.opCertBytesWrite w value matching expired) s = execOpCertBytesWrite w value matching expired s := by cases s; rfl

@[simp] theorem exec_spdmRequest (request : List Nat) (s : State) :
    exec (.spdmRequest request) s = execSpdmRequest request s := by cases s; rfl

@[simp] theorem exec_sheetRead (session : Nat) (r : SheetReq) (s : State) :
    exec (.sheetRead session r) s = execSheetRead session r s := by cases s; rfl

@[simp] theorem exec_sheetWrite (session : Nat) (r : SheetReq) (s : State) :
    exec (.sheetWrite session r) s = execSheetWrite session r s := by cases s; rfl

@[simp] theorem exec_sheetStage (session : Nat) (r : SheetReq) (s : State) :
    exec (.sheetStage session r) s = execSheetStage session r s := by cases s; rfl

@[simp] theorem exec_sheetStageCancel (session : Nat) (r : SheetReq) (s : State) :
    exec (.sheetStageCancel session r) s = execSheetStageCancel session r s := by cases s; rfl

@[simp] theorem exec_sheetSegRead (session : Nat) (r : SheetReq) (s : State) :
    exec (.sheetSegRead session r) s = execSheetSegRead session r s := by cases s; rfl

@[simp] theorem exec_sheetSegWrite (session : Nat) (r : SheetReq) (s : State) :
    exec (.sheetSegWrite session r) s = execSheetSegWrite session r s := by cases s; rfl

@[simp] theorem exec_sheetSubscribe (session : Nat) (r : SheetReq) (s : State) :
    exec (.sheetSubscribe session r) s = execSheetSubscribe session r s := by cases s; rfl

@[simp] theorem exec_sheetSpdm (session : Nat) (r : SheetReq) (s : State) :
    exec (.sheetSpdm session r) s = execSheetSpdm session r s := by cases s; rfl

@[simp] theorem exec_sheetEcho (session : Nat) (r : SheetReq) (s : State) :
    exec (.sheetEcho session r) s = execSheetEcho session r s := by cases s; rfl

@[simp] theorem exec_stagedGroupApply (p : Part) (group : Nat) (s : State) :
    exec (.stagedGroupApply p group) s = execStagedGroupApply p group s := by cases s; rfl

@[simp] theorem exec_stageEpochExpiry (group : Nat) (s : State) :
    exec (.stageEpochExpiry group) s = execStageEpochExpiry group s := by cases s; rfl

@[simp] theorem exec_stagedGroupForward (group : Nat) (s : State) :
    exec (.stagedGroupForward group) s = execStagedGroupForward group s := by cases s; rfl

@[simp] theorem exec_dictReqRx (d : Die) (w : Writer) (r : SheetReq) (s : State) :
    exec (.dictReqRx d w r) s = execDictReqRx d w r s := by cases s; rfl

@[simp] theorem exec_proxyTimeout (p : Die) (s : State) :
    exec (.proxyTimeout p) s = execProxyTimeout p s := by cases s; rfl

@[simp] theorem exec_mbGo (a : Aperture) (sec : Bool) (vector : Nat) (r : SheetReq) (s : State) :
    exec (.mbGo a sec vector r) s = execMbGo a sec vector r s := by cases s; rfl

@[simp] theorem exec_mgmtCommit (w : Writer) (value : Bool) (s : State) :
    exec (.mgmtCommit w value) s = execMgmtCommit w value s := by cases s; rfl

@[simp] theorem exec_cnKick (w : Writer) (s : State) :
    exec (.cnKick w) s = execCnKick w s := by cases s; rfl

@[simp] theorem exec_cnWatchdogExpiry (s : State) :
    exec (.cnWatchdogExpiry) s = execCnWatchdogExpiry s := by cases s; rfl

@[simp] theorem exec_cnCoreFault (s : State) :
    exec (.cnCoreFault) s = execCnCoreFault s := by cases s; rfl

@[simp] theorem exec_cnRestartDelayEnd (s : State) :
    exec (.cnRestartDelayEnd) s = execCnRestartDelayEnd s := by cases s; rfl

@[simp] theorem exec_cnBootVerifyDone (slot0 : Bool) (slot1 : Bool) (s : State) :
    exec (.cnBootVerifyDone slot0 slot1) s = execCnBootVerifyDone slot0 slot1 s := by cases s; rfl

@[simp] theorem exec_cnSensorSample (thermal : List Int) (rails : List Nat) (s : State) :
    exec (.cnSensorSample thermal rails) s = execCnSensorSample thermal rails s := by cases s; rfl

@[simp] theorem exec_recordNorWriteDone (s : State) :
    exec (.recordNorWriteDone) s = execRecordNorWriteDone s := by cases s; rfl

@[simp] theorem exec_norSectorEraseDone (s : State) :
    exec (.norSectorEraseDone) s = execNorSectorEraseDone s := by cases s; rfl

@[simp] theorem exec_recFreeze (w : Writer) (s : State) :
    exec (.recFreeze w) s = execRecFreeze w s := by cases s; rfl

@[simp] theorem exec_recThaw (w : Writer) (s : State) :
    exec (.recThaw w) s = execRecThaw w s := by cases s; rfl

@[simp] theorem exec_recFreezeLimitExpiry (s : State) :
    exec (.recFreezeLimitExpiry) s = execRecFreezeLimitExpiry s := by cases s; rfl

@[simp] theorem exec_recClear (w : Writer) (serial : Nat) (s : State) :
    exec (.recClear w serial) s = execRecClear w serial s := by cases s; rfl

@[simp] theorem exec_recClearDone (s : State) :
    exec (.recClearDone) s = execRecClearDone s := by cases s; rfl

@[simp] theorem exec_opHourBoundary (s : State) :
    exec (.opHourBoundary) s = execOpHourBoundary s := by cases s; rfl

@[simp] theorem exec_fwStageBytesWrite (w : Writer) (value : Nat) (s : State) :
    exec (.fwStageBytesWrite w value) s = execFwStageBytesWrite w value s := by cases s; rfl

@[simp] theorem exec_fwStageCheckDone (signed : Bool) (written : Bool) (s : State) :
    exec (.fwStageCheckDone signed written) s = execFwStageCheckDone signed written s := by cases s; rfl

@[simp] theorem exec_maintStopWrite (w : Writer) (value : Bool) (s : State) :
    exec (.maintStopWrite w value) s = execMaintStopWrite w value s := by cases s; rfl

@[simp] theorem exec_fwActivateCrowsNest (w : Writer) (s : State) :
    exec (.fwActivateCrowsNest w) s = execFwActivateCrowsNest w s := by cases s; rfl

@[simp] theorem exec_fwActivateStaris (w : Writer) (s : State) :
    exec (.fwActivateStaris w) s = execFwActivateStaris w s := by cases s; rfl

@[simp] theorem exec_fwConfirm (w : Writer) (s : State) :
    exec (.fwConfirm w) s = execFwConfirm w s := by cases s; rfl

@[simp] theorem exec_fwTrialExpiry (s : State) :
    exec (.fwTrialExpiry) s = execFwTrialExpiry s := by cases s; rfl

@[simp] theorem exec_powerRevisit (p : Part) (busy : Nat) (hbmIdle : List Nat) (s : State) :
    exec (.powerRevisit p busy hbmIdle) s = execPowerRevisit p busy hbmIdle s := by cases s; rfl

@[simp] theorem exec_domainWakeDone (p : Part) (domain : Fin 32) (s : State) :
    exec (.domainWakeDone p domain) s = execDomainWakeDone p domain s := by cases s; rfl

@[simp] theorem exec_wakeWrite (p : Part) (w : Writer) (f : Fin 3) (s : State) :
    exec (.wakeWrite p w f) s = execWakeWrite p w f s := by cases s; rfl

@[simp] theorem exec_wakeHoldExpiry (p : Part) (f : Fin 3) (s : State) :
    exec (.wakeHoldExpiry p f) s = execWakeHoldExpiry p f s := by cases s; rfl

@[simp] theorem exec_registerWrite (p : Part) (w : Writer) (index : Nat) (sub : Nat) (data : List Nat) (s : State) :
    exec (.registerWrite p w index sub data) s = execRegisterWrite p w index sub data s := by cases s; rfl

@[simp] theorem exec_retrainDone (v : Bool) (p : Die) (s : State) :
    exec (.retrainDone v p) s = execRetrainDone v p s := by cases s; rfl

@[simp] theorem exec_spareCoreRemap (d : Die) (source : Fin 256) (slot : Fin 256) (kind : Fin 4) (s : State) :
    exec (.spareCoreRemap d source slot kind) s = execSpareCoreRemap d source slot kind s := by cases s; rfl

@[simp] theorem exec_sessionClose (session : Nat) (s : State) :
    exec (.sessionClose session) s = execSessionClose session s := by cases s; rfl

@[simp] theorem exec_mgmtLinkChange (link : Fin 3) (s : State) :
    exec (.mgmtLinkChange link) s = execMgmtLinkChange link s := by cases s; rfl

end Sys2Proof.Machine
end

