-- ==== Sys2Proof/Laws/State.lean ====
section
/-! SUPPORT. Laws/State.lean: each field after each update of the state, by definition, so that no proof unfolds a record update. -/

namespace Sys2Proof.Machine
open Sys2Proof

variable (s : State)

/-! ### A whole part replaced -/

@[simp] theorem State.setVager_vager (v : Vager) : (s.setVager v).vager = v := by cases s; rfl
@[simp] theorem State.setVager_dies (v : Vager) : (s.setVager v).dies = s.dies := by cases s; rfl
@[simp] theorem State.setVager_die (v : Vager) (d : Die) : (s.setVager v).die d = s.die d := by cases s; rfl
@[simp] theorem State.setVager_out (v : Vager) : (s.setVager v).out = s.out := by cases s; rfl
@[simp] theorem State.setVager_fresh (v : Vager) : (s.setVager v).fresh = s.fresh := by cases s; rfl
@[simp] theorem State.setVager_pending (v : Vager) : (s.setVager v).pending = s.pending := by cases s; rfl

@[simp] theorem State.setDie_vager (d : Die) (x : Staris) : (s.setDie d x).vager = s.vager := by cases s; rfl
@[simp] theorem State.setDie_out (d : Die) (x : Staris) : (s.setDie d x).out = s.out := by cases s; rfl
@[simp] theorem State.setDie_fresh (d : Die) (x : Staris) : (s.setDie d x).fresh = s.fresh := by cases s; rfl
@[simp] theorem State.setDie_pending (d : Die) (x : Staris) : (s.setDie d x).pending = s.pending := by cases s; rfl

@[simp] theorem State.setDie_die_same (d : Die) (x : Staris) : (s.setDie d x).die d = x := by
  simp [State.setDie, State.die]

theorem State.setDie_die_ne {d e : Die} (x : Staris) (h : e ≠ d) : (s.setDie d x).die e = s.die e := by
  simp only [State.setDie, State.die]
  exact Vector.getElem_set_ne _ _ (fun h' => h (Fin.ext h'.symm))

/-! ### Outputs and free values -/

@[simp] theorem State.emit_vager (o : Out) : (s.emit o).vager = s.vager := by cases s; rfl
@[simp] theorem State.emit_dies (o : Out) : (s.emit o).dies = s.dies := by cases s; rfl
@[simp] theorem State.emit_die (o : Out) (d : Die) : (s.emit o).die d = s.die d := by cases s; rfl
@[simp] theorem State.emit_out (o : Out) : (s.emit o).out = s.out ++ [o] := by cases s; rfl
@[simp] theorem State.emit_fresh (o : Out) : (s.emit o).fresh = s.fresh := by cases s; rfl
@[simp] theorem State.emit_pending (o : Out) : (s.emit o).pending = s.pending := by cases s; rfl

@[simp] theorem State.answer_vager (x : Nat) : (s.answer x).vager = s.vager := by cases s; rfl
@[simp] theorem State.answer_dies (x : Nat) : (s.answer x).dies = s.dies := by cases s; rfl
@[simp] theorem State.answer_die (x : Nat) (d : Die) : (s.answer x).die d = s.die d := by cases s; rfl
@[simp] theorem State.answer_out (x : Nat) : (s.answer x).out = s.out ++ [.answer x] := by cases s; rfl
@[simp] theorem State.answer_fresh (x : Nat) : (s.answer x).fresh = s.fresh := by cases s; rfl
@[simp] theorem State.answer_pending (x : Nat) : (s.answer x).pending = s.pending := by cases s; rfl

@[simp] theorem State.takeNat_vager : s.takeNat.2.vager = s.vager := by cases s; rfl
@[simp] theorem State.takeNat_dies : s.takeNat.2.dies = s.dies := by cases s; rfl
@[simp] theorem State.takeNat_out : s.takeNat.2.out = s.out := by cases s; rfl
@[simp] theorem State.takeNat_fresh : s.takeNat.2.fresh = s.fresh + 1 := by cases s; rfl
@[simp] theorem State.takeNat_pending : s.takeNat.2.pending = s.pending := by cases s; rfl
@[simp] theorem State.takeInt_vager : s.takeInt.2.vager = s.vager := by cases s; rfl
@[simp] theorem State.takeInt_dies : s.takeInt.2.dies = s.dies := by cases s; rfl
@[simp] theorem State.takeInt_out : s.takeInt.2.out = s.out := by cases s; rfl
@[simp] theorem State.takeInt_fresh : s.takeInt.2.fresh = s.fresh + 1 := by cases s; rfl
@[simp] theorem State.takeInt_pending : s.takeInt.2.pending = s.pending := by cases s; rfl

end Sys2Proof.Machine
end

