-- ==== Sys2Proof/Laws/Tbl.lean ====
section
/-! SUPPORT. Laws/Tbl.lean: sparse tables: a read after a write, and that every operation keeps the canonical form. -/

namespace Sys2Proof.Machine

variable {α : Type}

@[simp] theorem Tbl.find_nil (k : Nat) : Tbl.find ([] : Tbl α) k = none := rfl

@[simp] theorem Tbl.get_nil (d : Nat → α) (k : Nat) : Tbl.get d [] k = d k := rfl

theorem Tbl.find_insert (t : Tbl α) (k j : Nat) (v : α) :
    Tbl.find (Tbl.insert t k v) j = if j = k then some v else Tbl.find t j := by
  induction t with
  | nil => simp [Tbl.insert, Tbl.find]
  | cons e t ih =>
    obtain ⟨k', v'⟩ := e
    simp only [Tbl.insert]
    split
    · simp [Tbl.find]
    · split
      · subst_vars
        by_cases h : j = k' <;> simp [Tbl.find, h]
      · simp only [Tbl.find, ih]
        split <;> split <;> simp_all

theorem Tbl.find_erase (t : Tbl α) (k j : Nat) : Tbl.find (Tbl.erase t k) j = if j = k then none else Tbl.find t j := by
  induction t with
  | nil => simp [Tbl.erase, Tbl.find]
  | cons e t ih =>
    obtain ⟨k', v'⟩ := e
    simp only [Tbl.erase] at ih
    by_cases h : k' = k
    · subst h
      simp only [Tbl.erase, List.filter_cons, bne_self_eq_false, Tbl.find]
      by_cases hj : j = k' <;> simp_all
    · have hb : (k' != k) = true := by simpa using h
      simp only [Tbl.erase, List.filter_cons, hb, Tbl.find, if_true]
      by_cases hj : j = k' <;> simp_all

@[simp] theorem Tbl.get_insert_same (d : Nat → α) (t : Tbl α) (k : Nat) (v : α) : Tbl.get d (Tbl.insert t k v) k = v := by
  simp [Tbl.get, Tbl.find_insert]

theorem Tbl.get_insert_ne (d : Nat → α) (t : Tbl α) {k j : Nat} (v : α) (h : j ≠ k) :
    Tbl.get d (Tbl.insert t k v) j = Tbl.get d t j := by
  simp [Tbl.get, Tbl.find_insert, h]

@[simp] theorem Tbl.get_set_same [DecidableEq α] (d : Nat → α) (t : Tbl α) (k : Nat) (v : α) :
    Tbl.get d (Tbl.set d t k v) k = v := by
  unfold Tbl.set
  split
  · simp [Tbl.get, Tbl.find_erase, *]
  · simp

theorem Tbl.get_set_ne [DecidableEq α] (d : Nat → α) (t : Tbl α) {k j : Nat} (v : α) (h : j ≠ k) :
    Tbl.get d (Tbl.set d t k v) j = Tbl.get d t j := by
  unfold Tbl.set
  split
  · simp [Tbl.get, Tbl.find_erase, h]
  · exact Tbl.get_insert_ne d t v h

/-! ### The canonical form -/

theorem Tbl.wfFrom_mono [DecidableEq α] (d : Nat → α) (t : Tbl α) {a b : Nat} (h : a ≤ b) (w : Tbl.wfFrom d b t = true) :
    Tbl.wfFrom d a t = true := by
  cases t with
  | nil => rfl
  | cons e t =>
    obtain ⟨k, v⟩ := e
    simp only [Tbl.wfFrom, Bool.and_eq_true, decide_eq_true_eq] at w ⊢
    exact ⟨⟨by omega, w.1.2⟩, w.2⟩

theorem Tbl.wfFrom_filter [DecidableEq α] (d : Nat → α) (p : Nat × α → Bool) (t : Tbl α) (b : Nat)
    (w : Tbl.wfFrom d b t = true) : Tbl.wfFrom d b (t.filter p) = true := by
  induction t generalizing b with
  | nil => rfl
  | cons e t ih =>
    obtain ⟨k, v⟩ := e
    simp only [Tbl.wfFrom, Bool.and_eq_true, decide_eq_true_eq] at w
    by_cases h : p (k, v)
    · simp only [List.filter_cons, h, if_true, Tbl.wfFrom, Bool.and_eq_true, decide_eq_true_eq]
      exact ⟨w.1, ih _ w.2⟩
    · simp only [List.filter_cons, h]
      exact Tbl.wfFrom_mono d _ (by omega) (ih _ w.2)

theorem Tbl.wfFrom_insert [DecidableEq α] (d : Nat → α) (t : Tbl α) (b k : Nat) (v : α) (hb : b ≤ k) (hv : v ≠ d k)
    (w : Tbl.wfFrom d b t = true) : Tbl.wfFrom d b (Tbl.insert t k v) = true := by
  induction t generalizing b with
  | nil => simp [Tbl.insert, Tbl.wfFrom, hb, hv]
  | cons e t ih =>
    obtain ⟨k', v'⟩ := e
    simp only [Tbl.wfFrom, Bool.and_eq_true, decide_eq_true_eq] at w
    simp only [Tbl.insert]
    split
    · simp only [Tbl.wfFrom, Bool.and_eq_true, decide_eq_true_eq]
      exact ⟨⟨hb, hv⟩, ⟨by omega, w.1.2⟩, w.2⟩
    · split
      · subst_vars
        simp only [Tbl.wfFrom, Bool.and_eq_true, decide_eq_true_eq]
        exact ⟨⟨hb, hv⟩, w.2⟩
      · simp only [Tbl.wfFrom, Bool.and_eq_true, decide_eq_true_eq]
        exact ⟨w.1, ih _ (by omega) w.2⟩

/-- A filtered table is canonical. -/
theorem Tbl.wf_filter [DecidableEq α] (d : Nat → α) (p : Nat × α → Bool) (t : Tbl α) (w : Tbl.wf d t = true) :
    Tbl.wf d (t.filter p) = true := Tbl.wfFrom_filter d p t 0 w

/-- An erased table is canonical. -/
theorem Tbl.wf_erase [DecidableEq α] (d : Nat → α) (t : Tbl α) (k : Nat) (w : Tbl.wf d t = true) :
    Tbl.wf d (Tbl.erase t k) = true := Tbl.wf_filter d _ t w

/-- A written table is canonical: writing what an unlisted key reads as removes the entry. -/
theorem Tbl.wf_set [DecidableEq α] (d : Nat → α) (t : Tbl α) (k : Nat) (v : α) (w : Tbl.wf d t = true) :
    Tbl.wf d (Tbl.set d t k v) = true := by
  unfold Tbl.set
  split
  · exact Tbl.wf_erase d t k w
  · exact Tbl.wfFrom_insert d t 0 k v (Nat.zero_le k) ‹_› w

/-- A table with a range of keys cleared is canonical. -/
theorem Tbl.wf_clearRange [DecidableEq α] (d : Nat → α) (t : Tbl α) (lo hi : Nat) (w : Tbl.wf d t = true) :
    Tbl.wf d (Tbl.clearRange t lo hi) = true := Tbl.wf_filter d _ t w

/-- A canonical table lists no key below its first. -/
theorem Tbl.find_lt [DecidableEq α] (d : Nat → α) (t : Tbl α) (b k : Nat) (w : Tbl.wfFrom d b t = true) (h : k < b) :
    Tbl.find t k = none := by
  induction t generalizing b with
  | nil => rfl
  | cons e t ih =>
    obtain ⟨k', v'⟩ := e
    simp only [Tbl.wfFrom, Bool.and_eq_true, decide_eq_true_eq] at w
    have hk : k ≠ k' := by omega
    simp only [Tbl.find, hk, if_false]
    exact ih _ w.2 (by omega)

end Sys2Proof.Machine
end

