-- ==== Sys2Proof/Laws/Ops.lean ====
section
/-! SUPPORT. Laws/Ops.lean: what the shared operations do: a read of an object after a write, and what each leaves as it was. -/

namespace Sys2Proof.Machine
open Sys2Proof

variable (s : State)

/-! ### Object tables -/

theorem State.die_setVager (v : Vager) (d : Die) : (s.setVager v).die d = s.die d := by cases s; rfl

@[simp] theorem State.setObjs_objs_same (p : Part) (t : Tbl Nat) : (s.setObjs p t).objs p = t := by
  cases p <;> simp [State.setObjs, State.objs]

theorem State.setObjs_objs_ne {p q : Part} (t : Tbl Nat) (h : q ≠ p) : (s.setObjs p t).objs q = s.objs q := by
  cases p with
  | vager => cases q with
    | vager => exact absurd rfl h
    | staris e => simp [State.setObjs, State.objs]
  | staris d => cases q with
    | vager => rfl
    | staris e =>
      have he : e ≠ d := fun x => h (by rw [x])
      simp [State.setObjs, State.objs, State.setDie_die_ne _ _ he]

@[simp] theorem State.setOcts_octs_same (p : Part) (t : Tbl Nat) : (s.setOcts p t).octs p = t := by
  cases p <;> simp [State.setOcts, State.octs]

theorem State.setOcts_octs_ne {p q : Part} (t : Tbl Nat) (h : q ≠ p) : (s.setOcts p t).octs q = s.octs q := by
  cases p with
  | vager => cases q with
    | vager => exact absurd rfl h
    | staris e => simp [State.setOcts, State.octs]
  | staris d => cases q with
    | vager => rfl
    | staris e =>
      have he : e ≠ d := fun x => h (by rw [x])
      simp [State.setOcts, State.octs, State.setDie_die_ne _ _ he]

@[simp] theorem State.setObjs_octs (p q : Part) (t : Tbl Nat) : (s.setObjs p t).octs q = s.octs q := by
  cases p with
  | vager => cases q <;> rfl
  | staris d => cases q with
    | vager => rfl
    | staris e =>
      by_cases he : e = d
      · subst he; simp [State.setObjs, State.octs]
      · simp [State.setObjs, State.octs, State.setDie_die_ne _ _ he]

@[simp] theorem State.setOcts_objs (p q : Part) (t : Tbl Nat) : (s.setOcts p t).objs q = s.objs q := by
  cases p with
  | vager => cases q <;> rfl
  | staris d => cases q with
    | vager => rfl
    | staris e =>
      by_cases he : e = d
      · subst he; simp [State.setOcts, State.objs]
      · simp [State.setOcts, State.objs, State.setDie_die_ne _ _ he]

/-! ### A read after a write -/

@[simp] theorem State.rd_wr_same (p : Part) (k v : Nat) : (s.wr p k v).rd p k = v := by
  simp [State.wr, State.rd]

theorem State.rd_wr_key {p : Part} {k j : Nat} (v : Nat) (h : j ≠ k) : (s.wr p k v).rd p j = s.rd p j := by
  simp [State.wr, State.rd, Tbl.get_set_ne _ _ _ h]

theorem State.rd_wr_part {p q : Part} (k v j : Nat) (h : q ≠ p) : (s.wr p k v).rd q j = s.rd q j := by
  simp [State.wr, State.rd, State.setObjs_objs_ne _ _ h]

/-- Object `j` of part `q` after object `k` of part `p` took `v`. -/
theorem State.rd_wr (p q : Part) (k j v : Nat) : (s.wr p k v).rd q j = if q = p ∧ j = k then v else s.rd q j := by
  by_cases hp : q = p
  · subst hp
    by_cases hk : j = k
    · subst hk; simp
    · simp [hk, State.rd_wr_key _ _ hk]
  · simp [hp, State.rd_wr_part _ _ _ _ hp]

@[simp] theorem State.rd_bump_same (p : Part) (k w n : Nat) : (s.bump p k w n).rd p k = (s.rd p k + n) % 2 ^ w := by
  simp [State.bump]

@[simp] theorem State.rd_emit (o : Out) (p : Part) (k : Nat) : (s.emit o).rd p k = s.rd p k := by cases p <;> rfl
@[simp] theorem State.rd_answer (x : Nat) (p : Part) (k : Nat) : (s.answer x).rd p k = s.rd p k := by cases p <;> rfl
@[simp] theorem State.rd_takeNat (p : Part) (k : Nat) : s.takeNat.2.rd p k = s.rd p k := by cases p <;> rfl
@[simp] theorem State.rd_takeInt (p : Part) (k : Nat) : s.takeInt.2.rd p k = s.rd p k := by cases p <;> rfl
/-- Where no byte is listed, every byte reads as its power-on value. -/
theorem State.ob_nil (p : Part) (h : s.octs p = []) (k i : Nat) : s.ob p k i = octDefaultAt (octKey k i) := by
  have e : s.ob p k i = Tbl.get octDefaultAt (s.octs p) (octKey k i) := by unfold State.ob; exact Eq.refl _
  rw [e, h]
  exact Tbl.get_nil octDefaultAt (octKey k i)
@[simp] theorem State.ob_emit (o : Out) (p : Part) (k i : Nat) : (s.emit o).ob p k i = s.ob p k i := by cases p <;> rfl
@[simp] theorem State.ob_answer (x : Nat) (p : Part) (k i : Nat) : (s.answer x).ob p k i = s.ob p k i := by cases p <;> rfl
@[simp] theorem State.ob_wr (p q : Part) (k v j i : Nat) : (s.wr p k v).ob q j i = s.ob q j i := by
  simp [State.wr, State.ob]

@[simp] theorem State.rd_setOb (p q : Part) (k i v j : Nat) : (s.setOb p k i v).rd q j = s.rd q j := by
  simp [State.setOb, State.rd]

@[simp] theorem State.ob_setOb_same (p : Part) (k i v : Nat) : (s.setOb p k i v).ob p k i = v % 256 := by
  simp [State.setOb, State.ob]

@[simp] theorem State.rd_setBytes (p q : Part) (k i : Nat) (l : List Nat) (j : Nat) :
    (s.setBytes p k i l).rd q j = s.rd q j := by
  induction l generalizing s i with
  | nil => rfl
  | cons b l ih => simp [State.setBytes, ih]

@[simp] theorem State.rd_writeOctets (p q : Part) (k n : Nat) (l : List Nat) (j : Nat) :
    (s.writeOctets p k n l).rd q j = s.rd q j := by simp [State.writeOctets]

@[simp] theorem State.rd_setElem (p q : Part) (k n i v j : Nat) : (s.setElem p k n i v).rd q j = s.rd q j := by
  simp [State.setElem]

/-! ### The queue, the outputs and the other parts -/

@[simp] theorem State.setObjs_pending (p : Part) (t : Tbl Nat) : (s.setObjs p t).pending = s.pending := by cases p <;> rfl
@[simp] theorem State.setOcts_pending (p : Part) (t : Tbl Nat) : (s.setOcts p t).pending = s.pending := by cases p <;> rfl
@[simp] theorem State.setObjs_out (p : Part) (t : Tbl Nat) : (s.setObjs p t).out = s.out := by cases p <;> rfl
@[simp] theorem State.setOcts_out (p : Part) (t : Tbl Nat) : (s.setOcts p t).out = s.out := by cases p <;> rfl
@[simp] theorem State.wr_out (p : Part) (k v : Nat) : (s.wr p k v).out = s.out := by simp [State.wr]
@[simp] theorem State.bump_out (p : Part) (k w n : Nat) : (s.bump p k w n).out = s.out := by simp [State.bump]

/-! ### Access control (R475) -/

/-- R475: a secure fleet access reaches every object. -/
@[simp] theorem mayReach_fleet (secure : Bool) (role : Role) : mayReach { secure := true, role := .fleet } secure role = true := by
  cases secure <;> cases role <;> rfl

/-- R475: an access that may not reach the object is answered ACCESS and changes nothing else. -/
theorem State.writeBy_refused (w : Writer) (secure : Bool) (role : Role) (k : State → State) (h : mayReach w secure role = false) :
    s.writeBy w secure role k = s.answer stAccess := by simp [State.writeBy, h]

/-- An access that may reach the object writes it. -/
theorem State.writeBy_allowed (w : Writer) (secure : Bool) (role : Role) (k : State → State) (h : mayReach w secure role = true) :
    s.writeBy w secure role k = k s := by simp [State.writeBy, h]

end Sys2Proof.Machine
end

