-- ==== Sys2Proof/Laws/QueueOps.lean ====
section
/-! SUPPORT. Laws/QueueOps.lean: the queue after each operation of the named operations is the queue before it. -/

namespace Sys2Proof.Machine
open Sys2Proof

/-- The commands that wait: a name of its own for the field, so that it is compared as a whole and never unfolded. -/
def State.queue (s : State) : List Instr := s.pending

/-- The queue that a command's answer leaves. -/
def outQueue : Result → List Instr
  | .next t => t.queue
  | .fault _ => []
  | .refused _ => []

@[simp] theorem outQueue_next (t : State) : outQueue (.next t) = t.queue := by cases t; rfl

@[simp] theorem ite_outQueue (c : Prop) [Decidable c] (a b : Result) :
    outQueue (if c then a else b) = if c then outQueue a else outQueue b := by split <;> rfl

@[simp] theorem ite_queue (c : Prop) [Decidable c] (a b : State) :
    (if c then a else b).queue = if c then a.queue else b.queue := by split <;> rfl

@[simp] theorem foldl_queue {α : Type} (f : State → α → State) (h : ∀ s a, (f s a).queue = s.queue) (l : List α) (s : State) :
    (l.foldl f s).queue = s.queue := by
  induction l generalizing s with
  | nil => rfl
  | cons a l ih => simp [List.foldl_cons, ih, h]

@[simp] theorem State.setVager_queue (s : State) (v : Vager) : (s.setVager v).queue = s.queue := by cases s; rfl
@[simp] theorem State.setDie_queue (s : State) (d : Die) (x : Staris) : (s.setDie d x).queue = s.queue := by cases s; rfl
@[simp] theorem State.setObjs_queue (s : State) (p : Part) (t : Tbl Nat) : (s.setObjs p t).queue = s.queue := by
  cases s; cases p <;> rfl
@[simp] theorem State.setOcts_queue (s : State) (p : Part) (t : Tbl Nat) : (s.setOcts p t).queue = s.queue := by
  cases s; cases p <;> rfl
@[simp] theorem State.emit_queue (s : State) (o : Out) : (s.emit o).queue = s.queue := by cases s; rfl
@[simp] theorem State.answer_queue (s : State) (x : Nat) : (s.answer x).queue = s.queue := by cases s; rfl
@[simp] theorem State.takeNat_queue (s : State) : s.takeNat.2.queue = s.queue := by cases s; rfl
@[simp] theorem State.takeInt_queue (s : State) : s.takeInt.2.queue = s.queue := by cases s; rfl

theorem foldl_snd_queue {α β : Type} (f : β × State → α → β × State) (h : ∀ x a, (f x a).2.queue = x.2.queue) (l : List α)
    (x : β × State) : (l.foldl f x).2.queue = x.2.queue := by
  induction l generalizing x with
  | nil => rfl
  | cons a l ih => rw [List.foldl_cons, ih, h]

theorem foldl_fst_queue {α β : Type} (f : State × β → α → State × β) (h : ∀ x a, (f x a).1.queue = x.1.queue) (l : List α)
    (x : State × β) : (l.foldl f x).1.queue = x.1.queue := by
  induction l generalizing x with
  | nil => rfl
  | cons a l ih => rw [List.foldl_cons, ih, h]

/-- A command that leaves the queue as it finds it. -/
def KeepsQueue (r : State → Result) : Prop := ∀ t, outQueue (r t) = t.queue

theorem keepsQueue_ite (c : Prop) [Decidable c] {a b : State → Result} (ha : KeepsQueue a) (hb : KeepsQueue b) :
    KeepsQueue (if c then a else b) := by split <;> assumption

theorem ite_some_queue {c : Prop} [Decidable c] {a b : Option (State → Result)} {f : State → Result}
    (h : (if c then a else b) = some f) (ha : a = some f → KeepsQueue f) (hb : b = some f → KeepsQueue f) : KeepsQueue f := by
  split at h
  · exact ha h
  · exact hb h

/-- What an operation that answers a state answers. -/
theorem some_queue {s t u : State} (h : some u = some t) (e : u.queue = s.queue) : t.queue = s.queue := Option.some.inj h ▸ e

/-! ### Ops -/

@[simp] theorem State.wr_queue (s : State) (p : Part) (k v : Nat) : (State.wr s p k v).queue = s.queue := by
  simp only [State.wr, State.setObjs_queue]

@[simp] theorem State.bump_queue (s : State) (p : Part) (k w : Nat) (n : Nat) : (State.bump s p k w n).queue = s.queue := by
  simp only [State.bump, State.wr_queue]

@[simp] theorem State.bumpSat_queue (s : State) (p : Part) (k w : Nat) (n : Nat) : (State.bumpSat s p k w n).queue = s.queue := by
  simp only [State.bumpSat, State.wr_queue]

@[simp] theorem State.setOb_queue (s : State) (p : Part) (k i v : Nat) : (State.setOb s p k i v).queue = s.queue := by
  simp only [State.setOb, State.setOcts_queue]

@[simp] theorem State.setBytes_queue (s : State) (p : Part) (k i : Nat) (l : List Nat) : (s.setBytes p k i l).queue = s.queue := by
  induction l generalizing s i with
  | nil => rfl
  | cons b l ih => simp [State.setBytes, ih]

@[simp] theorem State.setElem_queue (s : State) (p : Part) (k n i v : Nat) : (State.setElem s p k n i v).queue = s.queue := by
  simp only [State.setElem, State.setBytes_queue]

@[simp] theorem State.setObit_queue (s : State) (p : Part) (k i : Nat) (b : Bool) : (State.setObit s p k i b).queue = s.queue := by
  simp only [State.setObit, State.setOb_queue]

@[simp] theorem State.writeOctets_queue (s : State) (p : Part) (k n : Nat) (bytes : List Nat) : (State.writeOctets s p k n bytes).queue = s.queue := by
  simp only [State.writeOctets, State.setBytes_queue]

theorem State.writeBy_queue (s : State) (w : Writer) (secure : Bool) (role : Role) (k : State → State)
    (h : (k s).queue = s.queue) : (s.writeBy w secure role k).queue = s.queue := by
  unfold State.writeBy
  split <;> simp [h]

theorem State.takeAction_queue {s t : State} {d : Die} {a : Nat} {arg : Option Nat} {x : FiredAction}
    (h : s.takeAction d a arg = some (x, t)) : t.queue = s.queue := by
  unfold State.takeAction at h
  dsimp only at h
  split at h
  · split at h
    · cases h; rfl
    · cases h
  · cases h

@[simp] theorem State.pushRecord_queue (s : State) (r : Record) : (State.pushRecord s r).queue = s.queue := by
  simp only [State.pushRecord, ite_outQueue, ite_queue, ite_self, State.setVager_queue, State.bump_queue]

@[simp] theorem State.recordLost_queue (s : State) : (State.recordLost s).queue = s.queue := by
  simp only [State.recordLost, ite_outQueue, ite_queue, ite_self, State.setVager_queue, State.pushRecord_queue]

@[simp] theorem State.recordV_queue (s : State) (code value : Nat) (detail : Nat) (severity : Nat) : (State.recordV s code value detail severity).queue = s.queue := by
  simp only [State.recordV, State.pushRecord_queue, State.recordLost_queue]

@[simp] theorem State.starisLost_queue (s : State) (d : Die) : (State.starisLost s d).queue = s.queue := by
  simp only [State.starisLost, ite_outQueue, ite_queue, ite_self, State.setDie_queue]

@[simp] theorem State.recordS_queue (s : State) (d : Die) (code value : Nat) (detail : Nat) (severity : Nat) : (State.recordS s d code value detail severity).queue = s.queue := by
  simp only [State.recordS, ite_outQueue, ite_queue, ite_self, State.setDie_queue, State.bump_queue, State.starisLost_queue]

@[simp] theorem State.record_queue (s : State) (p : Part) (code value : Nat) (detail : Nat) (severity : Nat) : (State.record s p code value detail severity).queue = s.queue := by
  unfold State.record
  (try dsimp only)
  repeat' split
  all_goals (try simp only [Prod.ext_iff] at *)
  all_goals (try casesm* _ ∧ _)
  all_goals (try subst_vars)
  all_goals (try simp only [State.recordS_queue, State.recordV_queue])

@[simp] theorem State.msix_queue (s : State) (p : Part) (v : Nat) : (State.msix s p v).queue = s.queue := by
  unfold State.msix
  (try dsimp only)
  repeat' split
  all_goals (try simp only [Prod.ext_iff] at *)
  all_goals (try casesm* _ ∧ _)
  all_goals (try subst_vars)
  all_goals (try simp only [ite_outQueue, ite_queue, ite_self, State.emit_queue])

@[simp] theorem State.notifyOne_queue (s : State) (x : Session) (node index sub : Nat) (data : List Nat) : (State.notifyOne s x node index sub data).queue = s.queue := by
  simp only [State.notifyOne, ite_outQueue, ite_queue, ite_self, State.setVager_queue, State.emit_queue, State.bump_queue]

@[simp] theorem State.notify_queue (s : State) (kind node index sub : Nat) (data : List Nat) : (State.notify s kind node index sub data).queue = s.queue := by
  simp only [State.notify, implies_true, foldl_queue, State.notifyOne_queue]

@[simp] theorem State.closeSessions_queue (s : State) (p : Session → Bool) : (s.closeSessions p).queue = s.queue := by
  unfold State.closeSessions
  refine (foldl_queue _ ?_ _ _).trans ?_
  · intro s a; rfl
  · rfl

@[simp] theorem State.report_queue (s : State) (r : FaultReport) : (State.report s r).queue = s.queue := by
  simp only [State.report, ite_outQueue, ite_queue, ite_self, State.setVager_queue, State.bump_queue, State.msix_queue,
    State.notify_queue, State.recordV_queue]

@[simp] theorem State.setLink_queue (s : State) (v : Bool) (p : Die) (l : LinkEnd) : (State.setLink s v p l).queue = s.queue := by
  simp only [State.setLink, ite_outQueue, ite_queue, ite_self, State.setVager_queue, State.setDie_queue]

@[simp] theorem State.send_queue (s : State) (v : Bool) (p : Die) (ch : Nat) (gs : List Gran) : (State.send s v p ch gs).queue = s.queue := by
  simp only [State.send, State.setLink_queue]

@[simp] theorem State.sendControl_queue (s : State) (v : Bool) (p : Die) (mtype head : Nat) (body : List Nat) : (State.sendControl s v p mtype head body).queue = s.queue := by
  simp only [State.sendControl, State.send_queue, State.setLink_queue]

@[simp] theorem State.command_queue (s : State) (p : Die) (head : Nat) : (State.command s p head).queue = s.queue := by
  simp only [State.command, State.sendControl_queue]

@[simp] theorem State.takeRx_queue (s : State) (v : Bool) (p : Die) (ch n : Nat) : (State.takeRx s v p ch n).queue = s.queue := by
  simp only [State.takeRx, State.setLink_queue]

@[simp] theorem State.setHbm_queue (s : State) (g : Nat) (x : Gran) : (State.setHbm s g x).queue = s.queue := by
  simp only [State.setHbm, State.setVager_queue]

@[simp] theorem State.countPort_queue (s : State) (key p : Nat) (n : Nat) : (State.countPort s key p n).queue = s.queue := by
  simp only [State.countPort, State.setElem_queue]

end Sys2Proof.Machine
end

