-- ==== Sys2Proof/Laws/QueueCapture.lean ====
section
/-! SUPPORT. Laws/QueueCapture.lean: the queue after each operation of the DMA channels that units hold, the capture taps and their fabric is the queue before it. -/

namespace Sys2Proof.Machine
open Sys2Proof

/-! ### DmaOps -/

@[simp] theorem State.setDmaCh_queue (s : State) (p : Part) (n : Nat) (c : Dma) : (State.setDmaCh s p n c).queue = s.queue := by
  unfold State.setDmaCh
  (try dsimp only)
  repeat' split
  all_goals (try simp only [Prod.ext_iff] at *)
  all_goals (try casesm* _ ∧ _)
  all_goals (try subst_vars)
  all_goals (try simp only [State.setVager_queue, State.setDie_queue])

@[simp] theorem State.dmaWrite_queue (s : State) (p : Part) (n sp a data : Nat) (poison : Bool) : (State.dmaWrite s p n sp a data poison).queue = s.queue := by
  unfold State.dmaWrite
  (try dsimp only)
  repeat' split
  all_goals (try simp only [Prod.ext_iff] at *)
  all_goals (try casesm* _ ∧ _)
  all_goals (try subst_vars)
  all_goals (try simp only [State.emit_queue, State.setHbm_queue])

@[simp] theorem State.dmaSignal_queue (s : State) (p : Part) (n x status fault bytes : Nat) (poison recordOk : Bool) : (State.dmaSignal s p n x status fault bytes poison recordOk).queue = s.queue := by
  simp only [State.dmaSignal, ite_outQueue, ite_queue, ite_self, State.dmaWrite_queue, State.msix_queue, State.wr_queue]

@[simp] theorem State.dmaTake_queue (s : State) (p : Part) (n : Nat) : (State.dmaTake s p n).queue = s.queue := by
  simp only [State.dmaTake, State.setDmaCh_queue, State.setElem_queue, State.wr_queue]

@[simp] theorem State.dmaPreempt_queue (s : State) (p : Part) (n : Nat) : (State.dmaPreempt s p n).queue = s.queue := by
  simp only [State.dmaPreempt, ite_outQueue, ite_queue, ite_self, State.dmaSignal_queue, State.wr_queue]

@[simp] theorem State.dmaNext_queue (s : State) (p : Part) (n : Nat) : (State.dmaNext s p n).queue = s.queue := by
  unfold State.dmaNext
  (try dsimp only)
  repeat' split
  all_goals (try simp only [Prod.ext_iff] at *)
  all_goals (try casesm* _ ∧ _)
  all_goals (try subst_vars)
  all_goals (try simp only [ite_outQueue, ite_queue, ite_self, State.dmaPreempt_queue, State.dmaTake_queue, State.setDmaCh_queue,
    State.wr_queue])

@[simp] theorem State.dmaFault_queue (s : State) (p : Part) (n code addr : Nat) : (State.dmaFault s p n code addr).queue = s.queue := by
  simp only [State.dmaFault, State.dmaSignal_queue, State.setDmaCh_queue, State.wr_queue]

@[simp] theorem State.dmaAborted_queue (s : State) (p : Part) (n : Nat) : (State.dmaAborted s p n).queue = s.queue := by
  simp only [State.dmaAborted, State.dmaSignal_queue]

@[simp] theorem State.dmaClaim_queue (s : State) (p : Part) (n u : Nat) : (State.dmaClaim s p n u).queue = s.queue := by
  simp only [State.dmaClaim, ite_outQueue, ite_queue, ite_self, State.dmaNext_queue, State.setDmaCh_queue]

@[simp] theorem State.dmaRelease_queue (s : State) (p : Part) (n : Nat) : (State.dmaRelease s p n).queue = s.queue := by
  simp only [State.dmaRelease, ite_outQueue, ite_queue, ite_self, State.setDmaCh_queue, State.wr_queue]

@[simp] theorem State.dmaSettle_queue (s : State) (p : Part) (n : Nat) : (State.dmaSettle s p n).queue = s.queue := by
  unfold State.dmaSettle
  (try dsimp only)
  repeat' split
  all_goals (try simp only [Prod.ext_iff] at *)
  all_goals (try casesm* _ ∧ _)
  all_goals (try subst_vars)
  all_goals (try simp only [ite_outQueue, ite_queue, ite_self, State.dmaClaim_queue, State.dmaRelease_queue])

@[simp] theorem State.dmaUnitFault_queue (s : State) (p : Part) (n code addr : Nat) : (State.dmaUnitFault s p n code addr).queue = s.queue := by
  simp only [State.dmaUnitFault, State.wr_queue]

/-! ### Trace -/

@[simp] theorem State.setTr_queue (s : State) (d : Die) (t : Trace) : (State.setTr s d t).queue = s.queue := by
  simp only [State.setTr, State.setDie_queue]

@[simp] theorem State.setTsrc_queue (s : State) (d : Die) (n : Nat) (x : TSource) : (State.setTsrc s d n x).queue = s.queue := by
  simp only [State.setTsrc, State.setTr_queue]

@[simp] theorem State.setTcfg_queue (s : State) (d : Die) (c : Nat) (x : CfgState) : (State.setTcfg s d c x).queue = s.queue := by
  simp only [State.setTcfg, State.setTr_queue]

theorem State.offerWord_queue {s t : State} {d : Die} {n : Nat} {ps : List (List Nat)} (h : s.offerWord d n ps = some t) :
    t.queue = s.queue := by
  unfold State.offerWord at h
  dsimp only at h
  split at h
  · cases h; simp only [State.wr_queue, State.setTr_queue]
  · cases h

@[simp] theorem State.offerWord_getD_queue (s : State) (d : Die) (n : Nat) (ps : List (List Nat)) :
    ((s.offerWord d n ps).getD s).queue = s.queue := by
  cases h : s.offerWord d n ps with
  | none => rfl
  | some t => exact State.offerWord_queue h

@[simp] theorem State.lose_queue (s : State) (d : Die) (n : Nat) : (State.lose s d n).queue = s.queue := by
  simp only [State.lose, State.setElem_queue, State.setTsrc_queue]

theorem State.recover_queue {s t : State} {d : Die} {n : Nat} (h : s.recover d n = some t) : t.queue = s.queue := by
  unfold State.recover at h
  dsimp only at h
  split at h
  · cases h; rfl
  · obtain ⟨u, hu, rfl⟩ := Option.map_eq_some_iff.mp h
    simp only [State.setTsrc_queue]
    exact State.offerWord_queue hu

@[simp] theorem State.emitSync_queue (s : State) (d : Die) (n r : Nat) : (s.emitSync d n r).1.queue = s.queue := by
  unfold State.emitSync
  dsimp only
  split
  next t h =>
    split at h
    · obtain ⟨u, hu, rfl⟩ := Option.map_eq_some_iff.mp h
      simp only [State.setTsrc_queue]
      exact State.offerWord_queue hu
    · exact State.recover_queue h
  · simp only [State.lose_queue]

@[simp] theorem State.syncFirst_queue (s : State) (d : Die) (n : Nat) : (s.syncFirst d n).1.queue = s.queue := by
  unfold State.syncFirst
  split
  · split
    · rfl
    · simp only [State.emitSync_queue]
  · split
    · exact State.recover_queue ‹_›
    · rfl

@[simp] theorem State.place_queue (s : State) (d : Die) (n keep : Nat) (ws : List Nat) : (s.place d n keep ws).1.queue = s.queue := by
  unfold State.place
  split
  · simp only [State.lose_queue]
  · simp only [State.setTsrc_queue]
    exact State.offerWord_queue ‹_›

@[simp] theorem State.emitPacket_queue (s : State) (d : Die) (n keep : Nat) (words : Nat → List Nat) :
    (s.emitPacket d n keep words).1.queue = s.queue := by
  unfold State.emitPacket
  split
  next t h => exact (State.lose_queue t d n).trans (by rw [← State.syncFirst_queue s d n, h])
  next t b h =>
    have e : t.queue = s.queue := by rw [← State.syncFirst_queue s d n, h]
    dsimp only
    generalize (if b = true then 0 else keep) = k
    split
    · exact (State.place_queue ..).trans e
    · split
      · exact (State.place_queue ..).trans e
      · split
        next u hu => exact (State.place_queue ..).trans ((by rw [← State.place_queue t d n _ _, hu] : u.queue = t.queue).trans e)
        next u hu => exact (State.lose_queue ..).trans ((by rw [← State.place_queue t d n _ _, hu] : u.queue = t.queue).trans e)

@[simp] theorem State.flushAtoms_queue (s : State) (d : Die) (n : Nat) : (State.flushAtoms s d n).queue = s.queue := by
  simp only [State.flushAtoms, ite_outQueue, ite_queue, ite_self, State.emitPacket_queue, State.setTsrc_queue]

@[simp] theorem State.emitAfterAtoms_queue (s : State) (d : Die) (n : Nat) (words : Nat → List Nat) : (State.emitAfterAtoms s d n words).1.queue = s.queue := by
  simp only [State.emitAfterAtoms, State.emitPacket_queue, State.flushAtoms_queue]

@[simp] theorem State.syncAfterAtoms_queue (s : State) (d : Die) (n r : Nat) : (State.syncAfterAtoms s d n r).queue = s.queue := by
  simp only [State.syncAfterAtoms, State.emitSync_queue, State.flushAtoms_queue]

@[simp] theorem State.retrace_queue (s : State) (d : Die) (n : Nat) : (State.retrace s d n).queue = s.queue := by
  unfold State.retrace
  (try dsimp only)
  repeat' split
  all_goals (try simp only [Prod.ext_iff] at *)
  all_goals (try casesm* _ ∧ _)
  all_goals (try subst_vars)
  all_goals (try simp only [ite_outQueue, ite_queue, ite_self, State.emitAfterAtoms_queue, State.emitSync_queue, State.setTsrc_queue])

@[simp] theorem State.retraceCfg_queue (s : State) (d : Die) (c : Nat) : (State.retraceCfg s d c).queue = s.queue := by
  simp only [State.retraceCfg, implies_true, foldl_queue, State.retrace_queue]

@[simp] theorem State.retraceAll_queue (s : State) (d : Die) : (State.retraceAll s d).queue = s.queue := by
  simp only [State.retraceAll, implies_true, foldl_queue, State.retrace_queue]

@[simp] theorem State.discardTrace_queue (s : State) (d : Die) (u : UnitState) : (State.discardTrace s d u).queue = s.queue := by
  simp only [State.discardTrace, State.bump_queue, State.setTr_queue]

@[simp] theorem State.setTrigBit_queue (s : State) (d : Die) (i : Nat) (b : Bool) : (State.setTrigBit s d i b).queue = s.queue := by
  simp only [State.setTrigBit, State.wr_queue]

@[simp] theorem State.setArmed_queue (s : State) (d : Die) (b : Bool) : (State.setArmed s d b).queue = s.queue := by
  simp only [State.setArmed, State.setTrigBit_queue, State.wr_queue]

@[simp] theorem State.freezeTrace_queue (s : State) (d : Die) : (State.freezeTrace s d).queue = s.queue := by
  unfold State.freezeTrace
  (try dsimp only)
  repeat' split
  all_goals (try simp only [Prod.ext_iff] at *)
  all_goals (try casesm* _ ∧ _)
  all_goals (try subst_vars)
  all_goals (try simp only [ite_outQueue, ite_queue, ite_self, State.takeNat_queue, State.discardTrace_queue, State.send_queue,
    State.setTrigBit_queue, State.wr_queue])

@[simp] theorem State.unitAfterStop_queue (s : State) (d : Die) : (State.unitAfterStop s d).queue = s.queue := by
  unfold State.unitAfterStop
  (try dsimp only)
  repeat' split
  all_goals (try simp only [Prod.ext_iff] at *)
  all_goals (try casesm* _ ∧ _)
  all_goals (try subst_vars)
  all_goals (try simp only [ite_outQueue, ite_queue, ite_self, State.freezeTrace_queue, State.setTr_queue, State.setTrigBit_queue])

@[simp] theorem State.tstamp_queue (s : State) (d : Die) : (s.tstamp d).queue = s.queue := State.offerWord_getD_queue ..

@[simp] theorem State.startCfg_queue (s : State) (d : Die) (c : Nat) : (s.startCfg d c).1.queue = s.queue := by
  unfold State.startCfg
  dsimp only
  split
  · simp only [State.bump_queue]
  · split
    · rfl
    · simp only [ite_queue, State.retraceCfg_queue, State.tstamp_queue, State.setTr_queue, State.setTcfg_queue,
        ite_self]

@[simp] theorem State.stopCfg_queue (s : State) (d : Die) (c : Nat) : (State.stopCfg s d c).queue = s.queue := by
  simp only [State.stopCfg, ite_outQueue, ite_queue, ite_self, State.retraceCfg_queue, State.setTcfg_queue,
    State.unitAfterStop_queue]

@[simp] theorem State.trigger_queue (s : State) (d : Die) (cause detail : Nat) : (State.trigger s d cause detail).queue = s.queue := by
  simp only [State.trigger, ite_outQueue, ite_queue, ite_self, State.bump_queue, State.setArmed_queue, State.setTr_queue,
    State.setTrigBit_queue, State.wr_queue]

@[simp] theorem State.acmpHit_queue (s : State) (d : Die) (a : Nat) : (s.acmpHit d a).queue = s.queue := by
  unfold State.acmpHit
  dsimp only
  simp only [ite_queue, State.trigger_queue, ite_self]
  rw [foldl_queue]
  · simp only [State.bump_queue]
  · intro s c
    split <;> simp only [ite_queue, State.retraceCfg_queue, State.setTcfg_queue, ite_self]

@[simp] theorem State.traceWordPacket_queue (s : State) (d : Die) (n kind last : Nat) (t : TrcWord) : (State.traceWordPacket s d n kind last t).queue = s.queue := by
  unfold State.traceWordPacket
  (try dsimp only)
  repeat' split
  all_goals (try simp only [Prod.ext_iff] at *)
  all_goals (try casesm* _ ∧ _)
  all_goals (try subst_vars)
  all_goals (try simp only [ite_outQueue, ite_queue, ite_self, State.emitAfterAtoms_queue, State.flushAtoms_queue, State.setTsrc_queue])

@[simp] theorem execTraceWord_queue (d : Die) (src : Fin 256) (cycles : Nat) (t : TrcWord) (s : State) : outQueue (execTraceWord d src cycles t s) = s.queue := by
  simp only [execTraceWord, outQueue_next, implies_true, ite_outQueue, ite_queue, ite_self, foldl_queue, State.acmpHit_queue,
    State.retrace_queue, State.setTsrc_queue, State.traceWordPacket_queue]

@[simp] theorem execCycleIdleLimit_queue (d : Die) (src : Fin 256) (s : State) : outQueue (execCycleIdleLimit d src s) = s.queue := by
  simp only [execCycleIdleLimit, outQueue_next, ite_outQueue, ite_queue, ite_self, State.syncAfterAtoms_queue]

@[simp] theorem execTstampInterval_queue (d : Die) (s : State) : outQueue (execTstampInterval d s) = s.queue := by
  simp only [execTstampInterval, ite_outQueue, outQueue_next, State.tstamp_queue, ite_self]

@[simp] theorem execSourceLpEntry_queue (d : Die) (src : Fin 256) (cycles : Nat) (s : State) : outQueue (execSourceLpEntry d src cycles s) = s.queue := by
  unfold execSourceLpEntry
  (try dsimp only)
  repeat' split
  all_goals (try simp only [Prod.ext_iff] at *)
  all_goals (try casesm* _ ∧ _)
  all_goals (try subst_vars)
  all_goals (try simp only [outQueue_next, ite_outQueue, ite_queue, ite_self, State.emitAfterAtoms_queue, State.setObit_queue,
    State.setTsrc_queue])

@[simp] theorem execSourceLpExit_queue (d : Die) (src : Fin 256) (s : State) : outQueue (execSourceLpExit d src s) = s.queue := by
  simp only [execSourceLpExit, outQueue_next, ite_outQueue, ite_queue, ite_self, State.emitSync_queue, State.setObit_queue,
    State.setTsrc_queue]

@[simp] theorem State.sourceReset_queue (s : State) (d : Die) (n : Nat) : (State.sourceReset s d n).queue = s.queue := by
  simp only [State.sourceReset, ite_outQueue, ite_queue, ite_self, State.emitPacket_queue, State.flushAtoms_queue,
    State.setTsrc_queue]

@[simp] theorem State.sourceResetExit_queue (s : State) (d : Die) (n : Nat) : (State.sourceResetExit s d n).queue = s.queue := by
  simp only [State.sourceResetExit, ite_outQueue, ite_queue, ite_self, State.emitSync_queue, State.setTsrc_queue]

@[simp] theorem execSourceReset_queue (d : Die) (src : Fin 256) (s : State) : outQueue (execSourceReset d src s) = s.queue := by
  simp only [execSourceReset, outQueue_next, State.sourceReset_queue]

@[simp] theorem execSourceResetExit_queue (d : Die) (src : Fin 256) (s : State) : outQueue (execSourceResetExit d src s) = s.queue := by
  simp only [execSourceResetExit, outQueue_next, State.sourceResetExit_queue]

@[simp] theorem execTraceConfigStart_queue (d : Die) (w : Option Writer) (c : Fin 4) (s : State) :
    outQueue (execTraceConfigStart d w c s) = s.queue := by
  unfold execTraceConfigStart
  split
  · rw [outQueue_next]
    split
    · rw [State.startCfg_queue, State.takeAction_queue ‹_ = some _›]
    · rfl
  · rw [outQueue_next]
    refine State.writeBy_queue _ _ _ _ _ ?_
    exact (State.answer_queue ..).trans (State.startCfg_queue ..)

@[simp] theorem execTraceConfigStop_queue (d : Die) (w : Option Writer) (c : Fin 4) (s : State) :
    outQueue (execTraceConfigStop d w c s) = s.queue := by
  unfold execTraceConfigStop
  split
  · rw [outQueue_next]
    split
    · rw [State.stopCfg_queue, State.takeAction_queue ‹_ = some _›]
    · rfl
  · rw [outQueue_next]
    refine State.writeBy_queue _ _ _ _ _ ?_
    exact (State.answer_queue ..).trans (State.stopCfg_queue ..)

@[simp] theorem execPennantModeWrite_queue (d : Die) (w : Writer) (value : Nat) (s : State) : outQueue (execPennantModeWrite d w value s) = s.queue := by
  simp only [execPennantModeWrite, outQueue_next, ite_outQueue, ite_queue, ite_self, State.writeBy_queue, State.answer_queue,
    State.wr_queue, State.writeBy_queue]

@[simp] theorem execSinkSelectWrite_queue (d : Die) (w : Writer) (value : Nat) (s : State) : outQueue (execSinkSelectWrite d w value s) = s.queue := by
  simp only [execSinkSelectWrite, outQueue_next, ite_outQueue, ite_queue, ite_self, State.writeBy_queue, State.answer_queue,
    State.dmaSettle_queue, State.wr_queue, State.writeBy_queue]

@[simp] theorem execSinkReset_queue (d : Die) (w : Writer) (s : State) : outQueue (execSinkReset d w s) = s.queue := by
  simp only [execSinkReset, outQueue_next, implies_true, ite_outQueue, ite_queue, ite_self, foldl_queue, State.writeBy_queue,
    State.answer_queue, State.setTr_queue, State.wr_queue, State.writeBy_queue]

@[simp] theorem State.sinkFull_queue (s : State) (d : Die) : (State.sinkFull s d).queue = s.queue := by
  simp only [State.sinkFull, State.discardTrace_queue]

theorem State.sinkPut_queue {s t : State} {d : Die} {g : TGran} (h : s.sinkPut d g = some t) : t.queue = s.queue := by
  unfold State.sinkPut at h
  dsimp only at h
  split at h
  · cases h; simp only [State.setTr_queue]
  · split at h
    · cases h
    · cases h; simp only [State.emit_queue, State.setTr_queue]
  · cases h; simp only [State.send_queue]

@[simp] theorem State.sinkAdvance_queue (s : State) (d : Die) (g : TGran) : (State.sinkAdvance s d g).queue = s.queue := by
  simp only [State.sinkAdvance, ite_outQueue, ite_queue, ite_self, State.bump_queue, State.freezeTrace_queue, State.setTr_queue,
    State.sinkFull_queue, State.trigger_queue, State.wr_queue]

@[simp] theorem State.traceFault_queue (s : State) (d : Die) (code addr : Nat) : (State.traceFault s d code addr).queue = s.queue := by
  simp only [State.traceFault, State.dmaUnitFault_queue, State.wr_queue]

@[simp] theorem execSinkGranuleWrite_queue (d : Die) (s : State) : outQueue (execSinkGranuleWrite d s) = s.queue := by
  unfold execSinkGranuleWrite
  dsimp only
  split
  · split
    · rfl
    · split
      · rw [outQueue_next, State.sinkAdvance_queue, State.sinkPut_queue ‹_ = some _›]
      · rw [outQueue_next, State.traceFault_queue]
  · rfl

@[simp] theorem State.traceDmaDone_queue (s : State) (d : Die) (faulted : Bool) : (State.traceDmaDone s d faulted).queue = s.queue := by
  simp only [State.traceDmaDone, ite_outQueue, ite_queue, ite_self, State.freezeTrace_queue, State.setTr_queue,
    State.traceFault_queue]

@[simp] theorem execTrigArm_queue (d : Die) (w : Writer) (value : Bool) (s : State) : outQueue (execTrigArm d w value s) = s.queue := by
  simp only [execTrigArm, outQueue_next, State.writeBy_queue, State.answer_queue, State.setArmed_queue, State.writeBy_queue]

@[simp] theorem execTrigForce_queue (d : Die) (w : Writer) (s : State) : outQueue (execTrigForce d w s) = s.queue := by
  simp only [execTrigForce, outQueue_next, State.writeBy_queue, State.answer_queue, State.trigger_queue, State.writeBy_queue]

@[simp] theorem execTraceGranuleRx_queue (p : Die) (g : Nat) (poison : Bool) (s : State) : outQueue (execTraceGranuleRx p g poison s) = s.queue := by
  simp only [execTraceGranuleRx, outQueue_next, ite_outQueue, ite_queue, ite_self, State.bump_queue, State.countPort_queue,
    State.sendControl_queue, State.setHbm_queue, State.wr_queue]

@[simp] theorem execTraceFreezeNoticeRx_queue (p : Die) (s : State) : outQueue (execTraceFreezeNoticeRx p s) = s.queue := by
  simp only [execTraceFreezeNoticeRx, outQueue_next, State.wr_queue]

@[simp] theorem execTraceCtlRx_queue (d : Die) (s : State) : outQueue (execTraceCtlRx d s) = s.queue := by
  simp only [execTraceCtlRx, outQueue_next, ite_outQueue, ite_queue, ite_self, State.sinkFull_queue]

@[simp] theorem execSliceConfigWrite_queue (p : Die) (w : Writer) (offset : Nat) (bytes : Nat) (s : State) : outQueue (execSliceConfigWrite p w offset bytes s) = s.queue := by
  simp only [execSliceConfigWrite, outQueue_next, ite_outQueue, ite_queue, ite_self, State.writeBy_queue, State.answer_queue,
    State.wr_queue, State.writeBy_queue]

@[simp] theorem execSliceReset_queue (p : Die) (w : Writer) (s : State) : outQueue (execSliceReset p w s) = s.queue := by
  simp only [execSliceReset, outQueue_next, State.writeBy_queue, State.answer_queue, State.wr_queue, State.writeBy_queue]

/-! ### Activity -/

@[simp] theorem State.setCap_queue (s : State) (d : Die) (c : Capture) : (State.setCap s d c).queue = s.queue := by
  simp only [State.setCap, State.setDie_queue]

@[simp] theorem State.setEn_queue (s : State) (d : Die) (e : Energy) : (State.setEn s d e).queue = s.queue := by
  simp only [State.setEn, State.setDie_queue]

@[simp] theorem State.setCtr_queue (s : State) (d : Die) (n : Nat) (c : Counter) : (State.setCtr s d n c).queue = s.queue := by
  simp only [State.setCtr, State.setCap_queue]

@[simp] theorem State.countEdge_queue (s : State) (d : Die) (src : Nat) (active : Bool) (ctx : Option (Nat × Nat)) : (State.countEdge s d src active ctx).queue = s.queue := by
  simp only [State.countEdge, ite_outQueue, ite_queue, ite_self, State.setCap_queue]

@[simp] theorem State.edgeForWaits_queue (s : State) (d : Die) (src : Nat) : (State.edgeForWaits s d src).queue = s.queue := by
  simp only [State.edgeForWaits, ite_outQueue, ite_queue, ite_self, State.setCap_queue]

@[simp] theorem State.edgeForTrigger_queue (s : State) (d : Die) (src : Nat) : (State.edgeForTrigger s d src).queue = s.queue := by
  simp only [State.edgeForTrigger, ite_outQueue, ite_queue, ite_self, State.trigger_queue]

@[simp] theorem State.internalEvent_queue (s : State) (d : Die) (src : Nat) : (State.internalEvent s d src).queue = s.queue := by
  simp only [State.internalEvent, State.countEdge_queue, State.edgeForTrigger_queue, State.edgeForWaits_queue]

@[simp] theorem State.energyEdge_queue (s : State) (d : Die) (i slot ectx : Nat) : (State.energyEdge s d i slot ectx).queue = s.queue := by
  simp only [State.energyEdge, ite_outQueue, ite_queue, ite_self, State.bump_queue, State.setEn_queue]

@[simp] theorem State.inputEdge_queue (s : State) (d : Die) (i : Nat) (active : Bool) : (State.inputEdge s d i active).queue = s.queue := by
  simp only [State.inputEdge, ite_outQueue, ite_queue, ite_self, State.countEdge_queue, State.edgeForTrigger_queue,
    State.edgeForWaits_queue, State.energyEdge_queue]

/-! ### Builders -/

@[simp] theorem State.setFrow_queue (s : State) (r : Nat) (x : FRow) : (State.setFrow s r x).queue = s.queue := by
  simp only [State.setFrow, State.setVager_queue]

@[simp] theorem State.setBuilder_queue (s : State) (n : Nat) (b : Builder) : (State.setBuilder s n b).queue = s.queue := by
  simp only [State.setBuilder, State.setVager_queue]

@[simp] theorem execBldConfigWrite_queue (w : Writer) (config : List Nat) (s : State) : outQueue (execBldConfigWrite w config s) = s.queue := by
  simp only [execBldConfigWrite, outQueue_next, ite_outQueue, ite_queue, ite_self, State.writeBy_queue, State.answer_queue,
    State.bump_queue, State.setBuilder_queue, State.wr_queue, State.writeBy_queue]

@[simp] theorem execBldReset_queue (w : Writer) (s : State) : outQueue (execBldReset w s) = s.queue := by
  simp only [execBldReset, outQueue_next, State.writeBy_queue, State.answer_queue, State.setBuilder_queue, State.writeBy_queue]

@[simp] theorem execEntDescWrite_queue (w : Writer) (value : Nat) (s : State) : outQueue (execEntDescWrite w value s) = s.queue := by
  simp only [execEntDescWrite, outQueue_next, ite_outQueue, ite_queue, ite_self, State.writeBy_queue, State.answer_queue,
    State.setFrow_queue, State.writeBy_queue]

@[simp] theorem execEntClear_queue (w : Writer) (s : State) : outQueue (execEntClear w s) = s.queue := by
  simp only [execEntClear, outQueue_next, State.writeBy_queue, State.answer_queue, State.setFrow_queue, State.writeBy_queue]

@[simp] theorem State.setSketch_queue (s : State) (i : Nat) (x : SkSlot) : (State.setSketch s i x).queue = s.queue := by
  simp only [State.setSketch, State.setVager_queue]

@[simp] theorem execSkWindowWrite_queue (w : Writer) (value : Nat) (s : State) : outQueue (execSkWindowWrite w value s) = s.queue := by
  simp only [execSkWindowWrite, outQueue_next, ite_outQueue, ite_queue, ite_self, State.writeBy_queue, State.answer_queue,
    State.setSketch_queue, State.writeBy_queue]

@[simp] theorem State.setRefReg_queue (s : State) (r : Nat) (x : RefReg) : (State.setRefReg s r x).queue = s.queue := by
  simp only [State.setRefReg, State.setVager_queue]

@[simp] theorem State.loadRefs_queue (s : State) (cg : Nat) (p : Partial) : (State.loadRefs s cg p).queue = s.queue := by
  simp only [State.loadRefs, ite_outQueue, ite_queue, ite_self, State.setVager_queue]

@[simp] theorem execRefValueWrite_queue (w : Writer) (value : Int) (s : State) : outQueue (execRefValueWrite w value s) = s.queue := by
  simp only [execRefValueWrite, outQueue_next, ite_outQueue, ite_queue, ite_self, State.writeBy_queue, State.answer_queue,
    State.setRefReg_queue, State.writeBy_queue]

@[simp] theorem State.builderOut_queue (s : State) (n : Nat) (b : Builder) (y : Option Int) : (State.builderOut s n b y).queue = s.queue := by
  simp only [State.builderOut, State.setBuilder_queue, State.setFrow_queue]

@[simp] theorem State.builderFault_queue (s : State) (n : Nat) : (State.builderFault s n).queue = s.queue := by
  simp only [State.builderFault, State.builderOut_queue, State.bump_queue]

@[simp] theorem State.builderRun_queue (s : State) (n : Nat) (v : Int) (t : Nat) (ovr spoilt : Bool) : (State.builderRun s n v t ovr spoilt).queue = s.queue := by
  simp only [State.builderRun, ite_outQueue, ite_queue, ite_self, State.builderFault_queue, State.builderOut_queue,
    State.bump_queue, State.setBuilder_queue, State.setSketch_queue]

@[simp] theorem State.runBuilders_queue (s : State) (sid : Nat) (v : Int) (t : Nat) (ovr : Bool) (spoilt : List Nat) : (State.runBuilders s sid v t ovr spoilt).queue = s.queue := by
  simp only [State.runBuilders, implies_true, ite_outQueue, ite_queue, ite_self, foldl_queue, State.builderRun_queue]

@[simp] theorem State.builderSweep_queue (s : State) (n : Nat) : (State.builderSweep s n).queue = s.queue := by
  simp only [State.builderSweep, ite_outQueue, ite_queue, ite_self, State.builderOut_queue]

/-! ### Capture -/

@[simp] theorem State.markOverrun_queue (s : State) (d : Die) (src : Nat) : (State.markOverrun s d src).queue = s.queue := by
  simp only [State.markOverrun, State.setCap_queue]

@[simp] theorem execEventEdge_queue (d : Die) (input : Fin 4096) (high : Bool) (merged : Bool) (s : State) : outQueue (execEventEdge d input high merged s) = s.queue := by
  simp only [execEventEdge, outQueue_next, ite_outQueue, ite_queue, ite_self, State.inputEdge_queue, State.markOverrun_queue,
    State.setCap_queue, State.setObit_queue]

@[simp] theorem execPolarityWrite_queue (d : Die) (w : Writer) (polarity : List Nat) (s : State) : outQueue (execPolarityWrite d w polarity s) = s.queue := by
  simp only [execPolarityWrite, outQueue_next, implies_true, ite_outQueue, ite_queue, ite_self, foldl_queue, State.writeBy_queue,
    State.answer_queue, State.markOverrun_queue, State.setBytes_queue, State.writeBy_queue, State.writeOctets_queue]

@[simp] theorem execStaleScan_queue (d : Die) (held : List Nat) (s : State) : outQueue (execStaleScan d held s) = s.queue := by
  simp only [execStaleScan, outQueue_next, implies_true, ite_outQueue, ite_queue, ite_self, foldl_queue, State.markOverrun_queue,
    State.recordS_queue, State.setObit_queue]

@[simp] theorem State.clearBits_queue (s : State) (p : Part) (k n : Nat) (mask : List Nat) : (State.clearBits s p k n mask).queue = s.queue := by
  simp only [State.clearBits, State.setBytes_queue]

@[simp] theorem execEvtFlagsClear_queue (d : Die) (w : Writer) (mask : List Nat) (s : State) : outQueue (execEvtFlagsClear d w mask s) = s.queue := by
  simp only [execEvtFlagsClear, outQueue_next, ite_outQueue, ite_queue, ite_self, State.writeBy_queue, State.answer_queue,
    State.clearBits_queue, State.writeBy_queue]

@[simp] theorem State.disableNsStreams_queue (s : State) (d : Die) (n : Nat) : (State.disableNsStreams s d n).queue = s.queue := by
  simp only [State.disableNsStreams, ite_outQueue, ite_queue, ite_self, State.setCap_queue, State.wr_queue]

@[simp] theorem execCntConfigWrite_queue (d : Die) (w : Writer) (n : Fin 65536) (value : Nat) (s : State) : outQueue (execCntConfigWrite d w n value s) = s.queue := by
  simp only [execCntConfigWrite, outQueue_next, ite_outQueue, ite_queue, ite_self, State.writeBy_queue, State.answer_queue,
    State.disableNsStreams_queue, State.setCtr_queue, State.writeBy_queue]

@[simp] theorem execCntClear_queue (d : Die) (w : Writer) (n : Fin 65536) (s : State) : outQueue (execCntClear d w n s) = s.queue := by
  simp only [execCntClear, outQueue_next, ite_outQueue, ite_queue, ite_self, State.writeBy_queue, State.answer_queue,
    State.setCtr_queue, State.writeBy_queue]

@[simp] theorem State.pushSnapshot_queue (s : State) (d : Die) : (State.pushSnapshot s d).queue = s.queue := by
  simp only [State.pushSnapshot, implies_true, foldl_queue, State.sendControl_queue]

@[simp] theorem State.freezeCounters_queue (s : State) (d : Die) (counter tst : Nat) : (State.freezeCounters s d counter tst).queue = s.queue := by
  simp only [State.freezeCounters, ite_outQueue, ite_queue, ite_self, State.bump_queue, State.pushSnapshot_queue,
    State.setCap_queue, State.wr_queue]

@[simp] theorem execFreeze_queue (d : Die) (s : State) : outQueue (execFreeze d s) = s.queue := by
  unfold execFreeze
  (try dsimp only)
  repeat' split
  all_goals (try (have e := State.takeAction_queue ‹_ = some _›))
  all_goals (try simp only [outQueue_next, State.freezeCounters_queue, State.takeAction_queue])
  all_goals (try assumption)

@[simp] theorem execSnapRelease_queue (d : Die) (w : Writer) (s : State) : outQueue (execSnapRelease d w s) = s.queue := by
  simp only [execSnapRelease, outQueue_next, State.writeBy_queue, State.answer_queue, State.wr_queue, State.writeBy_queue]

@[simp] theorem State.addRailEnergy_queue (s : State) (d : Die) (r e : Nat) : (State.addRailEnergy s d r e).queue = s.queue := by
  simp only [State.addRailEnergy, ite_outQueue, ite_queue, ite_self, State.setEn_queue]

@[simp] theorem State.railSample_queue (s : State) (d : Die) (r volts amps : Nat) : (State.railSample s d r volts amps).queue = s.queue := by
  simp only [State.railSample, ite_outQueue, ite_queue, ite_self, State.addRailEnergy_queue, State.setCap_queue,
    State.setElem_queue]

@[simp] theorem State.advanceSequence_queue (s : State) (d : Die) (ch : Nat) : (State.advanceSequence s d ch).queue = s.queue := by
  unfold State.advanceSequence
  (try dsimp only)
  repeat' split
  all_goals (try simp only [Prod.ext_iff] at *)
  all_goals (try casesm* _ ∧ _)
  all_goals (try subst_vars)
  all_goals (try simp only [ite_outQueue, ite_queue, ite_self, State.setCap_queue])

@[simp] theorem State.opticalMargin_queue (s : State) (d : Die) (n : Nat) (power : Int) : (State.opticalMargin s d n power).queue = s.queue := by
  simp only [State.opticalMargin, ite_outQueue, ite_queue, ite_self, State.bump_queue, State.setCap_queue, State.setElem_queue]

@[simp] theorem execConverterResult_queue (d : Die) (r : ConverterSample) (s : State) : outQueue (execConverterResult d r s) = s.queue := by
  unfold execConverterResult
  (try dsimp only)
  repeat' split
  all_goals (try simp only [Prod.ext_iff] at *)
  all_goals (try casesm* _ ∧ _)
  all_goals (try subst_vars)
  all_goals (try simp only [outQueue_next, ite_outQueue, ite_queue, ite_self, State.advanceSequence_queue, State.internalEvent_queue,
    State.opticalMargin_queue, State.railSample_queue, State.setElem_queue])

@[simp] theorem State.rephase_queue (s : State) (d : Die) (c counter : Nat) : (State.rephase s d c counter).queue = s.queue := by
  simp only [State.rephase, implies_true, foldl_queue, State.setCap_queue, State.setEn_queue]

@[simp] theorem execRailConverterRephase_queue (d : Die) (c : Fin 4) (s : State) : outQueue (execRailConverterRephase d c s) = s.queue := by
  unfold execRailConverterRephase
  (try dsimp only)
  repeat' split
  all_goals (try (have e := State.takeAction_queue ‹_ = some _›))
  all_goals (try simp only [outQueue_next, State.rephase_queue, State.takeAction_queue])
  all_goals (try assumption)

@[simp] theorem State.startSequence_queue (s : State) (d : Die) (k : Nat) : (State.startSequence s d k).queue = s.queue := by
  unfold State.startSequence
  (try dsimp only)
  repeat' split
  all_goals (try simp only [Prod.ext_iff] at *)
  all_goals (try casesm* _ ∧ _)
  all_goals (try subst_vars)
  all_goals (try simp only [ite_outQueue, ite_queue, ite_self, State.bump_queue, State.setCap_queue])

@[simp] theorem execConverterSequenceStart_queue (d : Die) (c : Fin 4) (s : State) : outQueue (execConverterSequenceStart d c s) = s.queue := by
  unfold execConverterSequenceStart
  (try dsimp only)
  repeat' split
  all_goals (try (have e := State.takeAction_queue ‹_ = some _›))
  all_goals (try simp only [outQueue_next, State.startSequence_queue, State.takeAction_queue])
  all_goals (try assumption)

@[simp] theorem execSequencePeriodRestart_queue (d : Die) (c : Fin 4) (s : State) : outQueue (execSequencePeriodRestart d c s) = s.queue := by
  simp only [execSequencePeriodRestart, outQueue_next, ite_outQueue, ite_queue, ite_self, State.startSequence_queue]

@[simp] theorem execDroopTrip_queue (d : Die) (n : Fin 128) (s : State) : outQueue (execDroopTrip d n s) = s.queue := by
  simp only [execDroopTrip, outQueue_next, ite_outQueue, ite_queue, ite_self, State.internalEvent_queue, State.setCap_queue,
    State.setElem_queue, State.setObit_queue]

@[simp] theorem execCanaryFail_queue (d : Die) (n : Fin 256) (s : State) : outQueue (execCanaryFail d n s) = s.queue := by
  simp only [execCanaryFail, outQueue_next, ite_outQueue, ite_queue, ite_self, State.internalEvent_queue, State.setObit_queue]

@[simp] theorem execCanaryCodeWrite_queue (d : Die) (w : Writer) (codes : List Nat) (s : State) : outQueue (execCanaryCodeWrite d w codes s) = s.queue := by
  simp only [execCanaryCodeWrite, outQueue_next, ite_outQueue, ite_queue, ite_self, State.writeBy_queue, State.answer_queue,
    State.writeBy_queue, State.writeOctets_queue]

@[simp] theorem execMarginPassStart_queue (d : Die) (k : MarginKind) (s : State) : outQueue (execMarginPassStart d k s) = s.queue := by
  unfold execMarginPassStart
  (try dsimp only)
  repeat' split
  all_goals (try simp only [Prod.ext_iff] at *)
  all_goals (try casesm* _ ∧ _)
  all_goals (try subst_vars)
  all_goals (try simp only [outQueue_next, ite_outQueue, ite_queue, ite_self, State.setCap_queue])

@[simp] theorem execMarginDwellEnd_queue (d : Die) (r : Fin 16) (tripped : Bool) (s : State) : outQueue (execMarginDwellEnd d r tripped s) = s.queue := by
  unfold execMarginDwellEnd
  (try dsimp only)
  repeat' split
  all_goals (try simp only [Prod.ext_iff] at *)
  all_goals (try casesm* _ ∧ _)
  all_goals (try subst_vars)
  all_goals (try simp only [outQueue_next, ite_outQueue, ite_queue, ite_self, State.bump_queue, State.setCap_queue, State.setElem_queue])

@[simp] theorem execMarginTimingProbeDone_queue (d : Die) (n : Fin 256) (passed : Bool) (s : State) : outQueue (execMarginTimingProbeDone d n passed s) = s.queue := by
  simp only [execMarginTimingProbeDone, outQueue_next, ite_outQueue, ite_queue, ite_self, State.bump_queue, State.setCap_queue,
    State.setOb_queue]

@[simp] theorem State.setSstream_queue (s : State) (d : Die) (n : Nat) (x : SStream) : (State.setSstream s d n x).queue = s.queue := by
  simp only [State.setSstream, State.setCap_queue]

@[simp] theorem State.schedule_queue (s : State) (d : Die) (n : Nat) : (State.schedule s d n).queue = s.queue := by
  unfold State.schedule
  (try dsimp only)
  repeat' split
  all_goals (try simp only [Prod.ext_iff] at *)
  all_goals (try casesm* _ ∧ _)
  all_goals (try subst_vars)
  all_goals (try simp only [outQueue_next, ite_outQueue, ite_queue, ite_self, State.setSstream_queue])

@[simp] theorem State.rebase_queue (s : State) (d : Die) (n : Nat) : (State.rebase s d n).queue = s.queue := by
  simp only [State.rebase, State.setSstream_queue]

@[simp] theorem execStreamStartArm_queue (d : Die) (w : Writer) (value : Bool) (s : State) : outQueue (execStreamStartArm d w value s) = s.queue := by
  simp only [execStreamStartArm, outQueue_next, State.writeBy_queue, State.answer_queue, State.wr_queue, State.writeBy_queue]

@[simp] theorem execStreamStartReached_queue (d : Die) (s : State) : outQueue (execStreamStartReached d s) = s.queue := by
  simp only [execStreamStartReached, outQueue_next, ite_outQueue, ite_queue, ite_self, State.setCap_queue, State.wr_queue]

@[simp] theorem State.sampleValue_queue (s : State) (d : Die) (x : SStream) : (State.sampleValue s d x).2.2.queue = s.queue := by
  unfold State.sampleValue
  (try dsimp only)
  repeat' split
  all_goals (try simp only [Prod.ext_iff] at *)
  all_goals (try casesm* _ ∧ _)
  all_goals (try subst_vars)
  all_goals (try simp only [ite_outQueue, ite_queue, ite_self, State.takeNat_queue])

@[simp] theorem State.takeRecord_queue (s : State) (d : Die) (n : Nat) (trig : Bool) : (State.takeRecord s d n trig).queue = s.queue := by
  simp only [State.takeRecord, ite_outQueue, ite_queue, ite_self, State.bump_queue, State.sampleValue_queue, State.setCap_queue,
    State.setSstream_queue]

@[simp] theorem execStreamPeriodicSample_queue (d : Die) (n : Fin 65536) (s : State) : outQueue (execStreamPeriodicSample d n s) = s.queue := by
  simp only [execStreamPeriodicSample, outQueue_next, ite_outQueue, ite_queue, ite_self, State.bump_queue, State.setSstream_queue,
    State.takeRecord_queue]

@[simp] theorem execStreamEnableWrite_queue (d : Die) (w : Writer) (n : Fin 65536) (value : Bool) (s : State) : outQueue (execStreamEnableWrite d w n value s) = s.queue := by
  simp only [execStreamEnableWrite, outQueue_next, ite_outQueue, ite_queue, ite_self, State.writeBy_queue, State.answer_queue,
    State.rebase_queue, State.schedule_queue, State.setSstream_queue, State.wr_queue, State.writeBy_queue]

@[simp] theorem execStreamScheduleWrite_queue (d : Die) (w : Writer) (n : Fin 65536) (period : Nat) (phase : Nat) (s : State) : outQueue (execStreamScheduleWrite d w n period phase s) = s.queue := by
  simp only [execStreamScheduleWrite, outQueue_next, ite_outQueue, ite_queue, ite_self, State.writeBy_queue, State.answer_queue,
    State.schedule_queue, State.setSstream_queue, State.wr_queue, State.writeBy_queue]

@[simp] theorem execStreamSourceWrite_queue (d : Die) (w : Writer) (n : Fin 65536) (value : Nat) (s : State) : outQueue (execStreamSourceWrite d w n value s) = s.queue := by
  simp only [execStreamSourceWrite, outQueue_next, ite_outQueue, ite_queue, ite_self, State.writeBy_queue, State.answer_queue,
    State.rebase_queue, State.setSstream_queue, State.writeBy_queue]

@[simp] theorem State.setDslot_queue (s : State) (d : Die) (n : Nat) (x : DumpSlot) : (State.setDslot s d n x).queue = s.queue := by
  simp only [State.setDslot, State.setCap_queue]

@[simp] theorem State.dumpFlag_queue (s : State) (d : Die) (n i : Nat) (b : Bool) : (State.dumpFlag s d n i b).queue = s.queue := by
  simp only [State.dumpFlag, State.wr_queue]

@[simp] theorem State.dumpArmed_queue (s : State) (d : Die) (n : Nat) (b : Bool) : (State.dumpArmed s d n b).queue = s.queue := by
  simp only [State.dumpArmed, State.dmaSettle_queue, State.dumpFlag_queue, State.wr_queue]

@[simp] theorem execDumpArm_queue (d : Die) (w : Writer) (n : Fin 16) (value : Bool) (s : State) : outQueue (execDumpArm d w n value s) = s.queue := by
  simp only [execDumpArm, outQueue_next, ite_outQueue, ite_queue, ite_self, State.writeBy_queue, State.answer_queue,
    State.dumpArmed_queue, State.dumpFlag_queue, State.setDslot_queue, State.wr_queue, State.writeBy_queue]

@[simp] theorem State.triggerDump_queue (s : State) (d : Die) (n : Nat) : (State.triggerDump s d n).queue = s.queue := by
  simp only [State.triggerDump, ite_outQueue, ite_queue, ite_self, State.setDslot_queue]

@[simp] theorem execDumpTrigger_queue (d : Die) (n : Fin 16) (s : State) : outQueue (execDumpTrigger d n s) = s.queue := by
  unfold execDumpTrigger
  (try dsimp only)
  repeat' split
  all_goals (try (have e := State.takeAction_queue ‹_ = some _›))
  all_goals (try simp only [outQueue_next, State.takeAction_queue, State.triggerDump_queue])
  all_goals (try assumption)

@[simp] theorem State.dumpStart_queue (s : State) (d : Die) (n : Nat) (c : CdtWord) : (State.dumpStart s d n c).queue = s.queue := by
  simp only [State.dumpStart, ite_outQueue, ite_queue, ite_self, State.emit_queue, State.dumpArmed_queue, State.dumpFlag_queue,
    State.setDslot_queue]

@[simp] theorem State.dropHold_queue (s : State) (d : Die) : (State.dropHold s d).queue = s.queue := by
  simp only [State.dropHold, ite_outQueue, ite_queue, ite_self, State.emit_queue]

@[simp] theorem State.tearDumps_queue (s : State) (d : Die) (base bytes : Nat) : (State.tearDumps s d base bytes).queue = s.queue := by
  simp only [State.tearDumps, ite_outQueue, ite_queue, ite_self, State.setCap_queue]

@[simp] theorem State.dumpWrite_queue (s : State) (d : Die) (r : Option Nat) (a n : Nat) (l : List Gran) :
    (s.dumpWrite d r a n l).1.queue = s.queue := by
  induction l generalizing s a n with
  | nil => rfl
  | cons g l ih =>
    unfold State.dumpWrite
    split
    · simp only [State.dmaUnitFault_queue]
    · split
      · simp only [State.dmaUnitFault_queue]
      · rw [ih, State.emit_queue]

@[simp] theorem State.dumpSend_queue (s : State) (d : Die) (i : Nat) (gs : List Gran) (refused : Option Nat) : (State.dumpSend s d i gs refused).1.queue = s.queue := by
  unfold State.dumpSend
  (try dsimp only)
  repeat' split
  all_goals (try simp only [Prod.ext_iff] at *)
  all_goals (try casesm* _ ∧ _)
  all_goals (try subst_vars)
  all_goals (try simp only [ite_outQueue, ite_queue, ite_self, State.dumpWrite_queue, State.send_queue])

@[simp] theorem State.dumpDone_queue (s : State) (d : Die) (i : Nat) (x : DumpCopy) (n : Nat) : (State.dumpDone s d i x n).queue = s.queue := by
  simp only [State.dumpDone, ite_outQueue, ite_queue, ite_self, State.dropHold_queue, State.dumpArmed_queue, State.dumpFlag_queue,
    State.setCap_queue, State.setDslot_queue, State.wr_queue]

@[simp] theorem execDumpCopyEnd_queue (d : Die) (n : Fin 16) (data : List (Nat × Bool)) (refused : Option Nat) (s : State) : outQueue (execDumpCopyEnd d n data refused s) = s.queue := by
  unfold execDumpCopyEnd
  (try dsimp only)
  repeat' split
  all_goals (try simp only [Prod.ext_iff] at *)
  all_goals (try casesm* _ ∧ _)
  all_goals (try subst_vars)
  all_goals (try simp only [outQueue_next, ite_outQueue, ite_queue, ite_self, State.dumpDone_queue, State.dumpSend_queue])

@[simp] theorem execDumpHoldExpiry_queue (d : Die) (n : Fin 16) (s : State) : outQueue (execDumpHoldExpiry d n s) = s.queue := by
  unfold execDumpHoldExpiry
  (try dsimp only)
  repeat' split
  all_goals (try simp only [Prod.ext_iff] at *)
  all_goals (try casesm* _ ∧ _)
  all_goals (try subst_vars)
  all_goals (try simp only [outQueue_next, ite_outQueue, ite_queue, ite_self, State.dropHold_queue, State.setDslot_queue])

end Sys2Proof.Machine
end

