-- ==== Sys2Proof/Laws/QueueTime.lean ====
section
/-! SUPPORT. Laws/QueueTime.lean: the queue after each operation of the checks, the clocks, the Cleat sequencers, the gates and the shared parts of the links, the tree and the Sheet is the queue before it. -/

namespace Sys2Proof.Machine
open Sys2Proof

/-! ### Checks -/

@[simp] theorem State.setCk_queue (s : State) (d : Die) (c : Checks) : (State.setCk s d c).queue = s.queue := by
  simp only [State.setCk, State.setDie_queue]

@[simp] theorem State.sendDigestEvent_queue (s : State) (d : Die) (g : Nat) : (State.sendDigestEvent s d g).queue = s.queue := by
  simp only [State.sendDigestEvent, State.bump_queue, State.recordS_queue, State.sendControl_queue]

@[simp] theorem State.digestEvent_queue (s : State) (d : Die) (g : Nat) : (State.digestEvent s d g).queue = s.queue := by
  unfold State.digestEvent
  (try dsimp only)
  repeat' split
  all_goals (try simp only [Prod.ext_iff] at *)
  all_goals (try casesm* _ ∧ _)
  all_goals (try subst_vars)
  all_goals (try simp only [State.sendDigestEvent_queue, State.setCk_queue])

@[simp] theorem execCoalesceWindowEnd_queue (d : Die) (code : Nat) (s : State) : outQueue (execCoalesceWindowEnd d code s) = s.queue := by
  unfold execCoalesceWindowEnd
  (try dsimp only)
  repeat' split
  all_goals (try simp only [Prod.ext_iff] at *)
  all_goals (try casesm* _ ∧ _)
  all_goals (try subst_vars)
  all_goals (try simp only [outQueue_next, ite_outQueue, ite_queue, ite_self, State.bump_queue, State.sendDigestEvent_queue, State.setCk_queue])

@[simp] theorem State.verdict_queue (s : State) (d : Die) (side : Bool) (vseq code : Nat) (digest : Option Nat) (late : Bool) (g : Nat) : (State.verdict s d side vseq code digest late g).queue = s.queue := by
  simp only [State.verdict, ite_outQueue, ite_queue, ite_self, State.emit_queue, State.bump_queue, State.digestEvent_queue,
    State.internalEvent_queue]

@[simp] theorem State.abandon_queue (s : State) (d : Die) (num : Nat) : (State.abandon s d num).queue = s.queue := by
  simp only [State.abandon, ite_outQueue, ite_queue, ite_self, State.bump_queue, State.setCk_queue]

@[simp] theorem State.abandonAll_queue (s : State) (d : Die) (p : Comb → Bool) : (State.abandonAll s d p).queue = s.queue := by
  simp only [State.abandonAll, implies_true, foldl_queue, State.abandon_queue]

@[simp] theorem execCombineTimeout_queue (d : Die) (comb : Nat) (s : State) : outQueue (execCombineTimeout d comb s) = s.queue := by
  simp only [execCombineTimeout, outQueue_next, State.abandonAll_queue]

@[simp] theorem execKeyEpochWrite_queue (d : Die) (w : Writer) (k : Fin 4) (value : Nat) (s : State) : outQueue (execKeyEpochWrite d w k value s) = s.queue := by
  simp only [execKeyEpochWrite, outQueue_next, ite_outQueue, ite_queue, ite_self, State.writeBy_queue, State.answer_queue,
    State.wr_queue, State.writeBy_queue]

@[simp] theorem execKeyValueWrite_queue (d : Die) (w : Writer) (k : Fin 4) (value : List Nat) (s : State) : outQueue (execKeyValueWrite d w k value s) = s.queue := by
  simp only [execKeyValueWrite, outQueue_next, ite_outQueue, ite_queue, ite_self, State.writeBy_queue, State.answer_queue,
    State.setCk_queue, State.wr_queue, State.writeBy_queue]

@[simp] theorem execKeyClear_queue (d : Die) (w : Writer) (k : Fin 4) (s : State) : outQueue (execKeyClear d w k s) = s.queue := by
  simp only [execKeyClear, outQueue_next, implies_true, foldl_queue, State.writeBy_queue, State.answer_queue,
    State.abandonAll_queue, State.setCk_queue, State.wr_queue, State.writeBy_queue]

@[simp] theorem State.unchecked_queue (s : State) (d : Die) (slot : Option Nat) : (State.unchecked s d slot).queue = s.queue := by
  unfold State.unchecked
  (try dsimp only)
  repeat' split
  all_goals (try simp only [Prod.ext_iff] at *)
  all_goals (try casesm* _ ∧ _)
  all_goals (try subst_vars)
  all_goals (try simp only [State.bump_queue, State.internalEvent_queue])

@[simp] theorem execEgressBlock_queue (d : Die) (header : Nat) (data : List Nat) (poison late : Bool) (s : State) : outQueue (execEgressBlock d header data poison late s) = s.queue := by
  simp only [execEgressBlock, outQueue_next, ite_outQueue, ite_queue, ite_self, State.emit_queue, State.bump_queue,
    State.digestEvent_queue, State.internalEvent_queue, State.setBytes_queue, State.unchecked_queue, State.verdict_queue]

@[simp] theorem State.putComb_queue (s : State) (d : Die) (x : Comb) : (State.putComb s d x).queue = s.queue := by
  simp only [State.putComb, ite_outQueue, ite_queue, ite_self, State.setCk_queue]

@[simp] theorem State.freeComb_queue (s : State) (d : Die) (num : Nat) : (State.freeComb s d num).queue = s.queue := by
  simp only [State.freeComb, State.setCk_queue]

@[simp] theorem State.openComb_queue (s : State) (d : Die) (b : SideBlock) : (State.openComb s d b).2.queue = s.queue := by
  unfold State.openComb
  (try dsimp only)
  repeat' split
  all_goals (try simp only [Prod.ext_iff] at *)
  all_goals (try casesm* _ ∧ _)
  all_goals (try subst_vars)
  all_goals (try simp only [ite_outQueue, ite_queue, ite_self, State.abandon_queue, State.putComb_queue, State.setCk_queue])

@[simp] theorem State.joinComb_queue (s : State) (d : Die) (b : SideBlock) (c : Comb) : (State.joinComb s d b c).2.queue = s.queue := by
  simp only [State.joinComb, ite_outQueue, ite_queue, ite_self, State.bump_queue, State.putComb_queue]

@[simp] theorem State.firstHop_queue (s : State) (d : Die) (b : SideBlock) (poison gone late : Bool) : (State.firstHop s d b poison gone late).queue = s.queue := by
  simp only [State.firstHop, ite_outQueue, ite_queue, ite_self, State.bump_queue, State.digestEvent_queue, State.unchecked_queue,
    State.verdict_queue]

@[simp] theorem State.sideMember_queue (s : State) (d : Die) (b : SideBlock) (c : Comb) (attached : Nat) (late : Bool) : (State.sideMember s d b c attached late).queue = s.queue := by
  simp only [State.sideMember, ite_outQueue, ite_queue, ite_self, State.bump_queue, State.digestEvent_queue,
    State.internalEvent_queue, State.putComb_queue, State.unchecked_queue, State.verdict_queue]

@[simp] theorem State.sideClose_queue (s : State) (d : Die) (b : SideBlock) (c : Comb) (late : Bool) : (State.sideClose s d b c late).queue = s.queue := by
  simp only [State.sideClose, ite_outQueue, ite_queue, ite_self, State.bump_queue, State.digestEvent_queue, State.freeComb_queue,
    State.internalEvent_queue, State.unchecked_queue, State.verdict_queue]

@[simp] theorem execSidebandBlock_queue (d : Die) (header attached : Nat) (data : List Nat) (poison late : Bool) (s : State) : outQueue (execSidebandBlock d header attached data poison late s) = s.queue := by
  unfold execSidebandBlock
  (try dsimp only)
  repeat' split
  all_goals (try simp only [Prod.ext_iff] at *)
  all_goals (try casesm* _ ∧ _)
  all_goals (try subst_vars)
  all_goals (try simp only [outQueue_next, ite_outQueue, ite_queue, ite_self, State.emit_queue, State.bump_queue, State.firstHop_queue,
    State.freeComb_queue, State.joinComb_queue, State.openComb_queue, State.putComb_queue, State.setCk_queue, State.sideClose_queue,
    State.sideMember_queue, State.unchecked_queue, State.verdict_queue])

@[simp] theorem execPoisonConsumeReport_queue (d : Die) (slot tag step : Nat) (s : State) : outQueue (execPoisonConsumeReport d slot tag step s) = s.queue := by
  unfold execPoisonConsumeReport
  (try dsimp only)
  repeat' split
  all_goals (try simp only [Prod.ext_iff] at *)
  all_goals (try casesm* _ ∧ _)
  all_goals (try subst_vars)
  all_goals (try simp only [outQueue_next, ite_outQueue, ite_queue, ite_self, State.bump_queue, State.digestEvent_queue,
    State.internalEvent_queue])

@[simp] theorem State.digestEventRx_queue (s : State) (p : Die) (g : Nat) : (State.digestEventRx s p g).queue = s.queue := by
  simp only [State.digestEventRx, State.countPort_queue, State.report_queue, State.setBytes_queue, State.wr_queue]

/-! ### Time -/

@[simp] theorem State.setSt_queue (s : State) (d : Die) (t : STime) : (State.setSt s d t).queue = s.queue := by
  simp only [State.setSt, State.setDie_queue]

@[simp] theorem State.setVt_queue (s : State) (t : VTime) : (State.setVt s t).queue = s.queue := by
  simp only [State.setVt, State.setVager_queue]

@[simp] theorem State.setPt_queue (s : State) (p : Die) (x : PortTime) : (State.setPt s p x).queue = s.queue := by
  simp only [State.setPt, State.setVager_queue]

@[simp] theorem State.tickVager_queue (s : State) : (State.tickVager s).queue = s.queue := by
  simp only [State.tickVager, ite_outQueue, ite_queue, ite_self, State.setVager_queue, State.bump_queue]

@[simp] theorem State.tickStaris_queue (s : State) (d : Die) : (State.tickStaris s d).queue = s.queue := by
  simp only [State.tickStaris, ite_outQueue, ite_queue, ite_self, State.setDie_queue]

@[simp] theorem State.tick_queue (s : State) : (State.tick s).queue = s.queue := by
  simp only [State.tick, implies_true, foldl_queue, State.tickStaris_queue, State.tickVager_queue]

@[simp] theorem execCounterWrap_queue (p : Part) (s : State) : outQueue (execCounterWrap p s) = s.queue := by
  unfold execCounterWrap
  (try dsimp only)
  repeat' split
  all_goals (try simp only [Prod.ext_iff] at *)
  all_goals (try casesm* _ ∧ _)
  all_goals (try subst_vars)
  all_goals (try simp only [outQueue_next, ite_outQueue, ite_queue, ite_self, State.tickStaris_queue, State.tickVager_queue])

@[simp] theorem State.setInc_queue (s : State) (d : Die) (x : Nat) : (State.setInc s d x).queue = s.queue := by
  simp only [State.setInc, State.setSt_queue, State.wr_queue]

@[simp] theorem State.goStaris_queue (s : State) (d : Die) (new : Nat) : (State.goStaris s d new).queue = s.queue := by
  simp only [State.goStaris, State.recordS_queue, State.wr_queue]

@[simp] theorem State.starisHoldover_queue (s : State) (d : Die) : (State.starisHoldover s d).queue = s.queue := by
  simp only [State.starisHoldover, ite_outQueue, ite_queue, ite_self, State.bump_queue, State.goStaris_queue, State.setInc_queue]

@[simp] theorem execStarisHoldoverTimeout_queue (d : Die) (s : State) : outQueue (execStarisHoldoverTimeout d s) = s.queue := by
  simp only [execStarisHoldoverTimeout, outQueue_next, State.starisHoldover_queue]

@[simp] theorem execIncrementWrite_queue (d : Die) (w : Writer) (value : Nat) (s : State) : outQueue (execIncrementWrite d w value s) = s.queue := by
  simp only [execIncrementWrite, outQueue_next, ite_outQueue, ite_queue, ite_self, State.writeBy_queue, State.answer_queue,
    State.setInc_queue, State.writeBy_queue]

@[simp] theorem execModeWrite_queue (d : Die) (w : Writer) (value : Nat) (s : State) : outQueue (execModeWrite d w value s) = s.queue := by
  simp only [execModeWrite, outQueue_next, ite_outQueue, ite_queue, ite_self, State.writeBy_queue, State.answer_queue,
    State.goStaris_queue, State.setSt_queue, State.wr_queue, State.writeBy_queue]

@[simp] theorem State.fireCmp_queue (s : State) (d : Die) (n : Nat) (late : Bool) : (State.fireCmp s d n late).queue = s.queue := by
  simp only [State.fireCmp, ite_outQueue, ite_queue, ite_self, State.emit_queue, State.bump_queue, State.internalEvent_queue,
    State.setSt_queue, State.wr_queue]

@[simp] theorem execComparatorFire_queue (d : Die) (n : Fin 32) (s : State) : outQueue (execComparatorFire d n s) = s.queue := by
  simp only [execComparatorFire, outQueue_next, ite_outQueue, ite_queue, ite_self, State.fireCmp_queue]

@[simp] theorem State.stepStaris_queue (s : State) (d : Die) (delta : Int) : (State.stepStaris s d delta).queue = s.queue := by
  simp only [State.stepStaris, implies_true, ite_outQueue, ite_queue, ite_self, foldl_queue, State.bump_queue,
    State.fireCmp_queue, State.setSt_queue]

@[simp] theorem execStepWrite_queue (d : Die) (w : Writer) (value : Nat) (s : State) : outQueue (execStepWrite d w value s) = s.queue := by
  simp only [execStepWrite, outQueue_next, ite_outQueue, ite_queue, ite_self, State.writeBy_queue, State.answer_queue,
    State.bump_queue, State.stepStaris_queue, State.writeBy_queue]

@[simp] theorem State.armCmp_queue (s : State) (d : Die) (n : Nat) : (State.armCmp s d n).queue = s.queue := by
  simp only [State.armCmp, ite_outQueue, ite_queue, ite_self, State.wr_queue]

@[simp] theorem State.disarmCmp_queue (s : State) (d : Die) (n : Nat) : (State.disarmCmp s d n).queue = s.queue := by
  simp only [State.disarmCmp, State.wr_queue]

@[simp] theorem execCmpArm_queue (d : Die) (n : Fin 32) (w : Writer) (s : State) : outQueue (execCmpArm d n w s) = s.queue := by
  simp only [execCmpArm, outQueue_next, ite_outQueue, ite_queue, ite_self, State.writeBy_queue, State.answer_queue,
    State.armCmp_queue, State.writeBy_queue]

@[simp] theorem execCmpDisarm_queue (d : Die) (n : Fin 32) (w : Writer) (s : State) : outQueue (execCmpDisarm d n w s) = s.queue := by
  simp only [execCmpDisarm, outQueue_next, State.writeBy_queue, State.answer_queue, State.disarmCmp_queue, State.writeBy_queue]

@[simp] theorem State.sendTime_queue (s : State) (v : Bool) (p : Die) (word : Nat) : (State.sendTime s v p word).queue = s.queue := by
  simp only [State.sendTime, State.setLink_queue]

@[simp] theorem State.sendDown_queue (s : State) (p : Die) : (State.sendDown s p).queue = s.queue := by
  unfold State.sendDown
  (try dsimp only)
  repeat' split
  all_goals (try simp only [Prod.ext_iff] at *)
  all_goals (try casesm* _ ∧ _)
  all_goals (try subst_vars)
  all_goals (try simp only [ite_outQueue, ite_queue, ite_self, State.sendTime_queue, State.setPt_queue, State.wr_queue])

@[simp] theorem State.loseDown_queue (s : State) (p : Die) : (State.loseDown s p).queue = s.queue := by
  simp only [State.loseDown, ite_outQueue, ite_queue, ite_self, State.bump_queue, State.setPt_queue]

@[simp] theorem State.exchange_queue (s : State) (p : Die) : (State.exchange s p).queue = s.queue := by
  simp only [State.exchange, State.loseDown_queue, State.sendDown_queue, State.setPt_queue]

@[simp] theorem execTwExchangePeriod_queue (s : State) : outQueue (execTwExchangePeriod s) = s.queue := by
  simp only [execTwExchangePeriod, outQueue_next, implies_true, foldl_queue, State.exchange_queue]

@[simp] theorem State.portUnlock_queue (s : State) (p : Die) : (State.portUnlock s p).queue = s.queue := by
  simp only [State.portUnlock, State.setPt_queue]

@[simp] theorem State.downTransition_queue (s : State) (d : Die) (lock : Bool) : (State.downTransition s d lock).queue = s.queue := by
  unfold State.downTransition
  (try dsimp only)
  repeat' split
  all_goals (try simp only [Prod.ext_iff] at *)
  all_goals (try casesm* _ ∧ _)
  all_goals (try subst_vars)
  all_goals (try simp only [State.goStaris_queue])

@[simp] theorem State.downStep_queue (s : State) (d : Die) (stepV : Bool) (step : Int) : (State.downStep s d stepV step).queue = s.queue := by
  simp only [State.downStep, ite_outQueue, ite_queue, ite_self, State.bump_queue, State.stepStaris_queue]

@[simp] theorem State.downInc_queue (s : State) (d : Die) (incV : Bool) (inc : Nat) : (State.downInc s d incV inc).queue = s.queue := by
  simp only [State.downInc, ite_outQueue, ite_queue, ite_self, State.bump_queue, State.setInc_queue, State.setSt_queue]

@[simp] theorem State.sendUp_queue (s : State) (d : Die) (rx seq : Nat) : (State.sendUp s d rx seq).queue = s.queue := by
  simp only [State.sendUp, State.sendTime_queue, State.setSt_queue]

@[simp] theorem execDownWordRx_queue (d : Die) (word : Nat) (poison : Bool) (s : State) : outQueue (execDownWordRx d word poison s) = s.queue := by
  simp only [execDownWordRx, outQueue_next, ite_outQueue, ite_queue, ite_self, State.bump_queue, State.downInc_queue,
    State.downStep_queue, State.downTransition_queue, State.sendUp_queue, State.setSt_queue, State.wr_queue]

@[simp] theorem State.portExchange_queue (s : State) (p : Die) (offset delay : Int) : (State.portExchange s p offset delay).queue = s.queue := by
  simp only [State.portExchange, ite_outQueue, ite_queue, ite_self, State.takeInt_queue, State.bump_queue, State.setPt_queue,
    State.wr_queue]

@[simp] theorem execUpWordRx_queue (p : Die) (word : Nat) (poison : Bool) (s : State) : outQueue (execUpWordRx p word poison s) = s.queue := by
  unfold execUpWordRx
  (try dsimp only)
  repeat' split
  all_goals (try simp only [Prod.ext_iff] at *)
  all_goals (try casesm* _ ∧ _)
  all_goals (try subst_vars)
  all_goals (try simp only [outQueue_next, ite_outQueue, ite_queue, ite_self, State.portExchange_queue, State.setPt_queue, State.wr_queue])

@[simp] theorem State.checkSessions_queue (s : State) : (State.checkSessions s).queue = s.queue := by
  simp only [State.checkSessions, State.setVager_queue, State.closeSessions_queue, State.unchecked_queue]

@[simp] theorem State.goVager_queue (s : State) (new cause : Nat) : (State.goVager s new cause).queue = s.queue := by
  simp only [State.goVager, ite_outQueue, ite_queue, ite_self, State.checkSessions_queue, State.recordV_queue, State.setVt_queue,
    State.wr_queue]

@[simp] theorem State.setExt_queue (s : State) (ext : Nat) : (State.setExt s ext).queue = s.queue := by
  simp only [State.setExt, State.setVt_queue, State.wr_queue]

@[simp] theorem State.vagerStep_queue (s : State) (delta : Int) : (State.vagerStep s delta).queue = s.queue := by
  simp only [State.vagerStep, implies_true, ite_outQueue, ite_queue, ite_self, foldl_queue, State.bump_queue,
    State.sendDown_queue, State.setExt_queue, State.setPt_queue, State.setVt_queue]

@[simp] theorem State.sourceQualifies_queue (s : State) : (State.sourceQualifies s).queue = s.queue := by
  simp only [State.sourceQualifies, ite_outQueue, ite_queue, ite_self, State.goVager_queue]

@[simp] theorem State.sourceLost_queue (s : State) (cause : Nat) : (State.sourceLost s cause).queue = s.queue := by
  simp only [State.sourceLost, ite_outQueue, ite_queue, ite_self, State.goVager_queue]

@[simp] theorem State.servo_queue (s : State) (offset : Int) : (State.servo s offset).queue = s.queue := by
  simp only [State.servo, ite_outQueue, ite_queue, ite_self, State.takeInt_queue, State.goVager_queue, State.setVt_queue,
    State.vagerStep_queue, State.wr_queue]

@[simp] theorem State.seeGm_queue (s : State) (id : Option Nat) : (State.seeGm s id).queue = s.queue := by
  simp only [State.seeGm, ite_outQueue, ite_queue, ite_self, State.bump_queue, State.setVt_queue]

@[simp] theorem State.takeGm_queue (s : State) (x : PtpDataset) (log : Int) : (State.takeGm s x log).queue = s.queue := by
  simp only [State.takeGm, State.seeGm_queue, State.setBytes_queue, State.setVt_queue]

@[simp] theorem State.becomeMaster_queue (s : State) : (State.becomeMaster s).queue = s.queue := by
  simp only [State.becomeMaster, State.emit_queue, State.seeGm_queue, State.setVt_queue]

@[simp] theorem State.announce_queue (s : State) (x : PtpDataset) (log : Int) : (State.announce s x log).queue = s.queue := by
  unfold State.announce
  (try dsimp only)
  repeat' split
  all_goals (try simp only [Prod.ext_iff] at *)
  all_goals (try casesm* _ ∧ _)
  all_goals (try subst_vars)
  all_goals (try simp only [ite_outQueue, ite_queue, ite_self, State.becomeMaster_queue, State.setVt_queue, State.sourceLost_queue,
    State.sourceQualifies_queue, State.takeGm_queue])

@[simp] theorem State.loadWrap_queue (s : State) (now : Int) : (State.loadWrap s now).queue = s.queue := by
  simp only [State.loadWrap, State.wr_queue]

@[simp] theorem State.servoFrom_queue (s : State) (offset now : Int) : (State.servoFrom s offset now).queue = s.queue := by
  simp only [State.servoFrom, ite_outQueue, ite_queue, ite_self, State.loadWrap_queue, State.servo_queue, State.setVt_queue]

@[simp] theorem State.ptpSample_queue (s : State) (t1 t2 : Int) : (State.ptpSample s t1 t2).queue = s.queue := by
  unfold State.ptpSample
  (try dsimp only)
  repeat' split
  all_goals (try simp only [Prod.ext_iff] at *)
  all_goals (try casesm* _ ∧ _)
  all_goals (try subst_vars)
  all_goals (try simp only [ite_outQueue, ite_queue, ite_self, State.servoFrom_queue, State.setVt_queue])

@[simp] theorem State.ptpPath_queue (s : State) (delay : Int) : (State.ptpPath s delay).queue = s.queue := by
  simp only [State.ptpPath, State.setVt_queue, State.wr_queue]

@[simp] theorem execPtpMessageRx_queue (m : PtpMessage) (s : State) : outQueue (execPtpMessageRx m s) = s.queue := by
  unfold execPtpMessageRx
  (try dsimp only)
  repeat' split
  all_goals (try simp only [Prod.ext_iff] at *)
  all_goals (try casesm* _ ∧ _)
  all_goals (try subst_vars)
  all_goals (try simp only [outQueue_next, ite_outQueue, ite_queue, ite_self, State.emit_queue, State.announce_queue, State.ptpPath_queue,
    State.ptpSample_queue, State.setVt_queue])

@[simp] theorem State.loseGm_queue (s : State) : (State.loseGm s).queue = s.queue := by
  simp only [State.loseGm, ite_outQueue, ite_queue, ite_self, State.becomeMaster_queue, State.setVt_queue]

@[simp] theorem execAnnounceTimeout_queue (s : State) : outQueue (execAnnounceTimeout s) = s.queue := by
  simp only [execAnnounceTimeout, outQueue_next, ite_outQueue, ite_queue, ite_self, State.becomeMaster_queue, State.loseGm_queue,
    State.sourceLost_queue]

@[simp] theorem execSyncTimeout_queue (s : State) : outQueue (execSyncTimeout s) = s.queue := by
  simp only [execSyncTimeout, outQueue_next, ite_outQueue, ite_queue, ite_self, State.loseGm_queue, State.setVt_queue,
    State.sourceLost_queue]

@[simp] theorem State.showTsq_queue (s : State) : (State.showTsq s).queue = s.queue := by
  simp only [State.showTsq, State.wr_queue]

@[simp] theorem State.queueStamp_queue (s : State) (seqId msgType domain : Nat) : (State.queueStamp s seqId msgType domain).queue = s.queue := by
  simp only [State.queueStamp, ite_outQueue, ite_queue, ite_self, State.bump_queue, State.setVt_queue, State.showTsq_queue]

@[simp] theorem execPtpEventTx_queue (seqId : Nat) (msgType : Nat) (domain : Nat) (s : State) : outQueue (execPtpEventTx seqId msgType domain s) = s.queue := by
  simp only [execPtpEventTx, outQueue_next, ite_outQueue, ite_queue, ite_self, State.emit_queue, State.queueStamp_queue,
    State.setVt_queue]

@[simp] theorem execTsqPop_queue (w : Writer) (s : State) : outQueue (execTsqPop w s) = s.queue := by
  simp only [execTsqPop, outQueue_next, State.writeBy_queue, State.answer_queue, State.setVt_queue, State.showTsq_queue,
    State.writeBy_queue]

@[simp] theorem execTsqOverflowClear_queue (w : Writer) (s : State) : outQueue (execTsqOverflowClear w s) = s.queue := by
  simp only [execTsqOverflowClear, outQueue_next, State.writeBy_queue, State.answer_queue, State.wr_queue, State.writeBy_queue]

@[simp] theorem execSourceWrite_queue (w : Writer) (value : Nat) (s : State) : outQueue (execSourceWrite w value s) = s.queue := by
  simp only [execSourceWrite, outQueue_next, ite_outQueue, ite_queue, ite_self, State.writeBy_queue, State.answer_queue,
    State.goVager_queue, State.sourceLost_queue, State.sourceQualifies_queue, State.wr_queue, State.writeBy_queue]

@[simp] theorem execSecondsSetWrite_queue (w : Writer) (seconds : Nat) (s : State) : outQueue (execSecondsSetWrite w seconds s) = s.queue := by
  simp only [execSecondsSetWrite, outQueue_next, ite_outQueue, ite_queue, ite_self, State.writeBy_queue, State.answer_queue,
    State.setVt_queue, State.writeBy_queue]

@[simp] theorem execSecondsSetStep_queue (s : State) : outQueue (execSecondsSetStep s) = s.queue := by
  unfold execSecondsSetStep
  split
  · rfl
  · split
    · rfl
    · dsimp only
      split
      · rw [outQueue_next, State.vagerStep_queue, State.setVt_queue]
      · rw [outQueue_next, State.setVt_queue]

@[simp] theorem execPpsInEdge_queue (s : State) : outQueue (execPpsInEdge s) = s.queue := by
  unfold execPpsInEdge
  (try dsimp only)
  repeat' split
  all_goals (try simp only [Prod.ext_iff] at *)
  all_goals (try casesm* _ ∧ _)
  all_goals (try subst_vars)
  all_goals (try simp only [outQueue_next, ite_outQueue, ite_queue, ite_self, State.bump_queue, State.servo_queue, State.servoFrom_queue,
    State.sourceQualifies_queue, State.wr_queue])

@[simp] theorem execPpsOutEdge_queue (s : State) : outQueue (execPpsOutEdge s) = s.queue := by
  simp only [execPpsOutEdge, outQueue_next, ite_outQueue, ite_queue, ite_self, State.emit_queue, State.setVt_queue]

@[simp] theorem State.faultDisarm_queue (s : State) (d : Die) : (State.faultDisarm s d).queue = s.queue := by
  simp only [State.faultDisarm, implies_true, ite_outQueue, ite_queue, ite_self, foldl_queue, State.wr_queue]

@[simp] theorem execPllLossOfLock_queue (p : Part) (s : State) : outQueue (execPllLossOfLock p s) = s.queue := by
  cases p <;> simp only [execPllLossOfLock, outQueue_next, ite_outQueue, ite_self, State.faultDisarm_queue, State.goStaris_queue,
    State.goVager_queue, State.setCap_queue, State.wr_queue]

@[simp] theorem execPllRelock_queue (p : Part) (s : State) : outQueue (execPllRelock p s) = s.queue := by
  cases p <;> simp only [execPllRelock, ite_outQueue, outQueue_next, ite_self, State.goStaris_queue, State.goVager_queue,
    State.setInc_queue, State.setSt_queue, State.setVt_queue, State.sourceQualifies_queue, State.wr_queue]

/-! ### Cleat -/

@[simp] theorem State.setSeqr_queue (s : State) (d : Die) (q : Nat) (x : Seq) : (State.setSeqr s d q x).queue = s.queue := by
  simp only [State.setSeqr, State.setCap_queue]

theorem State.runSeq_queue (s : State) (d : Die) (q op : Nat) (f : Seq → Nat → State → State)
    (h : ∀ x w, (f x w s).queue = s.queue) : (s.runSeq d q op f).queue = s.queue := by
  unfold State.runSeq
  dsimp only
  split
  · exact h ..
  · rfl

@[simp] theorem State.runLocal_queue (s : State) (d : Die) (q op : Nat) (f : Seq → Nat → Seq) :
    (s.runLocal d q op f).queue = s.queue := by
  unfold State.runLocal
  exact State.runSeq_queue _ _ _ _ _ fun _ _ => State.setSeqr_queue ..

@[simp] theorem execCleatProgramWrite_queue (d : Die) (w : Writer) (q : Fin 8) (program : List Nat) (s : State) : outQueue (execCleatProgramWrite d w q program s) = s.queue := by
  simp only [execCleatProgramWrite, outQueue_next, ite_outQueue, ite_queue, ite_self, State.writeBy_queue, State.answer_queue,
    State.writeBy_queue, State.writeOctets_queue]

@[simp] theorem execCleatStart_queue (d : Die) (w : Writer) (q : Fin 8) (s : State) :
    outQueue (execCleatStart d w q s) = s.queue := by
  unfold execCleatStart
  refine State.writeBy_queue _ _ _ _ _ ?_
  dsimp only
  split <;> simp only [State.answer_queue, State.setSeqr_queue]

@[simp] theorem execCleatStop_queue (d : Die) (w : Writer) (q : Fin 8) (s : State) : outQueue (execCleatStop d w q s) = s.queue := by
  simp only [execCleatStop, outQueue_next, State.writeBy_queue, State.answer_queue, State.setSeqr_queue, State.writeBy_queue]

@[simp] theorem execHalt_queue (d : Die) (q : Fin 8) (s : State) : outQueue (execHalt d q s) = s.queue := by
  simp only [execHalt, outQueue_next, State.runLocal_queue]

@[simp] theorem execNop_queue (d : Die) (q : Fin 8) (s : State) : outQueue (execNop d q s) = s.queue := by
  simp only [execNop, outQueue_next, State.runLocal_queue]

@[simp] theorem execReservedOpcode_queue (d : Die) (q : Fin 8) (s : State) : outQueue (execReservedOpcode d q s) = s.queue := by
  simp only [execReservedOpcode, outQueue_next, ite_outQueue, ite_queue, ite_self, State.setSeqr_queue]

@[simp] theorem execLdi_queue (d : Die) (q : Fin 8) (s : State) : outQueue (execLdi d q s) = s.queue := by
  simp only [execLdi, outQueue_next, State.runLocal_queue]

@[simp] theorem execAddi_queue (d : Die) (q : Fin 8) (s : State) : outQueue (execAddi d q s) = s.queue := by
  simp only [execAddi, outQueue_next, State.runLocal_queue]

@[simp] theorem execMov_queue (d : Die) (q : Fin 8) (s : State) : outQueue (execMov d q s) = s.queue := by
  simp only [execMov, outQueue_next, State.runLocal_queue]

@[simp] theorem execRdtime_queue (d : Die) (q : Fin 8) (s : State) : outQueue (execRdtime d q s) = s.queue := by
  simp only [execRdtime, implies_true, outQueue_next, State.runSeq_queue, State.runSeq_queue, State.setSeqr_queue]

@[simp] theorem execRdcnt_queue (d : Die) (q : Fin 8) (s : State) : outQueue (execRdcnt d q s) = s.queue := by
  simp only [execRdcnt, implies_true, outQueue_next, ite_outQueue, ite_queue, ite_self, State.runSeq_queue, State.runSeq_queue,
    State.setSeqr_queue]

@[simp] theorem execJmp_queue (d : Die) (q : Fin 8) (s : State) : outQueue (execJmp d q s) = s.queue := by
  simp only [execJmp, outQueue_next, State.runLocal_queue]

@[simp] theorem execJnz_queue (d : Die) (q : Fin 8) (s : State) : outQueue (execJnz d q s) = s.queue := by
  simp only [execJnz, outQueue_next, State.runLocal_queue]

@[simp] theorem execDjnz_queue (d : Die) (q : Fin 8) (s : State) : outQueue (execDjnz d q s) = s.queue := by
  simp only [execDjnz, outQueue_next, ite_outQueue, ite_queue, ite_self, State.runLocal_queue]

@[simp] theorem execJto_queue (d : Die) (q : Fin 8) (s : State) : outQueue (execJto d q s) = s.queue := by
  simp only [execJto, outQueue_next, State.runLocal_queue]

@[simp] theorem execJlt_queue (d : Die) (q : Fin 8) (s : State) : outQueue (execJlt d q s) = s.queue := by
  simp only [execJlt, outQueue_next, State.runLocal_queue]

@[simp] theorem State.beginWait_queue (s : State) (d : Die) (q : Nat) (x : Seq) (wt : Wait) : (State.beginWait s d q x wt).queue = s.queue := by
  simp only [State.beginWait, ite_outQueue, ite_queue, ite_self, State.setSeqr_queue]

@[simp] theorem execWtime_queue (d : Die) (q : Fin 8) (s : State) : outQueue (execWtime d q s) = s.queue := by
  simp only [execWtime, implies_true, outQueue_next, State.runSeq_queue, State.beginWait_queue, State.runSeq_queue]

@[simp] theorem execWedge_queue (d : Die) (q : Fin 8) (s : State) : outQueue (execWedge d q s) = s.queue := by
  simp only [execWedge, implies_true, outQueue_next, State.runSeq_queue, State.beginWait_queue, State.runSeq_queue]

@[simp] theorem execWcnt_queue (d : Die) (q : Fin 8) (s : State) : outQueue (execWcnt d q s) = s.queue := by
  simp only [execWcnt, implies_true, outQueue_next, ite_outQueue, ite_queue, ite_self, State.runSeq_queue, State.beginWait_queue,
    State.runSeq_queue, State.setSeqr_queue]

@[simp] theorem execWsig_queue (d : Die) (q : Fin 8) (s : State) : outQueue (execWsig d q s) = s.queue := by
  simp only [execWsig, implies_true, outQueue_next, State.runSeq_queue, State.beginWait_queue, State.runSeq_queue]

@[simp] theorem execWaitConditionMet_queue (d : Die) (q : Fin 8) (s : State) : outQueue (execWaitConditionMet d q s) = s.queue := by
  simp only [execWaitConditionMet, outQueue_next, ite_outQueue, ite_queue, ite_self, State.setSeqr_queue]

@[simp] theorem execWaitTimeout_queue (d : Die) (q : Fin 8) (s : State) : outQueue (execWaitTimeout d q s) = s.queue := by
  simp only [execWaitTimeout, outQueue_next, ite_outQueue, ite_queue, ite_self, State.setSeqr_queue]

@[simp] theorem State.addSignal_queue (s : State) (d : Die) (q : Nat) : (State.addSignal s d q).queue = s.queue := by
  simp only [State.addSignal, ite_outQueue, ite_queue, ite_self, State.bump_queue, State.setSeqr_queue]

@[simp] theorem State.startAction_queue (s : State) (d : Die) (a arg : Nat) : (State.startAction s d a arg).queue = s.queue := by
  unfold State.startAction
  (try dsimp only)
  repeat' split
  all_goals (try simp only [Prod.ext_iff] at *)
  all_goals (try casesm* _ ∧ _)
  all_goals (try subst_vars)
  all_goals (try simp only [ite_outQueue, ite_queue, ite_self, State.emit_queue, State.addSignal_queue, State.freezeCounters_queue,
    State.rephase_queue, State.startCfg_queue, State.startSequence_queue, State.stopCfg_queue, State.triggerDump_queue])

@[simp] theorem execAct_queue (d : Die) (q : Fin 8) (s : State) : outQueue (execAct d q s) = s.queue := by
  simp only [execAct, implies_true, outQueue_next, ite_outQueue, ite_queue, ite_self, State.runSeq_queue, State.runSeq_queue,
    State.setSeqr_queue, State.startAction_queue]

@[simp] theorem execSetcmp_queue (d : Die) (q : Fin 8) (s : State) : outQueue (execSetcmp d q s) = s.queue := by
  simp only [execSetcmp, implies_true, outQueue_next, ite_outQueue, ite_queue, ite_self, State.runSeq_queue, State.armCmp_queue,
    State.disarmCmp_queue, State.runSeq_queue, State.setSeqr_queue, State.wr_queue]

@[simp] theorem execSample_queue (d : Die) (q : Fin 8) (s : State) : outQueue (execSample d q s) = s.queue := by
  simp only [execSample, implies_true, outQueue_next, ite_outQueue, ite_queue, ite_self, State.runSeq_queue, State.runSeq_queue,
    State.setSeqr_queue, State.takeRecord_queue]

@[simp] theorem execEmit_queue (d : Die) (q : Fin 8) (s : State) : outQueue (execEmit d q s) = s.queue := by
  simp only [execEmit, implies_true, outQueue_next, ite_outQueue, ite_queue, ite_self, State.runSeq_queue, State.runSeq_queue,
    State.setSeqr_queue, State.setSstream_queue, State.takeRecord_queue]

@[simp] theorem execSignal_queue (d : Die) (q : Fin 8) (s : State) : outQueue (execSignal d q s) = s.queue := by
  simp only [execSignal, implies_true, outQueue_next, State.runSeq_queue, State.addSignal_queue, State.runSeq_queue,
    State.setSeqr_queue]

@[simp] theorem execEvent_queue (d : Die) (q : Fin 8) (s : State) : outQueue (execEvent d q s) = s.queue := by
  simp only [execEvent, implies_true, outQueue_next, State.runSeq_queue, State.internalEvent_queue, State.recordS_queue,
    State.runSeq_queue, State.setSeqr_queue]

@[simp] theorem execCleatSignalAction_queue (d : Die) (q : Fin 8) (s : State) : outQueue (execCleatSignalAction d q s) = s.queue := by
  unfold execCleatSignalAction
  (try dsimp only)
  repeat' split
  all_goals (try (have e := State.takeAction_queue ‹_ = some _›))
  all_goals (try simp only [outQueue_next, State.addSignal_queue, State.takeAction_queue])
  all_goals (try assumption)

/-! ### Halyard -/

@[simp] theorem State.pushItem_queue (s : State) (v : Bool) (p : Die) (i : CtlItem) : (State.pushItem s v p i).queue = s.queue := by
  simp only [State.pushItem, State.setLink_queue]

@[simp] theorem State.pushAnswer_queue (s : State) (v : Bool) (p : Die) (i : CtlItem) : (State.pushAnswer s v p i).queue = s.queue := by
  simp only [State.pushAnswer, State.setLink_queue]

@[simp] theorem State.dropItem_queue (s : State) (v : Bool) (p : Die) (seq : Nat) : (State.dropItem s v p seq).queue = s.queue := by
  simp only [State.dropItem, State.setLink_queue]

@[simp] theorem State.lwr_queue (s : State) (v : Bool) (p : Die) (k : Bool → Die → Nat) (x : Nat) : (State.lwr s v p k x).queue = s.queue := by
  simp only [State.lwr, State.wr_queue]

@[simp] theorem State.lbump_queue (s : State) (v : Bool) (p : Die) (k : Bool → Die → Nat) (w : Nat) (n : Nat) : (State.lbump s v p k w n).queue = s.queue := by
  simp only [State.lbump, State.bump_queue]

@[simp] theorem State.setLinkState_queue (s : State) (v : Bool) (p : Die) (x : Nat) : (State.setLinkState s v p x).queue = s.queue := by
  simp only [State.setLinkState, State.wr_queue]

@[simp] theorem State.encodeFlit_queue (s : State) (v : Bool) (p : Die) (cws : List Nat) : (State.encodeFlit s v p cws).queue = s.queue := by
  simp only [State.encodeFlit, ite_outQueue, ite_queue, ite_self, State.emit_queue, State.setLink_queue]

@[simp] theorem State.sendFlit_queue (s : State) (v : Bool) (p : Die) (payload : List (Nat × MGran)) (seq : Nat) (replay : Bool) (type : Nat) : (State.sendFlit s v p payload seq replay type).queue = s.queue := by
  simp only [State.sendFlit, ite_outQueue, ite_queue, ite_self, State.emit_queue, State.encodeFlit_queue, State.lbump_queue,
    State.setLink_queue]

@[simp] theorem State.forwardEvents_queue (s : State) (d : Die) : (State.forwardEvents s d).queue = s.queue := by
  unfold State.forwardEvents
  (try dsimp only)
  repeat' split
  all_goals (try simp only [Prod.ext_iff] at *)
  all_goals (try casesm* _ ∧ _)
  all_goals (try subst_vars)
  all_goals (try simp only [State.setDie_queue, State.sendControl_queue, State.starisLost_queue])

/-! ### Gates -/

@[simp] theorem State.setGate_queue (s : State) (q : Nat) (g : GatePort) : (State.setGate s q g).queue = s.queue := by
  simp only [State.setGate, State.setVager_queue]

@[simp] theorem State.enterEntry_queue (s : State) (q i t : Nat) : (State.enterEntry s q i t).queue = s.queue := by
  simp only [State.enterEntry, ite_outQueue, ite_queue, ite_self, State.setGate_queue, State.wr_queue]

@[simp] theorem State.accrue_queue (s : State) (q : Nat) : (State.accrue s q).queue = s.queue := by
  simp only [State.accrue, implies_true, ite_outQueue, ite_queue, ite_self, foldl_queue, State.setGate_queue]

@[simp] theorem State.applyCbs_queue (s : State) (q c : Nat) : (State.applyCbs s q c).queue = s.queue := by
  simp only [State.applyCbs, ite_outQueue, ite_queue, ite_self, State.setGate_queue]

@[simp] theorem State.endFrame_queue (s : State) (q : Nat) : (State.endFrame s q).queue = s.queue := by
  unfold State.endFrame
  (try dsimp only)
  repeat' split
  all_goals (try simp only [Prod.ext_iff] at *)
  all_goals (try casesm* _ ∧ _)
  all_goals (try subst_vars)
  all_goals (try simp only [ite_outQueue, ite_queue, ite_self, State.bump_queue, State.setGate_queue])

@[simp] theorem State.guardHold_queue (s : State) (q c : Nat) : (State.guardHold s q c).queue = s.queue := by
  unfold State.guardHold
  (try dsimp only)
  repeat' split
  all_goals (try simp only [Prod.ext_iff] at *)
  all_goals (try casesm* _ ∧ _)
  all_goals (try subst_vars)
  all_goals (try simp only [ite_outQueue, ite_queue, ite_self, State.bump_queue, State.setGate_queue])

@[simp] theorem State.guardFrees_queue (s : State) (q : Nat) : (State.guardFrees s q).queue = s.queue := by
  simp only [State.guardFrees, implies_true, ite_outQueue, ite_queue, ite_self, foldl_queue, State.setGate_queue]

@[simp] theorem State.startFrame_queue (s : State) (q : Nat) (l : List Nat) : (s.startFrame q l).queue = s.queue := by
  induction l generalizing s with
  | nil => rfl
  | cons c l ih =>
    unfold State.startFrame
    dsimp only
    repeat' split
    all_goals simp only [ih, State.emit_queue, State.wr_queue, State.setGate_queue, State.guardHold_queue]

@[simp] theorem State.serve_queue (s : State) (q : Nat) : (State.serve s q).queue = s.queue := by
  simp only [State.serve, ite_outQueue, ite_queue, ite_self, State.guardFrees_queue, State.startFrame_queue]

@[simp] theorem State.enqueueFrame_queue (s : State) (q kind n hop : Nat) (msg : Option Datagram) : (State.enqueueFrame s q kind n hop msg).queue = s.queue := by
  simp only [State.enqueueFrame, ite_outQueue, ite_queue, ite_self, State.accrue_queue, State.serve_queue, State.setGate_queue,
    State.wr_queue]

@[simp] theorem State.sendDatagram_queue (s : State) (a kind : Nat) (m : Datagram) : (s.sendDatagram a kind m).queue = s.queue := by
  unfold State.sendDatagram
  cases s.route a with
  | none => rfl
  | some x => exact State.enqueueFrame_queue ..

@[simp] theorem execFrameEnqueue_queue (kind : Fin 6) (q : Fin 2) (dst len : Nat) (s : State) :
    outQueue (execFrameEnqueue kind q dst len s) = s.queue := by
  unfold execFrameEnqueue
  split
  · rfl
  · split
    · exact State.enqueueFrame_queue ..
    · cases s.route dst with
      | none => rfl
      | some x => exact State.enqueueFrame_queue ..

@[simp] theorem execFrameTxDone_queue (q : Fin 2) (s : State) : outQueue (execFrameTxDone q s) = s.queue := by
  unfold execFrameTxDone
  rw [outQueue_next, State.serve_queue, foldl_queue]
  · simp only [State.endFrame_queue, State.accrue_queue]
  · intro s c
    simp only [ite_queue, State.applyCbs_queue, ite_self]

@[simp] theorem State.countOverrun_queue (s : State) (q : Nat) (before : State) : (State.countOverrun s q before).queue = s.queue := by
  unfold State.countOverrun
  (try dsimp only)
  repeat' split
  all_goals (try simp only [Prod.ext_iff] at *)
  all_goals (try casesm* _ ∧ _)
  all_goals (try subst_vars)
  all_goals (try simp only [ite_outQueue, ite_queue, ite_self, State.bump_queue])

@[simp] theorem execGateEntryEnd_queue (q : Fin 2) (s : State) : outQueue (execGateEntryEnd q s) = s.queue := by
  unfold execGateEntryEnd
  (try dsimp only)
  repeat' split
  all_goals (try simp only [Prod.ext_iff] at *)
  all_goals (try casesm* _ ∧ _)
  all_goals (try subst_vars)
  all_goals (try simp only [outQueue_next, ite_outQueue, ite_queue, ite_self, State.accrue_queue, State.enterEntry_queue, State.serve_queue,
    State.setGate_queue])

@[simp] theorem State.scheduleAnchors_queue (s : State) (cg : Nat) : (State.scheduleAnchors s cg).queue = s.queue := by
  simp only [State.scheduleAnchors, implies_true, ite_outQueue, ite_queue, ite_self, foldl_queue, State.setGate_queue]

@[simp] theorem State.takeAdmin_queue (s : State) (n t : Nat) : (State.takeAdmin s n t).queue = s.queue := by
  simp only [State.takeAdmin, State.bump_queue, State.enterEntry_queue, State.setGate_queue, State.wr_queue,
    State.writeOctets_queue]

@[simp] theorem State.takeoverBy_queue (s : State) (n t : Nat) : (State.takeoverBy s n t).queue = s.queue := by
  simp only [State.takeoverBy, ite_queue, State.takeAdmin_queue, ite_self]

@[simp] theorem execAnchorInstant_queue (q : Fin 2) (s : State) : outQueue (execAnchorInstant q s) = s.queue := by
  unfold execAnchorInstant
  (try dsimp only)
  repeat' split
  all_goals (try simp only [Prod.ext_iff] at *)
  all_goals (try casesm* _ ∧ _)
  all_goals (try subst_vars)
  all_goals (try simp only [outQueue_next, ite_outQueue, ite_queue, ite_self, State.accrue_queue, State.bump_queue, State.countOverrun_queue,
    State.enterEntry_queue, State.serve_queue, State.setGate_queue, State.takeoverBy_queue, State.wr_queue])

@[simp] theorem execAnchorLossExpiry_queue (q : Fin 2) (s : State) : outQueue (execAnchorLossExpiry q s) = s.queue := by
  simp only [execAnchorLossExpiry, outQueue_next, ite_outQueue, ite_queue, ite_self, State.accrue_queue, State.enterEntry_queue,
    State.serve_queue, State.wr_queue]

@[simp] theorem execChangeSchedule_queue (w : Writer) (q : Fin 2) (s : State) : outQueue (execChangeSchedule w q s) = s.queue := by
  simp only [execChangeSchedule, outQueue_next, ite_outQueue, ite_queue, ite_self, State.writeBy_queue, State.answer_queue,
    State.wr_queue, State.writeBy_queue]

@[simp] theorem execChangeCancel_queue (w : Writer) (q : Fin 2) (s : State) : outQueue (execChangeCancel w q s) = s.queue := by
  simp only [execChangeCancel, outQueue_next, ite_outQueue, ite_queue, ite_self, State.writeBy_queue, State.answer_queue,
    State.wr_queue, State.writeBy_queue]

@[simp] theorem execGateTakeover_queue (q : Fin 2) (s : State) : outQueue (execGateTakeover q s) = s.queue := by
  simp only [execGateTakeover, outQueue_next, ite_outQueue, ite_queue, ite_self, State.accrue_queue, State.countOverrun_queue,
    State.serve_queue, State.takeAdmin_queue]

@[simp] theorem execClassMapWrite_queue (w : Writer) (map : List Nat) (s : State) : outQueue (execClassMapWrite w map s) = s.queue := by
  simp only [execClassMapWrite, outQueue_next, ite_outQueue, ite_queue, ite_self, State.writeBy_queue, State.answer_queue,
    State.writeBy_queue, State.writeOctets_queue]

@[simp] theorem execCbsConfigWrite_queue (w : Writer) (q : Fin 2) (c : Fin 8) (field : Fin 5) (value : Int) (s : State) : outQueue (execCbsConfigWrite w q c field value s) = s.queue := by
  simp only [execCbsConfigWrite, outQueue_next, ite_outQueue, ite_queue, ite_self, State.writeBy_queue, State.answer_queue,
    State.accrue_queue, State.applyCbs_queue, State.setGate_queue, State.wr_queue, State.writeBy_queue]

@[simp] theorem execFabricLinkUp_queue (q : Fin 2) (s : State) : outQueue (execFabricLinkUp q s) = s.queue := by
  simp only [execFabricLinkUp, outQueue_next, implies_true, foldl_queue, State.accrue_queue, State.applyCbs_queue,
    State.serve_queue, State.wr_queue]

/-! ### TreeOps -/

@[simp] theorem State.setTree_queue (s : State) (t : Tree) : (State.setTree s t).queue = s.queue := by
  simp only [State.setTree, State.setVager_queue]

@[simp] theorem State.sendTreeTo_queue (s : State) (addr dst ty round epoch bseq missing cover group : Nat) (standing resend : Bool) (body : List Nat) : (State.sendTreeTo s addr dst ty round epoch bseq missing cover group standing resend body).queue = s.queue := by
  simp only [State.sendTreeTo, State.sendDatagram_queue]

@[simp] theorem State.sendTree_queue (s : State) (dst ty round epoch bseq missing cover group : Nat) (standing resend : Bool) (body : List Nat) : (State.sendTree s dst ty round epoch bseq missing cover group standing resend body).queue = s.queue := by
  simp only [State.sendTree, State.sendTreeTo_queue]

@[simp] theorem State.putBcast_queue (s : State) (b : Bcast) : (State.putBcast s b).queue = s.queue := by
  simp only [State.putBcast, ite_outQueue, ite_queue, ite_self, State.setTree_queue]

@[simp] theorem State.tryBack_queue (s : State) (bseq : Nat) : (State.tryBack s bseq).queue = s.queue := by
  unfold State.tryBack
  (try dsimp only)
  repeat' split
  all_goals (try simp only [Prod.ext_iff] at *)
  all_goals (try casesm* _ ∧ _)
  all_goals (try subst_vars)
  all_goals (try simp only [implies_true, ite_outQueue, ite_queue, ite_self, foldl_queue, State.putBcast_queue, State.sendTree_queue,
    State.setBytes_queue, State.setTree_queue, State.wr_queue])

@[simp] theorem State.tryBacks_queue (s : State) : (State.tryBacks s).queue = s.queue := by
  simp only [State.tryBacks, implies_true, foldl_queue, State.tryBack_queue]

/-! ### SheetOps -/

@[simp] theorem State.sendDict_queue (s : State) (v : Bool) (p : Die) (mtype : Nat) (bs : List Nat) : (State.sendDict s v p mtype bs).queue = s.queue := by
  simp only [State.sendDict, State.sendControl_queue]

@[simp] theorem State.setSheet_queue (s : State) (x : Sheet) : (State.setSheet s x).queue = s.queue := by
  simp only [State.setSheet, State.setVager_queue]

@[simp] theorem State.setMailbox_queue (s : State) (a : Aperture) (m : Mailbox) : (State.setMailbox s a m).queue = s.queue := by
  unfold State.setMailbox
  (try dsimp only)
  repeat' split
  all_goals (try simp only [Prod.ext_iff] at *)
  all_goals (try casesm* _ ∧ _)
  all_goals (try subst_vars)
  all_goals (try simp only [State.setDie_queue, State.setSheet_queue])

@[simp] theorem State.respond_queue (s : State) (src : SheetSource) (r : SheetResp) : (State.respond s src r).queue = s.queue := by
  unfold State.respond
  (try dsimp only)
  repeat' split
  all_goals (try simp only [Prod.ext_iff] at *)
  all_goals (try casesm* _ ∧ _)
  all_goals (try subst_vars)
  all_goals (try simp only [ite_outQueue, ite_queue, ite_self, State.setVager_queue, State.emit_queue, State.msix_queue, State.setMailbox_queue])

@[simp] theorem State.tryRespond_queue (s : State) (n : Nat) : (State.tryRespond s n).queue = s.queue := by
  unfold State.tryRespond
  (try dsimp only)
  repeat' split
  all_goals (try simp only [Prod.ext_iff] at *)
  all_goals (try casesm* _ ∧ _)
  all_goals (try subst_vars)
  all_goals (try simp only [ite_outQueue, ite_queue, ite_self, State.respond_queue, State.setSheet_queue])

@[simp] theorem State.placeEntries_queue (s : State) (n : Nat) (l : List (Nat × RespEntry)) : (State.placeEntries s n l).queue = s.queue := by
  simp only [State.placeEntries, implies_true, ite_outQueue, ite_queue, ite_self, foldl_queue, State.setSheet_queue,
    State.tryRespond_queue]

@[simp] theorem State.countEntries_queue (s : State) (p : Part) (statuses : List Nat) : (State.countEntries s p statuses).queue = s.queue := by
  unfold State.countEntries
  (try dsimp only)
  repeat' split
  all_goals (try simp only [Prod.ext_iff] at *)
  all_goals (try casesm* _ ∧ _)
  all_goals (try subst_vars)
  all_goals (try simp only [State.bump_queue])

@[simp] theorem State.setStaging_queue (s : State) (p : Part) (x : Staging) : (State.setStaging s p x).queue = s.queue := by
  unfold State.setStaging
  (try dsimp only)
  repeat' split
  all_goals (try simp only [Prod.ext_iff] at *)
  all_goals (try casesm* _ ∧ _)
  all_goals (try subst_vars)
  all_goals (try simp only [State.setDie_queue, State.setSheet_queue])

@[simp] theorem State.newGroup_queue (s : State) (p : Part) (g : SGroup) : (State.newGroup s p g).2.queue = s.queue := by
  simp only [State.newGroup, State.setStaging_queue]

@[simp] theorem State.formGroup_queue (s : State) (holder : Part) (g : SGroup) (target : Part) : (State.formGroup s holder g target).2.queue = s.queue := by
  unfold State.formGroup
  (try dsimp only)
  repeat' split
  all_goals (try simp only [Prod.ext_iff] at *)
  all_goals (try casesm* _ ∧ _)
  all_goals (try subst_vars)
  all_goals (try simp only [ite_outQueue, ite_queue, ite_self, State.newGroup_queue])

@[simp] theorem State.settleBcast_queue (s : State) (b : Bcast) : (State.settleBcast s b).queue = s.queue := by
  simp only [State.settleBcast, ite_outQueue, ite_queue, ite_self, State.putBcast_queue, State.tryBack_queue]

@[simp] theorem State.bcastGroupLeft_queue (s : State) (g : SGroup) (status : Nat) : (State.bcastGroupLeft s g status).queue = s.queue := by
  unfold State.bcastGroupLeft
  (try dsimp only)
  repeat' split
  all_goals (try simp only [Prod.ext_iff] at *)
  all_goals (try casesm* _ ∧ _)
  all_goals (try subst_vars)
  all_goals (try simp only [ite_outQueue, ite_queue, ite_self, State.settleBcast_queue])

@[simp] theorem State.groupLeaves_queue (s : State) (p : Part) (g : SGroup) (state bad status time : Nat) : (State.groupLeaves s p g state bad status time).queue = s.queue := by
  unfold State.groupLeaves
  (try dsimp only)
  repeat' split
  all_goals (try simp only [Prod.ext_iff] at *)
  all_goals (try casesm* _ ∧ _)
  all_goals (try subst_vars)
  all_goals (try simp only [ite_outQueue, ite_queue, ite_self, State.bcastGroupLeft_queue, State.notify_queue, State.record_queue,
    State.sendDict_queue, State.setStaging_queue])

@[simp] theorem State.setProxy_queue (s : State) (p : Nat) (x : Proxy) : (State.setProxy s p x).queue = s.queue := by
  simp only [State.setProxy, State.setSheet_queue]

@[simp] theorem State.forwardAnswered_queue (s : State) (n : Nat) (es : List RespEntry) : (State.forwardAnswered s n es).queue = s.queue := by
  unfold State.forwardAnswered
  (try dsimp only)
  repeat' split
  all_goals (try simp only [Prod.ext_iff] at *)
  all_goals (try casesm* _ ∧ _)
  all_goals (try subst_vars)
  all_goals (try simp only [ite_outQueue, ite_queue, ite_self, State.groupLeaves_queue, State.setStaging_queue])

@[simp] theorem State.proxyAnswered_queue (s : State) (x : ProxyItem) (es : List RespEntry) : (State.proxyAnswered s x es).queue = s.queue := by
  unfold State.proxyAnswered
  (try dsimp only)
  repeat' split
  all_goals (try simp only [Prod.ext_iff] at *)
  all_goals (try casesm* _ ∧ _)
  all_goals (try subst_vars)
  all_goals (try simp only [State.forwardAnswered_queue, State.placeEntries_queue])

@[simp] theorem State.proxyFailed_queue (s : State) (x : ProxyItem) (status : Nat) : (State.proxyFailed s x status).queue = s.queue := by
  simp only [State.proxyFailed, State.proxyAnswered_queue]

@[simp] theorem State.proxyPump_queue (n : Nat) (s : State) (p : Die) : (State.proxyPump n s p).queue = s.queue := by
  induction n generalizing s with
  | zero => rfl
  | succ n ih =>
    unfold State.proxyPump
    dsimp only
    split
    · rfl
    · split
      · rfl
      · simp only [ih, State.sendDict_queue, State.bump_queue, State.setProxy_queue]

@[simp] theorem State.proxySubmit_queue (s : State) (p : Die) (i : ProxyItem) : (State.proxySubmit s p i).queue = s.queue := by
  simp only [State.proxySubmit, ite_outQueue, ite_queue, ite_self, State.proxyFailed_queue, State.proxyPump_queue,
    State.setProxy_queue]

@[simp] theorem State.proxyDown_queue (s : State) (p : Die) : (State.proxyDown s p).queue = s.queue := by
  simp only [State.proxyDown, implies_true, foldl_queue, State.proxyFailed_queue, State.setProxy_queue]

/-! ### Domains -/

@[simp] theorem State.moveVager_queue (s : State) (d st : Nat) : (State.moveVager s d st).queue = s.queue := by
  unfold State.moveVager
  (try dsimp only)
  repeat' split
  all_goals (try simp only [Prod.ext_iff] at *)
  all_goals (try casesm* _ ∧ _)
  all_goals (try subst_vars)
  all_goals (try simp only [ite_outQueue, ite_queue, ite_self, State.setVager_queue, State.bump_queue, State.wr_queue])

@[simp] theorem State.moveDie_queue (s : State) (d : Die) (i st : Nat) : (State.moveDie s d i st).queue = s.queue := by
  simp only [State.moveDie, ite_outQueue, ite_queue, ite_self, State.setDie_queue, State.bump_queue, State.setOb_queue]

@[simp] theorem State.wakeVager_queue (s : State) (d : Nat) : (State.wakeVager s d).queue = s.queue := by
  simp only [State.wakeVager, ite_outQueue, ite_queue, ite_self, State.moveVager_queue]

@[simp] theorem State.wakeDie_queue (s : State) (d : Die) (i : Nat) : (State.wakeDie s d i).queue = s.queue := by
  simp only [State.wakeDie, ite_outQueue, ite_queue, ite_self, State.moveDie_queue]

end Sys2Proof.Machine
end

