-- ==== Sys2Proof/Laws/QueueDie.lean ====
section
/-! SUPPORT. Laws/QueueDie.lean: the queue after each operation of Shroud, the collectives and the DMA engines is the queue before it. -/

namespace Sys2Proof.Machine
open Sys2Proof

/-! ### ShroudOps -/

@[simp] theorem State.setShd_queue (s : State) (d : Die) (x : ShroudDie) : (State.setShd s d x).queue = s.queue := by
  simp only [State.setShd, State.setDie_queue]

@[simp] theorem State.sendTap_queue (s : State) (d : Die) (gs : List (Nat × Bool)) : (State.sendTap s d gs).queue = s.queue := by
  simp only [State.sendTap, ite_outQueue, ite_queue, ite_self, State.send_queue]

@[simp] theorem State.notice_queue (s : State) (d : Die) (x : ShSel) (code : Nat) : (State.notice s d x code).queue = s.queue := by
  simp only [State.notice, State.sendTap_queue]

@[simp] theorem State.shSkip_queue (s : State) (d : Die) (x : ShSel) (code : Nat) : (State.shSkip s d x code).queue = s.queue := by
  simp only [State.shSkip, State.notice_queue, State.setElem_queue]

@[simp] theorem State.shroudSelect_queue (s : State) (d : Die) (c : CdtWord) : (State.shroudSelect s d c).2.queue = s.queue := by
  unfold State.shroudSelect
  (try dsimp only)
  repeat' split
  all_goals (try simp only [Prod.ext_iff] at *)
  all_goals (try casesm* _ ∧ _)
  all_goals (try subst_vars)
  all_goals (try simp only [implies_true, ite_outQueue, ite_queue, ite_self, foldl_queue, State.bump_queue, State.setShd_queue,
    State.shSkip_queue])

@[simp] theorem State.discardEntries_queue (s : State) (d : Die) (p : ShEntry → Bool) : (State.discardEntries s d p).queue = s.queue := by
  simp only [State.discardEntries, implies_true, ite_outQueue, ite_queue, ite_self, foldl_queue, State.emit_queue,
    State.bump_queue, State.setShd_queue]

@[simp] theorem State.shroudResume_queue (s : State) (d : Die) : (State.shroudResume s d).queue = s.queue := by
  simp only [State.shroudResume, implies_true, foldl_queue, State.bump_queue, State.sendTap_queue, State.setShd_queue]

@[simp] theorem State.setSh_queue (s : State) (x : Shroud) : (State.setSh s x).queue = s.queue := by
  simp only [State.setSh, State.setVager_queue]

@[simp] theorem State.setClState_queue (s : State) (c st : Nat) : (State.setClState s c st).queue = s.queue := by
  simp only [State.setClState, ite_outQueue, ite_queue, ite_self, State.setOb_queue, State.wr_queue]

@[simp] theorem State.setCluster_queue (s : State) (c : Nat) (x : Cluster) : (State.setCluster s c x).queue = s.queue := by
  simp only [State.setCluster, State.setSh_queue]

@[simp] theorem State.setSample_queue (s : State) (x : Sample) : (State.setSample s x).queue = s.queue := by
  simp only [State.setSample, ite_outQueue, ite_queue, ite_self, State.setSh_queue]

@[simp] theorem State.poolChanged_queue (s : State) : (State.poolChanged s).queue = s.queue := by
  simp only [State.poolChanged, State.wr_queue]

@[simp] theorem State.settle_queue (s : State) (x : Sample) (verdict ndiff : Nat) : (State.settle s x verdict ndiff).queue = s.queue := by
  simp only [State.settle, State.setSample_queue, State.verdict_queue]

@[simp] theorem State.shCommand_queue (s : State) (x : Sample) (btag verdict cmd : Nat) : (State.shCommand s x btag verdict cmd).queue = s.queue := by
  unfold State.shCommand
  (try dsimp only)
  repeat' split
  all_goals (try simp only [Prod.ext_iff] at *)
  all_goals (try casesm* _ ∧ _)
  all_goals (try subst_vars)
  all_goals (try simp only [ite_outQueue, ite_queue, ite_self, State.command_queue, State.verdict_queue])

@[simp] theorem State.askRecompute_queue (s : State) (x : Sample) : (State.askRecompute s x).queue = s.queue := by
  simp only [State.askRecompute, State.setSample_queue, State.shCommand_queue]

@[simp] theorem State.startKat_queue (s : State) (c : Nat) : (State.startKat s c).queue = s.queue := by
  simp only [State.startKat, ite_outQueue, ite_queue, ite_self, State.bump_queue, State.setCluster_queue, State.setSh_queue]

@[simp] theorem State.wakeCluster_queue (s : State) (c : Nat) : (State.wakeCluster s c).queue = s.queue := by
  simp only [State.wakeCluster, ite_outQueue, ite_queue, ite_self, State.setClState_queue, State.startKat_queue,
    State.wakeVager_queue]

@[simp] theorem State.enterSecond_queue (s : State) (x : Sample) : (State.enterSecond s x).queue = s.queue := by
  unfold State.enterSecond
  (try dsimp only)
  repeat' split
  all_goals (try simp only [Prod.ext_iff] at *)
  all_goals (try casesm* _ ∧ _)
  all_goals (try subst_vars)
  all_goals (try simp only [State.askRecompute_queue, State.setSample_queue, State.wakeCluster_queue])

@[simp] theorem State.startRun_queue (s : State) (c : Nat) (x : Sample) (second : Bool) : (State.startRun s c x second).queue = s.queue := by
  simp only [State.startRun, State.setCluster_queue, State.setSample_queue]

@[simp] theorem State.shroudDispatch_queue (n : Nat) (s : State) : (State.shroudDispatch n s).queue = s.queue := by
  induction n generalizing s with
  | zero => rfl
  | succ n ih =>
    unfold State.shroudDispatch
    dsimp only
    repeat' split
    all_goals simp only [ih, State.startKat_queue, State.startRun_queue, State.wakeCluster_queue, State.takeNat_queue]

@[simp] theorem State.noCluster_queue (s : State) : (State.noCluster s).queue = s.queue := by
  unfold State.noCluster
  (try dsimp only)
  repeat' split
  all_goals (try simp only [Prod.ext_iff] at *)
  all_goals (try casesm* _ ∧ _)
  all_goals (try subst_vars)
  all_goals first
    | simp only [implies_true, ite_outQueue, ite_queue, ite_self, foldl_queue, State.askRecompute_queue, State.settle_queue]
    | (rw [foldl_queue _ (by
        intro s c
        (try dsimp only)
        repeat' split
        all_goals (try simp only [implies_true, ite_outQueue, ite_queue, ite_self, foldl_queue, State.askRecompute_queue, State.settle_queue]))]
       (try simp only [implies_true, ite_outQueue, ite_queue, ite_self, foldl_queue, State.askRecompute_queue, State.settle_queue]))

@[simp] theorem State.loseCluster_queue (s : State) (c : Nat) (x : Sample) : (State.loseCluster s c x).queue = s.queue := by
  unfold State.loseCluster
  (try dsimp only)
  repeat' split
  all_goals (try simp only [Prod.ext_iff] at *)
  all_goals (try casesm* _ ∧ _)
  all_goals (try subst_vars)
  all_goals (try simp only [ite_outQueue, ite_queue, ite_self, State.enterSecond_queue, State.setSample_queue])

@[simp] theorem State.voidResults_queue (s : State) (c : Nat) : (State.voidResults s c).queue = s.queue := by
  simp only [State.voidResults, implies_true, foldl_queue, State.bump_queue, State.setSample_queue]

@[simp] theorem State.loseReplay_queue (s : State) (c : Nat) : (State.loseReplay s c).queue = s.queue := by
  simp only [State.loseReplay, ite_outQueue, ite_queue, ite_self, State.setSh_queue, State.wr_queue]

@[simp] theorem State.retireCluster_queue (s : State) (c : Nat) : (State.retireCluster s c).queue = s.queue := by
  unfold State.retireCluster
  (try dsimp only)
  repeat' split
  all_goals (try simp only [Prod.ext_iff] at *)
  all_goals (try casesm* _ ∧ _)
  all_goals (try subst_vars)
  all_goals (try simp only [implies_true, foldl_queue, State.loseCluster_queue, State.loseReplay_queue, State.moveVager_queue,
    State.noCluster_queue, State.setClState_queue, State.setCluster_queue, State.shroudDispatch_queue, State.startKat_queue,
    State.voidResults_queue, State.wakeVager_queue])

@[simp] theorem State.noteSid_queue (s : State) (p : Die) (sid : Nat) : (State.noteSid s p sid).queue = s.queue := by
  simp only [State.noteSid, ite_outQueue, ite_queue, ite_self, State.setElem_queue, State.setSh_queue]

@[simp] theorem State.shroudCut_queue (s : State) (p : Die) (gs : List MGran) : (State.shroudCut s p gs).queue = s.queue := by
  unfold State.shroudCut
  (try dsimp only)
  repeat' split
  all_goals (try simp only [Prod.ext_iff] at *)
  all_goals (try casesm* _ ∧ _)
  all_goals (try subst_vars)
  all_goals (try simp only [ite_outQueue, ite_queue, ite_self, State.noteSid_queue, State.poolChanged_queue, State.setSh_queue,
    State.verdict_queue])

/-! ### Pass -/

@[simp] theorem State.setMslot_queue (s : State) (m : Nat) (x : MSlot) : (State.setMslot s m x).queue = s.queue := by
  simp only [State.setMslot, State.setVager_queue]

@[simp] theorem State.setLaneGroup_queue (s : State) (g : Nat) (x : LaneGroup) : (State.setLaneGroup s g x).queue = s.queue := by
  simp only [State.setLaneGroup, State.setVager_queue]

@[simp] theorem State.setMdlState_queue (s : State) (m st : Nat) : (State.setMdlState s m st).queue = s.queue := by
  simp only [State.setMdlState, State.wr_queue]

@[simp] theorem State.alarmRecord_queue (s : State) (rec : Nat) : (State.alarmRecord s rec).queue = s.queue := by
  simp only [State.alarmRecord, ite_outQueue, ite_queue, ite_self, State.setVager_queue, State.bump_queue]

@[simp] theorem State.alarm_queue (s : State) (m o r : Nat) (raise : Bool) (x : Score) (swap : Bool) (start : Nat) : (State.alarm s m o r raise x swap start).queue = s.queue := by
  simp only [State.alarm, ite_outQueue, ite_queue, ite_self, State.alarmRecord_queue, State.bump_queue, State.wr_queue]

@[simp] theorem State.freeSlot_queue (s : State) (m : Nat) : (State.freeSlot s m).queue = s.queue := by
  simp only [State.freeSlot, implies_true, foldl_queue, State.setLaneGroup_queue, State.setMdlState_queue, State.setMslot_queue,
    State.wr_queue]

@[simp] theorem State.freeIfRetired_queue (s : State) (m : Nat) : (State.freeIfRetired s m).queue = s.queue := by
  simp only [State.freeIfRetired, ite_outQueue, ite_queue, ite_self, State.freeSlot_queue]

@[simp] theorem State.swapClear_queue (s : State) (k start : Nat) : (State.swapClear s k start).queue = s.queue := by
  simp only [State.swapClear, implies_true, ite_outQueue, ite_queue, ite_self, foldl_queue, State.alarm_queue]

@[simp] theorem State.activate_queue (s : State) (m start : Nat) : (State.activate s m start).queue = s.queue := by
  simp only [State.activate, implies_true, ite_outQueue, ite_queue, ite_self, foldl_queue, State.freeIfRetired_queue,
    State.setMdlState_queue, State.setMslot_queue, State.swapClear_queue, State.wr_queue]

@[simp] theorem State.passStart_queue (s : State) (m t : Nat) (triggered : Bool) : (State.passStart s m t triggered).queue = s.queue := by
  unfold State.passStart
  (try dsimp only)
  repeat' split
  all_goals (try simp only [Prod.ext_iff] at *)
  all_goals (try casesm* _ ∧ _)
  all_goals (try subst_vars)
  all_goals (try simp only [ite_outQueue, ite_queue, ite_self, State.activate_queue, State.bump_queue, State.setMslot_queue])

@[simp] theorem State.triggerPasses_queue (s : State) (cg : Nat) : (State.triggerPasses s cg).queue = s.queue := by
  simp only [State.triggerPasses, implies_true, ite_outQueue, ite_queue, ite_self, foldl_queue, State.activate_queue,
    State.passStart_queue]

@[simp] theorem State.leaveGroup_queue (s : State) (m g : Nat) : (State.leaveGroup s m g).queue = s.queue := by
  simp only [State.leaveGroup, ite_outQueue, ite_queue, ite_self, State.recordV_queue, State.setLaneGroup_queue,
    State.setMdlState_queue, State.setMslot_queue]

@[simp] theorem State.redoLane_queue (s : State) (g lane : Nat) (which : Pass → Bool) : (State.redoLane s g lane which).queue = s.queue := by
  simp only [State.redoLane, ite_outQueue, ite_queue, ite_self, State.setVager_queue]

@[simp] theorem State.retireTtLane_queue (s : State) (g lane : Nat) : (State.retireTtLane s g lane).queue = s.queue := by
  simp only [State.retireTtLane, implies_true, ite_outQueue, ite_queue, ite_self, foldl_queue, State.leaveGroup_queue,
    State.redoLane_queue, State.setLaneGroup_queue]

@[simp] theorem State.retireBlock_queue (s : State) (g b : Nat) : (State.retireBlock s g b).queue = s.queue := by
  unfold State.retireBlock
  (try dsimp only)
  repeat' split
  all_goals (try simp only [Prod.ext_iff] at *)
  all_goals (try casesm* _ ∧ _)
  all_goals (try subst_vars)
  all_goals (try simp only [implies_true, ite_outQueue, ite_queue, ite_self, foldl_queue, State.setVager_queue, State.leaveGroup_queue,
    State.setLaneGroup_queue])

/-! ### Reduce -/

@[simp] theorem State.sendTreeUp_queue (s : State) (u : UpPartial) (resend : Bool) : (State.sendTreeUp s u resend).queue = s.queue := by
  unfold State.sendTreeUp
  (try dsimp only)
  repeat' split
  all_goals (try simp only [Prod.ext_iff] at *)
  all_goals (try casesm* _ ∧ _)
  all_goals (try subst_vars)
  all_goals (try simp only [State.sendTree_queue])

@[simp] theorem State.sendPartial_queue (s : State) (u : UpPartial) : (State.sendPartial s u).queue = s.queue := by
  simp only [State.sendPartial, ite_outQueue, ite_queue, ite_self, State.sendTreeUp_queue, State.setTree_queue]

@[simp] theorem State.forwardBcast_queue (s : State) (bseq : Nat) (resend : Bool) : (State.forwardBcast s bseq resend).queue = s.queue := by
  unfold State.forwardBcast
  (try dsimp only)
  repeat' split
  all_goals (try simp only [Prod.ext_iff] at *)
  all_goals (try casesm* _ ∧ _)
  all_goals (try subst_vars)
  all_goals (try simp only [implies_true, foldl_queue, State.putBcast_queue, State.sendTree_queue])

@[simp] theorem State.takeBcast_queue (s : State) (b : Bcast) : (State.takeBcast s b).queue = s.queue := by
  simp only [State.takeBcast, State.setTree_queue, State.wr_queue]

@[simp] theorem State.applyResult_queue (s : State) (gs : List Nat) : (State.applyResult s gs).queue = s.queue := by
  unfold State.applyResult
  (try dsimp only)
  repeat' split
  all_goals (try simp only [Prod.ext_iff] at *)
  all_goals (try casesm* _ ∧ _)
  all_goals (try subst_vars)
  all_goals (try simp only [State.setVager_queue, State.loadRefs_queue])

@[simp] theorem State.broadcastResult_queue (s : State) (g : Group) (header : Nat) (p : Partial) : (State.broadcastResult s g header p).queue = s.queue := by
  simp only [State.broadcastResult, State.applyResult_queue, State.forwardBcast_queue, State.takeBcast_queue, State.tryBack_queue]

@[simp] theorem State.setGroup_queue (s : State) (cg : Nat) (g : Group) : (State.setGroup s cg g).queue = s.queue := by
  simp only [State.setGroup, State.setVager_queue]

@[simp] theorem State.setCtxState_queue (s : State) (x st : Nat) : (State.setCtxState s x st).queue = s.queue := by
  simp only [State.setCtxState, State.wr_queue]

@[simp] theorem State.freeContext_queue (s : State) (x : Nat) : (State.freeContext s x).queue = s.queue := by
  simp only [State.freeContext, ite_outQueue, ite_queue, ite_self, State.setVager_queue, State.setCtxState_queue]

@[simp] theorem State.checkDrain_queue (s : State) (x : Nat) : (State.checkDrain s x).queue = s.queue := by
  simp only [State.checkDrain, ite_outQueue, ite_queue, ite_self, State.freeContext_queue]

@[simp] theorem State.setRound_queue (s : State) (cg : Nat) (r : Round) : (State.setRound s cg r).queue = s.queue := by
  simp only [State.setRound, ite_outQueue, ite_queue, ite_self, State.setGroup_queue]

@[simp] theorem State.closeOwn_queue (s : State) (cg key : Nat) : (State.closeOwn s cg key).queue = s.queue := by
  unfold State.closeOwn
  (try dsimp only)
  repeat' split
  all_goals (try simp only [Prod.ext_iff] at *)
  all_goals (try casesm* _ ∧ _)
  all_goals (try subst_vars)
  all_goals (try simp only [ite_outQueue, ite_queue, ite_self, State.scheduleAnchors_queue, State.setRound_queue, State.triggerPasses_queue])

@[simp] theorem State.closeRound_queue (s : State) (cg key flags : Nat) : (State.closeRound s cg key flags).queue = s.queue := by
  unfold State.closeRound
  (try dsimp only)
  repeat' split
  all_goals (try simp only [Prod.ext_iff] at *)
  all_goals (try casesm* _ ∧ _)
  all_goals (try subst_vars)
  all_goals (try simp only [implies_true, ite_outQueue, ite_queue, ite_self, foldl_queue, State.setVager_queue, State.broadcastResult_queue,
    State.checkDrain_queue, State.closeOwn_queue, State.sendPartial_queue, State.setGroup_queue])

theorem State.openRound_queue {s t : State} {cg key : Nat} (h : s.openRound cg key = some t) : t.queue = s.queue := by
  unfold State.openRound at h
  dsimp only at h
  repeat' split at h
  all_goals cases h
  all_goals simp only [State.setGroup_queue, State.closeRound_queue]

@[simp] theorem State.checkStanding_queue (s : State) (cg : Nat) : (State.checkStanding s cg).queue = s.queue := by
  simp only [State.checkStanding, ite_outQueue, ite_queue, ite_self, State.sendPartial_queue, State.setGroup_queue]

@[simp] theorem State.setVstream_queue (s : State) (sid : Nat) (x : VStream) : (State.setVstream s sid x).queue = s.queue := by
  simp only [State.setVstream, State.setVager_queue]

@[simp] theorem State.countUnbound_queue (s : State) (sid : Nat) : (State.countUnbound s sid).queue = s.queue := by
  simp only [State.countUnbound, State.bump_queue, State.setVstream_queue]

@[simp] theorem State.countLate_queue (s : State) (sid : Nat) : (State.countLate s sid).queue = s.queue := by
  simp only [State.countLate, State.bump_queue, State.setVstream_queue]

@[simp] theorem State.offer_queue (s : State) (cg sid value t : Nat) (unlocked : Bool) :
    (s.offer cg sid value t unlocked).queue = s.queue := by
  unfold State.offer
  dsimp only
  split
  · exact State.countUnbound_queue ..
  · split
    · exact State.countLate_queue ..
    · next t h =>
      rw [← State.openRound_queue h]
      repeat' split
      all_goals simp only [State.countLate_queue, State.bump_queue, State.setRound_queue, State.setVstream_queue,
        State.setGroup_queue]

@[simp] theorem State.applyRecord_queue (s : State) (d rec : Nat) (spoilt : List Nat) : (State.applyRecord s d rec spoilt).queue = s.queue := by
  unfold State.applyRecord
  (try dsimp only)
  repeat' split
  all_goals (try simp only [Prod.ext_iff] at *)
  all_goals (try casesm* _ ∧ _)
  all_goals (try subst_vars)
  all_goals (try simp only [State.bump_queue, State.countUnbound_queue, State.offer_queue, State.runBuilders_queue, State.setVstream_queue])

@[simp] theorem execStreamClear_queue (w : Writer) (s : State) : outQueue (execStreamClear w s) = s.queue := by
  simp only [execStreamClear, outQueue_next, State.writeBy_queue, State.answer_queue, State.setVstream_queue, State.writeBy_queue]

@[simp] theorem State.offerSnapshot_queue (s : State) (cg p : Nat) (sn : Snapshot) :
    (s.offerSnapshot cg p sn).queue = s.queue := by
  unfold State.offerSnapshot
  dsimp only
  split
  · exact State.bump_queue ..
  · split
    · exact State.bump_queue ..
    · next t h =>
      rw [← State.openRound_queue h]
      repeat' split
      all_goals simp only [State.bump_queue, State.setRound_queue, State.setGroup_queue]

@[simp] theorem State.snapshotPart_queue (s : State) (p head : Nat) (body : List Nat) : (State.snapshotPart s p head body).queue = s.queue := by
  unfold State.snapshotPart
  (try dsimp only)
  repeat' split
  all_goals (try simp only [Prod.ext_iff] at *)
  all_goals (try casesm* _ ∧ _)
  all_goals (try subst_vars)
  all_goals (try simp only [implies_true, ite_outQueue, ite_queue, ite_self, foldl_queue, State.setVager_queue, State.bump_queue,
    State.offerSnapshot_queue, State.wr_queue])

@[simp] theorem execTrayPartialClose_queue (x : Fin 64) (g : Fin 16) (round : Nat) (s : State) : outQueue (execTrayPartialClose x g round s) = s.queue := by
  unfold execTrayPartialClose
  (try dsimp only)
  repeat' split
  all_goals (try simp only [Prod.ext_iff] at *)
  all_goals (try casesm* _ ∧ _)
  all_goals (try subst_vars)
  all_goals (try simp only [outQueue_next, ite_outQueue, ite_queue, ite_self, State.closeOwn_queue])

@[simp] theorem execMergedRoundClose_queue (x : Fin 64) (g : Fin 16) (round : Nat) (s : State) : outQueue (execMergedRoundClose x g round s) = s.queue := by
  unfold execMergedRoundClose
  (try dsimp only)
  repeat' split
  all_goals (try simp only [Prod.ext_iff] at *)
  all_goals (try casesm* _ ∧ _)
  all_goals (try subst_vars)
  all_goals (try simp only [outQueue_next, ite_outQueue, ite_queue, ite_self, State.closeOwn_queue, State.closeRound_queue])

/-! ### StayOps -/

@[simp] theorem State.setStay_queue (s : State) (x : Stay) : (State.setStay s x).queue = s.queue := by
  simp only [State.setStay, State.setVager_queue]

@[simp] theorem State.setStd_queue (s : State) (d : Die) (x : StayDie) : (State.setStd s d x).queue = s.queue := by
  simp only [State.setStd, State.setDie_queue]

@[simp] theorem State.fillSlot_queue (s : State) (slot : Nat) (data : List (Nat × Bool)) : (State.fillSlot s slot data).queue = s.queue := by
  simp only [State.fillSlot, implies_true, foldl_queue, State.setHbm_queue]

@[simp] theorem State.sendStay_queue (s : State) (dst cut epoch ty arg0 arg1 : Nat) (last resend : Bool) (body : List Nat) : (State.sendStay s dst cut epoch ty arg0 arg1 last resend body).queue = s.queue := by
  simp only [State.sendStay, State.sendDatagram_queue]

@[simp] theorem State.stayCommand_queue (s : State) (d : Die) (cmd : Nat) : (State.stayCommand s d cmd).queue = s.queue := by
  simp only [State.stayCommand, State.command_queue]

@[simp] theorem State.setCut_queue (s : State) (st : Nat) (i : Nat) : (State.setCut s st i).queue = s.queue := by
  simp only [State.setCut, State.dmaSettle_queue, State.setElem_queue, State.wr_queue]

@[simp] theorem State.stopDrain_queue (s : State) : (State.stopDrain s).queue = s.queue := by
  simp only [State.stopDrain, State.setStay_queue]

@[simp] theorem State.abandonCut_queue (s : State) (code : Nat) : (State.abandonCut s code).queue = s.queue := by
  simp only [State.abandonCut, implies_true, ite_outQueue, ite_queue, ite_self, foldl_queue, State.setCut_queue,
    State.stayCommand_queue, State.stopDrain_queue, State.wr_queue]

@[simp] theorem State.takeAbort_queue (s : State) : (State.takeAbort s).queue = s.queue := by
  simp only [State.takeAbort, ite_outQueue, ite_queue, ite_self, State.abandonCut_queue]

@[simp] theorem State.sendAborts_queue (s : State) (code : Nat) (resend : Bool) : (State.sendAborts s code resend).queue = s.queue := by
  simp only [State.sendAborts, implies_true, foldl_queue, State.sendStay_queue]

@[simp] theorem State.coordUnusable_queue (s : State) (code : Nat) : (State.coordUnusable s code).queue = s.queue := by
  simp only [State.coordUnusable, ite_outQueue, ite_queue, ite_self, State.sendAborts_queue, State.setStay_queue,
    State.takeAbort_queue, State.wr_queue]

@[simp] theorem State.sendUnusable_queue (s : State) (code : Nat) : (State.sendUnusable s code).queue = s.queue := by
  simp only [State.sendUnusable, ite_outQueue, ite_queue, ite_self, State.coordUnusable_queue, State.sendStay_queue]

@[simp] theorem State.discardCut_queue (s : State) (code : Nat) : (State.discardCut s code).queue = s.queue := by
  simp only [State.discardCut, State.sendUnusable_queue, State.setCut_queue, State.stopDrain_queue, State.wr_queue]

@[simp] theorem State.stayLinkLost_queue (s : State) (p : Die) : (State.stayLinkLost s p).queue = s.queue := by
  simp only [State.stayLinkLost, ite_outQueue, ite_queue, ite_self, State.discardCut_queue]

@[simp] theorem State.unusable_queue (s : State) (code : Nat) : (State.unusable s code).queue = s.queue := by
  simp only [State.unusable, State.sendUnusable_queue, State.wr_queue]

@[simp] theorem State.endCut_queue (s : State) (d : Die) (chunks code : Nat) : (State.endCut s d chunks code).queue = s.queue := by
  simp only [State.endCut, ite_outQueue, ite_queue, ite_self, State.emit_queue, State.bump_queue, State.dmaSettle_queue,
    State.send_queue, State.wr_queue]

@[simp] theorem State.abortDieCut_queue (s : State) (d : Die) (code : Nat) : (State.abortDieCut s d code).queue = s.queue := by
  simp only [State.abortDieCut, ite_outQueue, ite_queue, ite_self, State.endCut_queue]

/-! ### LinkOps -/

@[simp] theorem State.cutShort_queue (s : State) (v : Bool) (p : Die) : (State.cutShort s v p).queue = s.queue := by
  simp only [State.cutShort, ite_outQueue, ite_queue, ite_self, State.setLink_queue, State.shroudCut_queue]

@[simp] theorem State.linkLeft_queue (s : State) (v : Bool) (p : Die) : (State.linkLeft s v p).queue = s.queue := by
  simp only [State.linkLeft, ite_outQueue, ite_queue, ite_self, State.discardEntries_queue, State.proxyDown_queue,
    State.setLink_queue, State.starisHoldover_queue, State.stayLinkLost_queue]

@[simp] theorem State.goLink_queue (s : State) (v : Bool) (p : Die) (st : Nat) : (State.goLink s v p st).queue = s.queue := by
  simp only [State.goLink, ite_outQueue, ite_queue, ite_self, State.linkLeft_queue, State.setLinkState_queue]

@[simp] theorem State.failLink_queue (s : State) (v : Bool) (p : Die) : (State.failLink s v p).queue = s.queue := by
  simp only [State.failLink, ite_outQueue, ite_queue, ite_self, State.cutShort_queue, State.goLink_queue, State.report_queue,
    State.setLink_queue]

@[simp] theorem State.retrain_queue (s : State) (v : Bool) (p : Die) : (State.retrain s v p).queue = s.queue := by
  simp only [State.retrain, ite_outQueue, ite_queue, ite_self, State.failLink_queue, State.goLink_queue, State.lbump_queue,
    State.setLink_queue]

@[simp] theorem State.protocolError_queue (s : State) (v : Bool) (p : Die) : (State.protocolError s v p).queue = s.queue := by
  simp only [State.protocolError, State.lbump_queue, State.retrain_queue]

@[simp] theorem State.issueChange_queue (s : State) (p : Die) (drop : Bool) (a b : Nat) : (State.issueChange s p drop a b).queue = s.queue := by
  simp only [State.issueChange, ite_outQueue, ite_queue, ite_self, State.pushItem_queue, State.setLink_queue]

@[simp] theorem State.wantChange_queue (s : State) (p : Die) (drop : Bool) (lane spare : Nat) : (State.wantChange s p drop lane spare).queue = s.queue := by
  simp only [State.wantChange, ite_outQueue, ite_queue, ite_self, State.issueChange_queue, State.setLink_queue]

@[simp] theorem State.retireNow_queue (s : State) (p : Die) (lane : Nat) : (State.retireNow s p lane).2.queue = s.queue := by
  unfold State.retireNow
  (try dsimp only)
  repeat' split
  all_goals (try simp only [Prod.ext_iff] at *)
  all_goals (try casesm* _ ∧ _)
  all_goals (try subst_vars)
  all_goals (try simp only [ite_outQueue, ite_queue, ite_self, State.failLink_queue, State.wantChange_queue, State.wr_queue])

@[simp] theorem State.retireHalyardLane_queue (s : State) (p : Die) (lane : Nat) : (State.retireHalyardLane s p lane).2.queue = s.queue := by
  unfold State.retireHalyardLane
  (try dsimp only)
  repeat' split
  all_goals (try simp only [Prod.ext_iff] at *)
  all_goals (try casesm* _ ∧ _)
  all_goals (try subst_vars)
  all_goals (try simp only [ite_outQueue, ite_queue, ite_self, State.retireNow_queue, State.setLink_queue, State.wr_queue])

/-! ### Faults -/

@[simp] theorem State.setClf_queue (s : State) (x : Classifier) : (State.setClf s x).queue = s.queue := by
  simp only [State.setClf, State.setVager_queue]

@[simp] theorem State.relocate_queue (s : State) (pages : List Nat) : (State.relocate s pages).2.queue = s.queue := by
  unfold State.relocate
  (try dsimp only)
  repeat' split
  all_goals (try simp only [Prod.ext_iff] at *)
  all_goals (try casesm* _ ∧ _)
  all_goals (try subst_vars)
  all_goals (try simp only [ite_outQueue, ite_queue, ite_self, State.setClf_queue, State.wr_queue])

@[simp] theorem State.retireRow_queue (s : State) (pc : Nat) (row : Option Nat) (pages : List Nat) : (State.retireRow s pc row pages).2.queue = s.queue := by
  unfold State.retireRow
  (try dsimp only)
  repeat' split
  all_goals (try simp only [Prod.ext_iff] at *)
  all_goals (try casesm* _ ∧ _)
  all_goals (try subst_vars)
  all_goals (try simp only [ite_outQueue, ite_queue, ite_self, State.relocate_queue, State.setClf_queue, State.setElem_queue])

@[simp] theorem State.retireBank_queue (s : State) (i : Nat) : (s.retireBank i).2.queue = s.queue := by
  unfold State.retireBank
  dsimp only
  repeat' split
  all_goals simp only [State.retireBlock_queue]

@[simp] theorem State.retireOne_queue (s : State) (k i : Nat) (row : Option Nat) (pages : List Nat) :
    (State.retireOne s k i row pages).2.queue = s.queue := by
  unfold State.retireOne
  dsimp only
  split
  · split
    · rw [State.retireHalyardLane_queue]
    · rfl
  · rw [State.retireRow_queue]
  · rw [State.retireBank_queue]
  · rw [State.retireCluster_queue]
  · rw [State.retireTtLane_queue]

@[simp] theorem State.reportOutcome_queue (s : State) (k i : Nat) (o : Outcome) : (State.reportOutcome s k i o).queue = s.queue := by
  unfold State.reportOutcome
  (try dsimp only)
  repeat' split
  all_goals (try simp only [Prod.ext_iff] at *)
  all_goals (try casesm* _ ∧ _)
  all_goals (try subst_vars)
  all_goals (try simp only [ite_outQueue, ite_queue, ite_self, State.report_queue, State.wr_queue])

@[simp] theorem State.permanent_queue (s : State) (k i : Nat) (row : Option Nat) (pages : List Nat) : (State.permanent s k i row pages).queue = s.queue := by
  simp only [State.permanent, ite_outQueue, ite_queue, ite_self, State.bump_queue, State.reportOutcome_queue,
    State.retireOne_queue, State.setClf_queue]

@[simp] theorem State.classify_queue (s : State) (k i : Nat) (ue : Bool) (row : Option Nat) (pages : List Nat) : (State.classify s k i ue row pages).queue = s.queue := by
  simp only [State.classify, ite_outQueue, ite_queue, ite_self, State.bump_queue, State.permanent_queue, State.setClf_queue]

@[simp] theorem State.takeCoded_queue (s : State) (g : Gran) (e : HbmError) (r : K288) : (s.takeCoded g e r).2.queue = s.queue := by
  cases r with
  | corrected d => exact State.classify_queue ..
  | uncorrectable => exact State.classify_queue ..
  | _ => rfl

@[simp] theorem State.readCoded_queue (s : State) (g : Gran) (e : Option HbmError) : (s.readCoded g e).2.queue = s.queue := by
  cases e with
  | none => rfl
  | some e => exact State.takeCoded_queue ..

@[simp] theorem State.hbmRead_queue (s : State) (i : Nat) (e : Option HbmError) : (s.hbmRead i e).2.queue = s.queue := by
  unfold State.hbmRead
  split
  · exact (State.readCoded_queue ..).trans (State.takeNat_queue ..)
  · simp only [ite_queue, State.setHbm_queue, State.readCoded_queue, ite_self]

@[simp] theorem State.spendBank_queue (s : State) (d : Die) (i : Nat) : (State.spendBank s d i).queue = s.queue := by
  unfold State.spendBank
  (try dsimp only)
  repeat' split
  all_goals (try simp only [Prod.ext_iff] at *)
  all_goals (try casesm* _ ∧ _)
  all_goals (try subst_vars)
  all_goals (try simp only [State.setCap_queue, State.wr_queue])

@[simp] theorem State.retireDieBank_queue (s : State) (d : Die) (i : Nat) : (State.retireDieBank s d i).queue = s.queue := by
  simp only [State.retireDieBank, ite_outQueue, ite_queue, ite_self, State.setDie_queue, State.takeNat_queue,
    State.sendControl_queue, State.setElem_queue, State.spendBank_queue]

@[simp] theorem State.classifyDie_queue (s : State) (d : Die) (i : Nat) (ue : Bool) : (State.classifyDie s d i ue).queue = s.queue := by
  simp only [State.classifyDie, ite_outQueue, ite_queue, ite_self, State.setDie_queue, State.retireDieBank_queue]

@[simp] theorem State.memError_queue (s : State) (p : Part) (e : MemError) : (State.memError s p e).queue = s.queue := by
  unfold State.memError
  (try dsimp only)
  repeat' split
  all_goals (try simp only [Prod.ext_iff] at *)
  all_goals (try casesm* _ ∧ _)
  all_goals (try subst_vars)
  all_goals (try simp only [State.classify_queue, State.classifyDie_queue, State.hbmRead_queue])

@[simp] theorem execClassifierLeak_queue (p : Part) (errors : List MemError) (s : State) : outQueue (execClassifierLeak p errors s) = s.queue := by
  unfold execClassifierLeak
  (try dsimp only)
  repeat' split
  all_goals (try simp only [Prod.ext_iff] at *)
  all_goals (try casesm* _ ∧ _)
  all_goals (try subst_vars)
  all_goals (try simp only [outQueue_next, implies_true, foldl_queue, State.setDie_queue, State.memError_queue, State.setClf_queue])

@[simp] theorem execHbmRowRepairDone_queue (s : State) : outQueue (execHbmRowRepairDone s) = s.queue := by
  unfold execHbmRowRepairDone
  (try dsimp only)
  repeat' split
  all_goals (try simp only [Prod.ext_iff] at *)
  all_goals (try casesm* _ ∧ _)
  all_goals (try subst_vars)
  all_goals (try simp only [outQueue_next, State.setClf_queue])

@[simp] theorem execInstClear_queue (w : Writer) (s : State) : outQueue (execInstClear w s) = s.queue := by
  simp only [execInstClear, outQueue_next, State.writeBy_queue, State.answer_queue, State.setClf_queue, State.writeBy_queue]

/-! ### Dma -/

theorem State.dmaBy_queue (s : State) (p : Part) (n : Nat) (w : Writer) (k : State → State)
    (h : (k s).queue = s.queue) : (s.dmaBy p n w k).queue = s.queue := by
  unfold State.dmaBy
  split
  · exact State.writeBy_queue _ _ _ _ _ h
  · exact State.answer_queue ..

@[simp] theorem State.dmaRefuse_queue (s : State) (p : Part) (n code : Nat) : (State.dmaRefuse s p n code).queue = s.queue := by
  simp only [State.dmaRefuse, State.answer_queue, State.wr_queue]

@[simp] theorem execShadowDescWrite_queue (p : Part) (n : Fin 16) (w : Writer) (desc : Nat) (s : State) : outQueue (execShadowDescWrite p n w desc s) = s.queue := by
  simp only [execShadowDescWrite, outQueue_next, ite_outQueue, ite_queue, ite_self, State.dmaBy_queue, State.answer_queue,
    State.dmaBy_queue, State.dmaRefuse_queue, State.setElem_queue]

@[simp] theorem execDmaArm_queue (p : Part) (n : Fin 16) (w : Writer) (s : State) : outQueue (execDmaArm p n w s) = s.queue := by
  simp only [execDmaArm, outQueue_next, ite_outQueue, ite_queue, ite_self, State.dmaBy_queue, State.answer_queue,
    State.dmaBy_queue, State.dmaRefuse_queue, State.dmaTake_queue, State.wr_queue]

@[simp] theorem execDmaCancel_queue (p : Part) (n : Fin 16) (w : Writer) (s : State) : outQueue (execDmaCancel p n w s) = s.queue := by
  simp only [execDmaCancel, outQueue_next, ite_outQueue, ite_queue, ite_self, State.dmaBy_queue, State.answer_queue,
    State.dmaBy_queue, State.dmaRefuse_queue, State.wr_queue]

@[simp] theorem execDmaAbort_queue (p : Part) (n : Fin 16) (w : Writer) (s : State) : outQueue (execDmaAbort p n w s) = s.queue := by
  simp only [execDmaAbort, outQueue_next, ite_outQueue, ite_queue, ite_self, State.dmaBy_queue, State.answer_queue,
    State.dmaAborted_queue, State.dmaBy_queue, State.dmaNext_queue, State.dmaRefuse_queue, State.setDmaCh_queue]

@[simp] theorem execDmaClear_queue (p : Part) (n : Fin 16) (w : Writer) (s : State) : outQueue (execDmaClear p n w s) = s.queue := by
  simp only [execDmaClear, outQueue_next, ite_outQueue, ite_queue, ite_self, State.dmaBy_queue, State.answer_queue,
    State.dmaBy_queue, State.dmaNext_queue, State.dmaRefuse_queue]

@[simp] theorem execDmaReset_queue (p : Part) (n : Fin 16) (w : Writer) (s : State) : outQueue (execDmaReset p n w s) = s.queue := by
  simp only [execDmaReset, outQueue_next, ite_outQueue, ite_queue, ite_self, State.dmaBy_queue, State.answer_queue,
    State.dmaAborted_queue, State.dmaBy_queue, State.dmaNext_queue, State.dmaRefuse_queue, State.wr_queue]

@[simp] theorem execDmaTransferStart_queue (p : Part) (n : Fin 16) (s : State) : outQueue (execDmaTransferStart p n s) = s.queue := by
  unfold execDmaTransferStart
  (try dsimp only)
  repeat' split
  all_goals (try simp only [Prod.ext_iff] at *)
  all_goals (try casesm* _ ∧ _)
  all_goals (try subst_vars)
  all_goals (try simp only [outQueue_next, ite_outQueue, ite_queue, ite_self, State.dmaFault_queue, State.setDmaCh_queue])

@[simp] theorem State.dmaHbmRead_queue (s : State) (n g : Nat) (e : Option HbmError) : (State.dmaHbmRead s n g e).2.queue = s.queue := by
  unfold State.dmaHbmRead
  (try dsimp only)
  repeat' split
  all_goals (try simp only [Prod.ext_iff] at *)
  all_goals (try casesm* _ ∧ _)
  all_goals (try subst_vars)
  all_goals (try simp only [ite_outQueue, ite_queue, ite_self, State.takeNat_queue, State.hbmRead_queue])

@[simp] theorem State.dmaKeepOld_queue (s : State) (p : Part) (n sp g : Nat) : (State.dmaKeepOld s p n sp g).queue = s.queue := by
  simp only [State.dmaKeepOld, ite_outQueue, ite_queue, ite_self, State.setDmaCh_queue]

@[simp] theorem State.dmaMove_queue (s : State) (p : Part) (n : Nat) (a : DmaAccess) : (State.dmaMove s p n a).queue = s.queue := by
  unfold State.dmaMove
  (try dsimp only)
  repeat' split
  all_goals (try simp only [Prod.ext_iff] at *)
  all_goals (try casesm* _ ∧ _)
  all_goals (try subst_vars)
  all_goals (try simp only [ite_outQueue, ite_queue, ite_self, State.bump_queue, State.dmaFault_queue, State.dmaHbmRead_queue,
    State.dmaKeepOld_queue, State.dmaWrite_queue, State.setDmaCh_queue, State.wr_queue])

@[simp] theorem execDmaAccessDone_queue (p : Part) (n : Fin 16) (a : DmaAccess) (s : State) : outQueue (execDmaAccessDone p n a s) = s.queue := by
  unfold execDmaAccessDone
  (try dsimp only)
  repeat' split
  all_goals (try simp only [Prod.ext_iff] at *)
  all_goals (try casesm* _ ∧ _)
  all_goals (try subst_vars)
  all_goals (try simp only [outQueue_next, ite_outQueue, ite_queue, ite_self, State.dmaMove_queue, State.traceDmaDone_queue])

@[simp] theorem execDmaTransferEnd_queue (p : Part) (n : Fin 16) (recordOk : Bool) (s : State) : outQueue (execDmaTransferEnd p n recordOk s) = s.queue := by
  simp only [execDmaTransferEnd, outQueue_next, ite_outQueue, ite_queue, ite_self, State.dmaNext_queue, State.dmaSignal_queue,
    State.setDmaCh_queue, State.wr_queue]

@[simp] theorem execDmaChannelClaim_queue (p : Part) (n : Fin 16) (s : State) : outQueue (execDmaChannelClaim p n s) = s.queue := by
  unfold execDmaChannelClaim
  (try dsimp only)
  repeat' split
  all_goals (try simp only [Prod.ext_iff] at *)
  all_goals (try casesm* _ ∧ _)
  all_goals (try subst_vars)
  all_goals (try simp only [outQueue_next, ite_outQueue, ite_queue, ite_self, State.dmaSettle_queue])

@[simp] theorem execDmaChannelRelease_queue (p : Part) (n : Fin 16) (s : State) : outQueue (execDmaChannelRelease p n s) = s.queue := by
  simp only [execDmaChannelRelease, outQueue_next, ite_outQueue, ite_queue, ite_self, State.dmaSettle_queue]

/-! ### Shroud -/

@[simp] theorem State.sendSample_queue (s : State) (d : Die) (slot sid offset bytes : Nat) (entry : List (Nat × Bool)) : (State.sendSample s d slot sid offset bytes entry).queue = s.queue := by
  simp only [State.sendSample, ite_outQueue, ite_queue, ite_self, State.emit_queue, State.bump_queue, State.sendTap_queue,
    State.setShd_queue]

@[simp] theorem execSampleNotice_queue (d : Die) (sid offset bytes : Nat) (entry : List (Nat × Bool)) (s : State) : outQueue (execSampleNotice d sid offset bytes entry s) = s.queue := by
  unfold execSampleNotice
  (try dsimp only)
  repeat' split
  all_goals (try simp only [Prod.ext_iff] at *)
  all_goals (try casesm* _ ∧ _)
  all_goals (try subst_vars)
  all_goals (try simp only [outQueue_next, ite_outQueue, ite_queue, ite_self, State.emit_queue, State.bump_queue, State.sendSample_queue,
    State.setShd_queue, State.shSkip_queue])

@[simp] theorem execSampleSkip_queue (d : Die) (sid code : Nat) (s : State) : outQueue (execSampleSkip d sid code s) = s.queue := by
  unfold execSampleSkip
  (try dsimp only)
  repeat' split
  all_goals (try simp only [Prod.ext_iff] at *)
  all_goals (try casesm* _ ∧ _)
  all_goals (try subst_vars)
  all_goals (try simp only [outQueue_next, State.setShd_queue, State.shSkip_queue])

@[simp] theorem execRecomputeAnswer_queue (d : Die) (sid : Nat) (declined : Bool) (result : List (Nat × Bool)) (s : State) : outQueue (execRecomputeAnswer d sid declined result s) = s.queue := by
  unfold execRecomputeAnswer
  (try dsimp only)
  repeat' split
  all_goals (try simp only [Prod.ext_iff] at *)
  all_goals (try casesm* _ ∧ _)
  all_goals (try subst_vars)
  all_goals (try simp only [outQueue_next, ite_outQueue, ite_queue, ite_self, State.bump_queue, State.notice_queue, State.sendTap_queue])

@[simp] theorem execPoisonRequestAnswer_queue (d : Die) (resident : Bool) (s : State) : outQueue (execPoisonRequestAnswer d resident s) = s.queue := by
  unfold execPoisonRequestAnswer
  (try dsimp only)
  repeat' split
  all_goals (try simp only [Prod.ext_iff] at *)
  all_goals (try casesm* _ ∧ _)
  all_goals (try subst_vars)
  all_goals (try simp only [outQueue_next, ite_outQueue, ite_queue, ite_self, State.notice_queue, State.setShd_queue])

@[simp] theorem execVerdictCommand_queue (d : Die) (granule : Nat) (s : State) : outQueue (execVerdictCommand d granule s) = s.queue := by
  unfold execVerdictCommand
  (try dsimp only)
  repeat' split
  all_goals (try simp only [Prod.ext_iff] at *)
  all_goals (try casesm* _ ∧ _)
  all_goals (try subst_vars)
  all_goals (try simp only [outQueue_next, ite_outQueue, ite_queue, ite_self, State.emit_queue, State.setShd_queue])

@[simp] theorem execRecomputeCommand_queue (d : Die) (granule : Nat) (s : State) : outQueue (execRecomputeCommand d granule s) = s.queue := by
  unfold execRecomputeCommand
  (try dsimp only)
  repeat' split
  all_goals (try simp only [Prod.ext_iff] at *)
  all_goals (try casesm* _ ∧ _)
  all_goals (try subst_vars)
  all_goals (try simp only [outQueue_next, State.emit_queue, State.bump_queue, State.notice_queue])

@[simp] theorem execPoisonReqCommand_queue (d : Die) (granule : Nat) (s : State) : outQueue (execPoisonReqCommand d granule s) = s.queue := by
  simp only [execPoisonReqCommand, outQueue_next, State.emit_queue, State.bump_queue, State.setShd_queue]

@[simp] theorem State.sampleIn_queue (s : State) (x : Sample) : (State.sampleIn s x).queue = s.queue := by
  unfold State.sampleIn
  (try dsimp only)
  repeat' split
  all_goals (try simp only [Prod.ext_iff] at *)
  all_goals (try casesm* _ ∧ _)
  all_goals (try subst_vars)
  all_goals (try simp only [State.settle_queue, State.shroudDispatch_queue])

@[simp] theorem State.tapPoison_queue (s : State) (p : Die) (msg : List (Nat × Bool)) : (State.tapPoison s p msg).queue = s.queue := by
  simp only [State.tapPoison, ite_outQueue, ite_queue, ite_self, State.countPort_queue]

@[simp] theorem execShroudSampleRx_queue (p : Die) (msg : List (Nat × Bool)) (s : State) : outQueue (execShroudSampleRx p msg s) = s.queue := by
  simp only [execShroudSampleRx, outQueue_next, ite_outQueue, ite_queue, ite_self, State.noteSid_queue, State.poolChanged_queue,
    State.sampleIn_queue, State.setSh_queue, State.settle_queue, State.tapPoison_queue]

@[simp] theorem execShroudNoticeRx_queue (p : Die) (granule : Nat) (s : State) : outQueue (execShroudNoticeRx p granule s) = s.queue := by
  unfold execShroudNoticeRx
  (try dsimp only)
  repeat' split
  all_goals (try simp only [Prod.ext_iff] at *)
  all_goals (try casesm* _ ∧ _)
  all_goals (try subst_vars)
  all_goals (try simp only [outQueue_next, ite_outQueue, ite_queue, ite_self, State.noteSid_queue, State.poolChanged_queue, State.setSh_queue,
    State.settle_queue])

@[simp] theorem State.outvoted_queue (s : State) (c : Nat) : (State.outvoted s c).queue = s.queue := by
  simp only [State.outvoted, State.classify_queue, State.setElem_queue]

@[simp] theorem State.nameCluster_queue (s : State) (c : Nat) : (State.nameCluster s c).queue = s.queue := by
  simp only [State.nameCluster, State.setCluster_queue]

@[simp] theorem State.firstResult_queue (s : State) (x : Sample) (c : Nat) (r : List Nat) : (State.firstResult s x c r).queue = s.queue := by
  simp only [State.firstResult, ite_outQueue, ite_queue, ite_self, State.takeNat_queue, State.bump_queue, State.nameCluster_queue,
    State.setSample_queue, State.settle_queue]

@[simp] theorem State.secondResult_queue (s : State) (x : Sample) (c1 c2 : Nat) (r : List Nat) : (State.secondResult s x c1 c2 r).queue = s.queue := by
  simp only [State.secondResult, ite_outQueue, ite_queue, ite_self, State.askRecompute_queue, State.nameCluster_queue,
    State.outvoted_queue, State.settle_queue]

@[simp] theorem State.takeResult_queue (s : State) (c port sid : Nat) (wrong : Option (List Nat)) : (State.takeResult s c port sid wrong).queue = s.queue := by
  unfold State.takeResult
  (try dsimp only)
  repeat' split
  all_goals (try simp only [Prod.ext_iff] at *)
  all_goals (try casesm* _ ∧ _)
  all_goals (try subst_vars)
  all_goals (try simp only [ite_outQueue, ite_queue, ite_self, State.firstResult_queue, State.secondResult_queue])

@[simp] theorem State.runEnds_queue (s : State) (c : Nat) : (State.runEnds s c).queue = s.queue := by
  simp only [State.runEnds, State.setCluster_queue, State.setElem_queue]

@[simp] theorem execClusterRunDone_queue (c : Fin 18) (wrong : Option (List Nat)) (s : State) : outQueue (execClusterRunDone c wrong s) = s.queue := by
  unfold execClusterRunDone
  (try dsimp only)
  repeat' split
  all_goals (try simp only [Prod.ext_iff] at *)
  all_goals (try casesm* _ ∧ _)
  all_goals (try subst_vars)
  all_goals (try simp only [outQueue_next, State.runEnds_queue, State.shroudDispatch_queue, State.takeResult_queue])

@[simp] theorem execArbitrationReverifyDone_queue (p : Die) (sid : Nat) (s : State) : outQueue (execArbitrationReverifyDone p sid s) = s.queue := by
  unfold execArbitrationReverifyDone
  (try dsimp only)
  repeat' split
  all_goals (try simp only [Prod.ext_iff] at *)
  all_goals (try casesm* _ ∧ _)
  all_goals (try subst_vars)
  all_goals (try simp only [outQueue_next, ite_outQueue, ite_queue, ite_self, State.enterSecond_queue, State.settle_queue,
    State.shroudDispatch_queue])

@[simp] theorem State.poisonD_queue (s : State) (x : Sample) : (State.poisonD s x).queue = s.queue := by
  simp only [State.poisonD, State.shCommand_queue]

@[simp] theorem execShroudRecomputeRx_queue (p : Die) (msg : List (Nat × Bool)) (s : State) : outQueue (execShroudRecomputeRx p msg s) = s.queue := by
  unfold execShroudRecomputeRx
  (try dsimp only)
  repeat' split
  all_goals (try simp only [Prod.ext_iff] at *)
  all_goals (try casesm* _ ∧ _)
  all_goals (try subst_vars)
  all_goals (try simp only [outQueue_next, ite_outQueue, ite_queue, ite_self, State.poisonD_queue, State.settle_queue, State.tapPoison_queue])

@[simp] theorem execRecomputeTimeout_queue (p : Die) (sid : Nat) (s : State) : outQueue (execRecomputeTimeout p sid s) = s.queue := by
  unfold execRecomputeTimeout
  (try dsimp only)
  repeat' split
  all_goals (try simp only [Prod.ext_iff] at *)
  all_goals (try casesm* _ ∧ _)
  all_goals (try subst_vars)
  all_goals (try simp only [outQueue_next, ite_outQueue, ite_queue, ite_self, State.settle_queue])

@[simp] theorem execKatDue_queue (c : Fin 18) (s : State) : outQueue (execKatDue c s) = s.queue := by
  simp only [execKatDue, outQueue_next, ite_outQueue, ite_queue, ite_self, State.nameCluster_queue, State.shroudDispatch_queue]

@[simp] theorem execKatDone_queue (c : Fin 18) (pass : Bool) (s : State) : outQueue (execKatDone c pass s) = s.queue := by
  simp only [execKatDone, outQueue_next, ite_outQueue, ite_queue, ite_self, State.classify_queue, State.permanent_queue,
    State.setClState_queue, State.setCluster_queue, State.setElem_queue, State.setSh_queue, State.shroudDispatch_queue]

@[simp] theorem State.releaseVerdict_queue (s : State) (x : Sample) (code : Nat) : (State.releaseVerdict s x code).queue = s.queue := by
  simp only [State.releaseVerdict, ite_outQueue, ite_queue, ite_self, State.bump_queue, State.msix_queue, State.poolChanged_queue,
    State.recordV_queue, State.report_queue, State.setElem_queue, State.setSample_queue, State.setSh_queue, State.shCommand_queue]

@[simp] theorem execVerdictRelease_queue (p : Die) (sid : Nat) (s : State) : outQueue (execVerdictRelease p sid s) = s.queue := by
  unfold execVerdictRelease
  (try dsimp only)
  repeat' split
  all_goals (try simp only [Prod.ext_iff] at *)
  all_goals (try casesm* _ ∧ _)
  all_goals (try subst_vars)
  all_goals (try simp only [outQueue_next, ite_outQueue, ite_queue, ite_self, State.releaseVerdict_queue, State.verdict_queue])

@[simp] theorem execProfDataWrite_queue (w : Writer) (j : Fin 16) (data : List Nat) (s : State) : outQueue (execProfDataWrite w j data s) = s.queue := by
  simp only [execProfDataWrite, outQueue_next, ite_outQueue, ite_queue, ite_self, State.writeBy_queue, State.answer_queue,
    State.setBytes_queue, State.wr_queue, State.writeBy_queue, State.writeOctets_queue]

@[simp] theorem execProfClear_queue (w : Writer) (j : Fin 16) (s : State) : outQueue (execProfClear w j s) = s.queue := by
  simp only [execProfClear, outQueue_next, ite_outQueue, ite_queue, ite_self, State.writeBy_queue, State.answer_queue,
    State.wr_queue, State.writeBy_queue, State.writeOctets_queue]

@[simp] theorem execHeldPinWrite_queue (w : Writer) (value : Bool) (s : State) : outQueue (execHeldPinWrite w value s) = s.queue := by
  simp only [execHeldPinWrite, outQueue_next]
  refine State.writeBy_queue _ _ _ _ _ ?_
  (try dsimp only)
  repeat' split
  all_goals (try simp only [Prod.ext_iff] at *)
  all_goals (try casesm* _ ∧ _)
  all_goals (try subst_vars)
  all_goals (try simp only [outQueue_next, ite_outQueue, ite_queue, ite_self, State.writeBy_queue, State.answer_queue, State.poolChanged_queue,
    State.setSh_queue, State.writeBy_queue])

@[simp] theorem execReplayGo_queue (w : Writer) (s : State) : outQueue (execReplayGo w s) = s.queue := by
  simp only [execReplayGo, outQueue_next]
  refine State.writeBy_queue _ _ _ _ _ ?_
  (try dsimp only)
  repeat' split
  all_goals (try simp only [Prod.ext_iff] at *)
  all_goals (try casesm* _ ∧ _)
  all_goals (try subst_vars)
  all_goals (try simp only [outQueue_next, ite_outQueue, ite_queue, ite_self, State.writeBy_queue, State.answer_queue, State.setSh_queue,
    State.wakeCluster_queue, State.wr_queue, State.writeBy_queue])

@[simp] theorem State.finishReplay_queue (s : State) (c : Nat) (wrong : Option (List Nat)) : (State.finishReplay s c wrong).queue = s.queue := by
  unfold State.finishReplay
  (try dsimp only)
  repeat' split
  all_goals (try simp only [Prod.ext_iff] at *)
  all_goals (try casesm* _ ∧ _)
  all_goals (try subst_vars)
  all_goals (try simp only [ite_outQueue, ite_queue, ite_self, State.takeNat_queue, State.runEnds_queue, State.setSh_queue, State.wr_queue,
    State.writeOctets_queue])

@[simp] theorem execReplayDone_queue (wrong : Option (List Nat)) (s : State) : outQueue (execReplayDone wrong s) = s.queue := by
  unfold execReplayDone
  (try dsimp only)
  repeat' split
  all_goals (try simp only [Prod.ext_iff] at *)
  all_goals (try casesm* _ ∧ _)
  all_goals (try subst_vars)
  all_goals (try simp only [outQueue_next, ite_outQueue, ite_queue, ite_self, State.finishReplay_queue, State.shroudDispatch_queue])

end Sys2Proof.Machine
end

