-- ==== Sys2Proof/Laws/QueueLink.lean ====
section
/-! SUPPORT. Laws/QueueLink.lean: the queue after each operation of hang recovery, energy, the Halyard links, Tell-tale, power and the recorders is the queue before it. -/

namespace Sys2Proof.Machine
open Sys2Proof

/-! ### Hang -/

@[simp] theorem State.setFd_queue (s : State) (d : Die) (x : FaultsDie) : (State.setFd s d x).queue = s.queue := by
  simp only [State.setFd, State.setDie_queue]

@[simp] theorem State.setDom_queue (s : State) (d : Die) (i : Nat) (x : Domain) : (State.setDom s d i x).queue = s.queue := by
  simp only [State.setDom, State.setFd_queue]

@[simp] theorem State.setDomState_queue (s : State) (d : Die) (i st : Nat) : (State.setDomState s d i st).queue = s.queue := by
  simp only [State.setDomState, State.wr_queue]

@[simp] theorem State.pushHistory_queue (s : State) (d : Die) (i cause flags : Nat) : (State.pushHistory s d i cause flags).queue = s.queue := by
  simp only [State.pushHistory, State.setBytes_queue, State.wr_queue]

@[simp] theorem State.flagHistory_queue (s : State) (d : Die) (i flags : Nat) : (State.flagHistory s d i flags).queue = s.queue := by
  unfold State.flagHistory
  (try dsimp only)
  repeat' split
  all_goals (try simp only [Prod.ext_iff] at *)
  all_goals (try casesm* _ ∧ _)
  all_goals (try subst_vars)
  all_goals (try simp only [State.setElem_queue])

@[simp] theorem State.hangReport_queue (s : State) (d : Die) (i phase : Nat) : (State.hangReport s d i phase).queue = s.queue := by
  simp only [State.hangReport, State.sendControl_queue, State.setBytes_queue]

@[simp] theorem State.resetLine_queue (s : State) (d : Die) (i : Nat) (high : Bool) : (State.resetLine s d i high).queue = s.queue := by
  simp only [State.resetLine, State.emit_queue, State.setDom_queue]

@[simp] theorem State.domainUnits_queue (s : State) (d : Die) (i : Nat) : (State.domainUnits s d i).queue = s.queue := by
  simp only [State.domainUnits, implies_true, ite_outQueue, ite_queue, ite_self, foldl_queue, State.abandonAll_queue,
    State.setCap_queue, State.setElem_queue]

@[simp] theorem State.domainEffects_queue (s : State) (d : Die) (i : Nat) : (State.domainEffects s d i).queue = s.queue := by
  simp only [State.domainEffects, ite_outQueue, ite_queue, ite_self, State.takeNat_queue, State.abortDieCut_queue,
    State.domainUnits_queue, State.shroudResume_queue]

@[simp] theorem State.holdAll_queue (s : State) (d : Die) : (State.holdAll s d).queue = s.queue := by
  simp only [State.holdAll, implies_true, ite_outQueue, ite_queue, ite_self, foldl_queue, State.abortDieCut_queue,
    State.domainUnits_queue, State.resetLine_queue, State.setDomState_queue, State.setFd_queue, State.shroudResume_queue,
    State.wr_queue]

@[simp] theorem State.serviceHold_queue (s : State) (d : Die) (i : Nat) : (State.serviceHold s d i).queue = s.queue := by
  simp only [State.serviceHold, State.hangReport_queue, State.holdAll_queue, State.pushHistory_queue]

@[simp] theorem State.startReset_queue (s : State) (d : Die) (i : Nat) : (State.startReset s d i).queue = s.queue := by
  simp only [State.startReset, ite_outQueue, ite_queue, ite_self, State.bump_queue, State.domainEffects_queue,
    State.pushHistory_queue, State.resetLine_queue, State.serviceHold_queue, State.setDomState_queue]

@[simp] theorem State.startSampling_queue (s : State) (d : Die) (i : Nat) : (State.startSampling s d i).queue = s.queue := by
  simp only [State.startSampling, State.setDomState_queue, State.setFd_queue]

@[simp] theorem State.hang_queue (s : State) (d : Die) (i cause : Nat) : (State.hang s d i cause).queue = s.queue := by
  simp only [State.hang, ite_outQueue, ite_queue, ite_self, State.bump_queue, State.hangReport_queue, State.serviceHold_queue,
    State.setDom_queue, State.setDomState_queue, State.startReset_queue, State.startSampling_queue]

@[simp] theorem execWatchdogAssert_queue (d : Die) (dom : Fin 16) (s : State) : outQueue (execWatchdogAssert d dom s) = s.queue := by
  simp only [execWatchdogAssert, outQueue_next, ite_outQueue, ite_queue, ite_self, State.hang_queue]

@[simp] theorem execHangWindowExpiry_queue (d : Die) (dom : Fin 16) (s : State) : outQueue (execHangWindowExpiry d dom s) = s.queue := by
  simp only [execHangWindowExpiry, outQueue_next, ite_outQueue, ite_queue, ite_self, State.hang_queue]

@[simp] theorem execDomHangCommand_queue (d : Die) (w : Writer) (dom : Fin 16) (s : State) : outQueue (execDomHangCommand d w dom s) = s.queue := by
  simp only [execDomHangCommand, outQueue_next, State.writeBy_queue, State.answer_queue, State.hang_queue, State.writeBy_queue]

@[simp] theorem execDomResetCommand_queue (d : Die) (w : Writer) (dom : Fin 16) (s : State) : outQueue (execDomResetCommand d w dom s) = s.queue := by
  simp only [execDomResetCommand, outQueue_next, ite_outQueue, ite_queue, ite_self, State.writeBy_queue, State.answer_queue,
    State.setDom_queue, State.startReset_queue, State.writeBy_queue]

@[simp] theorem execDomSampleCommand_queue (d : Die) (w : Writer) (dom : Fin 16) (s : State) : outQueue (execDomSampleCommand d w dom s) = s.queue := by
  simp only [execDomSampleCommand, outQueue_next, ite_outQueue, ite_queue, ite_self, State.writeBy_queue, State.answer_queue,
    State.startSampling_queue, State.writeBy_queue]

@[simp] theorem execHangCommand_queue (d : Die) (dom : Fin 16) (s : State) : outQueue (execHangCommand d dom s) = s.queue := by
  simp only [execHangCommand, outQueue_next, State.hang_queue]

@[simp] theorem execOutOfServiceCommand_queue (d : Die) (s : State) : outQueue (execOutOfServiceCommand d s) = s.queue := by
  simp only [execOutOfServiceCommand, outQueue_next, State.holdAll_queue]

@[simp] theorem execHangSampleSent_queue (d : Die) (dom : Fin 16) (data : List (Nat × Bool)) (s : State) : outQueue (execHangSampleSent d dom data s) = s.queue := by
  simp only [execHangSampleSent, outQueue_next, implies_true, ite_outQueue, ite_queue, ite_self, foldl_queue, State.emit_queue,
    State.hangReport_queue, State.sendTap_queue, State.setDom_queue, State.setFd_queue, State.startReset_queue]

@[simp] theorem execResetHoldExpiry_queue (d : Die) (dom : Fin 16) (s : State) : outQueue (execResetHoldExpiry d dom s) = s.queue := by
  simp only [execResetHoldExpiry, outQueue_next, ite_outQueue, ite_queue, ite_self, State.resetLine_queue]

@[simp] theorem execResetDone_queue (d : Die) (dom : Fin 16) (kept : Nat) (s : State) : outQueue (execResetDone d dom kept s) = s.queue := by
  simp only [execResetDone, outQueue_next, ite_outQueue, ite_queue, ite_self, State.discardEntries_queue, State.flagHistory_queue,
    State.hangReport_queue, State.setDom_queue, State.setDomState_queue]

@[simp] theorem execResetAckTimeout_queue (d : Die) (dom : Fin 16) (s : State) : outQueue (execResetAckTimeout d dom s) = s.queue := by
  simp only [execResetAckTimeout, outQueue_next, ite_outQueue, ite_queue, ite_self, State.hangReport_queue,
    State.setDomState_queue]

@[simp] theorem State.toService_queue (s : State) (d : Die) : (State.toService s d).queue = s.queue := by
  simp only [State.toService, implies_true, ite_outQueue, ite_queue, ite_self, foldl_queue, State.resetLine_queue,
    State.setDomState_queue, State.setFd_queue, State.wr_queue, State.writeOctets_queue]

@[simp] theorem execReturnToService_queue (d : Die) (w : Writer) (s : State) : outQueue (execReturnToService d w s) = s.queue := by
  simp only [execReturnToService, outQueue_next, State.writeBy_queue, State.answer_queue, State.toService_queue,
    State.writeBy_queue]

@[simp] theorem execHangSampleRx_queue (p : Die) (msg : List (Nat × Bool)) (s : State) : outQueue (execHangSampleRx p msg s) = s.queue := by
  simp only [execHangSampleRx, outQueue_next, ite_outQueue, ite_queue, ite_self, State.bump_queue, State.setBytes_queue,
    State.setClf_queue, State.tapPoison_queue, State.wr_queue]

@[simp] theorem execHangSampleRelease_queue (w : Writer) (p : Die) (s : State) : outQueue (execHangSampleRelease w p s) = s.queue := by
  simp only [execHangSampleRelease, outQueue_next, State.writeBy_queue, State.answer_queue, State.setClf_queue, State.wr_queue,
    State.writeBy_queue, State.writeOctets_queue]

/-! ### Energy -/

@[simp] theorem State.addElem_queue (s : State) (p : Part) (k w i n : Nat) : (State.addElem s p k w i n).queue = s.queue := by
  simp only [State.addElem, State.setElem_queue]

@[simp] theorem State.fillSample_queue (s : State) (d : Die) (r : Nat) : (State.fillSample s d r).queue = s.queue := by
  simp only [State.fillSample, ite_outQueue, ite_queue, ite_self, State.bump_queue, State.setEn_queue]

@[simp] theorem State.creditSlice_queue (s : State) (d : Die) : (State.creditSlice s d).queue = s.queue := by
  simp only [State.creditSlice, implies_true, foldl_queue, State.addElem_queue, State.setEn_queue]

@[simp] theorem State.clearTotals_queue (s : State) (d : Die) : (State.clearTotals s d).queue = s.queue := by
  simp only [State.clearTotals, ite_outQueue, ite_queue, ite_self, State.setBytes_queue, State.setEn_queue]

@[simp] theorem State.calStale_queue (s : State) (d : Die) : (State.calStale s d).2.queue = s.queue := by
  unfold State.calStale
  (try dsimp only)
  repeat' split
  all_goals (try simp only [Prod.ext_iff] at *)
  all_goals (try casesm* _ ∧ _)
  all_goals (try subst_vars)
  all_goals (try simp only [ite_outQueue, ite_queue, ite_self, State.takeNat_queue])

@[simp] theorem State.pushEnergy_queue (s : State) (d : Die) (ctx : Nat) (q : EnergyReq) (final deferred replaced : Bool) : (State.pushEnergy s d ctx q final deferred replaced).queue = s.queue := by
  simp only [State.pushEnergy, ite_outQueue, ite_queue, ite_self, State.bump_queue, State.calStale_queue, State.setEn_queue]

@[simp] theorem State.setReq_queue (s : State) (d : Die) (ctx : Nat) (q : Option EnergyReq) : (State.setReq s d ctx q).queue = s.queue := by
  simp only [State.setReq, State.setEn_queue]

@[simp] theorem State.setOp_queue (s : State) (d : Die) (ctx : Nat) (o : Option EnergyOp) : (State.setOp s d ctx o).queue = s.queue := by
  simp only [State.setOp, State.setEn_queue]

@[simp] theorem State.finalRecord_queue (s : State) (d : Die) (x : Nat × EnergyOp) : (State.finalRecord s d x).queue = s.queue := by
  unfold State.finalRecord
  (try dsimp only)
  repeat' split
  all_goals (try simp only [Prod.ext_iff] at *)
  all_goals (try casesm* _ ∧ _)
  all_goals (try subst_vars)
  all_goals (try simp only [ite_outQueue, ite_queue, ite_self, State.bump_queue, State.pushEnergy_queue, State.setOp_queue, State.setReq_queue])

@[simp] theorem State.endSegment_queue (s : State) (d : Die) (x : Nat × EnergyReq) : (State.endSegment s d x).queue = s.queue := by
  simp only [State.endSegment, State.pushEnergy_queue, State.setReq_queue]

@[simp] theorem State.fullSegment_queue (s : State) (d : Die) (x : Nat × EnergyReq) : (State.fullSegment s d x).queue = s.queue := by
  simp only [State.fullSegment, ite_outQueue, ite_queue, ite_self, State.bump_queue, State.endSegment_queue, State.setReq_queue]

@[simp] theorem State.serveOp_queue (s : State) (d : Die) (x : Nat × EnergyOp) : (State.serveOp s d x).queue = s.queue := by
  simp only [State.serveOp, ite_outQueue, ite_queue, ite_self, State.bump_queue, State.setOp_queue, State.setReq_queue]

@[simp] theorem State.endSegments_queue (s : State) (d : Die) : (State.endSegments s d).queue = s.queue := by
  simp only [State.endSegments, implies_true, foldl_queue, State.endSegment_queue]

@[simp] theorem State.announceConfig_queue (s : State) (d : Die) : (State.announceConfig s d).queue = s.queue := by
  simp only [State.announceConfig, State.bump_queue, State.setBytes_queue, State.setEn_queue]

@[simp] theorem State.sendEnergy_queue (s : State) (d : Die) : (State.sendEnergy s d).queue = s.queue := by
  unfold State.sendEnergy
  (try dsimp only)
  repeat' split
  all_goals (try simp only [Prod.ext_iff] at *)
  all_goals (try casesm* _ ∧ _)
  all_goals (try subst_vars)
  all_goals (try simp only [State.sendControl_queue, State.setEn_queue])

@[simp] theorem State.energyOp_queue (s : State) (d : Die) (w : Option Writer) (op ctx reqId epoch : Nat) : (State.energyOp s d w op ctx reqId epoch).queue = s.queue := by
  unfold State.energyOp
  (try dsimp only)
  repeat' split
  all_goals (try simp only [Prod.ext_iff] at *)
  all_goals (try casesm* _ ∧ _)
  all_goals (try subst_vars)
  all_goals (try simp only [ite_outQueue, ite_queue, ite_self, State.emit_queue, State.answer_queue, State.bump_queue, State.setOp_queue,
    State.wr_queue])

@[simp] theorem execRequestOpen_queue (d : Die) (w : Option Writer) (ctx reqId epoch : Nat) (s : State) : outQueue (execRequestOpen d w ctx reqId epoch s) = s.queue := by
  simp only [execRequestOpen, outQueue_next, State.energyOp_queue]

@[simp] theorem execRequestClose_queue (d : Die) (w : Option Writer) (ctx reqId epoch : Nat) (s : State) : outQueue (execRequestClose d w ctx reqId epoch s) = s.queue := by
  simp only [execRequestClose, outQueue_next, State.energyOp_queue]

@[simp] theorem execTotalsClear_queue (d : Die) (w : Writer) (s : State) : outQueue (execTotalsClear d w s) = s.queue := by
  simp only [execTotalsClear, outQueue_next, State.writeBy_queue, State.answer_queue, State.clearTotals_queue, State.setEn_queue,
    State.writeBy_queue]

@[simp] theorem State.setLedger_queue (s : State) (l : Ledger) : (State.setLedger s l).queue = s.queue := by
  simp only [State.setLedger, State.setVager_queue]

@[simp] theorem State.closeBatch_queue (s : State) (part : Bool) : (State.closeBatch s part).queue = s.queue := by
  unfold State.closeBatch
  (try dsimp only)
  repeat' split
  all_goals (try simp only [Prod.ext_iff] at *)
  all_goals (try casesm* _ ∧ _)
  all_goals (try subst_vars)
  all_goals (try simp only [ite_outQueue, ite_queue, ite_self, State.takeNat_queue, State.bump_queue, State.msix_queue, State.setLedger_queue])

@[simp] theorem State.batchWindow_queue (s : State) (q : Nat) : (State.batchWindow s q).queue = s.queue := by
  unfold State.batchWindow
  (try dsimp only)
  repeat' split
  all_goals (try simp only [Prod.ext_iff] at *)
  all_goals (try casesm* _ ∧ _)
  all_goals (try subst_vars)
  all_goals (try simp only [ite_outQueue, ite_queue, ite_self, State.closeBatch_queue])

@[simp] theorem State.batchEntry_queue (s : State) (q : Nat) (e : Nat × Nat × Nat) : (State.batchEntry s q e).queue = s.queue := by
  simp only [State.batchEntry, ite_outQueue, ite_queue, ite_self, State.closeBatch_queue, State.setLedger_queue]

@[simp] theorem State.configEvent_queue (s : State) (p : Die) (g1 g2 : Nat) : (State.configEvent s p g1 g2).queue = s.queue := by
  simp only [State.configEvent, State.setLedger_queue]

@[simp] theorem State.eseqCheck_queue (s : State) (p : Die) (q eseq : Nat) (restart : Bool) : (State.eseqCheck s p q eseq restart).queue = s.queue := by
  simp only [State.eseqCheck, ite_outQueue, ite_queue, ite_self, State.addElem_queue, State.batchEntry_queue, State.setElem_queue]

@[simp] theorem State.declareConfig_queue (s : State) (p : Die) (q cfg : Nat) : (State.declareConfig s p q cfg).queue = s.queue := by
  unfold State.declareConfig
  (try dsimp only)
  repeat' split
  all_goals (try simp only [Prod.ext_iff] at *)
  all_goals (try casesm* _ ∧ _)
  all_goals (try subst_vars)
  all_goals (try simp only [ite_outQueue, ite_queue, ite_self, State.batchEntry_queue, State.setLedger_queue])

@[simp] theorem State.energyRecord_queue (s : State) (p : Die) (q g1 g2 : Nat) (late : Bool) : (State.energyRecord s p q g1 g2 late).queue = s.queue := by
  simp only [State.energyRecord, ite_outQueue, ite_queue, ite_self, State.batchEntry_queue, State.bump_queue,
    State.declareConfig_queue, State.eseqCheck_queue]

@[simp] theorem State.energyRx_queue (s : State) (m : CtlMsg) (q : Nat) : (State.energyRx s m q).queue = s.queue := by
  unfold State.energyRx
  (try dsimp only)
  repeat' split
  all_goals (try simp only [Prod.ext_iff] at *)
  all_goals (try casesm* _ ∧ _)
  all_goals (try subst_vars)
  all_goals (try simp only [ite_outQueue, ite_queue, ite_self, State.addElem_queue, State.configEvent_queue, State.energyRecord_queue,
    State.report_queue])

@[simp] theorem execBatchAck_queue (w : Writer) (bsn : Nat) (s : State) : outQueue (execBatchAck w bsn s) = s.queue := by
  simp only [execBatchAck, outQueue_next, State.writeBy_queue, State.answer_queue, State.setLedger_queue, State.writeBy_queue]

/-! ### Merge -/

@[simp] theorem State.remoteOutcome_queue (s : State) (p : Die) (bs : List Nat) : (State.remoteOutcome s p bs).queue = s.queue := by
  unfold State.remoteOutcome
  (try dsimp only)
  repeat' split
  all_goals (try simp only [Prod.ext_iff] at *)
  all_goals (try casesm* _ ∧ _)
  all_goals (try subst_vars)
  all_goals (try simp only [State.groupLeaves_queue, State.notify_queue])

@[simp] theorem State.dictResp_queue (s : State) (p : Die) (m : CtlMsg) : (State.dictResp s p m).queue = s.queue := by
  unfold State.dictResp
  (try dsimp only)
  repeat' split
  all_goals (try simp only [Prod.ext_iff] at *)
  all_goals (try casesm* _ ∧ _)
  all_goals (try subst_vars)
  all_goals (try simp only [ite_outQueue, ite_queue, ite_self, State.bump_queue, State.proxyAnswered_queue, State.proxyPump_queue,
    State.remoteOutcome_queue, State.setProxy_queue, State.wr_queue])

@[simp] theorem State.eventRx_queue (s : State) (p : Die) (m : CtlMsg) : (State.eventRx s p m).queue = s.queue := by
  unfold State.eventRx
  (try dsimp only)
  repeat' split
  all_goals (try simp only [Prod.ext_iff] at *)
  all_goals (try casesm* _ ∧ _)
  all_goals (try subst_vars)
  all_goals (try simp only [ite_outQueue, ite_queue, ite_self, State.pushRecord_queue, State.recordLost_queue])

@[simp] theorem State.hangRx_queue (s : State) (p : Die) (g : Nat) : (State.hangRx s p g).queue = s.queue := by
  simp only [State.hangRx, ite_outQueue, ite_queue, ite_self, State.report_queue, State.setBytes_queue, State.wr_queue]

@[simp] theorem State.sramRx_queue (s : State) (p : Die) (g : Nat) : (State.sramRx s p g).queue = s.queue := by
  simp only [State.sramRx, State.report_queue]

@[simp] theorem State.faultRx_queue (s : State) (p : Die) (m : CtlMsg) : (State.faultRx s p m).queue = s.queue := by
  unfold State.faultRx
  (try dsimp only)
  repeat' split
  all_goals (try simp only [Prod.ext_iff] at *)
  all_goals (try casesm* _ ∧ _)
  all_goals (try subst_vars)
  all_goals (try simp only [ite_outQueue, ite_queue, ite_self, State.digestEventRx_queue, State.hangRx_queue, State.sramRx_queue])

@[simp] theorem State.deliverControl_queue (s : State) (m : CtlMsg) (q : Nat) : (State.deliverControl s m q).queue = s.queue := by
  simp only [State.deliverControl, ite_outQueue, ite_queue, ite_self, State.dictResp_queue, State.energyRx_queue,
    State.eventRx_queue, State.faultRx_queue, State.snapshotPart_queue]

@[simp] theorem State.releaseLate_queue (s : State) (m : CtlMsg) : (State.releaseLate s m).queue = s.queue := by
  simp only [State.releaseLate, State.bump_queue, State.deliverControl_queue]

@[simp] theorem State.controlArrives_queue (s : State) (m : CtlMsg) : (State.controlArrives s m).queue = s.queue := by
  simp only [State.controlArrives, ite_outQueue, ite_queue, ite_self, State.setVager_queue, State.deliverControl_queue,
    State.releaseLate_queue]

@[simp] theorem execControlMergeRelease_queue (s : State) : outQueue (execControlMergeRelease s) = s.queue := by
  unfold execControlMergeRelease
  (try dsimp only)
  repeat' split
  all_goals (try simp only [Prod.ext_iff] at *)
  all_goals (try casesm* _ ∧ _)
  all_goals (try subst_vars)
  all_goals (try simp only [outQueue_next, ite_outQueue, ite_queue, ite_self, State.setVager_queue, State.batchWindow_queue,
    State.deliverControl_queue, State.releaseLate_queue])

@[simp] theorem execMergeStallExpiry_queue (p : Die) (s : State) : outQueue (execMergeStallExpiry p s) = s.queue := by
  simp only [execMergeStallExpiry, outQueue_next, implies_true, foldl_queue, State.setVager_queue, State.releaseLate_queue,
    State.setLink_queue]

/-! ### Link -/

@[simp] theorem execSignalDetect_queue (v : Bool) (p : Die) (s : State) : outQueue (execSignalDetect v p s) = s.queue := by
  simp only [execSignalDetect, outQueue_next, ite_outQueue, ite_queue, ite_self, State.goLink_queue, State.setLink_queue]

@[simp] theorem State.attemptFailed_queue (s : State) (v : Bool) (p : Die) : (State.attemptFailed s v p).queue = s.queue := by
  simp only [State.attemptFailed, ite_outQueue, ite_queue, ite_self, State.failLink_queue, State.setLink_queue]

@[simp] theorem execTrainingAttemptFail_queue (v : Bool) (p : Die) (s : State) : outQueue (execTrainingAttemptFail v p s) = s.queue := by
  simp only [execTrainingAttemptFail, outQueue_next, State.attemptFailed_queue]

@[simp] theorem State.laneLost_queue (s : State) (p : Die) (i : Nat) (spare : Option Nat) : (State.laneLost s p i spare).queue = s.queue := by
  unfold State.laneLost
  (try dsimp only)
  repeat' split
  all_goals (try simp only [Prod.ext_iff] at *)
  all_goals (try casesm* _ ∧ _)
  all_goals (try subst_vars)
  all_goals (try simp only [State.bump_queue, State.classify_queue, State.report_queue, State.setClf_queue, State.wr_queue])

@[simp] theorem State.applyLaneClear_queue (s : State) (p : Die) : (State.applyLaneClear s p).queue = s.queue := by
  simp only [State.applyLaneClear, ite_outQueue, ite_queue, ite_self, State.setClf_queue, State.setLink_queue, State.wr_queue]

@[simp] theorem State.assignLanes_queue (s : State) (v : Bool) (p : Die) (avail : Nat) : (State.assignLanes s v p avail).queue = s.queue := by
  simp only [State.assignLanes, State.lwr_queue]

@[simp] theorem State.retireUntrained_queue (s : State) (p : Die) (avail was spare : Nat) : (State.retireUntrained s p avail was spare).queue = s.queue := by
  simp only [State.retireUntrained, implies_true, ite_outQueue, ite_queue, ite_self, foldl_queue, State.laneLost_queue,
    State.setLink_queue, State.wr_queue]

@[simp] theorem State.restartWords_queue (s : State) (v : Bool) (p : Die) : (State.restartWords s v p).queue = s.queue := by
  simp only [State.restartWords, ite_outQueue, ite_queue, ite_self, State.bump_queue, State.setPt_queue, State.setSt_queue]

@[simp] theorem State.enterPairing_queue (s : State) (v : Bool) (p : Die) : (State.enterPairing s v p).queue = s.queue := by
  simp only [State.enterPairing, ite_outQueue, ite_queue, ite_self, State.cutShort_queue, State.goLink_queue,
    State.pushItem_queue, State.restartWords_queue, State.setLink_queue]

@[simp] theorem execLaneTrainingDone_queue (v : Bool) (p : Die) (good : Nat) (s : State) : outQueue (execLaneTrainingDone v p good s) = s.queue := by
  simp only [execLaneTrainingDone, outQueue_next, ite_outQueue, ite_queue, ite_self, State.applyLaneClear_queue,
    State.assignLanes_queue, State.attemptFailed_queue, State.enterPairing_queue, State.retireUntrained_queue]

@[simp] theorem execFecLockLoss_queue (v : Bool) (p : Die) (s : State) : outQueue (execFecLockLoss v p s) = s.queue := by
  simp only [execFecLockLoss, outQueue_next, ite_outQueue, ite_queue, ite_self, State.goLink_queue, State.retrain_queue]

@[simp] theorem State.goUp_queue (s : State) (v : Bool) (p : Die) : (State.goUp s v p).queue = s.queue := by
  simp only [State.goUp, ite_outQueue, ite_queue, ite_self, State.takeNat_queue, State.goLink_queue, State.wr_queue]

@[simp] theorem execLinkCtlInitRx_queue (v : Bool) (p : Die) (item : Nat) (s : State) : outQueue (execLinkCtlInitRx v p item s) = s.queue := by
  simp only [execLinkCtlInitRx, outQueue_next, ite_outQueue, ite_queue, ite_self, State.pushAnswer_queue, State.setLink_queue]

@[simp] theorem execLinkCtlInitAckRx_queue (v : Bool) (p : Die) (item : Nat) (s : State) : outQueue (execLinkCtlInitAckRx v p item s) = s.queue := by
  simp only [execLinkCtlInitAckRx, outQueue_next, ite_outQueue, ite_queue, ite_self, State.dropItem_queue, State.goUp_queue,
    State.pushItem_queue, State.setLink_queue]

@[simp] theorem State.checkService_queue (s : State) (p : Die) (digest : List Nat) : (State.checkService s p digest).queue = s.queue := by
  simp only [State.checkService, ite_outQueue, ite_queue, ite_self, State.command_queue, State.setBytes_queue, State.wr_queue]

@[simp] theorem State.pairCheck_queue (s : State) (p : Die) (digest : List Nat) : (State.pairCheck s p digest).queue = s.queue := by
  simp only [State.pairCheck, ite_outQueue, ite_queue, ite_self, State.recordV_queue, State.report_queue, State.setBytes_queue,
    State.wr_queue]

@[simp] theorem execPairHelloRx_queue (p : Die) (item : Nat) (digest : List Nat) (s : State) : outQueue (execPairHelloRx p item digest s) = s.queue := by
  simp only [execPairHelloRx, outQueue_next, ite_outQueue, ite_queue, ite_self, State.checkService_queue, State.pairCheck_queue,
    State.setLink_queue]

@[simp] theorem execPairAccept_queue (p : Die) (w : Writer) (s : State) : outQueue (execPairAccept p w s) = s.queue := by
  simp only [execPairAccept, outQueue_next, ite_outQueue, ite_queue, ite_self, State.writeBy_queue, State.answer_queue,
    State.setBytes_queue, State.wr_queue, State.writeBy_queue]

@[simp] theorem State.takeChange_queue (s : State) (p : Die) (i : CtlItem) (drop : Bool) : (State.takeChange s p i drop).queue = s.queue := by
  simp only [State.takeChange, ite_outQueue, ite_queue, ite_self, State.pushAnswer_queue, State.setLink_queue]

@[simp] theorem execLaneSwapRx_queue (p : Die) (item : Nat) (s : State) : outQueue (execLaneSwapRx p item s) = s.queue := by
  simp only [execLaneSwapRx, outQueue_next, ite_outQueue, ite_queue, ite_self, State.takeChange_queue]

@[simp] theorem execLaneDropRx_queue (p : Die) (item : Nat) (s : State) : outQueue (execLaneDropRx p item s) = s.queue := by
  simp only [execLaneDropRx, outQueue_next, ite_outQueue, ite_queue, ite_self, State.takeChange_queue]

@[simp] theorem execLaneCancelRx_queue (p : Die) (item : Nat) (s : State) : outQueue (execLaneCancelRx p item s) = s.queue := by
  simp only [execLaneCancelRx, outQueue_next, ite_outQueue, ite_queue, ite_self, State.pushAnswer_queue, State.setLink_queue]

@[simp] theorem execLaneAckRx_queue (p : Die) (item : Nat) (s : State) : outQueue (execLaneAckRx p item s) = s.queue := by
  unfold execLaneAckRx
  (try dsimp only)
  repeat' split
  all_goals (try simp only [Prod.ext_iff] at *)
  all_goals (try casesm* _ ∧ _)
  all_goals (try subst_vars)
  all_goals (try simp only [outQueue_next, ite_outQueue, ite_queue, ite_self, State.dropItem_queue, State.issueChange_queue,
    State.setLink_queue])

@[simp] theorem execLaneAckDeadline_queue (p : Die) (s : State) : outQueue (execLaneAckDeadline p s) = s.queue := by
  unfold execLaneAckDeadline
  (try dsimp only)
  repeat' split
  all_goals (try simp only [Prod.ext_iff] at *)
  all_goals (try casesm* _ ∧ _)
  all_goals (try subst_vars)
  all_goals (try simp only [outQueue_next, ite_outQueue, ite_queue, ite_self, State.dropItem_queue, State.pushAnswer_queue, State.setLink_queue])

@[simp] theorem execLaneCancelTimeout_queue (p : Die) (s : State) : outQueue (execLaneCancelTimeout p s) = s.queue := by
  unfold execLaneCancelTimeout
  (try dsimp only)
  repeat' split
  all_goals (try simp only [Prod.ext_iff] at *)
  all_goals (try casesm* _ ∧ _)
  all_goals (try subst_vars)
  all_goals (try simp only [outQueue_next, ite_outQueue, ite_queue, ite_self, State.pushItem_queue, State.retrain_queue, State.setLink_queue])

@[simp] theorem State.nextRetire_queue (s : State) (p : Die) : (State.nextRetire s p).queue = s.queue := by
  unfold State.nextRetire
  (try dsimp only)
  repeat' split
  all_goals (try simp only [Prod.ext_iff] at *)
  all_goals (try casesm* _ ∧ _)
  all_goals (try subst_vars)
  all_goals (try simp only [State.retireNow_queue, State.setLink_queue])

@[simp] theorem execLaneSwitch_queue (v : Bool) (p : Die) (s : State) : outQueue (execLaneSwitch v p s) = s.queue := by
  unfold execLaneSwitch
  (try dsimp only)
  repeat' split
  all_goals (try simp only [Prod.ext_iff] at *)
  all_goals (try casesm* _ ∧ _)
  all_goals (try subst_vars)
  all_goals (try simp only [outQueue_next, ite_outQueue, ite_queue, ite_self, State.lwr_queue, State.nextRetire_queue, State.portUnlock_queue,
    State.setLink_queue])

@[simp] theorem execLaneDropSwitch_queue (v : Bool) (p : Die) (s : State) : outQueue (execLaneDropSwitch v p s) = s.queue := by
  unfold execLaneDropSwitch
  (try dsimp only)
  repeat' split
  all_goals (try simp only [Prod.ext_iff] at *)
  all_goals (try casesm* _ ∧ _)
  all_goals (try subst_vars)
  all_goals (try simp only [outQueue_next, ite_outQueue, ite_queue, ite_self, State.lwr_queue, State.portUnlock_queue, State.setLink_queue])

@[simp] theorem execDeskewHoldEnd_queue (v : Bool) (p : Die) (s : State) : outQueue (execDeskewHoldEnd v p s) = s.queue := by
  simp only [execDeskewHoldEnd, outQueue_next, ite_outQueue, ite_queue, ite_self, State.goLink_queue, State.nextRetire_queue,
    State.setLink_queue]

@[simp] theorem execLinkCtlAbandon_queue (v : Bool) (p : Die) (s : State) : outQueue (execLinkCtlAbandon v p s) = s.queue := by
  unfold execLinkCtlAbandon
  (try dsimp only)
  repeat' split
  all_goals (try simp only [Prod.ext_iff] at *)
  all_goals (try casesm* _ ∧ _)
  all_goals (try subst_vars)
  all_goals (try simp only [outQueue_next, State.setLink_queue])

@[simp] theorem execLaneClear_queue (p : Die) (w : Writer) (s : State) : outQueue (execLaneClear p w s) = s.queue := by
  simp only [execLaneClear, outQueue_next, State.writeBy_queue, State.answer_queue, State.setLink_queue, State.writeBy_queue]

@[simp] theorem State.judgeLanes_queue (s : State) (p : Die) (above : Nat → Bool) : (State.judgeLanes s p above).queue = s.queue := by
  simp only [State.judgeLanes, implies_true, ite_outQueue, ite_queue, ite_self, foldl_queue, State.classify_queue]

@[simp] theorem execLaneWindowEnd_queue (v : Bool) (p : Die) (s : State) : outQueue (execLaneWindowEnd v p s) = s.queue := by
  simp only [execLaneWindowEnd, outQueue_next, ite_outQueue, ite_queue, ite_self, State.judgeLanes_queue, State.pushItem_queue,
    State.setLink_queue]

@[simp] theorem execLaneReportRx_queue (p : Die) (item : Nat) (s : State) : outQueue (execLaneReportRx p item s) = s.queue := by
  simp only [execLaneReportRx, outQueue_next, ite_outQueue, ite_queue, ite_self, State.judgeLanes_queue, State.setLink_queue]

@[simp] theorem execRetrainReqRx_queue (v : Bool) (p : Die) (s : State) : outQueue (execRetrainReqRx v p s) = s.queue := by
  simp only [execRetrainReqRx, outQueue_next, State.retrain_queue]

@[simp] theorem execRetrainDone_queue (v : Bool) (p : Die) (s : State) : outQueue (execRetrainDone v p s) = s.queue := by
  simp only [execRetrainDone, outQueue_next, ite_outQueue, ite_queue, ite_self, State.goUp_queue, State.nextRetire_queue,
    State.setLink_queue]

@[simp] theorem execRetrainTimeout_queue (v : Bool) (p : Die) (s : State) : outQueue (execRetrainTimeout v p s) = s.queue := by
  simp only [execRetrainTimeout, outQueue_next, ite_outQueue, ite_queue, ite_self, State.goLink_queue, State.setLink_queue]

@[simp] theorem State.linkDown_queue (s : State) (v : Bool) (p : Die) : (State.linkDown s v p).queue = s.queue := by
  simp only [State.linkDown, State.cutShort_queue, State.goLink_queue, State.setLink_queue]

@[simp] theorem execLaneSignalLoss_queue (v : Bool) (p : Die) (detect : Nat) (s : State) : outQueue (execLaneSignalLoss v p detect s) = s.queue := by
  simp only [execLaneSignalLoss, outQueue_next, ite_outQueue, ite_queue, ite_self, State.failLink_queue, State.linkDown_queue,
    State.pushItem_queue, State.retrain_queue, State.setLink_queue]

@[simp] theorem execFailedSilenceTimeout_queue (d : Die) (s : State) : outQueue (execFailedSilenceTimeout d s) = s.queue := by
  simp only [execFailedSilenceTimeout, outQueue_next, ite_outQueue, ite_queue, ite_self, State.linkDown_queue]

@[simp] theorem execPortEnableWrite_queue (p : Die) (w : Writer) (value : Bool) (s : State) : outQueue (execPortEnableWrite p w value s) = s.queue := by
  simp only [execPortEnableWrite, outQueue_next, ite_outQueue, ite_queue, ite_self, State.writeBy_queue, State.answer_queue,
    State.linkDown_queue, State.wr_queue, State.writeBy_queue]

theorem State.sendCtl_queue {s t : State} {v : Bool} {p : Die} (h : s.sendCtl v p = some t) : t.queue = s.queue := by
  unfold State.sendCtl at h
  dsimp only at h
  split at h
  · cases h
  · split at h
    · cases h
    · exact some_queue h ((State.sendFlit_queue ..).trans (State.setLink_queue ..))

theorem State.sendReplay_queue {s t : State} {v : Bool} {p : Die} (h : s.sendReplay v p = some t) : t.queue = s.queue := by
  unfold State.sendReplay at h
  dsimp only at h
  split at h
  · cases h
  · split at h
    · exact some_queue h ((State.sendFlit_queue ..).trans (State.setLink_queue ..))
    · exact some_queue h ((State.sendFlit_queue ..).trans (State.setLink_queue ..))

@[simp] theorem State.noteTimeSent_queue (s : State) (v : Bool) (p : Die) (payload : List (Nat × MGran)) : (State.noteTimeSent s v p payload).queue = s.queue := by
  unfold State.noteTimeSent
  (try dsimp only)
  repeat' split
  all_goals (try simp only [Prod.ext_iff] at *)
  all_goals (try casesm* _ ∧ _)
  all_goals (try subst_vars)
  all_goals (try simp only [ite_outQueue, ite_queue, ite_self, State.setPt_queue])

theorem State.sendData_queue {s t : State} {v : Bool} {p : Die} (h : s.sendData v p = some t) : t.queue = s.queue := by
  unfold State.sendData at h
  dsimp only at h
  generalize hu : (if (v || !s.linkUp v p) = true then s else (s.forwardEvents p).sendEnergy p) = u at h
  have e : u.queue = s.queue := by
    rw [← hu]
    simp only [ite_queue, State.sendEnergy_queue, State.forwardEvents_queue, ite_self]
  rw [← e]
  clear hu e
  split at h
  · cases h
  · split at h
    · cases h
    · refine some_queue h ((State.sendFlit_queue ..).trans ((State.noteTimeSent_queue ..).trans ?_))
      simp only [ite_queue, State.bump_queue, State.setCap_queue, State.setLink_queue, ite_self]

@[simp] theorem execFlitTransmit_queue (v : Bool) (p : Die) (s : State) : outQueue (execFlitTransmit v p s) = s.queue := by
  unfold execFlitTransmit
  dsimp only
  split
  · rfl
  · split
    · next t h => exact State.sendCtl_queue h
    · split
      · simp only [outQueue_next, State.sendFlit_queue]
      · split
        · next t h => exact State.sendReplay_queue h
        · cases h : s.sendData v p with
          | none => simp only [Option.getD_none, outQueue_next, State.sendFlit_queue]
          | some t => exact State.sendData_queue h

@[simp] theorem State.countLane_queue (s : State) (v : Bool) (p : Die) (lane n : Nat) : (State.countLane s v p lane n).queue = s.queue := by
  simp only [State.countLane, State.setElem_queue, State.setLink_queue]

@[simp] theorem State.takeWord_queue (s : State) (v : Bool) (p : Die) (x : LaneWord) : (s.takeWord v p x).queue = s.queue := by
  unfold State.takeWord
  dsimp only
  generalize rsDecode _ = r
  generalize rsMessage _ = m
  cases r with
  | none =>
    dsimp only
    split
    · simp only [ite_queue, State.classify_queue, State.setLink_queue, State.lbump_queue, ite_self]
    · simp only [State.setLink_queue, State.lbump_queue]
  | some y => simp only [State.setLink_queue, foldl_queue, State.countLane_queue, implies_true]

@[simp] theorem State.takeWords_queue (s : State) (v : Bool) (p : Die) (f : FlitIn) : (State.takeWords s v p f).queue = s.queue := by
  simp only [State.takeWords, implies_true, ite_outQueue, ite_queue, ite_self, foldl_queue, State.countLane_queue,
    State.takeWord_queue]

@[simp] theorem State.takeNak_queue (s : State) (v : Bool) (p : Die) (q : Nat) (mark : Option Nat) : (State.takeNak s v p q mark).queue = s.queue := by
  simp only [State.takeNak, ite_outQueue, ite_queue, ite_self, State.lbump_queue, State.retrain_queue, State.setLink_queue]

@[simp] theorem State.takeHeader_queue (s : State) (v : Bool) (p : Die) (h : Nat) : (State.takeHeader s v p h).queue = s.queue := by
  simp only [State.takeHeader, implies_true, ite_outQueue, ite_queue, ite_self, foldl_queue, State.setLink_queue,
    State.takeNak_queue]

@[simp] theorem State.setNak_queue (s : State) (v : Bool) (p : Die) : (State.setNak s v p).queue = s.queue := by
  simp only [State.setNak, ite_outQueue, ite_queue, ite_self, State.lbump_queue, State.setLink_queue]

@[simp] theorem State.wholeControl_queue (s : State) (v : Bool) (p : Die) (gs : List MGran) : (State.wholeControl s v p gs).queue = s.queue := by
  simp only [State.wholeControl, ite_outQueue, ite_queue, ite_self, State.controlArrives_queue, State.countPort_queue,
    State.lbump_queue]

@[simp] theorem State.wholeTap_queue (s : State) (p : Die) (gs : List MGran) : (State.wholeTap s p gs).queue = s.queue := by
  simp only [State.wholeTap, ite_outQueue, ite_queue, ite_self, State.setVager_queue, State.countPort_queue]

@[simp] theorem State.takeGranule_queue (s : State) (v : Bool) (p : Die) (c : Nat) (g : MGran) : (State.takeGranule s v p c g).queue = s.queue := by
  simp only [State.takeGranule, ite_outQueue, ite_queue, ite_self, State.lbump_queue, State.setLink_queue,
    State.wholeControl_queue, State.wholeTap_queue]

@[simp] theorem State.intakeGranule_queue (s : State) (v : Bool) (p : Die) (c : Nat) (g : MGran) : (State.intakeGranule s v p c g).queue = s.queue := by
  simp only [State.intakeGranule, State.takeGranule_queue, State.takeRx_queue]

@[simp] theorem State.intakeRun_queue (c n : Nat) (s : State) : (State.intakeRun c n s).queue = s.queue := by
  induction n generalizing s with
  | zero => rfl
  | succ n ih =>
    unfold State.intakeRun
    split
    · rfl
    · dsimp only
      split
      · rw [ih, State.intakeGranule_queue, State.setLink_queue, State.setVager_queue]
      · rw [ih, State.setVager_queue]

@[simp] theorem State.intakeAll_queue (s : State) (c : Nat) : (State.intakeAll s c).queue = s.queue := by
  simp only [State.intakeAll, State.intakeRun_queue]

@[simp] theorem State.deliverGranule_queue (s : State) (v : Bool) (p : Die) (c : Nat) (g : MGran) : (State.deliverGranule s v p c g).queue = s.queue := by
  simp only [State.deliverGranule, ite_outQueue, ite_queue, ite_self, State.intakeGranule_queue, State.lbump_queue,
    State.setLink_queue]

@[simp] theorem State.deliverFlit_queue (s : State) (v : Bool) (p : Die) (items : List (Nat × MGran)) : (State.deliverFlit s v p items).queue = s.queue := by
  simp only [State.deliverFlit, implies_true, ite_outQueue, ite_queue, ite_self, foldl_queue, State.deliverGranule_queue,
    State.intakeAll_queue, State.lbump_queue, State.protocolError_queue, State.setLink_queue]

@[simp] theorem State.dataFlit_queue (s : State) (v : Bool) (p : Die) (h : Nat) (gs : Option (List MGran)) : (State.dataFlit s v p h gs).queue = s.queue := by
  unfold State.dataFlit
  (try dsimp only)
  repeat' split
  all_goals (try simp only [Prod.ext_iff] at *)
  all_goals (try casesm* _ ∧ _)
  all_goals (try subst_vars)
  all_goals (try simp only [ite_outQueue, ite_queue, ite_self, State.deliverFlit_queue, State.setNak_queue])

@[simp] theorem State.takeFlit_queue (s : State) (v : Bool) (p : Die) (cws : List Nat) (ok : Bool) : (State.takeFlit s v p cws ok).queue = s.queue := by
  unfold State.takeFlit
  (try dsimp only)
  repeat' split
  all_goals (try simp only [Prod.ext_iff] at *)
  all_goals (try casesm* _ ∧ _)
  all_goals (try subst_vars)
  all_goals (try simp only [ite_outQueue, ite_queue, ite_self, State.dataFlit_queue, State.lbump_queue, State.setNak_queue,
    State.takeHeader_queue])

@[simp] theorem State.edgeOverrun_queue (s : State) (v : Bool) (p : Die) : (State.edgeOverrun s v p).queue = s.queue := by
  simp only [State.edgeOverrun, ite_outQueue, ite_queue, ite_self, State.countPort_queue, State.setElem_queue]

@[simp] theorem execFlitRx_queue (v : Bool) (p : Die) (f : FlitIn) (s : State) : outQueue (execFlitRx v p f s) = s.queue := by
  unfold execFlitRx
  (try dsimp only)
  repeat' split
  all_goals (try simp only [Prod.ext_iff] at *)
  all_goals (try casesm* _ ∧ _)
  all_goals (try subst_vars)
  all_goals (try simp only [outQueue_next, ite_outQueue, ite_queue, ite_self, State.edgeOverrun_queue, State.setLink_queue, State.takeFlit_queue,
    State.takeWords_queue])

@[simp] theorem execReplayTimeout_queue (v : Bool) (p : Die) (s : State) : outQueue (execReplayTimeout v p s) = s.queue := by
  unfold execReplayTimeout
  (try dsimp only)
  repeat' split
  all_goals (try simp only [Prod.ext_iff] at *)
  all_goals (try casesm* _ ∧ _)
  all_goals (try subst_vars)
  all_goals (try simp only [outQueue_next, ite_outQueue, ite_queue, ite_self, State.takeNak_queue])

/-! ### Telltale -/

@[simp] theorem State.readBuilder_queue (s : State) (n : Nat) (e : Option HbmError) : (s.readBuilder n e).2.queue = s.queue := by
  unfold State.readBuilder
  dsimp only
  exact State.readCoded_queue ..

@[simp] theorem State.readBuilders_queue (s : State) (l : List (Nat × HbmError)) : (s.readBuilders l).2.queue = s.queue := by
  induction l generalizing s with
  | nil => rfl
  | cons e l ih =>
    unfold State.readBuilders
    dsimp only
    rw [ih, State.readBuilder_queue]

@[simp] theorem execStreamRecordIntake_queue (p : Die) (data : Nat) (poison : Bool) (errors : List (Nat × HbmError)) (s : State) : outQueue (execStreamRecordIntake p data poison errors s) = s.queue := by
  simp only [execStreamRecordIntake, outQueue_next, implies_true, ite_outQueue, ite_queue, ite_self, foldl_queue,
    State.applyRecord_queue, State.bump_queue, State.readBuilders_queue, State.setElem_queue]

@[simp] theorem execBuilderSweep_queue (n : Nat) (error : Option HbmError) (s : State) : outQueue (execBuilderSweep n error s) = s.queue := by
  simp only [execBuilderSweep, outQueue_next, ite_outQueue, ite_queue, ite_self, State.builderFault_queue,
    State.builderSweep_queue, State.readBuilder_queue]

@[simp] theorem execPassStart_queue (m : Fin 64) (s : State) : outQueue (execPassStart m s) = s.queue := by
  unfold execPassStart
  (try dsimp only)
  repeat' split
  all_goals (try simp only [Prod.ext_iff] at *)
  all_goals (try casesm* _ ∧ _)
  all_goals (try subst_vars)
  all_goals (try simp only [outQueue_next, State.passStart_queue])

@[simp] theorem State.readRowHbm_queue (s : State) (row : Nat) (errors : List (Nat × HbmError)) :
    (s.readRowHbm row errors).queue = s.queue := by
  unfold State.readRowHbm
  refine foldl_queue _ ?_ _ _
  intro s e
  split
  · exact (State.setFrow_queue ..).trans (State.readCoded_queue ..)
  · rfl

@[simp] theorem State.readRow_queue (s : State) (row : Nat) (cacheHit : Bool) (bank : Option (Fin 64 × Bool)) (errors : List (Nat × HbmError)) : (State.readRow s row cacheHit bank errors).queue = s.queue := by
  unfold State.readRow
  (try dsimp only)
  repeat' split
  all_goals (try simp only [Prod.ext_iff] at *)
  all_goals (try casesm* _ ∧ _)
  all_goals (try subst_vars)
  all_goals (try simp only [ite_outQueue, ite_queue, ite_self, State.bump_queue, State.classify_queue, State.readRowHbm_queue])

@[simp] theorem State.nodeError_queue (s : State) (m g : Nat) (y : Model) (node : Option (Nat × Bool)) : (State.nodeError s m g y node).queue = s.queue := by
  unfold State.nodeError
  (try dsimp only)
  repeat' split
  all_goals (try simp only [Prod.ext_iff] at *)
  all_goals (try casesm* _ ∧ _)
  all_goals (try subst_vars)
  all_goals (try simp only [State.classify_queue, State.place_queue])

@[simp] theorem State.evalItem_queue (s : State) (m : Nat) (p : Pass) (y : Model) (e : Nat × Nat) (lane : Nat) (spoilt : Option Nat) : (State.evalItem s m p y e lane spoilt).queue = s.queue := by
  simp only [State.evalItem, ite_outQueue, ite_queue, ite_self, State.bump_queue, State.setMslot_queue]

@[simp] theorem execWorkItemDone_queue (m : Fin 64) (row : Nat) (lane : Fin 17) (cacheHit : Bool) (bank : Option (Fin 64 × Bool)) (errors : List (Nat × HbmError)) (node : Option (Nat × Bool)) (s : State) : outQueue (execWorkItemDone m row lane cacheHit bank errors node s) = s.queue := by
  unfold execWorkItemDone
  (try dsimp only)
  repeat' split
  all_goals (try simp only [Prod.ext_iff] at *)
  all_goals (try casesm* _ ∧ _)
  all_goals (try subst_vars)
  all_goals (try simp only [outQueue_next, ite_outQueue, ite_queue, ite_self, State.evalItem_queue, State.nodeError_queue, State.place_queue,
    State.readRow_queue, State.setMslot_queue])

@[simp] theorem execLaneProbeDone_queue (g : Fin 4) (lane : Fin 17) (ok : Bool) (s : State) : outQueue (execLaneProbeDone g lane ok s) = s.queue := by
  simp only [execLaneProbeDone, outQueue_next, ite_outQueue, ite_queue, ite_self, State.setVager_queue, State.bump_queue,
    State.classify_queue, State.redoLane_queue, State.setLaneGroup_queue]

@[simp] theorem execProbeIntervalExpiry_queue (g : Fin 4) (lane : Fin 17) (s : State) : outQueue (execProbeIntervalExpiry g lane s) = s.queue := by
  simp only [execProbeIntervalExpiry, outQueue_next, ite_outQueue, ite_queue, ite_self, State.setLaneGroup_queue]

@[simp] theorem State.releaseOutput_queue (s : State) (m row start : Nat) (x : Score) (o : Nat) : (State.releaseOutput s m row start x o).1.queue = s.queue := by
  unfold State.releaseOutput
  (try dsimp only)
  repeat' split
  all_goals (try simp only [Prod.ext_iff] at *)
  all_goals (try casesm* _ ∧ _)
  all_goals (try subst_vars)
  all_goals (try simp only [ite_outQueue, ite_queue, ite_self, State.alarm_queue, State.bump_queue, State.setMslot_queue])

@[simp] theorem State.releaseRows_queue (s : State) (m start : Nat) (rows : List Eval) :
    (s.releaseRows m start rows).1.queue = s.queue := by
  unfold State.releaseRows
  refine foldl_fst_queue _ ?_ _ _
  intro x e
  refine foldl_fst_queue _ ?_ _ _
  intro y o
  exact State.releaseOutput_queue ..

@[simp] theorem State.alarmNotify_queue (s : State) (m : Nat) (x : Nat × Nat) : (State.alarmNotify s m x).queue = s.queue := by
  simp only [State.alarmNotify, implies_true, ite_outQueue, ite_queue, ite_self, foldl_queue, State.takeNat_queue,
    State.msix_queue, State.recordV_queue]

@[simp] theorem State.alarmStream_queue (s : State) (m o : Nat) (p : Pass) : (State.alarmStream s m o p).queue = s.queue := by
  unfold State.alarmStream
  (try dsimp only)
  repeat' split
  all_goals (try simp only [Prod.ext_iff] at *)
  all_goals (try casesm* _ ∧ _)
  all_goals (try subst_vars)
  all_goals first
    | simp only [implies_true, ite_outQueue, ite_queue, ite_self, foldl_queue, State.setVager_queue, State.applyRecord_queue]
    | (rw [foldl_queue _ (by
        intro s c
        (try dsimp only)
        repeat' split
        all_goals (try simp only [implies_true, ite_outQueue, ite_queue, ite_self, foldl_queue, State.setVager_queue, State.applyRecord_queue]))]
       (try simp only [implies_true, ite_outQueue, ite_queue, ite_self, foldl_queue, State.setVager_queue, State.applyRecord_queue]))

@[simp] theorem State.releasePass_queue (s : State) (m : Nat) (p : Pass) (y : Model) : (State.releasePass s m p y).queue = s.queue := by
  simp only [State.releasePass, implies_true, foldl_queue, State.alarmNotify_queue, State.alarmStream_queue, State.bump_queue,
    State.freeIfRetired_queue, State.releaseRows_queue, State.wr_queue]

@[simp] theorem execPassRelease_queue (m : Fin 64) (s : State) : outQueue (execPassRelease m s) = s.queue := by
  unfold execPassRelease
  (try dsimp only)
  repeat' split
  all_goals (try simp only [Prod.ext_iff] at *)
  all_goals (try casesm* _ ∧ _)
  all_goals (try subst_vars)
  all_goals (try simp only [outQueue_next, ite_outQueue, ite_queue, ite_self, State.releasePass_queue, State.setMslot_queue])

@[simp] theorem execModelLoad_queue (w : Writer) (m : Fin 64) (s : State) : outQueue (execModelLoad w m s) = s.queue := by
  simp only [execModelLoad, outQueue_next, implies_true, ite_outQueue, ite_queue, ite_self, foldl_queue, State.writeBy_queue,
    State.answer_queue, State.setMdlState_queue, State.setMslot_queue, State.wakeVager_queue, State.writeBy_queue]

@[simp] theorem State.takeBlocks_queue (s : State) (m : Nat) (x : Model) (g : Nat) : (State.takeBlocks s m x g).queue = s.queue := by
  simp only [State.takeBlocks, implies_true, foldl_queue, State.setLaneGroup_queue, State.setMslot_queue]

@[simp] theorem State.finishLoad_queue (s : State) (k : Nat) (x : Model) (groups : List Nat) : (State.finishLoad s k x groups).queue = s.queue := by
  simp only [State.finishLoad, implies_true, ite_outQueue, ite_queue, ite_self, foldl_queue, State.setBytes_queue,
    State.setMdlState_queue, State.setMslot_queue, State.takeBlocks_queue, State.wr_queue]

@[simp] theorem execModelLoadDone_queue (m : Fin 64) (s : State) : outQueue (execModelLoadDone m s) = s.queue := by
  simp only [execModelLoadDone, outQueue_next, ite_outQueue, ite_queue, ite_self, State.finishLoad_queue, State.setMdlState_queue,
    State.setMslot_queue, State.wr_queue]

@[simp] theorem execModelUnload_queue (w : Writer) (m : Fin 64) (s : State) : outQueue (execModelUnload w m s) = s.queue := by
  simp only [execModelUnload, outQueue_next]
  refine State.writeBy_queue _ _ _ _ _ ?_
  (try dsimp only)
  repeat' split
  all_goals (try simp only [Prod.ext_iff] at *)
  all_goals (try casesm* _ ∧ _)
  all_goals (try subst_vars)
  all_goals (try simp only [outQueue_next, State.writeBy_queue, State.answer_queue, State.freeIfRetired_queue, State.freeSlot_queue,
    State.setMdlState_queue, State.writeBy_queue])

@[simp] theorem execBlockSpareFillDone_queue (g : Fin 4) (block : Nat) (s : State) : outQueue (execBlockSpareFillDone g block s) = s.queue := by
  simp only [execBlockSpareFillDone, outQueue_next, State.setLaneGroup_queue]

/-! ### Power -/

@[simp] theorem State.setPower_queue (s : State) (p : Part) (x : Power) : (State.setPower s p x).queue = s.queue := by
  unfold State.setPower
  (try dsimp only)
  repeat' split
  all_goals (try simp only [Prod.ext_iff] at *)
  all_goals (try casesm* _ ∧ _)
  all_goals (try subst_vars)
  all_goals (try simp only [State.setVager_queue, State.setDie_queue])

@[simp] theorem State.moveDomain_queue (s : State) (p : Part) (i st : Nat) : (State.moveDomain s p i st).queue = s.queue := by
  unfold State.moveDomain
  (try dsimp only)
  repeat' split
  all_goals (try simp only [Prod.ext_iff] at *)
  all_goals (try casesm* _ ∧ _)
  all_goals (try subst_vars)
  all_goals (try simp only [State.moveDie_queue, State.moveVager_queue])

@[simp] theorem State.noteSleep_queue (s : State) (p : Part) (i : Nat) (x : Sleep) : (State.noteSleep s p i x).queue = s.queue := by
  simp only [State.noteSleep, ite_outQueue, ite_queue, ite_self, State.setPower_queue]

@[simp] theorem State.domainOff_queue (s : State) (p : Part) (i : Nat) : (State.domainOff s p i).queue = s.queue := by
  unfold State.domainOff
  (try dsimp only)
  repeat' split
  all_goals (try simp only [Prod.ext_iff] at *)
  all_goals (try casesm* _ ∧ _)
  all_goals (try subst_vars)
  all_goals (try simp only [ite_outQueue, ite_queue, ite_self, State.setDie_queue, State.setClState_queue])

@[simp] theorem State.towards_queue (s : State) (p : Part) (i target : Nat) : (State.towards s p i target).queue = s.queue := by
  unfold State.towards
  (try dsimp only)
  repeat' split
  all_goals (try simp only [Prod.ext_iff] at *)
  all_goals (try casesm* _ ∧ _)
  all_goals (try subst_vars)
  all_goals (try simp only [ite_outQueue, ite_queue, ite_self, State.domainOff_queue, State.moveDie_queue, State.moveDomain_queue,
    State.moveVager_queue, State.wakeCluster_queue])

@[simp] theorem State.fabricDomain_queue (s : State) (q : Nat) : (State.fabricDomain s q).queue = s.queue := by
  simp only [State.fabricDomain, ite_outQueue, ite_queue, ite_self, State.moveVager_queue, State.wr_queue]

@[simp] theorem State.revisit_queue (s : State) (p : Part) (i : Nat) (sleeps : List Sleep) : (State.revisit s p i sleeps).queue = s.queue := by
  unfold State.revisit
  (try dsimp only)
  repeat' split
  all_goals (try simp only [Prod.ext_iff] at *)
  all_goals (try casesm* _ ∧ _)
  all_goals (try subst_vars)
  all_goals (try simp only [implies_true, ite_outQueue, ite_queue, ite_self, foldl_queue, State.moveVager_queue, State.noteSleep_queue,
    State.towards_queue])

@[simp] theorem execPowerRevisit_queue (p : Part) (busy : Nat) (hbmIdle : List Nat) (s : State) : outQueue (execPowerRevisit p busy hbmIdle s) = s.queue := by
  unfold execPowerRevisit
  (try dsimp only)
  repeat' split
  all_goals (try simp only [Prod.ext_iff] at *)
  all_goals (try casesm* _ ∧ _)
  all_goals (try subst_vars)
  all_goals (try simp only [outQueue_next, implies_true, foldl_queue, State.fabricDomain_queue, State.revisit_queue])

@[simp] theorem execDomainWakeDone_queue (p : Part) (domain : Fin 32) (s : State) : outQueue (execDomainWakeDone p domain s) = s.queue := by
  unfold execDomainWakeDone
  (try dsimp only)
  repeat' split
  all_goals (try simp only [Prod.ext_iff] at *)
  all_goals (try casesm* _ ∧ _)
  all_goals (try subst_vars)
  all_goals (try simp only [outQueue_next, ite_outQueue, ite_queue, ite_self, State.moveDie_queue, State.moveVager_queue])

@[simp] theorem State.wakeFunction_queue (s : State) (p : Part) (f : Nat) : (State.wakeFunction s p f).queue = s.queue := by
  unfold State.wakeFunction
  (try dsimp only)
  repeat' split
  all_goals (try simp only [Prod.ext_iff] at *)
  all_goals (try casesm* _ ∧ _)
  all_goals (try subst_vars)
  all_goals (try simp only [implies_true, ite_outQueue, ite_queue, ite_self, foldl_queue, State.wakeCluster_queue, State.wakeDie_queue,
    State.wakeVager_queue])

@[simp] theorem execWakeWrite_queue (p : Part) (w : Writer) (f : Fin 3) (s : State) : outQueue (execWakeWrite p w f s) = s.queue := by
  simp only [execWakeWrite, outQueue_next, State.writeBy_queue, State.answer_queue, State.setPower_queue,
    State.wakeFunction_queue, State.writeBy_queue]

@[simp] theorem execWakeHoldExpiry_queue (p : Part) (f : Fin 3) (s : State) : outQueue (execWakeHoldExpiry p f s) = s.queue := by
  unfold execWakeHoldExpiry
  (try dsimp only)
  repeat' split
  all_goals (try simp only [Prod.ext_iff] at *)
  all_goals (try casesm* _ ∧ _)
  all_goals (try subst_vars)
  all_goals (try simp only [outQueue_next, ite_outQueue, ite_queue, ite_self, State.setPower_queue])

/-! ### Recorder -/

@[simp] theorem State.setRcd_queue (s : State) (r : Recorder) : (State.setRcd s r).queue = s.queue := by
  simp only [State.setRcd, State.setVager_queue]

@[simp] theorem State.recorderGo_queue (s : State) : (State.recorderGo s).queue = s.queue := by
  simp only [State.recorderGo, State.recordLost_queue, State.setRcd_queue]

@[simp] theorem execRecordNorWriteDone_queue (s : State) : outQueue (execRecordNorWriteDone s) = s.queue := by
  simp only [execRecordNorWriteDone, outQueue_next, State.recorderGo_queue, State.setRcd_queue]

@[simp] theorem execNorSectorEraseDone_queue (s : State) : outQueue (execNorSectorEraseDone s) = s.queue := by
  simp only [execNorSectorEraseDone, outQueue_next, State.setRcd_queue]

@[simp] theorem execRecFreeze_queue (w : Writer) (s : State) : outQueue (execRecFreeze w s) = s.queue := by
  simp only [execRecFreeze, outQueue_next, ite_outQueue, ite_queue, ite_self, State.writeBy_queue, State.answer_queue,
    State.setRcd_queue, State.wr_queue, State.writeBy_queue]

@[simp] theorem State.thaw_queue (s : State) : (State.thaw s).queue = s.queue := by
  simp only [State.thaw, ite_outQueue, ite_queue, ite_self, State.recorderGo_queue, State.wr_queue]

@[simp] theorem execRecThaw_queue (w : Writer) (s : State) : outQueue (execRecThaw w s) = s.queue := by
  simp only [execRecThaw, outQueue_next, State.writeBy_queue, State.answer_queue, State.thaw_queue, State.writeBy_queue]

@[simp] theorem execRecFreezeLimitExpiry_queue (s : State) : outQueue (execRecFreezeLimitExpiry s) = s.queue := by
  simp only [execRecFreezeLimitExpiry, outQueue_next, ite_outQueue, ite_queue, ite_self, State.thaw_queue]

@[simp] theorem execRecClear_queue (w : Writer) (serial : Nat) (s : State) : outQueue (execRecClear w serial s) = s.queue := by
  simp only [execRecClear, outQueue_next, ite_outQueue, ite_queue, ite_self, State.writeBy_queue, State.answer_queue,
    State.setRcd_queue, State.wr_queue, State.writeBy_queue]

@[simp] theorem execRecClearDone_queue (s : State) : outQueue (execRecClearDone s) = s.queue := by
  simp only [execRecClearDone, outQueue_next, ite_outQueue, ite_queue, ite_self, State.recordV_queue, State.recorderGo_queue,
    State.setRcd_queue, State.wr_queue]

@[simp] theorem execOpHourBoundary_queue (s : State) : outQueue (execOpHourBoundary s) = s.queue := by
  simp only [execOpHourBoundary, outQueue_next, ite_outQueue, ite_queue, ite_self, State.setVager_queue, State.bump_queue]

@[simp] theorem State.thermalTrip_queue (s : State) (sensor : Nat) (reading : Int) : (State.thermalTrip s sensor reading).queue = s.queue := by
  simp only [State.thermalTrip, implies_true, ite_outQueue, ite_queue, ite_self, foldl_queue, State.setVager_queue,
    State.emit_queue, State.moveVager_queue, State.recordV_queue, State.setClState_queue]

@[simp] theorem State.takeSensor_queue (s : State) (i : Nat) (x : Int) : (State.takeSensor s i x).queue = s.queue := by
  simp only [State.takeSensor, ite_outQueue, ite_queue, ite_self, State.recordV_queue, State.setElem_queue,
    State.thermalTrip_queue, State.wr_queue]

@[simp] theorem execCnSensorSample_queue (thermal : List Int) (rails : List Nat) (s : State) : outQueue (execCnSensorSample thermal rails s) = s.queue := by
  simp only [execCnSensorSample, outQueue_next, implies_true, foldl_queue, State.setVager_queue, State.setElem_queue,
    State.takeSensor_queue]

end Sys2Proof.Machine
end

