-- ==== Sys2Proof/Laws/QueueTree.lean ====
section
/-! SUPPORT. Laws/QueueTree.lean: the queue after each operation of Stay, the pod tree, resets, Crow and the worlds is the queue before it. -/

namespace Sys2Proof.Machine
open Sys2Proof

/-! ### Stay -/

@[simp] theorem State.clearCutCounts_queue (s : State) : (State.clearCutCounts s).queue = s.queue := by
  simp only [State.clearCutCounts, implies_true, foldl_queue, State.wr_queue, State.writeOctets_queue]

@[simp] theorem State.showCoord_queue (s : State) : (State.showCoord s).queue = s.queue := by
  simp only [State.showCoord, State.wr_queue]

@[simp] theorem State.startCoord_queue (s : State) : (State.startCoord s).queue = s.queue := by
  simp only [State.startCoord, State.setStay_queue, State.showCoord_queue, State.wr_queue]

@[simp] theorem State.startCut_queue (s : State) (arm : Nat) : (State.startCut s arm).queue = s.queue := by
  simp only [State.startCut, implies_true, ite_outQueue, ite_queue, ite_self, foldl_queue, State.clearCutCounts_queue,
    State.setCut_queue, State.setElem_queue, State.setStay_queue, State.startCoord_queue, State.stayCommand_queue, State.wr_queue]

@[simp] theorem execCutArmWrite_queue (w : Writer) (arm : Nat) (s : State) : outQueue (execCutArmWrite w arm s) = s.queue := by
  simp only [execCutArmWrite, outQueue_next, ite_outQueue, ite_queue, ite_self, State.writeBy_queue, State.answer_queue,
    State.startCut_queue, State.wr_queue, State.writeBy_queue]

@[simp] theorem State.stopCut_queue (s : State) (d : Die) (code : Nat) : (State.stopCut s d code).queue = s.queue := by
  simp only [State.stopCut, ite_outQueue, ite_queue, ite_self, State.endCut_queue, State.shroudResume_queue]

@[simp] theorem execCutArmCommand_queue (d : Die) (head : Nat) (s : State) : outQueue (execCutArmCommand d head s) = s.queue := by
  simp only [execCutArmCommand, outQueue_next, ite_outQueue, ite_queue, ite_self, State.emit_queue, State.setStd_queue,
    State.stopCut_queue, State.wr_queue]

@[simp] theorem execCutCancelCommand_queue (d : Die) (s : State) : outQueue (execCutCancelCommand d s) = s.queue := by
  simp only [execCutCancelCommand, outQueue_next, State.stopCut_queue]

@[simp] theorem execCutReady_queue (d : Die) (step : Nat) (s : State) : outQueue (execCutReady d step s) = s.queue := by
  simp only [execCutReady, outQueue_next, ite_outQueue, ite_queue, ite_self, State.dmaSettle_queue, State.setStd_queue,
    State.stopCut_queue, State.wr_queue]

@[simp] theorem execReadyTimeout_queue (d : Die) (s : State) : outQueue (execReadyTimeout d s) = s.queue := by
  simp only [execReadyTimeout, outQueue_next, ite_outQueue, ite_queue, ite_self, State.stopCut_queue]

@[simp] theorem State.sendChunk_queue (s : State) (d : Die) (r c : Nat) (data : List (Nat × Bool)) : (State.sendChunk s d r c data).queue = s.queue := by
  simp only [State.sendChunk, State.bump_queue, State.send_queue]

@[simp] theorem execAbsorptionComplete_queue (d : Die) (data : List (List (Nat × Bool))) (s : State) : outQueue (execAbsorptionComplete d data s) = s.queue := by
  simp only [execAbsorptionComplete, outQueue_next, implies_true, ite_outQueue, ite_queue, ite_self, foldl_queue,
    State.endCut_queue, State.sendChunk_queue, State.shroudResume_queue]

@[simp] theorem State.setChunk_queue (s : State) (n : Nat) (c : Chunk) : (State.setChunk s n c).queue = s.queue := by
  simp only [State.setChunk, State.setStay_queue]

@[simp] theorem State.setTarget_queue (s : State) (t : Nat) (x : Target) : (State.setTarget s t x).queue = s.queue := by
  simp only [State.setTarget, State.setStay_queue]

@[simp] theorem State.sendPdu_queue (s : State) (t q : Nat) (pdu : List Nat) : (s.sendPdu t q pdu).queue = s.queue := by
  unfold State.sendPdu
  dsimp only
  generalize (s.emit (.nvme t q (s.rd .vager (O.TGT_PORT_5888 t)) pdu)).route _ = r
  cases r with
  | none => exact State.emit_queue ..
  | some x => exact (foldl_queue _ (fun u n => State.enqueueFrame_queue u ..) _ _).trans (State.emit_queue ..)

@[simp] theorem State.sendCmd_queue (s : State) (t q : Nat) (entry data : List Nat) : (State.sendCmd s t q entry data).queue = s.queue := by
  simp only [State.sendCmd, State.sendPdu_queue]

@[simp] theorem State.connect_queue (s : State) (t : Nat) : (State.connect s t).queue = s.queue := by
  simp only [State.connect, ite_outQueue, ite_queue, ite_self, State.sendPdu_queue, State.setTarget_queue, State.wr_queue]

@[simp] theorem State.fabricsConnect_queue (s : State) (t q : Nat) : (State.fabricsConnect s t q).queue = s.queue := by
  simp only [State.fabricsConnect, ite_outQueue, ite_queue, ite_self, State.takeNat_queue, State.sendCmd_queue]

@[simp] theorem State.issueWrite_queue (s : State) (x : DrainWrite) : (State.issueWrite s x).queue = s.queue := by
  simp only [State.issueWrite, State.sendCmd_queue]

@[simp] theorem State.startWrites_queue (s : State) : (State.startWrites s).queue = s.queue := by
  unfold State.startWrites
  (try dsimp only)
  repeat' split
  all_goals (try simp only [Prod.ext_iff] at *)
  all_goals (try casesm* _ ∧ _)
  all_goals (try subst_vars)
  all_goals first
    | simp only [implies_true, ite_outQueue, ite_queue, ite_self, foldl_queue, State.issueWrite_queue, State.setStay_queue]
    | (rw [foldl_queue _ (by
        intro s c
        (try dsimp only)
        repeat' split
        all_goals (try simp only [implies_true, ite_outQueue, ite_queue, ite_self, foldl_queue, State.issueWrite_queue, State.setStay_queue]))]
       (try simp only [implies_true, ite_outQueue, ite_queue, ite_self, foldl_queue, State.issueWrite_queue, State.setStay_queue]))

@[simp] theorem State.readSlot_queue (s : State) (slot first : Nat) (errors : List (Nat × HbmError)) : (State.readSlot s slot first errors).queue = s.queue := by
  simp only [State.readSlot, implies_true, foldl_queue, State.hbmRead_queue]

@[simp] theorem State.takeOver_queue (s : State) (slot n h : Nat) : (State.takeOver s slot n h).queue = s.queue := by
  simp only [State.takeOver, State.setChunk_queue, State.setStay_queue]

@[simp] theorem State.handTo_queue (slot : Nat) (l : List Nat) (s : State) : (State.handTo slot l s).queue = s.queue := by
  induction l generalizing s with
  | nil => simp only [State.handTo, State.unusable_queue, State.setStay_queue]
  | cons h l ih =>
    unfold State.handTo
    dsimp only
    split
    · split
      · rw [State.takeOver_queue, State.setStay_queue]
      · rw [ih, State.setStay_queue]
    · simp only [State.sendStay_queue, State.bump_queue, State.setStay_queue]

@[simp] theorem State.chunkSpoilt_queue (s : State) (slot : Nat) : (State.chunkSpoilt s slot).queue = s.queue := by
  simp only [State.chunkSpoilt, ite_outQueue, ite_queue, ite_self, State.bump_queue, State.handTo_queue, State.setChunk_queue,
    State.setStay_queue]

@[simp] theorem State.hostRecord_queue (s : State) (i : DrainItem) : (State.hostRecord s i).queue = s.queue := by
  simp only [State.hostRecord, implies_true, foldl_queue, State.emit_queue, State.msix_queue, State.setStay_queue, State.wr_queue]

@[simp] theorem State.startItem_queue (s : State) (i : DrainItem) : (State.startItem s i).queue = s.queue := by
  unfold State.startItem
  (try dsimp only)
  repeat' split
  all_goals (try simp only [Prod.ext_iff] at *)
  all_goals (try casesm* _ ∧ _)
  all_goals (try subst_vars)
  all_goals (try simp only [implies_true, ite_outQueue, ite_queue, ite_self, foldl_queue, State.chunkSpoilt_queue, State.connect_queue,
    State.hostRecord_queue, State.setStay_queue])

@[simp] theorem State.pump_queue (s : State) : (State.pump s).queue = s.queue := by
  simp only [State.pump, implies_true, foldl_queue, State.startItem_queue, State.startWrites_queue]

@[simp] theorem State.enqueue_queue (s : State) (l : List DrainItem) : (State.enqueue s l).queue = s.queue := by
  simp only [State.enqueue, State.pump_queue, State.setStay_queue]

@[simp] theorem State.localCommit_queue (s : State) (digest : List Nat) : (State.localCommit s digest).queue = s.queue := by
  simp only [State.localCommit, ite_outQueue, ite_queue, ite_self, State.setCut_queue, State.setStay_queue, State.wr_queue,
    State.writeOctets_queue]

@[simp] theorem State.sendCommits_queue (s : State) (resend : Bool) : (State.sendCommits s resend).queue = s.queue := by
  simp only [State.sendCommits, implies_true, ite_outQueue, ite_queue, ite_self, foldl_queue, State.sendStay_queue]

@[simp] theorem State.commitPoint_queue (s : State) : (State.commitPoint s).queue = s.queue := by
  simp only [State.commitPoint, State.localCommit_queue, State.sendCommits_queue, State.setStay_queue, State.wr_queue,
    State.writeOctets_queue]

@[simp] theorem State.coordTake_queue (s : State) (pos : Nat) (digest : List Nat) : (State.coordTake s pos digest).queue = s.queue := by
  simp only [State.coordTake, ite_outQueue, ite_queue, ite_self, State.enqueue_queue, State.record_queue, State.setStay_queue,
    State.showCoord_queue]

@[simp] theorem State.sendPrepared_queue (s : State) (resend : Bool) : (State.sendPrepared s resend).queue = s.queue := by
  simp only [State.sendPrepared, ite_outQueue, ite_queue, ite_self, State.coordTake_queue, State.sendStay_queue]

@[simp] theorem State.prepared_queue (s : State) : (State.prepared s).queue = s.queue := by
  simp only [State.prepared, ite_outQueue, ite_queue, ite_self, State.sendPrepared_queue, State.setCut_queue, State.setStay_queue]

@[simp] theorem State.checkDrained_queue (s : State) : (State.checkDrained s).queue = s.queue := by
  simp only [State.checkDrained, ite_outQueue, ite_queue, ite_self, State.enqueue_queue, State.setStay_queue]

@[simp] theorem State.itemDurable_queue (s : State) (i : DrainItem) : (State.itemDurable s i).queue = s.queue := by
  unfold State.itemDurable
  (try dsimp only)
  repeat' split
  all_goals (try simp only [Prod.ext_iff] at *)
  all_goals (try casesm* _ ∧ _)
  all_goals (try subst_vars)
  all_goals (try simp only [ite_outQueue, ite_queue, ite_self, State.bump_queue, State.checkDrained_queue, State.commitPoint_queue,
    State.prepared_queue, State.record_queue, State.setChunk_queue])

@[simp] theorem State.markSilent_queue (s : State) : (State.markSilent s).queue = s.queue := by
  simp only [State.markSilent, implies_true, foldl_queue, State.setObit_queue, State.setStay_queue]

@[simp] theorem State.decideOwners_queue (s : State) : (State.decideOwners s).queue = s.queue := by
  simp only [State.decideOwners, ite_outQueue, ite_queue, ite_self, State.setStay_queue]

@[simp] theorem State.countOwners_queue (s : State) (codes : List ((Nat × Nat) × Nat)) : (State.countOwners s codes).queue = s.queue := by
  simp only [State.countOwners, State.wr_queue]

@[simp] theorem State.firstCode_queue (s : State) (codes : List ((Nat × Nat) × Nat)) : (State.firstCode s codes).queue = s.queue := by
  unfold State.firstCode
  (try dsimp only)
  repeat' split
  all_goals (try simp only [Prod.ext_iff] at *)
  all_goals (try casesm* _ ∧ _)
  all_goals (try subst_vars)
  all_goals (try simp only [State.unusable_queue])

@[simp] theorem State.enterDraining_queue (s : State) : (State.enterDraining s).queue = s.queue := by
  simp only [State.enterDraining, ite_outQueue, ite_queue, ite_self, State.checkDrained_queue, State.countOwners_queue,
    State.decideOwners_queue, State.enqueue_queue, State.firstCode_queue, State.markSilent_queue, State.setCut_queue]

@[simp] theorem State.checkPeers_queue (s : State) : (State.checkPeers s).queue = s.queue := by
  simp only [State.checkPeers, ite_outQueue, ite_queue, ite_self, State.enterDraining_queue]

@[simp] theorem State.enterExchanging_queue (s : State) : (State.enterExchanging s).queue = s.queue := by
  simp only [State.enterExchanging, implies_true, foldl_queue, State.checkPeers_queue, State.sendStay_queue, State.setCut_queue]

@[simp] theorem State.checkAbsorbed_queue (s : State) : (State.checkAbsorbed s).queue = s.queue := by
  simp only [State.checkAbsorbed, ite_outQueue, ite_queue, ite_self, State.enterExchanging_queue]

@[simp] theorem State.landChunk_queue (s : State) (p : Die) (header : Nat) (spoilt : Bool) (data : List (Nat × Bool)) : (State.landChunk s p header spoilt data).queue = s.queue := by
  simp only [State.landChunk, ite_outQueue, ite_queue, ite_self, State.bump_queue, State.countPort_queue, State.fillSlot_queue,
    State.setChunk_queue, State.setElem_queue, State.setStay_queue, State.wr_queue]

@[simp] theorem execStayChunkRx_queue (p : Die) (header : Nat) (spoilt : Bool) (data : List (Nat × Bool)) (s : State) : outQueue (execStayChunkRx p header spoilt data s) = s.queue := by
  simp only [execStayChunkRx, outQueue_next, ite_outQueue, ite_queue, ite_self, State.discardCut_queue, State.landChunk_queue]

@[simp] theorem execChunkDigestDone_queue (slot : Nat) (errors : List (Nat × HbmError)) (s : State) : outQueue (execChunkDigestDone slot errors s) = s.queue := by
  simp only [execChunkDigestDone, outQueue_next, ite_outQueue, ite_queue, ite_self, State.takeNat_queue, State.bump_queue,
    State.checkAbsorbed_queue, State.readSlot_queue, State.setChunk_queue, State.setStay_queue]

@[simp] theorem execStayEndRx_queue (p : Die) (granule : Nat) (s : State) : outQueue (execStayEndRx p granule s) = s.queue := by
  simp only [execStayEndRx, outQueue_next, ite_outQueue, ite_queue, ite_self, State.checkAbsorbed_queue, State.discardCut_queue,
    State.setStay_queue]

@[simp] theorem execDigestsRx_queue (header : Nat) (body : List Nat) (s : State) : outQueue (execDigestsRx header body s) = s.queue := by
  simp only [execDigestsRx, outQueue_next, ite_outQueue, ite_queue, ite_self, State.bump_queue, State.checkPeers_queue,
    State.setStay_queue]

@[simp] theorem execExchangeWaitExpiry_queue (s : State) : outQueue (execExchangeWaitExpiry s) = s.queue := by
  simp only [execExchangeWaitExpiry, outQueue_next, ite_outQueue, ite_queue, ite_self, State.enterDraining_queue]

@[simp] theorem State.failWrite_queue (s : State) (cid : Nat) : (State.failWrite s cid).queue = s.queue := by
  simp only [State.failWrite, ite_outQueue, ite_queue, ite_self, State.setStay_queue]

@[simp] theorem execNvmeCapsuleRespRx_queue (t : Fin 8) (cid : Nat) (ok : Bool) (s : State) : outQueue (execNvmeCapsuleRespRx t cid ok s) = s.queue := by
  unfold execNvmeCapsuleRespRx
  (try dsimp only)
  repeat' split
  all_goals (try simp only [Prod.ext_iff] at *)
  all_goals (try casesm* _ ∧ _)
  all_goals (try subst_vars)
  all_goals (try simp only [outQueue_next, ite_outQueue, ite_queue, ite_self, State.bump_queue, State.failWrite_queue, State.itemDurable_queue,
    State.pump_queue, State.setStay_queue])

@[simp] theorem execNvmeR2tRx_queue (t : Fin 8) (cid ttag offset length : Nat) (errors : List (Nat × HbmError)) (s : State) : outQueue (execNvmeR2tRx t cid ttag offset length errors s) = s.queue := by
  unfold execNvmeR2tRx
  (try dsimp only)
  repeat' split
  all_goals (try simp only [Prod.ext_iff] at *)
  all_goals (try casesm* _ ∧ _)
  all_goals (try subst_vars)
  all_goals (try simp only [outQueue_next, implies_true, ite_outQueue, ite_queue, ite_self, foldl_queue, State.chunkSpoilt_queue,
    State.pump_queue, State.readSlot_queue, State.sendPdu_queue])

@[simp] theorem execNvmeIcrespRx_queue (t : Fin 8) (q : Fin 9) (hdgst ddgst : Bool) (most : Nat) (s : State) : outQueue (execNvmeIcrespRx t q hdgst ddgst most s) = s.queue := by
  simp only [execNvmeIcrespRx, outQueue_next, ite_outQueue, ite_queue, ite_self, State.fabricsConnect_queue, State.pump_queue,
    State.sendCmd_queue, State.setTarget_queue, State.wr_queue]

@[simp] theorem State.loseTarget_queue (s : State) (t : Nat) : (State.loseTarget s t).queue = s.queue := by
  simp only [State.loseTarget, ite_outQueue, ite_queue, ite_self, State.bump_queue, State.setStay_queue, State.setTarget_queue,
    State.wr_queue]

@[simp] theorem State.identified_queue (s : State) (t : Nat) : (State.identified s t).queue = s.queue := by
  simp only [State.identified, implies_true, ite_outQueue, ite_queue, ite_self, foldl_queue, State.sendPdu_queue,
    State.setTarget_queue]

@[simp] theorem execNvmeC2hDataRx_queue (t : Fin 8) (id : NvmeIdentify) (s : State) : outQueue (execNvmeC2hDataRx t id s) = s.queue := by
  unfold execNvmeC2hDataRx
  (try dsimp only)
  repeat' split
  all_goals (try simp only [Prod.ext_iff] at *)
  all_goals (try casesm* _ ∧ _)
  all_goals (try subst_vars)
  all_goals (try simp only [outQueue_next, ite_outQueue, ite_queue, ite_self, State.identified_queue, State.loseTarget_queue,
    State.sendPdu_queue, State.setTarget_queue, State.wr_queue])

@[simp] theorem execNvmeTermReqRx_queue (t : Fin 8) (s : State) : outQueue (execNvmeTermReqRx t s) = s.queue := by
  simp only [execNvmeTermReqRx, outQueue_next, ite_outQueue, ite_queue, ite_self, State.loseTarget_queue]

@[simp] theorem execNvmeWriteRetry_queue (t : Fin 8) (cid : Nat) (s : State) : outQueue (execNvmeWriteRetry t cid s) = s.queue := by
  unfold execNvmeWriteRetry
  (try dsimp only)
  repeat' split
  all_goals (try simp only [Prod.ext_iff] at *)
  all_goals (try casesm* _ ∧ _)
  all_goals (try subst_vars)
  all_goals (try simp only [outQueue_next, ite_outQueue, ite_queue, ite_self, State.bump_queue, State.connect_queue, State.pump_queue,
    State.setStay_queue])

@[simp] theorem execHostAckWrite_queue (w : Writer) (value : Nat) (s : State) : outQueue (execHostAckWrite w value s) = s.queue := by
  simp only [execHostAckWrite, outQueue_next, implies_true, ite_outQueue, ite_queue, ite_self, foldl_queue, State.writeBy_queue,
    State.answer_queue, State.itemDurable_queue, State.pump_queue, State.setStay_queue, State.wr_queue, State.writeBy_queue]

@[simp] theorem execHandoffRx_queue (header : Nat) (body : List Nat) (s : State) : outQueue (execHandoffRx header body s) = s.queue := by
  unfold execHandoffRx
  (try dsimp only)
  repeat' split
  all_goals (try simp only [Prod.ext_iff] at *)
  all_goals (try casesm* _ ∧ _)
  all_goals (try subst_vars)
  all_goals (try simp only [outQueue_next, ite_outQueue, ite_queue, ite_self, State.bump_queue, State.enqueue_queue, State.sendStay_queue,
    State.setChunk_queue,
    State.wr_queue])

@[simp] theorem execHandoffAckRx_queue (header : Nat) (s : State) : outQueue (execHandoffAckRx header s) = s.queue := by
  unfold execHandoffAckRx
  (try dsimp only)
  repeat' split
  all_goals (try simp only [Prod.ext_iff] at *)
  all_goals (try casesm* _ ∧ _)
  all_goals (try subst_vars)
  all_goals (try simp only [outQueue_next, ite_outQueue, ite_queue, ite_self, State.bump_queue, State.checkDrained_queue, State.setChunk_queue,
    State.setStay_queue, State.wr_queue])

@[simp] theorem execHandoffNakRx_queue (header : Nat) (s : State) : outQueue (execHandoffNakRx header s) = s.queue := by
  unfold execHandoffNakRx
  (try dsimp only)
  repeat' split
  all_goals (try simp only [Prod.ext_iff] at *)
  all_goals (try casesm* _ ∧ _)
  all_goals (try subst_vars)
  all_goals (try simp only [outQueue_next, ite_outQueue, ite_queue, ite_self, State.checkDrained_queue, State.handTo_queue, State.pump_queue])

@[simp] theorem execPrepResendPeriod_queue (s : State) : outQueue (execPrepResendPeriod s) = s.queue := by
  unfold execPrepResendPeriod
  (try dsimp only)
  repeat' split
  all_goals (try simp only [Prod.ext_iff] at *)
  all_goals (try casesm* _ ∧ _)
  all_goals (try subst_vars)
  all_goals (try simp only [outQueue_next, implies_true, ite_outQueue, ite_queue, ite_self, foldl_queue, State.handTo_queue, State.pump_queue,
    State.sendAborts_queue, State.sendCommits_queue, State.sendPrepared_queue, State.sendStay_queue])

@[simp] theorem execPreparedRx_queue (header digest : Nat) (s : State) : outQueue (execPreparedRx header digest s) = s.queue := by
  simp only [execPreparedRx, outQueue_next, ite_outQueue, ite_queue, ite_self, State.coordTake_queue]

@[simp] theorem execUnusableRx_queue (header : Nat) (s : State) : outQueue (execUnusableRx header s) = s.queue := by
  simp only [execUnusableRx, outQueue_next, ite_outQueue, ite_queue, ite_self, State.coordUnusable_queue]

@[simp] theorem execCommitRx_queue (header digest : Nat) (s : State) : outQueue (execCommitRx header digest s) = s.queue := by
  simp only [execCommitRx, outQueue_next, ite_outQueue, ite_queue, ite_self, State.localCommit_queue, State.sendStay_queue]

@[simp] theorem execCommitAckRx_queue (header : Nat) (s : State) : outQueue (execCommitAckRx header s) = s.queue := by
  simp only [execCommitAckRx, outQueue_next, ite_outQueue, ite_queue, ite_self, State.setStay_queue]

@[simp] theorem execAbortRx_queue (header : Nat) (s : State) : outQueue (execAbortRx header s) = s.queue := by
  simp only [execAbortRx, outQueue_next, ite_outQueue, ite_queue, ite_self, State.takeAbort_queue]

@[simp] theorem execCommitWaitExpiry_queue (s : State) : outQueue (execCommitWaitExpiry s) = s.queue := by
  simp only [execCommitWaitExpiry, outQueue_next, ite_outQueue, ite_queue, ite_self, State.recordV_queue, State.report_queue,
    State.setStay_queue]

@[simp] theorem execCoordTrayWrite_queue (w : Writer) (value : Nat) (s : State) : outQueue (execCoordTrayWrite w value s) = s.queue := by
  simp only [execCoordTrayWrite, outQueue_next, ite_outQueue, ite_queue, ite_self, State.writeBy_queue, State.answer_queue,
    State.setStay_queue, State.startCoord_queue, State.wr_queue, State.writeBy_queue]

@[simp] theorem execPrepInject_queue (w : Writer) (pos : Nat) (digest : List Nat) (s : State) : outQueue (execPrepInject w pos digest s) = s.queue := by
  simp only [execPrepInject, outQueue_next, ite_outQueue, ite_queue, ite_self, State.writeBy_queue, State.answer_queue,
    State.coordTake_queue, State.writeBy_queue]

@[simp] theorem execCutAbandon_queue (w : Writer) (s : State) : outQueue (execCutAbandon w s) = s.queue := by
  simp only [execCutAbandon, outQueue_next, ite_outQueue, ite_queue, ite_self, State.writeBy_queue, State.answer_queue,
    State.abandonCut_queue, State.writeBy_queue]

@[simp] theorem execStayBytesWrite_queue (w : Writer) (value : Nat) (s : State) : outQueue (execStayBytesWrite w value s) = s.queue := by
  simp only [execStayBytesWrite, outQueue_next, ite_outQueue, ite_queue, ite_self, State.writeBy_queue, State.answer_queue,
    State.wr_queue, State.writeBy_queue]

@[simp] theorem State.setRst_queue (s : State) (x : Restore) : (State.setRst s x).queue = s.queue := by
  simp only [State.setRst, State.setStay_queue]

@[simp] theorem State.refuseRst_queue (s : State) (code : Nat) : (State.refuseRst s code).queue = s.queue := by
  simp only [State.refuseRst, ite_outQueue, ite_queue, ite_self, State.wr_queue]

@[simp] theorem State.rstCommand_queue (s : State) (d : Die) (cmd : Nat) : (State.rstCommand s d cmd).queue = s.queue := by
  simp only [State.rstCommand, State.command_queue]

@[simp] theorem State.planRst_queue (s : State) (m : List Nat) (host : Bool) : (State.planRst s m host).queue = s.queue := by
  simp only [State.planRst, ite_outQueue, ite_queue, ite_self, State.refuseRst_queue, State.setRst_queue, State.wr_queue,
    State.writeOctets_queue]

@[simp] theorem State.propose_queue (s : State) (x : Nat) : (State.propose s x).queue = s.queue := by
  simp only [State.propose, ite_outQueue, ite_queue, ite_self, State.planRst_queue, State.refuseRst_queue, State.setRst_queue,
    State.wr_queue, State.writeOctets_queue]

@[simp] theorem execRstPropose_queue (w : Writer) (proposal : Nat) (s : State) : outQueue (execRstPropose w proposal s) = s.queue := by
  simp only [execRstPropose, outQueue_next, ite_outQueue, ite_queue, ite_self, State.writeBy_queue, State.answer_queue,
    State.propose_queue, State.refuseRst_queue, State.wr_queue, State.writeBy_queue]

@[simp] theorem execRstLoaded_queue (w : Writer) (s : State) : outQueue (execRstLoaded w s) = s.queue := by
  simp only [execRstLoaded, outQueue_next, ite_outQueue, ite_queue, ite_self, State.writeBy_queue, State.answer_queue,
    State.planRst_queue, State.refuseRst_queue, State.writeBy_queue]

@[simp] theorem execRstLoadedTimeout_queue (s : State) : outQueue (execRstLoadedTimeout s) = s.queue := by
  simp only [execRstLoadedTimeout, outQueue_next, ite_outQueue, ite_queue, ite_self, State.refuseRst_queue]

@[simp] theorem State.pushChunk_queue (s : State) (slot : Nat) (e : List Nat × Nat) : (State.pushChunk s slot e).queue = s.queue := by
  simp only [State.pushChunk, implies_true, ite_outQueue, ite_queue, ite_self, foldl_queue, State.bump_queue,
    State.refuseRst_queue, State.rstCommand_queue, State.send_queue, State.wr_queue]

@[simp] theorem State.startPush_queue (s : State) : (State.startPush s).queue = s.queue := by
  simp only [State.startPush, implies_true, ite_outQueue, ite_queue, ite_self, foldl_queue, State.pushChunk_queue,
    State.rstCommand_queue, State.send_queue, State.wr_queue]

@[simp] theorem State.checkFilled_queue (s : State) : (State.checkFilled s).queue = s.queue := by
  simp only [State.checkFilled, ite_outQueue, ite_queue, ite_self, State.startPush_queue]

@[simp] theorem execRstConfirm_queue (w : Writer) (cut : Nat) (s : State) : outQueue (execRstConfirm w cut s) = s.queue := by
  simp only [execRstConfirm, outQueue_next, ite_outQueue, ite_queue, ite_self, State.writeBy_queue, State.answer_queue,
    State.checkFilled_queue, State.refuseRst_queue, State.setStay_queue, State.startPush_queue, State.wr_queue, State.writeBy_queue]

@[simp] theorem execRstFilled_queue (w : Writer) (value : Nat) (s : State) : outQueue (execRstFilled w value s) = s.queue := by
  simp only [execRstFilled, outQueue_next, ite_outQueue, ite_queue, ite_self, State.writeBy_queue, State.answer_queue,
    State.setRst_queue, State.writeBy_queue]

@[simp] theorem execFillVerifyDone_queue (slot : Nat) (s : State) : outQueue (execFillVerifyDone slot s) = s.queue := by
  unfold execFillVerifyDone
  (try dsimp only)
  repeat' split
  all_goals (try simp only [Prod.ext_iff] at *)
  all_goals (try casesm* _ ∧ _)
  all_goals (try subst_vars)
  all_goals (try simp only [outQueue_next, ite_outQueue, ite_queue, ite_self, State.bump_queue, State.checkFilled_queue, State.refuseRst_queue,
    State.setRst_queue, State.wr_queue])

@[simp] theorem execStayApertureWrite_queue (w : Writer) (offset bytes data : Nat) (s : State) : outQueue (execStayApertureWrite w offset bytes data s) = s.queue := by
  simp only [execStayApertureWrite, outQueue_next, ite_outQueue, ite_queue, ite_self, State.bump_queue, State.setHbm_queue]

@[simp] theorem execRestoreBeginCommand_queue (d : Die) (head : Nat) (s : State) : outQueue (execRestoreBeginCommand d head s) = s.queue := by
  simp only [execRestoreBeginCommand, outQueue_next, ite_outQueue, ite_queue, ite_self, State.emit_queue, State.dmaSettle_queue,
    State.setStd_queue, State.wr_queue]

@[simp] theorem State.endRestore_queue (s : State) (d : Die) : (State.endRestore s d).queue = s.queue := by
  simp only [State.endRestore, State.emit_queue, State.dmaSettle_queue, State.wr_queue]

@[simp] theorem execRestoreCancelCommand_queue (d : Die) (s : State) : outQueue (execRestoreCancelCommand d s) = s.queue := by
  simp only [execRestoreCancelCommand, outQueue_next, ite_outQueue, ite_queue, ite_self, State.endRestore_queue]

@[simp] theorem execRestoreChunkRx_queue (d : Die) (header : Nat) (data : List (Nat × Bool)) (s : State) : outQueue (execRestoreChunkRx d header data s) = s.queue := by
  simp only [execRestoreChunkRx, outQueue_next, implies_true, ite_outQueue, ite_queue, ite_self, foldl_queue, State.emit_queue,
    State.bump_queue, State.setStd_queue]

@[simp] theorem execRestoreMarkerRx_queue (d : Die) (granule : Nat) (s : State) : outQueue (execRestoreMarkerRx d granule s) = s.queue := by
  simp only [execRestoreMarkerRx, outQueue_next, ite_outQueue, ite_queue, ite_self, State.endRestore_queue, State.send_queue]

@[simp] theorem execRestoreEndRx_queue (p : Die) (granule : Nat) (s : State) : outQueue (execRestoreEndRx p granule s) = s.queue := by
  simp only [execRestoreEndRx, outQueue_next, ite_outQueue, ite_queue, ite_self, State.refuseRst_queue, State.setStay_queue,
    State.wr_queue]

/-! ### Tree -/

@[simp] theorem State.setKidState_queue (s : State) (k st : Nat) : (State.setKidState s k st).queue = s.queue := by
  simp only [State.setKidState, ite_outQueue, ite_queue, ite_self, State.wr_queue]

@[simp] theorem State.discardTree_queue (s : State) : (State.discardTree s).queue = s.queue := by
  simp only [State.discardTree, State.bump_queue]

theorem State.treeIn_queue (s : State) (m : TreeMsg) (type : Nat) (k : State → State) (h : (k s).queue = s.queue) :
    (s.treeIn m type k).queue = s.queue := by
  unfold State.treeIn
  split
  · rfl
  · split
    · simp only [State.discardTree_queue]
    · exact h

@[simp] theorem State.checkAllStanding_queue (s : State) : (State.checkAllStanding s).queue = s.queue := by
  simp only [State.checkAllStanding, implies_true, foldl_queue, State.checkStanding_queue]

@[simp] theorem State.openContext_queue (s : State) (x : Nat) : (State.openContext s x).queue = s.queue := by
  simp only [State.openContext, ite_outQueue, ite_queue, ite_self, State.setCtxState_queue, State.setStaging_queue]

@[simp] theorem State.drainContext_queue (s : State) (x : Nat) : (State.drainContext s x).queue = s.queue := by
  simp only [State.drainContext, State.checkDrain_queue, State.setCtxState_queue]

@[simp] theorem State.openEpoch_queue (s : State) (bseq : Nat) (body : List Nat) : (State.openEpoch s bseq body).2.queue = s.queue := by
  unfold State.openEpoch
  (try dsimp only)
  repeat' split
  all_goals (try simp only [Prod.ext_iff] at *)
  all_goals (try casesm* _ ∧ _)
  all_goals (try subst_vars)
  all_goals (try simp only [implies_true, ite_outQueue, ite_queue, ite_self, foldl_queue, State.setVager_queue, State.checkStanding_queue,
    State.openContext_queue, State.setCtxState_queue, State.setGroup_queue, State.wr_queue])

@[simp] theorem State.rigCheck_queue (s : State) (bseq digest : Nat) : (State.rigCheck s bseq digest).2.queue = s.queue := by
  unfold State.rigCheck
  (try dsimp only)
  repeat' split
  all_goals (try simp only [Prod.ext_iff] at *)
  all_goals (try casesm* _ ∧ _)
  all_goals (try subst_vars)
  all_goals (try simp only [ite_outQueue, ite_queue, ite_self, State.bump_queue, State.wr_queue])

@[simp] theorem State.epochClose_queue (s : State) (h : Nat) : (State.epochClose s h).2.queue = s.queue := by
  unfold State.epochClose
  (try dsimp only)
  repeat' split
  all_goals (try simp only [Prod.ext_iff] at *)
  all_goals (try casesm* _ ∧ _)
  all_goals (try subst_vars)
  all_goals (try simp only [ite_outQueue, ite_queue, ite_self, State.drainContext_queue, State.freeContext_queue, State.wr_queue])

@[simp] theorem State.bcastGroup_queue (s : State) (b : Bcast) (time : Nat) (entries : List SheetEntry) (node : Nat) : (State.bcastGroup s b time entries node).2.queue = s.queue := by
  unfold State.bcastGroup
  (try dsimp only)
  repeat' split
  all_goals (try simp only [Prod.ext_iff] at *)
  all_goals (try casesm* _ ∧ _)
  all_goals (try subst_vars)
  all_goals (try simp only [ite_outQueue, ite_queue, ite_self, State.bump_queue, State.formGroup_queue])

@[simp] theorem State.dictWrite_queue (s : State) (b : Bcast) : (s.dictWrite b).queue = s.queue := by
  unfold State.dictWrite
  dsimp only
  split
  · exact State.settleBcast_queue ..
  · rw [State.settleBcast_queue, foldl_snd_queue]
    intro x a
    exact State.bcastGroup_queue ..

@[simp] theorem State.applyBcast_queue (s : State) (b : Bcast) : (State.applyBcast s b).queue = s.queue := by
  unfold State.applyBcast
  (try dsimp only)
  repeat' split
  all_goals (try simp only [Prod.ext_iff] at *)
  all_goals (try casesm* _ ∧ _)
  all_goals (try subst_vars)
  all_goals (try simp only [ite_outQueue, ite_queue, ite_self, State.applyResult_queue, State.bump_queue, State.dictWrite_queue,
    State.epochClose_queue, State.openEpoch_queue, State.putBcast_queue, State.rigCheck_queue])

@[simp] theorem State.processBcast_queue (s : State) (bseq epoch : Nat) (body : List Nat) : (State.processBcast s bseq epoch body).queue = s.queue := by
  simp only [State.processBcast, State.applyBcast_queue, State.forwardBcast_queue, State.takeBcast_queue, State.tryBack_queue]

@[simp] theorem State.drainAhead_queue (n : Nat) (s : State) : (State.drainAhead n s).queue = s.queue := by
  induction n generalizing s with
  | zero => rfl
  | succ n ih =>
    unfold State.drainAhead
    dsimp only
    split
    · rfl
    · simp only [ih, State.processBcast_queue, State.setTree_queue]

@[simp] theorem State.bcastRx_queue (s : State) (m : TreeMsg) : (State.bcastRx s m).queue = s.queue := by
  unfold State.bcastRx
  (try dsimp only)
  repeat' split
  all_goals (try simp only [Prod.ext_iff] at *)
  all_goals (try casesm* _ ∧ _)
  all_goals (try subst_vars)
  all_goals (try simp only [ite_outQueue, ite_queue, ite_self, State.discardTree_queue, State.drainAhead_queue, State.processBcast_queue,
    State.sendTree_queue, State.setTree_queue])

@[simp] theorem State.bcastSubmit_queue (s : State) (header : Nat) (body : List Nat) : (State.bcastSubmit s header body).queue = s.queue := by
  unfold State.bcastSubmit
  (try dsimp only)
  repeat' split
  all_goals (try simp only [Prod.ext_iff] at *)
  all_goals (try casesm* _ ∧ _)
  all_goals (try subst_vars)
  all_goals (try simp only [outQueue_next, ite_outQueue, ite_queue, ite_self, State.answer_queue, State.forwardBcast_queue,
    State.processBcast_queue, State.putBcast_queue, State.setTree_queue, State.tryBack_queue, State.wr_queue])

@[simp] theorem State.lateKid_queue (s : State) (cg k : Nat) : (State.lateKid s cg k).queue = s.queue := by
  simp only [State.lateKid, ite_outQueue, ite_queue, ite_self, State.bump_queue, State.setGroup_queue]

@[simp] theorem State.dupKid_queue (s : State) (cg : Nat) : (State.dupKid s cg).queue = s.queue := by
  simp only [State.dupKid, State.setGroup_queue]

@[simp] theorem State.mergeKid_queue (s : State) (cg k : Nat) (m : TreeMsg) : (s.mergeKid cg k m).queue = s.queue := by
  unfold State.mergeKid
  dsimp only
  split
  · exact State.dupKid_queue ..
  · split
    · exact State.lateKid_queue ..
    · next t h =>
      rw [← State.openRound_queue h]
      repeat' split
      all_goals simp only [State.dupKid_queue, State.setRound_queue]

@[simp] theorem State.partialRx_queue (s : State) (m : TreeMsg) : (s.partialRx m).queue = s.queue := by
  unfold State.partialRx
  split
  · exact State.discardTree_queue ..
  · next k h =>
    dsimp only
    have e : (s.sendTree m.src 0x12 m.round m.epoch 0 0 0 m.group m.standing false []).queue = s.queue := State.sendTree_queue ..
    generalize s.sendTree m.src 0x12 m.round m.epoch 0 0 0 m.group m.standing false [] = u at e ⊢
    split
    · exact e
    · split
      · exact e
      · split
        · simp only [State.checkStanding_queue, State.setGroup_queue, e]
        · rw [State.mergeKid_queue, e]

@[simp] theorem execPartialRx_queue (m : TreeMsg) (s : State) : outQueue (execPartialRx m s) = s.queue := by
  unfold execPartialRx
  (try dsimp only)
  repeat' split
  all_goals (try simp only [Prod.ext_iff] at *)
  all_goals (try casesm* _ ∧ _)
  all_goals (try subst_vars)
  all_goals (try simp only [outQueue_next, State.partialRx_queue, State.treeIn_queue])

@[simp] theorem State.partAckRx_queue (s : State) (m : TreeMsg) : (State.partAckRx s m).queue = s.queue := by
  simp only [State.partAckRx, implies_true, ite_outQueue, ite_queue, ite_self, foldl_queue, State.checkDrain_queue,
    State.discardTree_queue, State.setTree_queue]

@[simp] theorem execPartAckRx_queue (m : TreeMsg) (s : State) : outQueue (execPartAckRx m s) = s.queue := by
  simp only [execPartAckRx, outQueue_next, State.partAckRx_queue, State.treeIn_queue]

@[simp] theorem State.backRx_queue (s : State) (m : TreeMsg) : (State.backRx s m).queue = s.queue := by
  unfold State.backRx
  (try dsimp only)
  repeat' split
  all_goals (try simp only [Prod.ext_iff] at *)
  all_goals (try casesm* _ ∧ _)
  all_goals (try subst_vars)
  all_goals (try simp only [ite_outQueue, ite_queue, ite_self, State.discardTree_queue, State.putBcast_queue, State.tryBack_queue,
    State.wr_queue])

@[simp] theorem execBackRx_queue (m : TreeMsg) (s : State) : outQueue (execBackRx m s) = s.queue := by
  unfold execBackRx
  (try dsimp only)
  repeat' split
  all_goals (try simp only [Prod.ext_iff] at *)
  all_goals (try casesm* _ ∧ _)
  all_goals (try subst_vars)
  all_goals (try simp only [outQueue_next, State.backRx_queue, State.treeIn_queue])

@[simp] theorem execHeartbeatRx_queue (m : TreeMsg) (s : State) : outQueue (execHeartbeatRx m s) = s.queue := by
  simp only [execHeartbeatRx, outQueue_next, ite_outQueue, ite_queue, ite_self, State.discardTree_queue, State.treeIn_queue]

@[simp] theorem State.sendAdopt_queue (s : State) : (State.sendAdopt s).queue = s.queue := by
  simp only [State.sendAdopt, ite_outQueue, ite_queue, ite_self, State.sendTree_queue]

@[simp] theorem State.isolate_queue (s : State) : (State.isolate s).queue = s.queue := by
  simp only [State.isolate, State.recordV_queue, State.wr_queue]

@[simp] theorem State.resendTo_queue (s : State) (k : Nat) : (State.resendTo s k).queue = s.queue := by
  unfold State.resendTo
  (try dsimp only)
  repeat' split
  all_goals (try simp only [Prod.ext_iff] at *)
  all_goals (try casesm* _ ∧ _)
  all_goals (try subst_vars)
  all_goals (try simp only [implies_true, ite_outQueue, ite_queue, ite_self, foldl_queue, State.putBcast_queue, State.sendTree_queue,
    State.setTree_queue])

@[simp] theorem State.settleAdoptions_queue (s : State) : (State.settleAdoptions s).queue = s.queue := by
  simp only [State.settleAdoptions, implies_true, foldl_queue, State.checkAllStanding_queue, State.resendTo_queue,
    State.setTree_queue, State.tryBacks_queue]

@[simp] theorem State.adoptionDone_queue (s : State) (x : Nat) : (State.adoptionDone s x).queue = s.queue := by
  simp only [State.adoptionDone, State.setTree_queue, State.settleAdoptions_queue]

@[simp] theorem State.adoptInto_queue (s : State) (k : Nat) (m : TreeMsg) : (State.adoptInto s k m).queue = s.queue := by
  unfold State.adoptInto
  (try dsimp only)
  repeat' split
  all_goals (try simp only [Prod.ext_iff] at *)
  all_goals (try casesm* _ ∧ _)
  all_goals (try subst_vars)
  all_goals (try simp only [ite_outQueue, ite_queue, ite_self, State.bump_queue, State.sendTree_queue, State.setBytes_queue,
    State.setKidState_queue, State.setTree_queue, State.settleAdoptions_queue, State.wr_queue])

@[simp] theorem State.adoptRx_queue (s : State) (m : TreeMsg) : (State.adoptRx s m).queue = s.queue := by
  unfold State.adoptRx
  (try dsimp only)
  repeat' split
  all_goals (try simp only [Prod.ext_iff] at *)
  all_goals (try casesm* _ ∧ _)
  all_goals (try subst_vars)
  all_goals (try simp only [ite_outQueue, ite_queue, ite_self, State.adoptInto_queue, State.discardTree_queue, State.sendTree_queue,
    State.sendTreeTo_queue])

@[simp] theorem execAdoptRx_queue (m : TreeMsg) (s : State) : outQueue (execAdoptRx m s) = s.queue := by
  unfold execAdoptRx
  (try dsimp only)
  repeat' split
  all_goals (try simp only [Prod.ext_iff] at *)
  all_goals (try casesm* _ ∧ _)
  all_goals (try subst_vars)
  all_goals (try simp only [outQueue_next, State.adoptRx_queue, State.treeIn_queue])

@[simp] theorem execAdoptAckRx_queue (m : TreeMsg) (s : State) : outQueue (execAdoptAckRx m s) = s.queue := by
  simp only [execAdoptAckRx, outQueue_next, implies_true, ite_outQueue, ite_queue, ite_self, foldl_queue, State.discardTree_queue,
    State.sendTreeUp_queue, State.treeIn_queue, State.wr_queue]

@[simp] theorem execAdoptNakRx_queue (m : TreeMsg) (s : State) : outQueue (execAdoptNakRx m s) = s.queue := by
  simp only [execAdoptNakRx, outQueue_next, ite_outQueue, ite_queue, ite_self, State.discardTree_queue, State.isolate_queue,
    State.treeIn_queue]

@[simp] theorem execTreeHeartbeatPeriod_queue (s : State) : outQueue (execTreeHeartbeatPeriod s) = s.queue := by
  unfold execTreeHeartbeatPeriod
  dsimp only
  rw [outQueue_next]
  refine (foldl_queue _ (fun u b => foldl_queue _ (fun x t => (State.bump_queue ..).trans (State.sendTree_queue ..)) _ _) _ _).trans ?_
  refine (foldl_queue _ (fun u b => State.sendTreeUp_queue ..) _ _).trans ?_
  have h : ∀ u : State, (if u.rd .vager O.TREE_STATE_4300 = 2 then u.sendAdopt else u).queue = u.queue := by
    intro u
    simp only [ite_queue, State.sendAdopt_queue, ite_self]
  refine (h _).trans ((foldl_queue _ (fun u b => State.sendTree_queue ..) _ _).trans ?_)
  split
  · exact State.sendTree_queue ..
  · rfl

@[simp] theorem State.kidDead_queue (s : State) (k : Nat) : (State.kidDead s k).queue = s.queue := by
  simp only [State.kidDead, State.setKidState_queue, State.setTree_queue, State.settleAdoptions_queue]

@[simp] theorem execNeighbourDead_queue (tray : Nat) (s : State) : outQueue (execNeighbourDead tray s) = s.queue := by
  unfold execNeighbourDead
  (try dsimp only)
  repeat' split
  all_goals (try simp only [Prod.ext_iff] at *)
  all_goals (try casesm* _ ∧ _)
  all_goals (try subst_vars)
  all_goals (try simp only [outQueue_next, ite_outQueue, ite_queue, ite_self, State.isolate_queue, State.kidDead_queue, State.sendAdopt_queue,
    State.wr_queue])

@[simp] theorem execTreeAdoptWaitExpiry_queue (slot : Option (Fin 96)) (s : State) : outQueue (execTreeAdoptWaitExpiry slot s) = s.queue := by
  unfold execTreeAdoptWaitExpiry
  (try dsimp only)
  repeat' split
  all_goals (try simp only [Prod.ext_iff] at *)
  all_goals (try casesm* _ ∧ _)
  all_goals (try subst_vars)
  all_goals (try simp only [outQueue_next, ite_outQueue, ite_queue, ite_self, State.adoptionDone_queue, State.isolate_queue])

@[simp] theorem State.commitTree_queue (s : State) : (State.commitTree s).queue = s.queue := by
  simp only [State.commitTree, implies_true, ite_outQueue, ite_queue, ite_self, foldl_queue, State.checkAllStanding_queue,
    State.setTree_queue, State.tryBacks_queue, State.wr_queue]

@[simp] theorem execTreeCommit_queue (w : Writer) (s : State) : outQueue (execTreeCommit w s) = s.queue := by
  simp only [execTreeCommit, outQueue_next, State.writeBy_queue, State.answer_queue, State.commitTree_queue, State.writeBy_queue]

@[simp] theorem execContextCloseTime_queue (x : Fin 64) (s : State) : outQueue (execContextCloseTime x s) = s.queue := by
  simp only [execContextCloseTime, outQueue_next, ite_outQueue, ite_queue, ite_self, State.drainContext_queue]

@[simp] theorem execDrainLimitExpiry_queue (x : Fin 64) (s : State) : outQueue (execDrainLimitExpiry x s) = s.queue := by
  simp only [execDrainLimitExpiry, outQueue_next, ite_outQueue, ite_queue, ite_self, State.freeContext_queue]

@[simp] theorem execCtxFree_queue (w : Writer) (x : Fin 64) (s : State) : outQueue (execCtxFree w x s) = s.queue := by
  simp only [execCtxFree, outQueue_next, State.writeBy_queue, State.answer_queue, State.freeContext_queue, State.writeBy_queue]

@[simp] theorem execPlanBytesWrite_queue (w : Writer) (j : Fin 4) (bytes : Nat) (s : State) : outQueue (execPlanBytesWrite w j bytes s) = s.queue := by
  simp only [execPlanBytesWrite, outQueue_next, ite_outQueue, ite_queue, ite_self, State.writeBy_queue, State.answer_queue,
    State.wr_queue, State.writeBy_queue]

@[simp] theorem execPlanDigestDone_queue (s : State) : outQueue (execPlanDigestDone s) = s.queue := by
  unfold execPlanDigestDone
  (try dsimp only)
  repeat' split
  all_goals (try simp only [Prod.ext_iff] at *)
  all_goals (try casesm* _ ∧ _)
  all_goals (try subst_vars)
  all_goals (try simp only [outQueue_next, State.setBytes_queue, State.wr_queue])

/-! ### Reset -/

@[simp] theorem State.clearObjects_queue (s : State) (p : Part) (clear : Nat → Bool) : (State.clearObjects s p clear).queue = s.queue := by
  simp only [State.clearObjects, State.setObjs_queue, State.setOcts_queue]

@[simp] theorem State.recordGrant_queue (s : State) (p : Part) (kind act : Nat) : (State.recordGrant s p kind act).queue = s.queue := by
  simp only [State.recordGrant, State.record_queue]

@[simp] theorem State.withdrawGrant_queue (s : State) (d : Die) (sec : Bool) (act : Nat) : (State.withdrawGrant s d sec act).queue = s.queue := by
  simp only [State.withdrawGrant, ite_outQueue, ite_queue, ite_self, State.recordGrant_queue, State.retraceAll_queue,
    State.wr_queue]

@[simp] theorem State.dmaSoft_queue (s : State) (d : Die) : (State.dmaSoft s d).queue = s.queue := by
  simp only [State.dmaSoft, implies_true, ite_outQueue, ite_queue, ite_self, foldl_queue, State.dmaAborted_queue,
    State.setDmaCh_queue, State.wr_queue]

@[simp] theorem State.softReset_queue (s : State) (d : Die) : (State.softReset s d).queue = s.queue := by
  simp only [State.softReset, ite_outQueue, ite_queue, ite_self, State.emit_queue, State.abandonAll_queue,
    State.abortDieCut_queue, State.clearObjects_queue, State.discardEntries_queue, State.dmaSettle_queue, State.dmaSoft_queue,
    State.setCap_queue, State.setCk_queue, State.setTr_queue, State.withdrawGrant_queue]

@[simp] theorem execSoftReset_queue (d : Die) (w : Writer) (s : State) : outQueue (execSoftReset d w s) = s.queue := by
  simp only [execSoftReset, outQueue_next, State.writeBy_queue, State.answer_queue, State.softReset_queue, State.writeBy_queue]

@[simp] theorem execStarisResetRelease_queue (d : Die) (s : State) : outQueue (execStarisResetRelease d s) = s.queue := by
  simp only [execStarisResetRelease, outQueue_next, State.setDie_queue]

@[simp] theorem State.dropStarisEnds_queue (s : State) : (State.dropStarisEnds s).queue = s.queue := by
  simp only [State.dropStarisEnds, implies_true, ite_outQueue, ite_queue, ite_self, foldl_queue, State.failLink_queue,
    State.linkDown_queue]

@[simp] theorem State.powerOn_queue (s : State) (spares : List Nat) (foreign : Bool) : (State.powerOn s spares foreign).queue = s.queue := by
  unfold State.powerOn
  (try dsimp only)
  repeat' split
  all_goals (try simp only [Prod.ext_iff] at *)
  all_goals (try casesm* _ ∧ _)
  all_goals (try subst_vars)
  all_goals (try simp only [implies_true, ite_outQueue, ite_queue, ite_self, foldl_queue, State.setVager_queue, State.takeNat_queue,
    State.bump_queue, State.dropStarisEnds_queue, State.moveVager_queue, State.recordV_queue, State.setElem_queue, State.wr_queue])

@[simp] theorem State.setPcie_queue (s : State) (x : Nat) : (State.setPcie s x).queue = s.queue := by
  simp only [State.setPcie, ite_outQueue, ite_queue, ite_self, State.emit_queue, State.wr_queue]

@[simp] theorem State.warmReset_queue (s : State) (cause : Nat) : (State.warmReset s cause).queue = s.queue := by
  simp only [State.warmReset, ite_outQueue, ite_queue, ite_self, State.setVager_queue, State.takeNat_queue, State.bump_queue,
    State.closeSessions_queue, State.dropStarisEnds_queue, State.goVager_queue, State.recordGrant_queue, State.setPcie_queue,
    State.wr_queue]

@[simp] theorem execVagerPowerOn_queue (spares : List Nat) (foreign : Bool) (s : State) : outQueue (execVagerPowerOn spares foreign s) = s.queue := by
  unfold execVagerPowerOn
  (try dsimp only)
  repeat' split
  all_goals (try simp only [Prod.ext_iff] at *)
  all_goals (try casesm* _ ∧ _)
  all_goals (try subst_vars)
  all_goals (try simp only [outQueue_next, State.powerOn_queue])

@[simp] theorem execWarmReset_queue (w : Writer) (s : State) : outQueue (execWarmReset w s) = s.queue := by
  simp only [execWarmReset, outQueue_next, State.writeBy_queue, State.answer_queue, State.warmReset_queue, State.writeBy_queue]

@[simp] theorem execPerstAssert_queue (s : State) : outQueue (execPerstAssert s) = s.queue := by
  simp only [execPerstAssert, outQueue_next, State.warmReset_queue]

@[simp] theorem execPerstDeassert_queue (s : State) : outQueue (execPerstDeassert s) = s.queue := by
  simp only [execPerstDeassert, outQueue_next, State.moveVager_queue]

@[simp] theorem execPcieFlr_queue (s : State) : outQueue (execPcieFlr s) = s.queue := by
  simp only [execPcieFlr, outQueue_next, implies_true, ite_outQueue, ite_queue, ite_self, foldl_queue, State.dmaAborted_queue,
    State.dmaNext_queue, State.wr_queue]

@[simp] theorem execPciePowerStateChange_queue (state : Nat) (s : State) : outQueue (execPciePowerStateChange state s) = s.queue := by
  simp only [execPciePowerStateChange, outQueue_next, ite_outQueue, ite_queue, ite_self, State.setPcie_queue]

@[simp] theorem execPwrgoodFall_queue (s : State) : outQueue (execPwrgoodFall s) = s.queue := by
  simp only [execPwrgoodFall, outQueue_next, ite_outQueue, ite_queue, ite_self, State.setRcd_queue]

@[simp] theorem execPortOosClear_queue (w : Writer) (p : Die) (s : State) : outQueue (execPortOosClear w p s) = s.queue := by
  simp only [execPortOosClear, outQueue_next, ite_outQueue, ite_queue, ite_self, State.writeBy_queue, State.answer_queue,
    State.bump_queue, State.proxySubmit_queue, State.setBytes_queue, State.wr_queue, State.writeBy_queue]

/-! ### Crow -/

@[simp] theorem State.setCrow_queue (s : State) (x : Crow) : (State.setCrow s x).queue = s.queue := by
  simp only [State.setCrow, State.setVager_queue]

@[simp] theorem State.showImage_queue (s : State) (p : Part) (img : List Nat) : (State.showImage s p img).queue = s.queue := by
  simp only [State.showImage, ite_outQueue, ite_queue, ite_self, State.setBytes_queue, State.wr_queue]

@[simp] theorem State.loadStarisImage_queue (s : State) (d : Die) : (State.loadStarisImage s d).queue = s.queue := by
  simp only [State.loadStarisImage, ite_outQueue, ite_queue, ite_self, State.showImage_queue, State.softReset_queue,
    State.wr_queue]

@[simp] theorem execFwStageBytesWrite_queue (w : Writer) (value : Nat) (s : State) : outQueue (execFwStageBytesWrite w value s) = s.queue := by
  simp only [execFwStageBytesWrite, outQueue_next, State.writeBy_queue, State.answer_queue, State.wr_queue, State.writeBy_queue]

@[simp] theorem State.acceptImage_queue (s : State) (img : List Nat) : (State.acceptImage s img).queue = s.queue := by
  simp only [State.acceptImage, ite_outQueue, ite_queue, ite_self, State.setVager_queue, State.recordV_queue, State.setElem_queue,
    State.setOb_queue, State.wr_queue]

@[simp] theorem execFwStageCheckDone_queue (signed written : Bool) (s : State) : outQueue (execFwStageCheckDone signed written s) = s.queue := by
  simp only [execFwStageCheckDone, outQueue_next, ite_outQueue, ite_queue, ite_self, State.acceptImage_queue, State.wr_queue]

@[simp] theorem execMaintStopWrite_queue (w : Writer) (value : Bool) (s : State) : outQueue (execMaintStopWrite w value s) = s.queue := by
  simp only [execMaintStopWrite, outQueue_next, ite_outQueue, ite_queue, ite_self, State.writeBy_queue, State.answer_queue,
    State.wr_queue, State.writeBy_queue]

@[simp] theorem State.activateSlot_queue (s : State) (kind slot : Nat) : (State.activateSlot s kind slot).queue = s.queue := by
  simp only [State.activateSlot, State.setVager_queue, State.recordV_queue, State.setOb_queue]

@[simp] theorem execFwActivateCrowsNest_queue (w : Writer) (s : State) : outQueue (execFwActivateCrowsNest w s) = s.queue := by
  simp only [execFwActivateCrowsNest, outQueue_next]
  refine State.writeBy_queue _ _ _ _ _ ?_
  (try dsimp only)
  repeat' split
  all_goals (try simp only [Prod.ext_iff] at *)
  all_goals (try casesm* _ ∧ _)
  all_goals (try subst_vars)
  all_goals (try simp only [outQueue_next, State.writeBy_queue, State.answer_queue, State.activateSlot_queue, State.setOb_queue,
    State.warmReset_queue, State.writeBy_queue])

@[simp] theorem execFwActivateStaris_queue (w : Writer) (s : State) : outQueue (execFwActivateStaris w s) = s.queue := by
  simp only [execFwActivateStaris, outQueue_next]
  refine State.writeBy_queue _ _ _ _ _ ?_
  (try dsimp only)
  repeat' split
  all_goals (try simp only [Prod.ext_iff] at *)
  all_goals (try casesm* _ ∧ _)
  all_goals (try subst_vars)
  all_goals (try simp only [outQueue_next, implies_true, ite_outQueue, ite_queue, ite_self, foldl_queue, State.writeBy_queue, State.answer_queue,
    State.activateSlot_queue, State.showImage_queue, State.softReset_queue, State.writeBy_queue])

@[simp] theorem execFwConfirm_queue (w : Writer) (s : State) : outQueue (execFwConfirm w s) = s.queue := by
  simp only [execFwConfirm, outQueue_next, ite_outQueue, ite_queue, ite_self, State.writeBy_queue, State.answer_queue,
    State.setOb_queue, State.wr_queue, State.writeBy_queue]

@[simp] theorem execFwTrialExpiry_queue (s : State) : outQueue (execFwTrialExpiry s) = s.queue := by
  simp only [execFwTrialExpiry, outQueue_next, ite_outQueue, ite_queue, ite_self, State.setCrow_queue]

@[simp] theorem execCnKick_queue (w : Writer) (s : State) : outQueue (execCnKick w s) = s.queue := by
  simp only [execCnKick, outQueue_next, State.writeBy_queue, State.answer_queue, State.setCrow_queue, State.writeBy_queue]

@[simp] theorem State.failGroups_queue (s : State) : (State.failGroups s).queue = s.queue := by
  simp only [State.failGroups, implies_true, foldl_queue, State.takeNat_queue, State.groupLeaves_queue]

@[simp] theorem State.timeoutProxies_queue (s : State) : (State.timeoutProxies s).queue = s.queue := by
  simp only [State.timeoutProxies, implies_true, foldl_queue, State.proxyFailed_queue, State.setProxy_queue]

@[simp] theorem State.cnRestart_queue (s : State) (cause : Nat) : (State.cnRestart s cause).queue = s.queue := by
  simp only [State.cnRestart, ite_outQueue, ite_queue, ite_self, State.bump_queue, State.closeSessions_queue,
    State.failGroups_queue, State.recordV_queue, State.setCrow_queue, State.timeoutProxies_queue, State.wr_queue]

@[simp] theorem execCnWatchdogExpiry_queue (s : State) : outQueue (execCnWatchdogExpiry s) = s.queue := by
  simp only [execCnWatchdogExpiry, outQueue_next, ite_outQueue, ite_queue, ite_self, State.cnRestart_queue]

@[simp] theorem execCnCoreFault_queue (s : State) : outQueue (execCnCoreFault s) = s.queue := by
  simp only [execCnCoreFault, outQueue_next, State.cnRestart_queue]

@[simp] theorem execCnRestartDelayEnd_queue (s : State) : outQueue (execCnRestartDelayEnd s) = s.queue := by
  simp only [execCnRestartDelayEnd, outQueue_next, ite_outQueue, ite_queue, ite_self, State.warmReset_queue, State.wr_queue]

@[simp] theorem State.newSigningKey_queue (s : State) : (State.newSigningKey s).queue = s.queue := by
  simp only [State.newSigningKey, State.setVager_queue, State.takeNat_queue, State.setBytes_queue, State.wr_queue]

@[simp] theorem State.bootReady_queue (s : State) : (State.bootReady s).queue = s.queue := by
  simp only [State.bootReady, implies_true, ite_outQueue, ite_queue, ite_self, foldl_queue, State.moveVager_queue,
    State.setClState_queue, State.setElem_queue, State.wr_queue]

@[simp] theorem State.bootFallback_queue (s : State) : (State.bootFallback s).queue = s.queue := by
  simp only [State.bootFallback, ite_outQueue, ite_queue, ite_self, State.recordV_queue, State.setCrow_queue, State.setOb_queue]

@[simp] theorem execCnBootVerifyDone_queue (slot0 slot1 : Bool) (s : State) : outQueue (execCnBootVerifyDone slot0 slot1 s) = s.queue := by
  unfold execCnBootVerifyDone
  (try dsimp only)
  repeat' split
  all_goals (try simp only [Prod.ext_iff] at *)
  all_goals (try casesm* _ ∧ _)
  all_goals (try subst_vars)
  all_goals (try simp only [outQueue_next, ite_outQueue, ite_queue, ite_self, State.bootFallback_queue, State.bootReady_queue,
    State.newSigningKey_queue, State.setCrow_queue, State.setElem_queue, State.setOb_queue, State.showImage_queue, State.wr_queue])

/-! ### Worlds -/

@[simp] theorem State.setGrantEnd_queue (s : State) (d : Die) (sec : Bool) (t : Nat) : (State.setGrantEnd s d sec t).queue = s.queue := by
  simp only [State.setGrantEnd, ite_outQueue, ite_queue, ite_self, State.setDie_queue]

@[simp] theorem State.writeGrant_queue (s : State) (d : Die) (sec value : Bool) : (State.writeGrant s d sec value).queue = s.queue := by
  simp only [State.writeGrant, ite_outQueue, ite_queue, ite_self, State.answer_queue, State.bump_queue, State.recordGrant_queue,
    State.retraceAll_queue, State.setGrantEnd_queue, State.withdrawGrant_queue, State.wr_queue]

@[simp] theorem execAuthNsPrivWrite_queue (d : Die) (w : Writer) (value : Bool) (s : State) : outQueue (execAuthNsPrivWrite d w value s) = s.queue := by
  simp only [execAuthNsPrivWrite, outQueue_next, State.writeBy_queue, State.writeBy_queue, State.writeGrant_queue]

@[simp] theorem execAuthSecureWrite_queue (d : Die) (w : Writer) (value : Bool) (s : State) : outQueue (execAuthSecureWrite d w value s) = s.queue := by
  simp only [execAuthSecureWrite, outQueue_next, State.writeBy_queue, State.writeBy_queue, State.writeGrant_queue]

@[simp] theorem execAuthExpiry_queue (d : Die) (sec : Bool) (s : State) : outQueue (execAuthExpiry d sec s) = s.queue := by
  simp only [execAuthExpiry, outQueue_next, ite_outQueue, ite_queue, ite_self, State.withdrawGrant_queue]

@[simp] theorem State.closeDebug_queue (s : State) (act : Nat) : (State.closeDebug s act).queue = s.queue := by
  simp only [State.closeDebug, ite_outQueue, ite_queue, ite_self, State.setVager_queue, State.recordGrant_queue, State.wr_queue]

@[simp] theorem execDbgGrantWrite_queue (w : Writer) (value : Bool) (s : State) : outQueue (execDbgGrantWrite w value s) = s.queue := by
  simp only [execDbgGrantWrite, outQueue_next, ite_outQueue, ite_queue, ite_self, State.writeBy_queue, State.setVager_queue,
    State.answer_queue, State.bump_queue, State.closeDebug_queue, State.recordGrant_queue, State.wr_queue, State.writeBy_queue]

@[simp] theorem execDbgExpiry_queue (s : State) : outQueue (execDbgExpiry s) = s.queue := by
  simp only [execDbgExpiry, outQueue_next, ite_outQueue, ite_queue, ite_self, State.closeDebug_queue]

@[simp] theorem execLkOfferWrite_queue (d : Die) (w : Option Writer) (offer : List Nat) (s : State) : outQueue (execLkOfferWrite d w offer s) = s.queue := by
  unfold execLkOfferWrite
  (try dsimp only)
  repeat' split
  all_goals (try simp only [Prod.ext_iff] at *)
  all_goals (try casesm* _ ∧ _)
  all_goals (try subst_vars)
  all_goals (try simp only [outQueue_next, State.writeBy_queue, State.answer_queue, State.takeNat_queue, State.offer_queue, State.setLink_queue,
    State.wr_queue, State.writeBy_queue, State.writeOctets_queue])

@[simp] theorem State.linkKeyFailed_queue (s : State) (p : Die) : (State.linkKeyFailed s p).queue = s.queue := by
  simp only [State.linkKeyFailed, State.takeNat_queue, State.recordV_queue, State.setLink_queue, State.wr_queue]

@[simp] theorem State.takeLinkKey_queue (s : State) (p : Die) (k : Nat) : (State.takeLinkKey s p k).queue = s.queue := by
  simp only [State.takeLinkKey, ite_outQueue, ite_queue, ite_self, State.bump_queue, State.goUp_queue,
    State.loadStarisImage_queue, State.setLink_queue, State.wr_queue]

@[simp] theorem execLinkKeyEstablished_queue (p : Die) (failed : Option Nat) (s : State) : outQueue (execLinkKeyEstablished p failed s) = s.queue := by
  unfold execLinkKeyEstablished
  (try dsimp only)
  repeat' split
  all_goals (try simp only [Prod.ext_iff] at *)
  all_goals (try casesm* _ ∧ _)
  all_goals (try subst_vars)
  all_goals (try simp only [outQueue_next, ite_outQueue, ite_queue, ite_self, State.linkKeyFailed_queue, State.takeLinkKey_queue])

@[simp] theorem execLinkKeyRetry_queue (p : Die) (s : State) : outQueue (execLinkKeyRetry p s) = s.queue := by
  simp only [execLinkKeyRetry, outQueue_next, ite_outQueue, ite_queue, ite_self, State.setLink_queue]

@[simp] theorem State.openSession_queue (s : State) (h : Handshake) : (State.openSession s h).queue = s.queue := by
  simp only [State.openSession, implies_true, ite_outQueue, ite_queue, ite_self, foldl_queue, State.setVager_queue,
    State.bump_queue, State.unchecked_queue]

@[simp] theorem State.openAssociation_queue (s : State) (t : Nat) (h : Handshake) : (State.openAssociation s t h).queue = s.queue := by
  unfold State.openAssociation
  (try dsimp only)
  repeat' split
  all_goals (try simp only [Prod.ext_iff] at *)
  all_goals (try casesm* _ ∧ _)
  all_goals (try subst_vars)
  all_goals (try simp only [ite_outQueue, ite_queue, ite_self, State.setVager_queue, State.bump_queue, State.recordV_queue])

@[simp] theorem execDtlsHandshake_queue (h : Handshake) (s : State) : outQueue (execDtlsHandshake h s) = s.queue := by
  unfold execDtlsHandshake
  (try dsimp only)
  repeat' split
  all_goals (try simp only [Prod.ext_iff] at *)
  all_goals (try casesm* _ ∧ _)
  all_goals (try subst_vars)
  all_goals (try simp only [outQueue_next, State.openAssociation_queue, State.openSession_queue])

@[simp] theorem execSessionIdleExpiry_queue (session : Nat) (s : State) : outQueue (execSessionIdleExpiry session s) = s.queue := by
  simp only [execSessionIdleExpiry, outQueue_next, State.closeSessions_queue]

@[simp] theorem execTaBytesWrite_queue (w : Writer) (a : Fin 8) (value : Nat) (valid : Bool) (s : State) : outQueue (execTaBytesWrite w a value valid s) = s.queue := by
  simp only [execTaBytesWrite, outQueue_next, ite_outQueue, ite_queue, ite_self, State.writeBy_queue, State.answer_queue,
    State.wr_queue, State.writeBy_queue]

@[simp] theorem execOpCertBytesWrite_queue (w : Writer) (value : Nat) (matching expired : Bool) (s : State) : outQueue (execOpCertBytesWrite w value matching expired s) = s.queue := by
  simp only [execOpCertBytesWrite, outQueue_next, ite_outQueue, ite_queue, ite_self, State.writeBy_queue, State.answer_queue,
    State.wr_queue, State.writeBy_queue]

@[simp] theorem State.spdmAnswer_queue (s : State) (request : List Nat) : (State.spdmAnswer s request).2.queue = s.queue := by
  unfold State.spdmAnswer
  (try dsimp only)
  repeat' split
  all_goals (try simp only [Prod.ext_iff] at *)
  all_goals (try casesm* _ ∧ _)
  all_goals (try subst_vars)
  all_goals (try simp only [ite_outQueue, ite_queue, ite_self, State.takeNat_queue, State.bump_queue])

@[simp] theorem execSpdmRequest_queue (request : List Nat) (s : State) : outQueue (execSpdmRequest request s) = s.queue := by
  simp only [execSpdmRequest, outQueue_next, ite_outQueue, ite_queue, ite_self, State.emit_queue, State.spdmAnswer_queue]

end Sys2Proof.Machine
end

