-- ==== Sys2Proof/Laws/QueueSheet.lean ====
section
/-! SUPPORT. Laws/QueueSheet.lean: the queue after each operation of the dictionary, the staged groups and Sheet is the queue before it. -/

namespace Sys2Proof.Machine
open Sys2Proof

/-! ### DictRead -/

@[simp] theorem State.moveCursor_queue (s : State) (p : Part) : (State.moveCursor s p).queue = s.queue := by
  unfold State.moveCursor
  (try dsimp only)
  repeat' split
  all_goals (try simp only [Prod.ext_iff] at *)
  all_goals (try casesm* _ ∧ _)
  all_goals (try subst_vars)
  all_goals (try simp only [ite_outQueue, ite_queue, ite_self, State.bump_queue, State.wr_queue])

@[simp] theorem State.needCsr_queue (s : State) : (State.needCsr s).queue = s.queue := by
  simp only [State.needCsr, ite_outQueue, ite_queue, ite_self, State.takeNat_queue, State.wr_queue, State.writeOctets_queue]

@[simp] theorem State.wakeForRead_queue (s : State) (d : Die) (index sub : Nat) : (State.wakeForRead s d index sub).queue = s.queue := by
  simp only [State.wakeForRead, ite_outQueue, ite_queue, ite_self, State.wakeDie_queue]

@[simp] theorem State.beforeRead_queue (s : State) (p : Part) (index sub : Nat) : (State.beforeRead s p index sub).queue = s.queue := by
  unfold State.beforeRead
  (try dsimp only)
  repeat' split
  all_goals (try simp only [Prod.ext_iff] at *)
  all_goals (try casesm* _ ∧ _)
  all_goals (try subst_vars)
  all_goals (try simp only [ite_outQueue, ite_queue, ite_self, State.moveCursor_queue, State.needCsr_queue, State.wakeForRead_queue])

@[simp] theorem State.readObject_queue (s : State) (p : Part) (w : Writer) (seg : Option (Nat × Nat)) (index sub : Nat) : (State.readObject s p w seg index sub).2.queue = s.queue := by
  unfold State.readObject
  (try dsimp only)
  repeat' split
  all_goals (try simp only [Prod.ext_iff] at *)
  all_goals (try casesm* _ ∧ _)
  all_goals (try subst_vars)
  all_goals (try simp only [ite_outQueue, ite_queue, ite_self, State.takeNat_queue, State.beforeRead_queue])

/-! ### DictWrite -/

theorem State.through_queue (s : State) (r : State → Result) (h : KeepsQueue r) : (s.through r).2.queue = s.queue := by
  have e := h { s with out := [] }
  unfold State.through
  generalize r { s with out := [] } = o at e
  cases o with
  | next t => exact e
  | fault _ => rfl
  | refused _ => rfl

theorem whenOne_queue {v : Nat} {r f : State → Result} (h : whenOne v r = some f) (k : KeepsQueue r) : KeepsQueue f := by
  cases h
  refine keepsQueue_ite _ (fun t => ?_) k
  simp only [outQueue_next, State.answer_queue]

theorem State.writeCapture_queue {s : State} {d : Die} {w : Writer} {index sub v : Nat} {data : List Nat} {f : State → Result}
    (h : State.writeCapture s d w index sub v data = some f) : KeepsQueue f := by
  unfold State.writeCapture at h
  (try dsimp only at h)
  repeat' split at h
  all_goals first
    | (cases h; done)
    | exact whenOne_queue h (fun t => by
        simp only [outQueue_next, State.answer_queue, State.clearBits_queue, execCanaryCodeWrite_queue, execCmpArm_queue,
        execCmpDisarm_queue, execCntClear_queue, execCntConfigWrite_queue, execEvtFlagsClear_queue, execIncrementWrite_queue,
        execModeWrite_queue, execPolarityWrite_queue, execSnapRelease_queue, execStepWrite_queue, execStreamEnableWrite_queue,
        execStreamScheduleWrite_queue, execStreamSourceWrite_queue, execStreamStartArm_queue])
    | (cases h
       repeat' (first | apply keepsQueue_ite | split)
       all_goals intro t
       all_goals
        simp only [outQueue_next, State.answer_queue, State.clearBits_queue, execCanaryCodeWrite_queue, execCmpArm_queue,
        execCmpDisarm_queue, execCntClear_queue, execCntConfigWrite_queue, execEvtFlagsClear_queue, execIncrementWrite_queue,
        execModeWrite_queue, execPolarityWrite_queue, execSnapRelease_queue, execStepWrite_queue, execStreamEnableWrite_queue,
        execStreamScheduleWrite_queue, execStreamSourceWrite_queue, execStreamStartArm_queue])

@[simp] theorem State.clearLost_queue (s : State) (d : Die) (data : List Nat) : (State.clearLost s d data).queue = s.queue := by
  simp only [State.clearLost, implies_true, foldl_queue, State.setElem_queue]

theorem State.writeStaris_queue {_s : State} {d : Die} {w : Writer} {index sub v : Nat} {data : List Nat} {f : State → Result}
    (h : State.writeStaris _s d w index sub v data = some f) : KeepsQueue f := by
  unfold State.writeStaris at h
  (try dsimp only at h)
  refine ite_some_queue h ?_ ?_ <;> clear h <;> intro h
  · first
      | (cases h; done)
      | exact whenOne_queue h (fun t => by
          simp only [outQueue_next, State.energyOp_queue, State.answer_queue, State.clearLost_queue, execAuthNsPrivWrite_queue,
          execAuthSecureWrite_queue, execCleatProgramWrite_queue, execCleatStart_queue, execCleatStop_queue,
          execDomHangCommand_queue, execDomResetCommand_queue, execDomSampleCommand_queue, execDumpArm_queue,
          execKeyClear_queue, execKeyEpochWrite_queue, execKeyValueWrite_queue, execLkOfferWrite_queue,
          execPennantModeWrite_queue, execReturnToService_queue, execSinkReset_queue, execSinkSelectWrite_queue,
          execSoftReset_queue, execTotalsClear_queue, execTraceConfigStart_queue, execTraceConfigStop_queue, execTrigArm_queue,
          execTrigForce_queue, execWakeWrite_queue])
      | (cases h
         repeat' (first | apply keepsQueue_ite | split)
         all_goals intro t
         all_goals
          simp only [outQueue_next, State.energyOp_queue, State.answer_queue, State.clearLost_queue, execAuthNsPrivWrite_queue,
          execAuthSecureWrite_queue, execCleatProgramWrite_queue, execCleatStart_queue, execCleatStop_queue,
          execDomHangCommand_queue, execDomResetCommand_queue, execDomSampleCommand_queue, execDumpArm_queue,
          execKeyClear_queue, execKeyEpochWrite_queue, execKeyValueWrite_queue, execLkOfferWrite_queue,
          execPennantModeWrite_queue, execReturnToService_queue, execSinkReset_queue, execSinkSelectWrite_queue,
          execSoftReset_queue, execTotalsClear_queue, execTraceConfigStart_queue, execTraceConfigStop_queue, execTrigArm_queue,
          execTrigForce_queue, execWakeWrite_queue])
  refine ite_some_queue h ?_ ?_ <;> clear h <;> intro h
  · first
      | (cases h; done)
      | exact whenOne_queue h (fun t => by
          simp only [outQueue_next, State.energyOp_queue, State.answer_queue, State.clearLost_queue, execAuthNsPrivWrite_queue,
          execAuthSecureWrite_queue, execCleatProgramWrite_queue, execCleatStart_queue, execCleatStop_queue,
          execDomHangCommand_queue, execDomResetCommand_queue, execDomSampleCommand_queue, execDumpArm_queue,
          execKeyClear_queue, execKeyEpochWrite_queue, execKeyValueWrite_queue, execLkOfferWrite_queue,
          execPennantModeWrite_queue, execReturnToService_queue, execSinkReset_queue, execSinkSelectWrite_queue,
          execSoftReset_queue, execTotalsClear_queue, execTraceConfigStart_queue, execTraceConfigStop_queue, execTrigArm_queue,
          execTrigForce_queue, execWakeWrite_queue])
      | (cases h
         repeat' (first | apply keepsQueue_ite | split)
         all_goals intro t
         all_goals
          simp only [outQueue_next, State.energyOp_queue, State.answer_queue, State.clearLost_queue, execAuthNsPrivWrite_queue,
          execAuthSecureWrite_queue, execCleatProgramWrite_queue, execCleatStart_queue, execCleatStop_queue,
          execDomHangCommand_queue, execDomResetCommand_queue, execDomSampleCommand_queue, execDumpArm_queue,
          execKeyClear_queue, execKeyEpochWrite_queue, execKeyValueWrite_queue, execLkOfferWrite_queue,
          execPennantModeWrite_queue, execReturnToService_queue, execSinkReset_queue, execSinkSelectWrite_queue,
          execSoftReset_queue, execTotalsClear_queue, execTraceConfigStart_queue, execTraceConfigStop_queue, execTrigArm_queue,
          execTrigForce_queue, execWakeWrite_queue])
  refine ite_some_queue h ?_ ?_ <;> clear h <;> intro h
  · first
      | (cases h; done)
      | exact whenOne_queue h (fun t => by
          simp only [outQueue_next, State.energyOp_queue, State.answer_queue, State.clearLost_queue, execAuthNsPrivWrite_queue,
          execAuthSecureWrite_queue, execCleatProgramWrite_queue, execCleatStart_queue, execCleatStop_queue,
          execDomHangCommand_queue, execDomResetCommand_queue, execDomSampleCommand_queue, execDumpArm_queue,
          execKeyClear_queue, execKeyEpochWrite_queue, execKeyValueWrite_queue, execLkOfferWrite_queue,
          execPennantModeWrite_queue, execReturnToService_queue, execSinkReset_queue, execSinkSelectWrite_queue,
          execSoftReset_queue, execTotalsClear_queue, execTraceConfigStart_queue, execTraceConfigStop_queue, execTrigArm_queue,
          execTrigForce_queue, execWakeWrite_queue])
      | (cases h
         repeat' (first | apply keepsQueue_ite | split)
         all_goals intro t
         all_goals
          simp only [outQueue_next, State.energyOp_queue, State.answer_queue, State.clearLost_queue, execAuthNsPrivWrite_queue,
          execAuthSecureWrite_queue, execCleatProgramWrite_queue, execCleatStart_queue, execCleatStop_queue,
          execDomHangCommand_queue, execDomResetCommand_queue, execDomSampleCommand_queue, execDumpArm_queue,
          execKeyClear_queue, execKeyEpochWrite_queue, execKeyValueWrite_queue, execLkOfferWrite_queue,
          execPennantModeWrite_queue, execReturnToService_queue, execSinkReset_queue, execSinkSelectWrite_queue,
          execSoftReset_queue, execTotalsClear_queue, execTraceConfigStart_queue, execTraceConfigStop_queue, execTrigArm_queue,
          execTrigForce_queue, execWakeWrite_queue])
  refine ite_some_queue h ?_ ?_ <;> clear h <;> intro h
  · first
      | (cases h; done)
      | exact whenOne_queue h (fun t => by
          simp only [outQueue_next, State.energyOp_queue, State.answer_queue, State.clearLost_queue, execAuthNsPrivWrite_queue,
          execAuthSecureWrite_queue, execCleatProgramWrite_queue, execCleatStart_queue, execCleatStop_queue,
          execDomHangCommand_queue, execDomResetCommand_queue, execDomSampleCommand_queue, execDumpArm_queue,
          execKeyClear_queue, execKeyEpochWrite_queue, execKeyValueWrite_queue, execLkOfferWrite_queue,
          execPennantModeWrite_queue, execReturnToService_queue, execSinkReset_queue, execSinkSelectWrite_queue,
          execSoftReset_queue, execTotalsClear_queue, execTraceConfigStart_queue, execTraceConfigStop_queue, execTrigArm_queue,
          execTrigForce_queue, execWakeWrite_queue])
      | (cases h
         repeat' (first | apply keepsQueue_ite | split)
         all_goals intro t
         all_goals
          simp only [outQueue_next, State.energyOp_queue, State.answer_queue, State.clearLost_queue, execAuthNsPrivWrite_queue,
          execAuthSecureWrite_queue, execCleatProgramWrite_queue, execCleatStart_queue, execCleatStop_queue,
          execDomHangCommand_queue, execDomResetCommand_queue, execDomSampleCommand_queue, execDumpArm_queue,
          execKeyClear_queue, execKeyEpochWrite_queue, execKeyValueWrite_queue, execLkOfferWrite_queue,
          execPennantModeWrite_queue, execReturnToService_queue, execSinkReset_queue, execSinkSelectWrite_queue,
          execSoftReset_queue, execTotalsClear_queue, execTraceConfigStart_queue, execTraceConfigStop_queue, execTrigArm_queue,
          execTrigForce_queue, execWakeWrite_queue])
  refine ite_some_queue h ?_ ?_ <;> clear h <;> intro h
  · first
      | (cases h; done)
      | exact whenOne_queue h (fun t => by
          simp only [outQueue_next, State.energyOp_queue, State.answer_queue, State.clearLost_queue, execAuthNsPrivWrite_queue,
          execAuthSecureWrite_queue, execCleatProgramWrite_queue, execCleatStart_queue, execCleatStop_queue,
          execDomHangCommand_queue, execDomResetCommand_queue, execDomSampleCommand_queue, execDumpArm_queue,
          execKeyClear_queue, execKeyEpochWrite_queue, execKeyValueWrite_queue, execLkOfferWrite_queue,
          execPennantModeWrite_queue, execReturnToService_queue, execSinkReset_queue, execSinkSelectWrite_queue,
          execSoftReset_queue, execTotalsClear_queue, execTraceConfigStart_queue, execTraceConfigStop_queue, execTrigArm_queue,
          execTrigForce_queue, execWakeWrite_queue])
      | (cases h
         repeat' (first | apply keepsQueue_ite | split)
         all_goals intro t
         all_goals
          simp only [outQueue_next, State.energyOp_queue, State.answer_queue, State.clearLost_queue, execAuthNsPrivWrite_queue,
          execAuthSecureWrite_queue, execCleatProgramWrite_queue, execCleatStart_queue, execCleatStop_queue,
          execDomHangCommand_queue, execDomResetCommand_queue, execDomSampleCommand_queue, execDumpArm_queue,
          execKeyClear_queue, execKeyEpochWrite_queue, execKeyValueWrite_queue, execLkOfferWrite_queue,
          execPennantModeWrite_queue, execReturnToService_queue, execSinkReset_queue, execSinkSelectWrite_queue,
          execSoftReset_queue, execTotalsClear_queue, execTraceConfigStart_queue, execTraceConfigStop_queue, execTrigArm_queue,
          execTrigForce_queue, execWakeWrite_queue])
  refine ite_some_queue h ?_ ?_ <;> clear h <;> intro h
  · first
      | (cases h; done)
      | exact whenOne_queue h (fun t => by
          simp only [outQueue_next, State.energyOp_queue, State.answer_queue, State.clearLost_queue, execAuthNsPrivWrite_queue,
          execAuthSecureWrite_queue, execCleatProgramWrite_queue, execCleatStart_queue, execCleatStop_queue,
          execDomHangCommand_queue, execDomResetCommand_queue, execDomSampleCommand_queue, execDumpArm_queue,
          execKeyClear_queue, execKeyEpochWrite_queue, execKeyValueWrite_queue, execLkOfferWrite_queue,
          execPennantModeWrite_queue, execReturnToService_queue, execSinkReset_queue, execSinkSelectWrite_queue,
          execSoftReset_queue, execTotalsClear_queue, execTraceConfigStart_queue, execTraceConfigStop_queue, execTrigArm_queue,
          execTrigForce_queue, execWakeWrite_queue])
      | (cases h
         repeat' (first | apply keepsQueue_ite | split)
         all_goals intro t
         all_goals
          simp only [outQueue_next, State.energyOp_queue, State.answer_queue, State.clearLost_queue, execAuthNsPrivWrite_queue,
          execAuthSecureWrite_queue, execCleatProgramWrite_queue, execCleatStart_queue, execCleatStop_queue,
          execDomHangCommand_queue, execDomResetCommand_queue, execDomSampleCommand_queue, execDumpArm_queue,
          execKeyClear_queue, execKeyEpochWrite_queue, execKeyValueWrite_queue, execLkOfferWrite_queue,
          execPennantModeWrite_queue, execReturnToService_queue, execSinkReset_queue, execSinkSelectWrite_queue,
          execSoftReset_queue, execTotalsClear_queue, execTraceConfigStart_queue, execTraceConfigStop_queue, execTrigArm_queue,
          execTrigForce_queue, execWakeWrite_queue])
  refine ite_some_queue h ?_ ?_ <;> clear h <;> intro h
  · first
      | (cases h; done)
      | exact whenOne_queue h (fun t => by
          simp only [outQueue_next, State.energyOp_queue, State.answer_queue, State.clearLost_queue, execAuthNsPrivWrite_queue,
          execAuthSecureWrite_queue, execCleatProgramWrite_queue, execCleatStart_queue, execCleatStop_queue,
          execDomHangCommand_queue, execDomResetCommand_queue, execDomSampleCommand_queue, execDumpArm_queue,
          execKeyClear_queue, execKeyEpochWrite_queue, execKeyValueWrite_queue, execLkOfferWrite_queue,
          execPennantModeWrite_queue, execReturnToService_queue, execSinkReset_queue, execSinkSelectWrite_queue,
          execSoftReset_queue, execTotalsClear_queue, execTraceConfigStart_queue, execTraceConfigStop_queue, execTrigArm_queue,
          execTrigForce_queue, execWakeWrite_queue])
      | (cases h
         repeat' (first | apply keepsQueue_ite | split)
         all_goals intro t
         all_goals
          simp only [outQueue_next, State.energyOp_queue, State.answer_queue, State.clearLost_queue, execAuthNsPrivWrite_queue,
          execAuthSecureWrite_queue, execCleatProgramWrite_queue, execCleatStart_queue, execCleatStop_queue,
          execDomHangCommand_queue, execDomResetCommand_queue, execDomSampleCommand_queue, execDumpArm_queue,
          execKeyClear_queue, execKeyEpochWrite_queue, execKeyValueWrite_queue, execLkOfferWrite_queue,
          execPennantModeWrite_queue, execReturnToService_queue, execSinkReset_queue, execSinkSelectWrite_queue,
          execSoftReset_queue, execTotalsClear_queue, execTraceConfigStart_queue, execTraceConfigStop_queue, execTrigArm_queue,
          execTrigForce_queue, execWakeWrite_queue])
  refine ite_some_queue h ?_ ?_ <;> clear h <;> intro h
  · first
      | (cases h; done)
      | exact whenOne_queue h (fun t => by
          simp only [outQueue_next, State.energyOp_queue, State.answer_queue, State.clearLost_queue, execAuthNsPrivWrite_queue,
          execAuthSecureWrite_queue, execCleatProgramWrite_queue, execCleatStart_queue, execCleatStop_queue,
          execDomHangCommand_queue, execDomResetCommand_queue, execDomSampleCommand_queue, execDumpArm_queue,
          execKeyClear_queue, execKeyEpochWrite_queue, execKeyValueWrite_queue, execLkOfferWrite_queue,
          execPennantModeWrite_queue, execReturnToService_queue, execSinkReset_queue, execSinkSelectWrite_queue,
          execSoftReset_queue, execTotalsClear_queue, execTraceConfigStart_queue, execTraceConfigStop_queue, execTrigArm_queue,
          execTrigForce_queue, execWakeWrite_queue])
      | (cases h
         repeat' (first | apply keepsQueue_ite | split)
         all_goals intro t
         all_goals
          simp only [outQueue_next, State.energyOp_queue, State.answer_queue, State.clearLost_queue, execAuthNsPrivWrite_queue,
          execAuthSecureWrite_queue, execCleatProgramWrite_queue, execCleatStart_queue, execCleatStop_queue,
          execDomHangCommand_queue, execDomResetCommand_queue, execDomSampleCommand_queue, execDumpArm_queue,
          execKeyClear_queue, execKeyEpochWrite_queue, execKeyValueWrite_queue, execLkOfferWrite_queue,
          execPennantModeWrite_queue, execReturnToService_queue, execSinkReset_queue, execSinkSelectWrite_queue,
          execSoftReset_queue, execTotalsClear_queue, execTraceConfigStart_queue, execTraceConfigStop_queue, execTrigArm_queue,
          execTrigForce_queue, execWakeWrite_queue])
  refine ite_some_queue h ?_ ?_ <;> clear h <;> intro h
  · first
      | (cases h; done)
      | exact whenOne_queue h (fun t => by
          simp only [outQueue_next, State.energyOp_queue, State.answer_queue, State.clearLost_queue, execAuthNsPrivWrite_queue,
          execAuthSecureWrite_queue, execCleatProgramWrite_queue, execCleatStart_queue, execCleatStop_queue,
          execDomHangCommand_queue, execDomResetCommand_queue, execDomSampleCommand_queue, execDumpArm_queue,
          execKeyClear_queue, execKeyEpochWrite_queue, execKeyValueWrite_queue, execLkOfferWrite_queue,
          execPennantModeWrite_queue, execReturnToService_queue, execSinkReset_queue, execSinkSelectWrite_queue,
          execSoftReset_queue, execTotalsClear_queue, execTraceConfigStart_queue, execTraceConfigStop_queue, execTrigArm_queue,
          execTrigForce_queue, execWakeWrite_queue])
      | (cases h
         repeat' (first | apply keepsQueue_ite | split)
         all_goals intro t
         all_goals
          simp only [outQueue_next, State.energyOp_queue, State.answer_queue, State.clearLost_queue, execAuthNsPrivWrite_queue,
          execAuthSecureWrite_queue, execCleatProgramWrite_queue, execCleatStart_queue, execCleatStop_queue,
          execDomHangCommand_queue, execDomResetCommand_queue, execDomSampleCommand_queue, execDumpArm_queue,
          execKeyClear_queue, execKeyEpochWrite_queue, execKeyValueWrite_queue, execLkOfferWrite_queue,
          execPennantModeWrite_queue, execReturnToService_queue, execSinkReset_queue, execSinkSelectWrite_queue,
          execSoftReset_queue, execTotalsClear_queue, execTraceConfigStart_queue, execTraceConfigStop_queue, execTrigArm_queue,
          execTrigForce_queue, execWakeWrite_queue])
  repeat' split at h
  all_goals first
    | (cases h; done)
    | exact whenOne_queue h (fun t => by
        simp only [outQueue_next, State.energyOp_queue, State.answer_queue, State.clearLost_queue, execAuthNsPrivWrite_queue,
        execAuthSecureWrite_queue, execCleatProgramWrite_queue, execCleatStart_queue, execCleatStop_queue,
        execDomHangCommand_queue, execDomResetCommand_queue, execDomSampleCommand_queue, execDumpArm_queue,
        execKeyClear_queue, execKeyEpochWrite_queue, execKeyValueWrite_queue, execLkOfferWrite_queue,
        execPennantModeWrite_queue, execReturnToService_queue, execSinkReset_queue, execSinkSelectWrite_queue,
        execSoftReset_queue, execTotalsClear_queue, execTraceConfigStart_queue, execTraceConfigStop_queue, execTrigArm_queue,
        execTrigForce_queue, execWakeWrite_queue])
    | (cases h
       repeat' (first | apply keepsQueue_ite | split)
       all_goals intro t
       all_goals
        simp only [outQueue_next, State.energyOp_queue, State.answer_queue, State.clearLost_queue, execAuthNsPrivWrite_queue,
        execAuthSecureWrite_queue, execCleatProgramWrite_queue, execCleatStart_queue, execCleatStop_queue,
        execDomHangCommand_queue, execDomResetCommand_queue, execDomSampleCommand_queue, execDumpArm_queue,
        execKeyClear_queue, execKeyEpochWrite_queue, execKeyValueWrite_queue, execLkOfferWrite_queue,
        execPennantModeWrite_queue, execReturnToService_queue, execSinkReset_queue, execSinkSelectWrite_queue,
        execSoftReset_queue, execTotalsClear_queue, execTraceConfigStart_queue, execTraceConfigStop_queue, execTrigArm_queue,
        execTrigForce_queue, execWakeWrite_queue])

theorem State.writePorts_queue {s : State} {w : Writer} {index sub v : Nat} {_data : List Nat} {f : State → Result}
    (h : State.writePorts s w index sub v _data = some f) : KeepsQueue f := by
  unfold State.writePorts at h
  (try dsimp only at h)
  repeat' split at h
  all_goals first
    | (cases h; done)
    | exact whenOne_queue h (fun t => by
        simp only [outQueue_next, execLaneClear_queue, execPairAccept_queue, execPortEnableWrite_queue,
        execSecondsSetWrite_queue, execSliceConfigWrite_queue, execSliceReset_queue, execSourceWrite_queue,
        execTsqOverflowClear_queue, execTsqPop_queue])
    | (cases h
       repeat' (first | apply keepsQueue_ite | split)
       all_goals intro t
       all_goals
        simp only [outQueue_next, execLaneClear_queue, execPairAccept_queue, execPortEnableWrite_queue,
        execSecondsSetWrite_queue, execSliceConfigWrite_queue, execSliceReset_queue, execSourceWrite_queue,
        execTsqOverflowClear_queue, execTsqPop_queue])

theorem State.writeTree_queue {s : State} {w : Writer} {index sub v : Nat} {data : List Nat} {f : State → Result}
    (h : State.writeTree s w index sub v data = some f) : KeepsQueue f := by
  unfold State.writeTree at h
  (try dsimp only at h)
  repeat' split at h
  all_goals first
    | (cases h; done)
    | exact whenOne_queue h (fun t => by
        simp only [outQueue_next, State.bcastSubmit_queue, State.answer_queue, State.setRefReg_queue,
        execBldConfigWrite_queue, execBldReset_queue, execCtxFree_queue, execEntClear_queue, execEntDescWrite_queue,
        execModelLoad_queue, execModelUnload_queue, execPlanBytesWrite_queue, execRefValueWrite_queue,
        execSkWindowWrite_queue, execStreamClear_queue, execTreeCommit_queue])
    | (cases h
       repeat' (first | apply keepsQueue_ite | split)
       all_goals intro t
       all_goals
        simp only [outQueue_next, State.bcastSubmit_queue, State.answer_queue, State.setRefReg_queue,
        execBldConfigWrite_queue, execBldReset_queue, execCtxFree_queue, execEntClear_queue, execEntDescWrite_queue,
        execModelLoad_queue, execModelUnload_queue, execPlanBytesWrite_queue, execRefValueWrite_queue,
        execSkWindowWrite_queue, execStreamClear_queue, execTreeCommit_queue])

theorem State.writeUnits_queue {s : State} {w : Writer} {index sub v : Nat} {data : List Nat} {f : State → Result}
    (h : State.writeUnits s w index sub v data = some f) : KeepsQueue f := by
  unfold State.writeUnits at h
  (try dsimp only at h)
  repeat' split at h
  all_goals first
    | (cases h; done)
    | exact whenOne_queue h (fun t => by
        simp only [outQueue_next, State.answer_queue, State.setElem_queue, execBatchAck_queue, execCbsConfigWrite_queue,
        execChangeCancel_queue, execChangeSchedule_queue, execClassMapWrite_queue, execCoordTrayWrite_queue,
        execCutAbandon_queue, execCutArmWrite_queue, execHeldPinWrite_queue, execHostAckWrite_queue, execPrepInject_queue,
        execProfClear_queue, execProfDataWrite_queue, execReplayGo_queue, execRstConfirm_queue, execRstFilled_queue,
        execRstLoaded_queue, execRstPropose_queue, execStayBytesWrite_queue])
    | (cases h
       repeat' (first | apply keepsQueue_ite | split)
       all_goals intro t
       all_goals
        simp only [outQueue_next, State.answer_queue, State.setElem_queue, execBatchAck_queue, execCbsConfigWrite_queue,
        execChangeCancel_queue, execChangeSchedule_queue, execClassMapWrite_queue, execCoordTrayWrite_queue,
        execCutAbandon_queue, execCutArmWrite_queue, execHeldPinWrite_queue, execHostAckWrite_queue, execPrepInject_queue,
        execProfClear_queue, execProfDataWrite_queue, execReplayGo_queue, execRstConfirm_queue, execRstFilled_queue,
        execRstLoaded_queue, execRstPropose_queue, execStayBytesWrite_queue])

@[simp] theorem State.commitNetwork_queue (s : State) : (State.commitNetwork s).queue = s.queue := by
  simp only [State.commitNetwork, implies_true, foldl_queue, State.setVager_queue, State.closeSessions_queue]

@[simp] theorem execMgmtCommit_queue (w : Writer) (value : Bool) (s : State) : outQueue (execMgmtCommit w value s) = s.queue := by
  simp only [execMgmtCommit, outQueue_next, ite_outQueue, ite_queue, ite_self, State.writeBy_queue, State.answer_queue,
    State.commitNetwork_queue, State.writeBy_queue]

theorem State.writeService_queue {s : State} {w : Writer} {serial index sub v : Nat} {_data : List Nat} {f : State → Result}
    (h : State.writeService s w serial index sub v _data = some f) : KeepsQueue f := by
  unfold State.writeService at h
  (try dsimp only at h)
  repeat' split at h
  all_goals first
    | (cases h; done)
    | exact whenOne_queue h (fun t => by
        simp only [outQueue_next, State.answer_queue, State.takeNat_queue, execDbgGrantWrite_queue,
        execFwActivateCrowsNest_queue, execFwActivateStaris_queue, execFwConfirm_queue, execFwStageBytesWrite_queue,
        execHangSampleRelease_queue, execInstClear_queue, execMaintStopWrite_queue, execMgmtCommit_queue,
        execOpCertBytesWrite_queue, execPortOosClear_queue, execRecClear_queue, execRecFreeze_queue, execRecThaw_queue,
        execTaBytesWrite_queue, execWakeWrite_queue, execWarmReset_queue])
    | (cases h
       repeat' (first | apply keepsQueue_ite | split)
       all_goals intro t
       all_goals
        simp only [outQueue_next, State.answer_queue, State.takeNat_queue, execDbgGrantWrite_queue,
        execFwActivateCrowsNest_queue, execFwActivateStaris_queue, execFwConfirm_queue, execFwStageBytesWrite_queue,
        execHangSampleRelease_queue, execInstClear_queue, execMaintStopWrite_queue, execMgmtCommit_queue,
        execOpCertBytesWrite_queue, execPortOosClear_queue, execRecClear_queue, execRecFreeze_queue, execRecThaw_queue,
        execTaBytesWrite_queue, execWakeWrite_queue, execWarmReset_queue])

theorem writeDma_queue {p : Part} {w : Writer} {index sub v : Nat} {data : List Nat} {f : State → Result}
    (h : writeDma p w index sub v data = some f) : KeepsQueue f := by
  unfold writeDma at h
  generalize (match p with
    | .vager => Fin.ofNat 16 (index - 0x6840)
    | .staris _ => Fin.ofNat 16 (index - 0x6800)) = n at h
  dsimp only at h
  split at h
  · cases h
    exact fun t => execShadowDescWrite_queue ..
  · injection h with h
    subst h
    split
    · exact fun t => execDmaArm_queue ..
    · exact fun t => execDmaCancel_queue ..
    · exact fun t => execDmaAbort_queue ..
    · exact fun t => execDmaClear_queue ..
    · exact fun t => execDmaReset_queue ..
  · cases h

theorem State.ownWrite_queue {s : State} {p : Part} {w : Writer} {serial index sub v : Nat} {data : List Nat} {f : State → Result}
    (h : s.ownWrite p w serial index sub v data = some f) : KeepsQueue f := by
  unfold State.ownWrite at h
  split at h
  · exact writeDma_queue h
  · split at h
    · split at h
      · exact State.writeCapture_queue h
      · exact State.writeStaris_queue h
    · repeat' split at h
      · exact State.writePorts_queue h
      · exact State.writeTree_queue h
      · exact State.writeUnits_queue h
      · exact State.writeService_queue h

@[simp] theorem State.afterWrite_queue (s : State) (p : Part) (index sub : Nat) : (State.afterWrite s p index sub).queue = s.queue := by
  unfold State.afterWrite
  (try dsimp only)
  repeat' split
  all_goals (try simp only [Prod.ext_iff] at *)
  all_goals (try casesm* _ ∧ _)
  all_goals (try subst_vars)
  all_goals (try simp only [implies_true, ite_outQueue, ite_queue, ite_self, foldl_queue, State.dmaSettle_queue, State.intakeAll_queue,
    State.retraceAll_queue, State.retraceCfg_queue, State.startWrites_queue])

@[simp] theorem State.putObject_queue (s : State) (p : Part) (x : SubInfo) (index : Nat) (data : List Nat) : (State.putObject s p x index data).queue = s.queue := by
  simp only [State.putObject, ite_outQueue, ite_queue, ite_self, State.afterWrite_queue, State.wr_queue, State.writeOctets_queue]

@[simp] theorem State.stageNow_queue (s : State) (p : Part) (w : Writer) (node index sub : Nat) (data : List Nat) : (State.stageNow s p w node index sub data).2.queue = s.queue := by
  unfold State.stageNow
  (try dsimp only)
  repeat' split
  all_goals (try simp only [Prod.ext_iff] at *)
  all_goals (try casesm* _ ∧ _)
  all_goals (try subst_vars)
  all_goals (try simp only [ite_outQueue, ite_queue, ite_self, State.newGroup_queue])

@[simp] theorem State.doWrite_queue (s : State) (p : Part) (w : Writer) (serial : Nat) (apply : Bool) (x : SubInfo)
    (index : Nat) (data : List Nat) : (s.doWrite p w serial apply x index data).2.queue = s.queue := by
  unfold State.doWrite
  generalize (if x.isOctets = true then data ++ List.replicate (x.size - data.length) 0 else data) = full
  generalize (if x.isOctets = true then 0 else ofBytes data) = v
  dsimp only
  split
  · rfl
  · split
    · next f h => exact State.through_queue _ _ (State.ownWrite_queue h)
    · split
      · exact State.stageNow_queue ..
      · exact State.putObject_queue ..

@[simp] theorem State.writeObject_queue (s : State) (p : Part) (w : Writer) (serial : Nat) (apply : Bool) (index sub : Nat) (data : List Nat) : (State.writeObject s p w serial apply index sub data).2.queue = s.queue := by
  unfold State.writeObject
  (try dsimp only)
  repeat' split
  all_goals (try simp only [Prod.ext_iff] at *)
  all_goals (try casesm* _ ∧ _)
  all_goals (try subst_vars)
  all_goals (try simp only [ite_outQueue, ite_queue, ite_self, State.doWrite_queue])

@[simp] theorem State.writeSegment_queue (s : State) (p : Part) (w : Writer) (serial index sub off : Nat) (data : List Nat) : (State.writeSegment s p w serial index sub off data).2.queue = s.queue := by
  unfold State.writeSegment
  (try dsimp only)
  repeat' split
  all_goals (try simp only [Prod.ext_iff] at *)
  all_goals (try casesm* _ ∧ _)
  all_goals (try subst_vars)
  all_goals (try simp only [ite_outQueue, ite_queue, ite_self, State.doWrite_queue, State.setBytes_queue])

@[simp] theorem execRegisterWrite_queue (p : Part) (w : Writer) (index sub : Nat) (data : List Nat) (s : State) : outQueue (execRegisterWrite p w index sub data s) = s.queue := by
  simp only [execRegisterWrite, outQueue_next, State.answer_queue, State.writeObject_queue]

/-! ### Groups -/

@[simp] theorem State.applyEntries_queue (p : Part) (g : SGroup) (es : List SheetEntry) (i : Nat) (s : State) :
    (State.applyEntries p g es i s).2.queue = s.queue := by
  induction es generalizing s i with
  | nil => rfl
  | cons e es ih =>
    unfold State.applyEntries
    rw [← State.writeObject_queue s p g.w g.serial true e.index e.sub e.data]
    generalize s.writeObject p g.w g.serial true e.index e.sub e.data = r
    obtain ⟨⟨st, b⟩, t⟩ := r
    dsimp only
    split
    · rfl
    · exact ih ..

@[simp] theorem State.applyGroup_queue (s : State) (p : Part) (g : SGroup) : (s.applyGroup p g).queue = s.queue := by
  have e := State.applyEntries_queue p g g.entries 0 s
  unfold State.applyGroup
  generalize State.applyEntries p g g.entries 0 s = r at e
  obtain ⟨o, t⟩ := r
  dsimp only at e
  split
  · rename_i h
    cases h
    rw [State.groupLeaves_queue, e]
  · dsimp only
    rw [State.groupLeaves_queue]
    split
    · rfl
    · rename_i e' _
      have k := State.writeObject_queue s p g.w g.serial true e'.index e'.sub e'.data
      generalize s.writeObject p g.w g.serial true e'.index e'.sub e'.data = r at k
      obtain ⟨⟨a, b⟩, u⟩ := r
      dsimp only at k ⊢
      split
      · exact k
      · rfl

@[simp] theorem State.applyIfDue_queue (s : State) (p : Part) (n : Nat) : (State.applyIfDue s p n).queue = s.queue := by
  unfold State.applyIfDue
  (try dsimp only)
  repeat' split
  all_goals (try simp only [Prod.ext_iff] at *)
  all_goals (try casesm* _ ∧ _)
  all_goals (try subst_vars)
  all_goals (try simp only [ite_outQueue, ite_queue, ite_self, State.applyGroup_queue, State.setStaging_queue])

@[simp] theorem State.applyDue_queue (s : State) (p : Part) : (State.applyDue s p).queue = s.queue := by
  simp only [State.applyDue, implies_true, foldl_queue, State.applyIfDue_queue]

@[simp] theorem execStagedGroupApply_queue (p : Part) (group : Nat) (s : State) : outQueue (execStagedGroupApply p group s) = s.queue := by
  simp only [execStagedGroupApply, outQueue_next, State.applyIfDue_queue]

@[simp] theorem execStageEpochExpiry_queue (group : Nat) (s : State) : outQueue (execStageEpochExpiry group s) = s.queue := by
  unfold execStageEpochExpiry
  (try dsimp only)
  repeat' split
  all_goals (try simp only [Prod.ext_iff] at *)
  all_goals (try casesm* _ ∧ _)
  all_goals (try subst_vars)
  all_goals (try simp only [outQueue_next, ite_outQueue, ite_queue, ite_self, State.groupLeaves_queue])

@[simp] theorem execStagedGroupForward_queue (group : Nat) (s : State) : outQueue (execStagedGroupForward group s) = s.queue := by
  unfold execStagedGroupForward
  (try dsimp only)
  repeat' split
  all_goals (try simp only [Prod.ext_iff] at *)
  all_goals (try casesm* _ ∧ _)
  all_goals (try subst_vars)
  all_goals (try simp only [outQueue_next, ite_outQueue, ite_queue, ite_self, State.bump_queue, State.groupLeaves_queue, State.proxySubmit_queue,
    State.setStaging_queue])

@[simp] theorem execBcastRx_queue (m : TreeMsg) (s : State) : outQueue (execBcastRx m s) = s.queue := by
  simp only [execBcastRx, outQueue_next, State.applyDue_queue, State.bcastRx_queue, State.treeIn_queue]

@[simp] theorem execBcastSubmit_queue (w : Writer) (header : Nat) (body : List Nat) (s : State) : outQueue (execBcastSubmit w header body s) = s.queue := by
  simp only [execBcastSubmit, outQueue_next, State.writeBy_queue, State.applyDue_queue, State.bcastSubmit_queue,
    State.writeBy_queue]

@[simp] theorem execContextOpenTime_queue (x : Fin 64) (s : State) : outQueue (execContextOpenTime x s) = s.queue := by
  simp only [execContextOpenTime, outQueue_next, ite_outQueue, ite_queue, ite_self, State.applyDue_queue, State.openContext_queue]

@[simp] theorem State.applyLedger_queue (s : State) (d : Die) (gs : List SGroup) : (State.applyLedger s d gs).queue = s.queue := by
  simp only [State.applyLedger, implies_true, foldl_queue, State.applyGroup_queue]

@[simp] theorem State.segmentBoundary_queue (s : State) (d : Die) : (State.segmentBoundary s d).queue = s.queue := by
  simp only [State.segmentBoundary, implies_true, ite_outQueue, ite_queue, ite_self, foldl_queue, State.announceConfig_queue,
    State.applyLedger_queue, State.endSegments_queue, State.fullSegment_queue]

@[simp] theorem execEnergySliceBoundary_queue (d : Die) (missing : List (Fin 16)) (s : State) : outQueue (execEnergySliceBoundary d missing s) = s.queue := by
  simp only [execEnergySliceBoundary, outQueue_next, implies_true, foldl_queue, State.clearTotals_queue, State.creditSlice_queue,
    State.fillSample_queue, State.finalRecord_queue, State.segmentBoundary_queue, State.serveOp_queue]

/-! ### Sheet -/

@[simp] theorem State.cancelGroup_queue (s : State) (p : Part) (n : Nat) : (State.cancelGroup s p n).2.queue = s.queue := by
  unfold State.cancelGroup
  (try dsimp only)
  repeat' split
  all_goals (try simp only [Prod.ext_iff] at *)
  all_goals (try casesm* _ ∧ _)
  all_goals (try subst_vars)
  all_goals (try simp only [State.groupLeaves_queue])

@[simp] theorem State.subscribe_queue (s : State) (src : Option SheetSource) (e : SheetEntry) : (State.subscribe s src e).2.queue = s.queue := by
  unfold State.subscribe
  (try dsimp only)
  repeat' split
  all_goals (try simp only [Prod.ext_iff] at *)
  all_goals (try casesm* _ ∧ _)
  all_goals (try subst_vars)
  all_goals (try simp only [ite_outQueue, ite_queue, ite_self, State.setVager_queue, State.bump_queue])

@[simp] theorem State.sheetSpdm_queue (s : State) (e : SheetEntry) : (State.sheetSpdm s e).2.queue = s.queue := by
  unfold State.sheetSpdm
  (try dsimp only)
  repeat' split
  all_goals (try simp only [Prod.ext_iff] at *)
  all_goals (try casesm* _ ∧ _)
  all_goals (try subst_vars)
  all_goals (try simp only [ite_outQueue, ite_queue, ite_self, State.takeNat_queue, State.spdmAnswer_queue])

@[simp] theorem State.runEntry_queue (s : State) (p : Part) (src : Option SheetSource) (w : Writer) (serial op : Nat) (e : SheetEntry) : (State.runEntry s p src w serial op e).2.queue = s.queue := by
  unfold State.runEntry
  (try dsimp only)
  repeat' split
  all_goals (try simp only [Prod.ext_iff] at *)
  all_goals (try casesm* _ ∧ _)
  all_goals (try subst_vars)
  all_goals (try simp only [ite_outQueue, ite_queue, ite_self, State.answer_queue, State.cancelGroup_queue, State.readObject_queue,
    State.sheetSpdm_queue, State.subscribe_queue, State.writeObject_queue, State.writeSegment_queue])

@[simp] theorem State.runEntries_queue (p : Part) (src : Option SheetSource) (serial op : Nat) (stop : Bool)
    (es : List (Nat × Writer × SheetEntry)) (s : State) : (State.runEntries p src serial op stop es s).2.queue = s.queue := by
  induction es generalizing s with
  | nil => rfl
  | cons x es ih =>
    obtain ⟨i, w, e⟩ := x
    unfold State.runEntries
    rw [← State.runEntry_queue s p src w serial op e]
    generalize s.runEntry p src w serial op e = r
    obtain ⟨a, t⟩ := r
    dsimp only
    split
    · rfl
    · exact ih t

@[simp] theorem State.stageOn_queue (s : State) (holder target : Part) (kinds : List Nat) (w : Writer) (serial node : Nat) (word : List Nat) (entries : List SheetEntry) : (State.stageOn s holder target kinds w serial node word entries).2.queue = s.queue := by
  unfold State.stageOn
  (try dsimp only)
  repeat' split
  all_goals (try simp only [Prod.ext_iff] at *)
  all_goals (try casesm* _ ∧ _)
  all_goals (try subst_vars)
  all_goals (try simp only [ite_outQueue, ite_queue, ite_self, State.formGroup_queue])

@[simp] theorem State.starisAnswer_queue (s : State) (d : Die) (w : Writer) (r : SheetReq) :
    (s.starisAnswer d w r).2.queue = s.queue := by
  unfold State.starisAnswer
  dsimp only
  split
  · exact State.bump_queue ..
  · rw [State.countEntries_queue]
    split
    · rw [State.stageOn_queue, State.bump_queue]
    · rw [State.runEntries_queue, State.bump_queue]

@[simp] theorem execDictReqRx_queue (d : Die) (w : Writer) (r : SheetReq) (s : State) : outQueue (execDictReqRx d w r s) = s.queue := by
  simp only [execDictReqRx, outQueue_next, State.applyDue_queue, State.sendDict_queue, State.starisAnswer_queue]

@[simp] theorem State.openWait_queue (s : State) (src : SheetSource) (op tid n : Nat) : (State.openWait s src op tid n).2.queue = s.queue := by
  simp only [State.openWait, State.setSheet_queue]

@[simp] theorem State.proxyEntries_queue (s : State) (n : Nat) (d : Die) (w : Writer) (op : Nat) (stop : Bool) (es : List (Nat × Writer × SheetEntry)) : (State.proxyEntries s n d w op stop es).queue = s.queue := by
  simp only [State.proxyEntries, ite_outQueue, ite_queue, ite_self, State.bump_queue, State.placeEntries_queue,
    State.proxySubmit_queue]

@[simp] theorem State.cancelRemote_queue (s : State) (n : Nat) (d : Die) (x : Nat × Writer × SheetEntry) : (State.cancelRemote s n d x).queue = s.queue := by
  unfold State.cancelRemote
  (try dsimp only)
  repeat' split
  all_goals (try simp only [Prod.ext_iff] at *)
  all_goals (try casesm* _ ∧ _)
  all_goals (try subst_vars)
  all_goals (try simp only [ite_outQueue, ite_queue, ite_self, State.cancelGroup_queue, State.placeEntries_queue, State.proxyEntries_queue])

@[simp] theorem State.runNode_queue (s : State) (n : Nat) (src : SheetSource) (w : Writer) (serial op : Nat) (stop : Bool)
    (node : Nat) (es : List (Nat × Writer × SheetEntry)) : (s.runNode n src w serial op stop node es).queue = s.queue := by
  unfold State.runNode
  dsimp only
  split
  · simp only [State.placeEntries_queue, State.countEntries_queue, State.runEntries_queue]
  · split
    · simp only [State.placeEntries_queue, State.countEntries_queue]
    · split
      · refine foldl_queue _ ?_ _ _
        intro t x
        exact State.cancelRemote_queue ..
      · exact State.proxyEntries_queue ..

@[simp] theorem State.runRequest_queue (s : State) (src : SheetSource) (w : Writer) (serial : Nat) (r : SheetReq) : (State.runRequest s src w serial r).queue = s.queue := by
  simp only [State.runRequest, implies_true, ite_outQueue, ite_queue, ite_self, foldl_queue, State.countEntries_queue,
    State.openWait_queue, State.placeEntries_queue, State.runNode_queue, State.tryRespond_queue]

@[simp] theorem State.stageNode_queue (s : State) (src : SheetSource) (w : Writer) (serial : Nat) (word : List Nat) (node : Nat) (es : List SheetEntry) : (State.stageNode s src w serial word node es).2.queue = s.queue := by
  unfold State.stageNode
  (try dsimp only)
  repeat' split
  all_goals (try simp only [Prod.ext_iff] at *)
  all_goals (try casesm* _ ∧ _)
  all_goals (try subst_vars)
  all_goals (try simp only [ite_outQueue, ite_queue, ite_self, State.bump_queue, State.stageOn_queue])

@[simp] theorem State.runStage_queue (s : State) (src : SheetSource) (w : Writer) (serial : Nat) (r : SheetReq) :
    (s.runStage src w serial r).queue = s.queue := by
  unfold State.runStage
  dsimp only
  rw [State.respond_queue, State.countEntries_queue, foldl_snd_queue]
  intro x k
  exact State.stageNode_queue ..

@[simp] theorem State.vagerRequest_queue (s : State) (src : SheetSource) (w : Writer) (serial : Nat) (r : SheetReq) : (State.vagerRequest s src w serial r).queue = s.queue := by
  simp only [State.vagerRequest, ite_outQueue, ite_queue, ite_self, State.applyDue_queue, State.bump_queue, State.respond_queue,
    State.runRequest_queue, State.runStage_queue]

@[simp] theorem State.touchSession_queue (s : State) (id : Nat) : (s.touchSession id).queue = s.queue := rfl

@[simp] theorem State.sessionRequest_queue (s : State) (id : Nat) (r : SheetReq) : (State.sessionRequest s id r).queue = s.queue := by
  unfold State.sessionRequest
  (try dsimp only)
  repeat' split
  all_goals (try simp only [Prod.ext_iff] at *)
  all_goals (try casesm* _ ∧ _)
  all_goals (try subst_vars)
  all_goals (try simp only [State.emit_queue, State.bump_queue, State.vagerRequest_queue, State.touchSession_queue])

@[simp] theorem execSheetRead_queue (session : Nat) (r : SheetReq) (s : State) : outQueue (execSheetRead session r s) = s.queue := by
  simp only [execSheetRead, outQueue_next, State.sessionRequest_queue]

@[simp] theorem execSheetWrite_queue (session : Nat) (r : SheetReq) (s : State) : outQueue (execSheetWrite session r s) = s.queue := by
  simp only [execSheetWrite, outQueue_next, State.sessionRequest_queue]

@[simp] theorem execSheetStage_queue (session : Nat) (r : SheetReq) (s : State) : outQueue (execSheetStage session r s) = s.queue := by
  simp only [execSheetStage, outQueue_next, State.sessionRequest_queue]

@[simp] theorem execSheetStageCancel_queue (session : Nat) (r : SheetReq) (s : State) : outQueue (execSheetStageCancel session r s) = s.queue := by
  simp only [execSheetStageCancel, outQueue_next, State.sessionRequest_queue]

@[simp] theorem execSheetSegRead_queue (session : Nat) (r : SheetReq) (s : State) : outQueue (execSheetSegRead session r s) = s.queue := by
  simp only [execSheetSegRead, outQueue_next, State.sessionRequest_queue]

@[simp] theorem execSheetSegWrite_queue (session : Nat) (r : SheetReq) (s : State) : outQueue (execSheetSegWrite session r s) = s.queue := by
  simp only [execSheetSegWrite, outQueue_next, State.sessionRequest_queue]

@[simp] theorem execSheetSubscribe_queue (session : Nat) (r : SheetReq) (s : State) : outQueue (execSheetSubscribe session r s) = s.queue := by
  simp only [execSheetSubscribe, outQueue_next, State.sessionRequest_queue]

@[simp] theorem execSheetSpdm_queue (session : Nat) (r : SheetReq) (s : State) : outQueue (execSheetSpdm session r s) = s.queue := by
  simp only [execSheetSpdm, outQueue_next, State.sessionRequest_queue]

@[simp] theorem execSheetEcho_queue (session : Nat) (r : SheetReq) (s : State) : outQueue (execSheetEcho session r s) = s.queue := by
  simp only [execSheetEcho, outQueue_next, State.sessionRequest_queue]

@[simp] theorem execProxyTimeout_queue (p : Die) (s : State) : outQueue (execProxyTimeout p s) = s.queue := by
  unfold execProxyTimeout
  (try dsimp only)
  repeat' split
  all_goals (try simp only [Prod.ext_iff] at *)
  all_goals (try casesm* _ ∧ _)
  all_goals (try subst_vars)
  all_goals (try simp only [outQueue_next, ite_outQueue, ite_queue, ite_self, State.bump_queue, State.proxyFailed_queue, State.proxyPump_queue,
    State.setProxy_queue])

@[simp] theorem execMbGo_queue (a : Aperture) (sec : Bool) (vector : Nat) (r : SheetReq) (s : State) : outQueue (execMbGo a sec vector r s) = s.queue := by
  unfold execMbGo
  (try dsimp only)
  repeat' split
  all_goals (try simp only [Prod.ext_iff] at *)
  all_goals (try casesm* _ ∧ _)
  all_goals (try subst_vars)
  all_goals (try simp only [outQueue_next, ite_outQueue, ite_queue, ite_self, State.applyDue_queue, State.bump_queue, State.respond_queue,
    State.setMailbox_queue, State.starisAnswer_queue, State.vagerRequest_queue])

@[simp] theorem execSessionClose_queue (session : Nat) (s : State) : outQueue (execSessionClose session s) = s.queue := by
  simp only [execSessionClose, outQueue_next, State.closeSessions_queue]

@[simp] theorem execMgmtLinkChange_queue (link : Fin 3) (s : State) : outQueue (execMgmtLinkChange link s) = s.queue := by
  simp only [execMgmtLinkChange, outQueue_next, ite_outQueue, ite_queue, ite_self, State.setVt_queue, State.wr_queue]

/-! ### Tap -/

@[simp] theorem State.cutTorn_queue (s : State) (d : Die) (c : CdtWord) : (State.cutTorn s d c).queue = s.queue := by
  simp only [State.cutTorn, ite_outQueue, ite_queue, ite_self, State.stopCut_queue]

@[simp] theorem State.endDescriptor_queue (s : State) (d : Die) (c : CdtWord) : (State.endDescriptor s d c).queue = s.queue := by
  simp only [State.endDescriptor, State.setCap_queue]

@[simp] theorem execDescriptorStart_queue (d : Die) (c : CdtWord) (s : State) : outQueue (execDescriptorStart d c s) = s.queue := by
  simp only [execDescriptorStart, outQueue_next, State.emit_queue, State.cutTorn_queue, State.endDescriptor_queue,
    State.setCap_queue, State.setElem_queue, State.shroudSelect_queue, State.tearDumps_queue]

@[simp] theorem State.slotDone_queue (s : State) (d : Die) (slot : Nat) : (State.slotDone s d slot).queue = s.queue := by
  simp only [State.slotDone, implies_true, foldl_queue, State.setDom_queue]

@[simp] theorem execDescriptorDone_queue (d : Die) (c : CdtWord) (s : State) : outQueue (execDescriptorDone d c s) = s.queue := by
  simp only [execDescriptorDone, outQueue_next, implies_true, foldl_queue, State.emit_queue, State.dumpStart_queue,
    State.endDescriptor_queue, State.slotDone_queue]

@[simp] theorem execDescriptorAbandon_queue (d : Die) (c : CdtWord) (s : State) : outQueue (execDescriptorAbandon d c s) = s.queue := by
  simp only [execDescriptorAbandon, outQueue_next, State.emit_queue, State.endDescriptor_queue]

@[simp] theorem execSpareCoreRemap_queue (d : Die) (source : Fin 256) (_slot : Fin 256) (kind : Fin 4) (s : State) : outQueue (execSpareCoreRemap d source _slot kind s) = s.queue := by
  simp only [execSpareCoreRemap, outQueue_next, ite_outQueue, ite_queue, ite_self, State.sourceReset_queue,
    State.sourceResetExit_queue]

end Sys2Proof.Machine
end

