-- ==== Sys2Proof/Tests/Slice0.lean ====
section
/-! SUPPORT. Tests/Slice0.lean: the smoke test of well-formedness; small tests whose results are written out from the spec; and for
each clause of a statement that has hypotheses, a state and operands that meet them all. -/

namespace Sys2Proof.Tests
open Sys2Proof Sys2Proof.Machine

/-! ### States and operands that the tests use -/

/-- The fleet's secure writer. -/
def wF : Writer := { secure := true, role := .fleet }
/-- A non-secure host writer. -/
def wH : Writer := { secure := false, role := .host }
/-- Die 0 after reset, changed. -/
def dieWith (f : Staris → Staris) : State := State.reset.setDie 0 (f (State.reset.die 0))
/-- Vager after reset, changed. -/
def vagerWith (f : Vager → Vager) : State := State.reset.setVager (f State.reset.vager)
/-- After reset, one end of the link of port 0 in state `n` with the given fields. -/
def linkWith (v : Bool) (n : Nat) (l : LinkEnd) : State :=
  (State.reset.setLink v 0 l).wr (endPart v 0) (linkStateKey v 0) n
/-- A running sequencer at address 0. -/
def cleatSeq : Seq := { state := .running }
/-- After reset, sequencer `q` of die 0 runs the instruction `w` at address 0. -/
def cleatState (w q : Nat) : State :=
  (dieWith fun x => { x with cap := { x.cap with seqs := [(q, cleatSeq)] } }).setElem (.staris 0) (O.CLEAT_PROGRAM_3090 q) 8 0 w
/-- A dataset whose fields are 0. -/
def gm0 : PtpDataset :=
  { priority1 := 0, clockClass := 0, accuracy := 0, variance := 0, priority2 := 0, identity := 0, stepsRemoved := 0 }
/-- A PTP header whose fields are 0. -/
def ptp0 : PtpHeader := { domain := 0, transport := 0, identity := 0, seqId := 0, log := 0 }
/-- A descriptor event whose fields are 0. -/
def cdt0 : CdtWord :=
  { base := 0, bytes := 0, tag := 0, step := 0, epoch := 0, ectx := 0, slot := 0, opcode := 0, priv := false, sec := false, dseq := 0 }
/-- A flit all of whose bits have been decoded before it is taken. -/
def flit0 : FlitIn := { words := [], prbs := 0, overrun := false }
/-- A tree message whose fields are 0. -/
def tree0 : TreeMsg :=
  { port := 0, address := 0, type := 0, round := 0, epoch := 0, bseq := 0, missing := 0, cover := 0, src := 0, group := 0, standing := false, body := [] }
/-- A selected sample whose fields are 0. -/
def sel0 : ShSel := { sid := 0, tag := 0, step := 0, epoch := 0, slot := 0 }
/-- A ring entry whose fields are 0. -/
def entR0 : ShEntry := { sid := 0, offset := 0, bytes := 0, header := 0 }
/-- After reset, sample 0 of port 0 is in the pool with the given fields. -/
def poolWith (x : Sample) : State := vagerWith fun v => { v with shroud := { pool := [x] } }
/-- The smallest image of R265: one tree of one leaf. -/
def imageBody : List Nat := List.replicate 64 0 ++ toBytes 32 16 ++ toBytes 32 (4 * 2 ^ 124)
def image0 : List Nat :=
  toBytes 32 (0x314C544B * 2 ^ 224 + 2 ^ 208 + 2 ^ 192 + 2 ^ 184 + 2 ^ 176 + 192 * 2 ^ 128) ++ sha256 imageBody ++ imageBody
/-- A granule read without trouble. -/
def dma0 : DmaAccess := { data := 0, poison := false, readRefused := false, writeRefused := false, error := none }
/-- A manifest and a commit record of one tray that name no chunk, each under the digest that the next carries. -/
def manifest0 : List Nat := [0, ofBytes (State.reset.shapeDigest 0), 0]
def record0 : List Nat := [0, ofBytes (granulesDigest manifest0)]
def loaded0 : State :=
  (((vagerWith fun v => { v with stay := { restore := { proposal := ofBytes (granulesDigest record0) * 2 ^ 256 } } }).wr .vager
    O.RST_STATE_58B0 1).setElem .vager O.RST_MANIFEST_58B0 32 1 (manifest0.getD 1 0)).setElem .vager O.RST_RECORD_58B0 32 1
    (record0.getD 1 0)
/-- A sound management handshake with no anchor. -/
def hand0 : Handshake :=
  { sound := true, anchors := [], notBefore := 0, notAfter := 0, serial := 0, key := [], address := 0, peer := none, subject := 0 }
/-- A Sheet request with no entry. -/
def req0 : SheetReq := { version := 1, op := 1, tid := 0, stop := false, resend := false, sound := true, entries := [] }
/-- A Sheet entry whose fields are 0. -/
def entry0 : SheetEntry := { index := 0, sub := 0, node := 0, len := 0, offset := 0, data := [] }
/-- A Sheet response with no entry. -/
def resp0 : SheetResp := { op := 1, tid := 0, mstatus := 0, entries := [] }
/-- After reset, one session of the fleet with the given responses kept. -/
def sessWith (kept : List (Nat × SheetResp)) : State :=
  vagerWith fun v => { v with sessions := [{ id := 0, secure := true, role := .fleet, kept := kept }] }
/-- The entry that leads a stage (R514). -/
def stageEntry0 : SheetEntry := { entry0 with index := 0x1020, sub := 3, len := 16, data := List.replicate 16 0 }
/-- The smallest firmware image of R544: a header and no body. -/
def fwHead : List Nat := toBytes 16 (0x4E575243 * 2 ^ 96 + 2 ^ 8 + 1)
def firmware0 : List Nat := fwHead ++ List.replicate 96 0 ++ sha384 [] ++ List.replicate 96 0
/-- A new signing key leaves the boot stage as it was. -/
theorem newSigningKey_boot (s : State) : s.newSigningKey.rd .vager O.BOOT_STAGE_7C40 = s.rd .vager O.BOOT_STAGE_7C40 := by
  have e : ∀ (t : State) (l : Ledger), (t.setVager { t.vager with ledger := l }).rd .vager O.BOOT_STAGE_7C40 =
      t.rd .vager O.BOOT_STAGE_7C40 := by intro t l; cases t; rfl
  unfold State.newSigningKey
  dsimp only
  rw [State.rd_wr, if_neg (by decide), e, State.rd_wr, if_neg (by decide), State.rd_setBytes, State.rd_takeNat, State.rd_takeNat]
/-- After reset, a comparator's action waits in the handshake FIFO of die 0. -/
def firedWith (a arg : Nat) : State :=
  dieWith fun x => { x with time := { fifo := [{ action := a, arg := arg, counter := 0, state := 2 }] } }
/-- After reset, fabric port 0 is up and the part of the state that is given has been set. -/
def portUp (s : State) : State := s.wr .vager (O.PORT_STATE_6410 0) 1

/-! ### Ill-formed commands, one for each check of WellFormed.lean -/

theorem test_wf_fits : (Instr.incrementWrite 0 wF (2 ^ 64)).wellFormed = false := by decide
theorem test_wf_fits_ok : (Instr.incrementWrite 0 wF (2 ^ 64 - 1)).wellFormed = true := by decide
theorem test_wf_fitsSigned : (Instr.refValueWrite wF (2 ^ 63)).wellFormed = false := by decide
theorem test_wf_allFit : (Instr.polarityWrite 0 wF [255, 256]).wellFormed = false := by decide
theorem test_wf_granulesFit : (Instr.dumpCopyEnd 0 0 [(2 ^ 256, false)] none).wellFormed = false := by decide
theorem test_wf_cdtOk : (Instr.descriptorStart 0 { cdt0 with slot := 256 }).wellFormed = false := by decide
theorem test_wf_trcOk :
    (Instr.traceWord 0 0 0 { addr := 2 ^ 64, aux := 0, opc := 0, sec := false, priv := false }).wellFormed = false := by decide
theorem test_wf_flitOk : (Instr.flitRx true 0 { flit0 with words := [{ lanes := [[0]], worst := none }] }).wellFormed = false := by decide
theorem test_wf_sheetOk : (Instr.sheetRead 0 { req0 with version := 256 }).wellFormed = false := by decide
theorem test_wf_entryOk :
    (Instr.sheetRead 0 { req0 with entries := [{ entry0 with index := 2 ^ 16 }] }).wellFormed = false := by decide
theorem test_wf_treeOk : (Instr.heartbeatRx { tree0 with src := 2 ^ 13 }).wellFormed = false := by decide
theorem test_wf_dmaOk : (Instr.dmaAccessDone .vager 0 { dma0 with data := 2 ^ 256 }).wellFormed = false := by decide
theorem test_wf_handshakeOk : (Instr.dtlsHandshake { hand0 with anchors := [1, 1] }).wellFormed = false := by decide
theorem test_wf_ptpOk : (Instr.ptpMessageRx (.sync ptp0 true (2 ^ 64) 0)).wellFormed = false := by decide
theorem test_wf_ptpHeaderOk : (Instr.ptpMessageRx (.delayReq { ptp0 with seqId := 2 ^ 16 })).wellFormed = false := by decide
theorem test_wf_errorsOk :
    (Instr.chunkDigestDone 0 [(131072, { channel := 0, row := 0, pages := [], flips := 0 })]).wellFormed = false := by decide
theorem test_wf_hbmOk :
    (Instr.builderSweep 0 (some { channel := 384, row := 0, pages := [], flips := 0 })).wellFormed = false := by decide
theorem test_wf_memOk : (Instr.classifierLeak .vager [.sram (2 ^ 16) true]).wellFormed = false := by decide
theorem test_wf_frameLength : (Instr.frameEnqueue 0 0 0 9001).wellFormed = false := by decide
theorem test_wf_converterOk : (Instr.converterResult 0 (.rail 0 4096 0)).wellFormed = false := by decide
theorem test_queueWf_refuses : ({ State.reset with pending := [.incrementWrite 0 wF (2 ^ 64)] } : State).queueWf = false := by decide

/-! ### Values and steps -/

/-- What a part's object reads after a command. -/
def after (o : Result) (p : Part) (k : Nat) : Option Nat :=
  match o with
  | .next t => some (t.rd p k)
  | .fault _ => none
  | .refused _ => none

/-- What a command drives out. -/
def outOf (o : Result) : Option (List Out) :=
  match o with
  | .next t => some t.out
  | .fault _ => none
  | .refused _ => none

/-- Sequencer 0 of die 0 after a command. -/
def seqOf (o : Result) : Option Seq :=
  match o with
  | .next t => some (t.seqr 0 0)
  | .fault _ => none
  | .refused _ => none

/-- The example after R46. -/
theorem test_extend :
    ((vagerWith fun v => { v with time := { counter := 0xFFFFFF00 * 2 ^ 32 } }).wr .vager O.WRAP_WORD_2100 2).extend 0x100 =
      12884902144 := by decide
/-- The exchange after R57: the delay 499.25 ns and the offset -86.75 ns, in units of 2^-32 ns. -/
theorem test_exchange_delay :
    exchangeDelay (1000 * 2 ^ 32) (1412 * 2 ^ 32 + 2 ^ 31) (1600 * 2 ^ 32 + 2 ^ 30) (2186 * 2 ^ 32 + 2 ^ 30) =
      499 * 2 ^ 32 + 2 ^ 30 := by decide
theorem test_exchange_offset :
    exchangeOffset (1000 * 2 ^ 32) (1412 * 2 ^ 32 + 2 ^ 31) (1600 * 2 ^ 32 + 2 ^ 30) (2186 * 2 ^ 32 + 2 ^ 30) 0 =
      -(86 * 2 ^ 32 + 3 * 2 ^ 30) := by decide
/-- The codes after R245. -/
theorem test_log_code : 0x7FFF + logCode 400000000 = 0x957C ∧ 0x7FFF + logCode 557250000 = 0x9608 := by decide +kernel
/-- The pod die number of die 11 on tray 5,000, after R38. -/
theorem test_pod_die : podDie 5000 11 = 80011 := by decide
/-- The check value of CRC-64/ECMA-182 (R278), of the nine digits 1 to 9 with a register of 0. -/
theorem test_crc64 : crc64 [0x31, 0x32, 0x33, 0x34, 0x35, 0x36, 0x37, 0x38, 0x39] 0 = 0x6C40DF5F0B497347 := by decide +kernel
/-- FIPS 180-4: SHA-256 of abc begins with ba7816bf. -/
theorem test_sha256 : (sha256 [0x61, 0x62, 0x63]).take 4 = [0xba, 0x78, 0x16, 0xbf] := by decide +kernel
/-- FIPS 180-4: SHA-384 of abc begins with cb00753f. -/
theorem test_sha384 : (sha384 [0x61, 0x62, 0x63]).take 4 = [0xcb, 0x00, 0x75, 0x3f] := by decide +kernel
/-- R30 to R33: a granule and its poisoned form, one symbol error in each. -/
theorem test_k288_good : k288Decode (k288Encode (0xA7 * 2 ^ 200 + 0x31) false) = .good (0xA7 * 2 ^ 200 + 0x31) := by decide +kernel
theorem test_k288_poison : k288Decode (k288Encode 0x31 true) = .poison 0x31 := by decide +kernel
theorem test_k288_corrected : k288Decode (Nat.xor (k288Encode 0x31 false) (0x5A * 2 ^ 280)) = .corrected 0x31 := by decide +kernel
theorem test_k288_poison_error : k288Decode (Nat.xor (k288Encode 0x31 true) 0x5A) = .uncorrectable := by decide +kernel

/-- R41: INCREMENT is refused outside MANUAL. -/
theorem test_increment_refused_in_unset : outOf (exec (.incrementWrite 3 wF incNominal) State.reset) = some [.answer stRefused] := by
  decide
/-- R603: MODE 1 takes UNSET to MANUAL. -/
theorem test_mode_write_enters_manual : after (exec (.modeWrite 3 wF 1) State.reset) (.staris 3) O.TIME_STATE_2002 = some 4 := by
  decide
/-- R51: source 3 runs free. -/
theorem test_source_none_runs_free : after (exec (.sourceWrite wF 3) State.reset) .vager O.TIME_STATE_2101 = some 4 := by decide
/-- R70: a target less than 1 µs ahead is refused, and one 1 µs ahead is taken. -/
theorem test_arm_too_near :
    after (exec (.cmpArm 0 0 wF) (State.reset.wr (.staris 0) (O.CMP_TARGET_2010 0) 999)) (.staris 0) (O.CMP_ARM_2010 0) = some 0 := by
  decide
theorem test_arm_taken :
    after (exec (.cmpArm 0 0 wF) (State.reset.wr (.staris 0) (O.CMP_TARGET_2010 0) 1000)) (.staris 0) (O.CMP_ARM_2010 0) = some 1 := by
  decide
/-- R111: ADDI adds modulo 2^32 to XA, here X0 at 0 plus 2^32 - 1, and goes on. -/
theorem test_addi : (seqOf (exec (.addi 0 0) (cleatState (3 * 2 ^ 58 + (2 ^ 32 - 1)) 0))).map (fun x => (x.x0, x.pc)) =
    some (2 ^ 32 - 1, 1) := by decide
/-- R111: a reserved opcode is fault 1. -/
theorem test_reserved_opcode : (seqOf (exec (.reservedOpcode 0 0) (cleatState (7 * 2 ^ 58) 0))).map (fun x => (x.state, x.fault)) =
    some (.fault, 1) := by decide
/-- R475: a non-secure host writer does not reach a secure object. -/
theorem test_access : outOf (exec (.modeWrite 3 wH 1) State.reset) = some [.answer stAccess] := by decide
/-- R464: a sample that arrives while one is held is counted. -/
theorem test_hang_sample_discarded :
    after (exec (.hangSampleRx 0 [(0, false)]) (State.reset.wr .vager (O.HANG_SAMPLE_STATE_70C0 0) 2)) .vager
      (O.HANG_SAMPLES_DISCARDED_70C0 0) = some 1 := by decide
/-- An idle step is one tick of the time islands (log entry 1). -/
theorem test_idle_tick : after (step State.reset) .vager O.WRAP_WORD_2100 = some 0 := by decide +kernel

/-! ### The hypotheses of the statements are met: one theorem for each clause -/

theorem test_meets_StepTakesTheFrontCommand_1 :
    ∃ (c : Instr) (rest : List Instr) (s : State), s.pending = c :: rest :=
  ⟨_, _, { State.reset with pending := [.nop 0 0] }, rfl⟩

theorem test_meets_EmptyQueueTicks_1 :
    ∃ (s : State), s.pending = [] :=
  ⟨State.reset, by decide⟩

theorem test_meets_LanyardStarisCommandsComplete_1 :
    ∃ (s : State) (d : Die), 2 ^ 64 ≤ (s.die d).time.counter + (s.die d).time.inc :=
  ⟨(dieWith fun x => { x with time := { counter := 2 ^ 64 - 1 } }), 0, by decide⟩

theorem test_meets_LanyardStarisCommandsComplete_2 :
    ∃ (s : State) (d : Die) (w : Writer) (v : Nat), mayReach w true .fleet = true ∧ s.tstate (.staris d) = 4 ∧ incOk (v % 2 ^
      40) = true :=
  ⟨(State.reset|>.wr (.staris (0 : Die)) O.TIME_STATE_2002 4), 0, wF, incNominal, by decide, by decide, by decide⟩

theorem test_meets_LanyardStarisCommandsComplete_3 :
    ∃ (s : State) (d : Die) (w : Writer), mayReach w true .fleet = true ∧ (s.wr (.staris d) O.MODE_2001 1).tstate (.staris d) =
      0 :=
  ⟨State.reset, 0, wF, by decide, by decide⟩

theorem test_meets_LanyardStarisCommandsComplete_4 :
    ∃ (s : State) (d : Die) (w : Writer) (v : Nat), mayReach w true .fleet = true ∧ s.tstate (.staris d) = 4 :=
  ⟨(State.reset|>.wr (.staris (0 : Die)) O.TIME_STATE_2002 4), 0, wF, 0, by decide, by decide⟩

theorem test_meets_LanyardStarisCommandsComplete_5 :
    ∃ (s : State) (d : Die), (s.tstate (.staris d) = 1 ∨ s.tstate (.staris d) = 2) ∧ ((s.goStaris d 3).bump (.staris d)
      O.HOLDOVER_ENTRIES_2002 32).st d = (s.die d).time ∧ (s.die d).time.incs = [] :=
  ⟨(State.reset|>.wr (.staris (0 : Die)) O.TIME_STATE_2002 1), 0, by decide, by decide, by decide⟩

theorem test_meets_LanyardStarisCommandsComplete_6 :
    ∃ (s : State) (d : Die) (n : Fin 32) (w : Writer), mayReach w (cmpSecure n.val) (cmpRole n.val) = true ∧ s.armRefused d
      n.val = false :=
  ⟨(State.reset.wr (.staris 0) (O.CMP_TARGET_2010 0) 5000), 0, 0, wF, by decide, by decide⟩

theorem test_meets_LanyardStarisCommandsComplete_7 :
    ∃ (s : State) (d : Die) (n : Fin 32) (w : Writer), mayReach w (cmpSecure n.val) (cmpRole n.val) = true :=
  ⟨State.reset, 0, 0, wF, by decide⟩

theorem test_meets_LanyardStarisCommandsComplete_8 :
    ∃ (s : State) (d : Die) (n : Fin 32), s.cmpDue d n.val (s.ns (.staris d)) = true :=
  ⟨(State.reset.wr (.staris 0) (O.CMP_ARM_2010 0) 1), 0, 0, by decide⟩

theorem test_meets_LanyardVagerCommandsComplete_1 :
    ∃ (s : State), 2 ^ 64 ≤ s.vager.time.counter + s.vager.time.inc :=
  ⟨(vagerWith fun v => { v with time := { counter := 2 ^ 64 - 1 } }), by decide⟩

theorem test_meets_LanyardVagerCommandsComplete_2 :
    ∃ (s : State) (h : PtpHeader), h.domain = s.rd .vager O.DOMAIN_2102 ∧ h.transport = s.rd .vager O.TRANSPORT_2102 ∧
      s.ownStack = true ∧ s.rd .vager O.PROFILE_2102 = 0 ∧ s.vager.time.port = .master :=
  ⟨((vagerWith fun v => { v with time := { port := .master } }).wr .vager O.CN_STATE_7848 1), ptp0, by decide, by decide,
    by decide, by decide, by decide⟩

theorem test_meets_LanyardVagerCommandsComplete_3 :
    ∃ (s : State) (u : State) (h : PtpHeader) (g : PtpDataset) (origin : Nat) (c : Int), h.domain = s.rd .vager O.DOMAIN_2102 ∧
      h.transport = s.rd .vager O.TRANSPORT_2102 ∧ s.ownStack = true ∧ s.vager.time.gm = some g ∧ g.identity = h.identity ∧ u =
      s.setVt { s.vager.time with syncLog := some h.log, syncAt := s.vager.ticks } :=
  ⟨((vagerWith fun v => { v with time := { gm := some gm0 } }).wr .vager O.CN_STATE_7848 1), _, ptp0, _, 0, 0, by decide,
    by decide, by decide, rfl, by decide, rfl⟩

theorem test_meets_LanyardVagerCommandsComplete_4 :
    ∃ (s : State), s.announceLate = true ∧ s.rd .vager O.SLAVE_ONLY_2102 = 1 :=
  ⟨((vagerWith fun v => { v with ticks := 10 ^ 18, time := { gm := some gm0 } }).wr .vager O.SLAVE_ONLY_2102 1), by decide,
    by decide⟩

theorem test_meets_LanyardVagerCommandsComplete_5 :
    ∃ (s : State), s.syncLate = true ∧ s.announceLate = false :=
  ⟨(vagerWith fun v => { v with ticks := 10 ^ 18, time := { gm := some gm0, annAt := 10 ^ 18 } }), by decide, by decide⟩

theorem test_meets_LanyardVagerCommandsComplete_6 :
    ∃ (s : State) (u : State) (q : Nat) (m : Nat) (n : Nat), m % 16 = 0 ∧ s.vager.time.tsq.length < 64 ∧ u = (s.setVt
      { s.vager.time with tsq := s.vager.time.tsq ++ [{ seqId := q % 2 ^ 16, msgType := 0, domain := n % 256, time := s.extNow }] }).showTsq.emit
      (.ptp 0 (q % 2 ^ 16) none none) ∧ u.ownStack = true :=
  ⟨(State.reset.wr .vager O.CN_STATE_7848 1), _, 0, 0, 0, by decide, by decide, rfl, by decide⟩

theorem test_meets_LanyardVagerCommandsComplete_7 :
    ∃ (s : State) (q : Nat) (m : Nat) (n : Nat), m % 16 = 0 ∧ 64 ≤ s.vager.time.tsq.length :=
  ⟨(vagerWith fun v => { v with time := { tsq := List.replicate 64 ⟨0, 0, 0, 0⟩ } }), 0, 0, 0, by decide, by decide⟩

theorem test_meets_LanyardVagerCommandsComplete_8 :
    ∃ (s : State) (w : Writer), mayReach w false .host = true :=
  ⟨State.reset, wF, by decide⟩

theorem test_meets_LanyardVagerCommandsComplete_9 :
    ∃ (s : State) (w : Writer), mayReach w true .fleet = true ∧ s.tstate .vager ≠ 5 :=
  ⟨State.reset, wF, by decide, by decide⟩

theorem test_meets_LanyardVagerCommandsComplete_10 :
    ∃ (s : State) (w : Writer) (n : Nat), mayReach w true .fleet = true ∧ s.secondsAllowed = true :=
  ⟨(State.reset.wr .vager O.SOURCE_2101 3), wF, 0, by decide, by decide⟩

theorem test_meets_LanyardVagerCommandsComplete_11 :
    ∃ (s : State) (u : State) (n : Nat) (whole : Nat), s.vager.time.secondsStep = some (n, whole) ∧ whole ≤ s.extNow ∧ u =
      s.setVt { s.vager.time with secondsStep := none } ∧ u.secondsAllowed = true :=
  ⟨((vagerWith fun v => { v with time := { secondsStep := some (5, 0) } }).wr .vager O.SOURCE_2101 3), _, _, _, rfl, by decide,
    rfl, by decide⟩

theorem test_meets_LanyardVagerCommandsComplete_12 :
    ∃ (s : State), (s.rd .vager O.SOURCE_2101 = 0 ∨ s.rd .vager O.SOURCE_2101 = 3) :=
  ⟨(State.reset|>.wr .vager O.SOURCE_2101 0), by decide⟩

theorem test_meets_LanyardVagerCommandsComplete_13 :
    ∃ (s : State) (k : Nat), s.rd .vager O.PPS_OUT_ENABLE_2104 = 1 ∧ s.rd .vager O.PPS_OUT_WHEN_2104 = 0 ∧ (s.tstate .vager = 2
      ∨ s.tstate .vager = 3) ∧ (s.extNow : Int) - toSigned 32 (s.rd .vager O.PPS_OUT_OFFSET_2104) = (k : Int) * 10 ^ 9 ∧
      s.vager.time.ppsLast ≠ some k :=
  ⟨(State.reset|>.wr .vager O.PPS_OUT_ENABLE_2104 1|>.wr .vager O.PPS_OUT_WHEN_2104 0|>.wr .vager O.TIME_STATE_2101 2), 0,
    by decide, by decide, by decide, by decide, by decide⟩

theorem test_meets_LanyardVagerCommandsComplete_14 :
    ∃ (s : State) (d : Die), s.tstate (.staris d) ≠ 5 :=
  ⟨State.reset, 0, by decide⟩

theorem test_meets_LanyardVagerCommandsComplete_15 :
    ∃ (s : State) (u : State) (d : Die), s.tstate (.staris d) = 5 ∧ u = ((s.setSt d
      { s.st d with counter := 0, wraps := 0, incs := [] }).setInc d incNominal).goStaris d 0 ∧ u.rd (.staris d) O.MODE_2001 = 0
      :=
  ⟨(State.reset|>.wr (.staris (0 : Die)) O.TIME_STATE_2002 5), _, 0, by decide, rfl, by decide⟩

theorem test_meets_TimeWordsComplete_1 :
    ∃ (s : State) (d : Die) (word : Nat) (poison : Bool), (bits word 7 0 ≠ 1 ∨ poison = true) :=
  ⟨State.reset, 0, 0, false, by decide⟩

theorem test_meets_TimeWordsComplete_2 :
    ∃ (s : State) (v : State) (d : Die) (word : Nat) (l : Nat), bits word 7 0 = 1 ∧ (s.st d).lastSeq = some l ∧ 1 ≤ subMod 16
      (bits word 31 16) l ∧ subMod 16 (bits word 31 16) l ≤ 32767 ∧ v = ((s.setSt d
      { s.st d with lastSeq := some (bits word 31 16) }).bump (.staris d) O.TW_ACCEPTED_2002 32).wr (.staris d)
      O.UPSTREAM_HOLDOVER_2002 (ofBool (bitAt word 10)) :=
  ⟨(dieWith fun x => { x with time := { lastSeq := some 0 } }), _, 0, 1 + 2 ^ 16, _, by decide, rfl, by decide, by decide, rfl⟩

theorem test_meets_TimeWordsComplete_3 :
    ∃ (s : State) (p : Die) (word : Nat), bits word 7 0 = 2 ∧ (s.pt p).sent = [] :=
  ⟨State.reset, 0, 2, by decide, by decide⟩

theorem test_meets_TimeWordsComplete_4 :
    ∃ (s : State) (u : State) (v : State) (p : Die) (word : Nat) (y : SentWord), bits word 7 0 = 2 ∧ bits word 15 12 ≠ 5 ∧ u =
      s.wr .vager (O.PORT_STARIS_STATE_2110 p.val) (bits word 15 12) ∧ (u.pt p).sent.find? (fun x => x.seq == bits word 47 32) =
      some y ∧ y.void = false ∧ v = u.setPt p { u.pt p with sent := (u.pt p).sent.erase y } :=
  ⟨(vagerWith fun v => { v with ports := [(0, { sent := [{ seq := 0, tx := 0 }] })] }), _, _, 0, 2, _, by decide, by decide,
    rfl, rfl, by decide, rfl⟩

theorem test_meets_EventAndCounterCommandsComplete_1 :
    ∃ (s : State) (u : State) (d : Die) (i : Fin 4096) (h : Bool), u = s.setCap d
      { s.cap d with level := Tbl.set (fun _ => false) (s.cap d).level i.val h } ∧ u.inputActive d i.val = true :=
  ⟨State.reset, _, 0, 0, true, rfl, by decide⟩

theorem test_meets_EventAndCounterCommandsComplete_2 :
    ∃ (s : State) (u : State) (d : Die) (w : Writer) (l : List Nat) (old : List Nat) (kept : List Nat), mayReach w true
      .operator = true ∧ l.length ≤ 512 ∧ u = s.writeOctets (.staris d) O.EVT_POLARITY_3000 512 l ∧ old = s.bytesAt (.staris d)
      O.EVT_STUCK_NOW_3000 0 512 ∧ kept = (old.zip ((s.bytesAt (.staris d) O.EVT_POLARITY_3000 0 512).zip (u.bytesAt (.staris d)
      O.EVT_POLARITY_3000 0 512))).map (fun x => Nat.land x.1 (255 - Nat.xor x.2.1 x.2.2)) :=
  ⟨State.reset, _, 0, wF, [], _, _, by decide, by decide, rfl, rfl, rfl⟩

theorem test_meets_EventAndCounterCommandsComplete_3 :
    ∃ (s : State) (d : Die) (i : Nat), i < 4096 ∧ s.inputActive d i = true ∧ s.obit (.staris d) O.EVT_STUCK_SEEN_3000 i = true
      :=
  ⟨((dieWith fun x => { x with cap := { level := [(0, true)] } }).setObit (.staris 0) O.EVT_STUCK_SEEN_3000 0 true), 0, 0,
    by decide, by decide, by decide⟩

theorem test_meets_EventAndCounterCommandsComplete_4 :
    ∃ (s : State) (d : Die) (w : Writer) (l : List Nat), mayReach w true .operator = true ∧ l.length ≤ 512 :=
  ⟨State.reset, 0, wF, [], by decide, by decide⟩

theorem test_meets_EventAndCounterCommandsComplete_5 :
    ∃ (s : State) (d : Die) (w : Writer) (n : Fin 65536) (v : Nat), mayReach w false .host = true ∧ cfgEdge (cfgClean v) ≠ 3 ∧
      cfgQkind (cfgClean v) = 1 ∧ sourceDefined (cfgSource (cfgClean v)) = true ∧ (s.ctr d n.val).global = false ∧ cfgGlobal
      (cfgClean v) = false ∧ s.bankSpent d 0 (n.val / 1024) = false :=
  ⟨State.reset, 0, wF, 0, 2 ^ 29, by decide, by decide, by decide, by decide, by decide, by decide, by decide⟩

theorem test_meets_EventAndCounterCommandsComplete_6 :
    ∃ (s : State) (d : Die) (w : Writer) (n : Fin 65536), mayReach w false .host = true ∧ (w.secure = true ∨ (s.ctr d
      n.val).global = false) :=
  ⟨State.reset, 0, wF, 0, by decide, by decide⟩

theorem test_meets_EventAndCounterCommandsComplete_7 :
    ∃ (s : State) (t : State) (d : Die) (a : FiredAction), s.takeAction d 3 none = some (a, t) :=
  ⟨(firedWith 3 0), _, 0, _, rfl⟩

theorem test_meets_EventAndCounterCommandsComplete_8 :
    ∃ (s : State) (d : Die) (w : Writer), mayReach w true .operator = true :=
  ⟨State.reset, 0, wF, by decide⟩

theorem test_meets_SensorAndMarginCommandsComplete_1 :
    ∃ (s : State) (u : State) (d : Die) (n : Fin 64) (v : Int), u = (s.setElem (.staris d) O.THERMAL_3030 2 n.val (ofSigned 16
      v)).advanceSequence d n.val ∧ toSigned 16 (ofSigned 16 v) ≤ toSigned 32 (s.rd (.staris d) O.THERMAL_LIMIT_3030) :=
  ⟨State.reset, _, 0, 0, 0, rfl, by decide⟩

theorem test_meets_SensorAndMarginCommandsComplete_2 :
    ∃ (s : State) (t : State) (d : Die) (c : Fin 4) (a : FiredAction), s.takeAction d 1 (some c.val) = some (a, t) :=
  ⟨(firedWith 1 0), _, 0, 0, _, rfl⟩

theorem test_meets_SensorAndMarginCommandsComplete_3 :
    ∃ (s : State) (t : State) (d : Die) (c : Fin 4) (a : FiredAction), s.takeAction d 1 (some (4 + c.val)) = some (a, t) :=
  ⟨(firedWith 1 4), _, 0, 0, _, rfl⟩

theorem test_meets_SensorAndMarginCommandsComplete_4 :
    ∃ (s : State) (d : Die) (c : Fin 4), s.rd (.staris d) (O.SEQ_PERIOD_3040 c.val) ≠ 0 :=
  ⟨(State.reset|>.wr (.staris (0 : Die)) (O.SEQ_PERIOD_3040 (0 : Fin 4).val) 1), 0, 0, by decide⟩

theorem test_meets_SensorAndMarginCommandsComplete_5 :
    ∃ (s : State) (u : State) (d : Die) (n : Fin 128), s.marginOn d 0 = false ∧ (u = s.setCap d
      { s.cap d with streams := (s.cap d).streams.map fun e => (e.1, if e.2.kind = 6 ∧ e.2.index = n.val then { e.2 with trips := e.2.trips + 1 } else e.2) })
      :=
  ⟨State.reset, _, 0, 0, by decide, rfl⟩

theorem test_meets_SensorAndMarginCommandsComplete_6 :
    ∃ (s : State) (d : Die) (n : Fin 256), (s.cap d).sweeping ≠ some n.val :=
  ⟨State.reset, 0, 0, by decide⟩

theorem test_meets_SensorAndMarginCommandsComplete_7 :
    ∃ (s : State) (d : Die) (w : Writer) (l : List Nat), mayReach w true .operator = true ∧ l.length ≤ 256 :=
  ⟨(State.reset.wr (.staris 0) O.MARGIN_ENABLE_3050 2), 0, wF, [], by decide, by decide⟩

theorem test_meets_SensorAndMarginCommandsComplete_8 :
    ∃ (s : State) (d : Die), s.marginOn d 1 = true ∧ (s.cap d).sweeping = none :=
  ⟨(State.reset.wr (.staris 0) O.MARGIN_ENABLE_3050 2), 0, by decide, by decide⟩

theorem test_meets_SensorAndMarginCommandsComplete_9 :
    ∃ (s : State) (d : Die) (r : Fin 16) (b : Bool) (m : MarginSearch), Tbl.find (s.cap d).vSearch r.val = some m ∧ s.marginOn d
      0 = true ∧ (m.step b).tries < 8 :=
  ⟨((dieWith fun x => { x with cap := { vSearch := [(0, {})] } }).wr (.staris 0) O.MARGIN_ENABLE_3050 1), 0, 0, false, _, rfl,
    by decide, by decide⟩

theorem test_meets_SensorAndMarginCommandsComplete_10 :
    ∃ (s : State) (d : Die) (n : Fin 256) (b : Bool), (s.cap d).sweeping = some n.val ∧ s.marginOn d 1 = true ∧ ((s.cap
      d).tSearch.step b).tries < 8 :=
  ⟨((dieWith fun x => { x with cap := { sweeping := some 0 } }).wr (.staris 0) O.MARGIN_ENABLE_3050 2), 0, 0, false, by decide,
    by decide, by decide⟩

theorem test_meets_StreamAndDumpCommandsComplete_1 :
    ∃ (s : State) (d : Die) (w : Writer) (b : Bool), mayReach w false .host = true :=
  ⟨State.reset, 0, wF, false, by decide⟩

theorem test_meets_StreamAndDumpCommandsComplete_2 :
    ∃ (s : State) (u : State) (d : Die), s.rd (.staris d) O.STREAM_START_ARM_3060 = 1 ∧ s.tstate (.staris d) ≠ 5 ∧ reached (s.ns
      (.staris d)) (s.rd (.staris d) O.STREAM_START_3060) = true ∧ u = s.wr (.staris d) O.STREAM_START_ARM_3060 0 :=
  ⟨(State.reset|>.wr (.staris (0 : Die)) O.STREAM_START_ARM_3060 1), _, 0, by decide, by decide, by decide, rfl⟩

theorem test_meets_StreamAndDumpCommandsComplete_3 :
    ∃ (s : State) (u : State) (v : State) (d : Die) (n : Fin 65536) (x : SStream), x = s.sstream d n.val ∧ x.enable = true ∧
      x.period ≠ 0 ∧ (s.cap d).started.isSome = true ∧ s.tstate (.staris d) ≠ 5 ∧ reached (s.ns (.staris d)) x.next = true ∧ u =
      (if 2000 < subMod 32 (s.ns (.staris d)) x.next then s.bump (.staris d) O.STREAM_LATE_3060 32 else s) ∧ v = u.setSstream d
      n.val { x with next := (x.next + 10000 * x.period) % 2 ^ 32 } :=
  ⟨(dieWith fun x => { x with cap := { streams := [(0, { enable := true })], started := some 0 } }), _, _, 0, 0, _, rfl,
    by decide, by decide, by decide, by decide, by decide, rfl, rfl⟩

theorem test_meets_StreamAndDumpCommandsComplete_4 :
    ∃ (s : State) (u : State) (d : Die) (w : Writer) (n : Fin 65536) (x : SStream), mayReach w false .host = true ∧ x =
      s.sstream d n.val ∧ (w.secure = true ∨ s.globalSource d x.source = false) ∧ fastPeriod x.period = false ∧ u = s.setSstream
      d n.val { x with enable := true, byNs := !w.secure } :=
  ⟨State.reset, _, 0, wF, 0, _, by decide, rfl, by decide, by decide, rfl⟩

theorem test_meets_StreamAndDumpCommandsComplete_5 :
    ∃ (s : State) (u : State) (d : Die) (w : Writer) (n : Fin 65536) (x : SStream) (a : Nat) (b : Nat), mayReach w false .host =
      true ∧ x = s.sstream d n.val ∧ x.enable = false ∧ u = s.setSstream d n.val
      { x with period := a % 2 ^ 16, phase := b % 2 ^ 32 } :=
  ⟨State.reset, _, 0, wF, 0, _, 0, 0, by decide, rfl, by decide, rfl⟩

theorem test_meets_StreamAndDumpCommandsComplete_6 :
    ∃ (s : State) (d : Die) (w : Writer) (n : Fin 65536) (x : SStream) (v : Nat) (c : Nat), mayReach w false .host = true ∧ x =
      s.sstream d n.val ∧ x.enable = false ∧ c = fld 28 4 (v / 2 ^ 28) + v % 2 ^ 16 ∧ bits c 31 28 < 9 ∧ indexDefined (bits c 31
      28) (bits c 15 0) = true :=
  ⟨State.reset, 0, wF, 0, _, 0, _, by decide, rfl, by decide, rfl, by decide, by decide⟩

theorem test_meets_StreamAndDumpCommandsComplete_7 :
    ∃ (s : State) (u : State) (d : Die) (w : Writer) (n : Fin 16), mayReach w false .host = true ∧ (w.secure = true ∨ s.rd
      (.staris d) (O.DUMP_EPOCH_3070 n.val) ≠ 0) ∧ u = ((s.setDslot d n.val { s.dslot d n.val with triggered := false }).wr
      (.staris d) (O.DUMP_STATUS_3070 n.val) 0).wr (.staris d) (O.DUMP_BYTES_3070 n.val) 0 :=
  ⟨State.reset, _, 0, wF, 0, by decide, by decide, rfl⟩

theorem test_meets_StreamAndDumpCommandsComplete_8 :
    ∃ (s : State) (t : State) (d : Die) (n : Fin 16) (a : FiredAction), s.takeAction d 6 (some n.val) = some (a, t) :=
  ⟨(firedWith 6 0), _, 0, 0, _, rfl⟩

theorem test_meets_StreamAndDumpCommandsComplete_9 :
    ∃ (s : State) (d : Die) (n : Fin 16) (c : DumpCopy), (s.dslot d n.val).copy = some c ∧ c.held = true :=
  ⟨(dieWith fun x => { x with cap := { dumps := [(0, { copy := some { held := true } })] } }), 0, 0, _, rfl, by decide⟩

theorem test_meets_StreamAndDumpCommandsComplete_10 :
    ∃ (s : State) (d : Die) (n : Fin 16) (c : DumpCopy) (l : List (Nat × Bool)), (s.dslot d n.val).copy = some c ∧ s.dumpWaits d
      n.val = false ∧ bitAt (s.rd (.staris d) (O.DUMP_STATUS_3070 n.val)) 5 = false ∧ l.length = granulesOf c.bytes ∧
      (s.dumpSend d n.val (s.dumpMessage d n.val c l) none).2 = l.length + 2 :=
  ⟨(dieWith fun x => { x with cap := { dumps := [(0, { copy := some {} })] } }), 0, 0, _, [], rfl, by decide, by decide,
    by decide, by decide⟩

theorem test_meets_CleatInstructionsComplete_1 :
    ∃ (s : State) (d : Die) (q : Fin 8) (x : Seq) (w : Nat), cleatAt s d q.val 0 x w :=
  ⟨(cleatState (0 * 2 ^ 58) 0), 0, 0, cleatSeq, 0 * 2 ^ 58, by unfold cleatAt; decide⟩

theorem test_meets_CleatInstructionsComplete_2 :
    ∃ (s : State) (d : Die) (q : Fin 8) (x : Seq) (w : Nat), cleatAt s d q.val 1 x w :=
  ⟨(cleatState (1 * 2 ^ 58) 0), 0, 0, cleatSeq, 1 * 2 ^ 58, by unfold cleatAt; decide⟩

theorem test_meets_CleatInstructionsComplete_3 :
    ∃ (s : State) (d : Die) (q : Fin 8) (x : Seq) (w : Nat), cleatAt s d q.val 2 x w :=
  ⟨(cleatState (2 * 2 ^ 58) 0), 0, 0, cleatSeq, 2 * 2 ^ 58, by unfold cleatAt; decide⟩

theorem test_meets_CleatInstructionsComplete_4 :
    ∃ (s : State) (d : Die) (q : Fin 8) (x : Seq) (w : Nat), cleatAt s d q.val 3 x w :=
  ⟨(cleatState (3 * 2 ^ 58) 0), 0, 0, cleatSeq, 3 * 2 ^ 58, by unfold cleatAt; decide⟩

theorem test_meets_CleatInstructionsComplete_5 :
    ∃ (s : State) (d : Die) (q : Fin 8) (x : Seq) (w : Nat), cleatAt s d q.val 4 x w :=
  ⟨(cleatState (4 * 2 ^ 58) 0), 0, 0, cleatSeq, 4 * 2 ^ 58, by unfold cleatAt; decide⟩

theorem test_meets_CleatInstructionsComplete_6 :
    ∃ (s : State) (d : Die) (q : Fin 8) (x : Seq) (w : Nat), cleatAt s d q.val 5 x w :=
  ⟨(cleatState (5 * 2 ^ 58) 0), 0, 0, cleatSeq, 5 * 2 ^ 58, by unfold cleatAt; decide⟩

theorem test_meets_CleatInstructionsComplete_7 :
    ∃ (s : State) (d : Die) (q : Fin 8) (x : Seq) (w : Nat), cleatAt s d q.val 6 x w ∧ s.seqMayCount d q.val (iArg w) = true :=
  ⟨(cleatState (6 * 2 ^ 58) 0), 0, 0, cleatSeq, 6 * 2 ^ 58, by unfold cleatAt; decide, by decide⟩

theorem test_meets_CleatInstructionsComplete_8 :
    ∃ (s : State) (d : Die) (q : Fin 8) (x : Seq) (w : Nat), cleatAt s d q.val 0x10 x w :=
  ⟨(cleatState (0x10 * 2 ^ 58) 0), 0, 0, cleatSeq, 0x10 * 2 ^ 58, by unfold cleatAt; decide⟩

theorem test_meets_CleatInstructionsComplete_9 :
    ∃ (s : State) (d : Die) (q : Fin 8) (x : Seq) (w : Nat), cleatAt s d q.val 0x11 x w :=
  ⟨(cleatState (0x11 * 2 ^ 58) 0), 0, 0, cleatSeq, 0x11 * 2 ^ 58, by unfold cleatAt; decide⟩

theorem test_meets_CleatInstructionsComplete_10 :
    ∃ (s : State) (d : Die) (q : Fin 8) (x : Seq) (w : Nat), cleatAt s d q.val 0x12 x w :=
  ⟨(cleatState (0x12 * 2 ^ 58) 0), 0, 0, cleatSeq, 0x12 * 2 ^ 58, by unfold cleatAt; decide⟩

theorem test_meets_CleatInstructionsComplete_11 :
    ∃ (s : State) (d : Die) (q : Fin 8) (x : Seq) (w : Nat), cleatAt s d q.val 0x13 x w :=
  ⟨(cleatState (0x13 * 2 ^ 58) 0), 0, 0, cleatSeq, 0x13 * 2 ^ 58, by unfold cleatAt; decide⟩

theorem test_meets_CleatInstructionsComplete_12 :
    ∃ (s : State) (d : Die) (q : Fin 8) (x : Seq) (w : Nat), cleatAt s d q.val 0x14 x w :=
  ⟨(cleatState (0x14 * 2 ^ 58) 0), 0, 0, cleatSeq, 0x14 * 2 ^ 58, by unfold cleatAt; decide⟩

theorem test_meets_CleatInstructionsComplete_13 :
    ∃ (s : State) (d : Die) (q : Fin 8) (x : Seq), x = s.seqr d q.val ∧ x.state = .running ∧ iOp (s.instrAt d q.val x.pc) ∉
      definedOps :=
  ⟨(cleatState (7 * 2 ^ 58) 0), 0, 0, _, rfl, by decide, by decide⟩

theorem test_meets_CleatWaitsAndActionsComplete_1 :
    ∃ (s : State) (d : Die) (q : Fin 8) (x : Seq) (w : Nat), cleatAt s d q.val 8 x w :=
  ⟨(cleatState (8 * 2 ^ 58) 0), 0, 0, cleatSeq, 8 * 2 ^ 58, by unfold cleatAt; decide⟩

theorem test_meets_CleatWaitsAndActionsComplete_2 :
    ∃ (s : State) (d : Die) (q : Fin 8) (x : Seq) (w : Nat), cleatAt s d q.val 9 x w :=
  ⟨(cleatState (9 * 2 ^ 58) 0), 0, 0, cleatSeq, 9 * 2 ^ 58, by unfold cleatAt; decide⟩

theorem test_meets_CleatWaitsAndActionsComplete_3 :
    ∃ (s : State) (d : Die) (q : Fin 8) (x : Seq) (w : Nat), cleatAt s d q.val 10 x w ∧ s.seqMayCount d q.val (iArg w) = true :=
  ⟨(cleatState (10 * 2 ^ 58) 0), 0, 0, cleatSeq, 10 * 2 ^ 58, by unfold cleatAt; decide, by decide⟩

theorem test_meets_CleatWaitsAndActionsComplete_4 :
    ∃ (s : State) (d : Die) (q : Fin 8) (x : Seq) (w : Nat), cleatAt s d q.val 11 x w :=
  ⟨(cleatState (11 * 2 ^ 58) 0), 0, 0, cleatSeq, 11 * 2 ^ 58, by unfold cleatAt; decide⟩

theorem test_meets_CleatWaitsAndActionsComplete_5 :
    ∃ (s : State) (d : Die) (q : Fin 8) (x : Seq), x = s.seqr d q.val ∧ x.state = .waiting ∧ s.waitHolds d x = true :=
  ⟨(dieWith fun x => { x with cap := { seqs := [(0, { state := .waiting, wait := .time 0 })] } }), 0, 0, _, rfl, by decide,
    by decide⟩

theorem test_meets_CleatWaitsAndActionsComplete_6 :
    ∃ (s : State) (d : Die) (q : Fin 8) (x : Seq), x = s.seqr d q.val ∧ x.state = .waiting ∧ s.waitExpired d x = true ∧
      s.waitHolds d x = false :=
  ⟨(dieWith fun x => { x with cap := { seqs := [(0, { state := .waiting, wait := .signal (some 0) })] } }), 0, 0, _, rfl,
    by decide, by decide, by decide⟩

theorem test_meets_CleatWaitsAndActionsComplete_7 :
    ∃ (s : State) (d : Die) (q : Fin 8) (x : Seq) (w : Nat), cleatAt s d q.val 0x18 x w ∧ iImm w % 256 < 8 ∧ actionArgOk (iImm w
      % 256) (iArg w) = true ∧ (seqSecure q.val = true ∨ (iImm w % 256 ≠ 1 ∧ iImm w % 256 ≠ 3)) :=
  ⟨(cleatState (0x18 * 2 ^ 58) 0), 0, 0, cleatSeq, 0x18 * 2 ^ 58, by unfold cleatAt; decide, by decide, by decide, by decide⟩

theorem test_meets_CleatWaitsAndActionsComplete_8 :
    ∃ (s : State) (d : Die) (q : Fin 8) (x : Seq) (w : Nat), cleatAt s d q.val 0x19 x w ∧ iArg w < 32 ∧ cmpSecure (iArg w) =
      seqSecure q.val :=
  ⟨(cleatState (0x19 * 2 ^ 58) 0), 0, 0, cleatSeq, 0x19 * 2 ^ 58, by unfold cleatAt; decide, by decide, by decide⟩

theorem test_meets_CleatWaitsAndActionsComplete_9 :
    ∃ (s : State) (d : Die) (q : Fin 8) (x : Seq) (w : Nat), cleatAt s d q.val 0x1A x w ∧ ((s.setSeqr d q.val x.next).sstream d
      (iArg w)).enable = true :=
  ⟨(cleatState (0x1A * 2 ^ 58) 0)|>.setSstream 0 0 { enable := true }, 0, 0, cleatSeq, 0x1A * 2 ^ 58, by unfold cleatAt; decide,
    by decide⟩

theorem test_meets_CleatWaitsAndActionsComplete_10 :
    ∃ (s : State) (d : Die) (q : Fin 8) (x : Seq) (w : Nat), cleatAt s d q.val 0x1B x w ∧ (s.sstream d (iArg w)).kind = 8 ∧
      (s.sstream d (iArg w)).enable = true :=
  ⟨(cleatState (0x1B * 2 ^ 58) 0)|>.setSstream 0 0 { enable := true, source := 8 * 2 ^ 28 }, 0, 0, cleatSeq, 0x1B * 2 ^ 58,
    by unfold cleatAt; decide, by decide, by decide⟩

theorem test_meets_CleatWaitsAndActionsComplete_11 :
    ∃ (s : State) (d : Die) (q : Fin 8) (x : Seq) (w : Nat), cleatAt s d q.val 0x1C x w :=
  ⟨(cleatState (0x1C * 2 ^ 58) 0), 0, 0, cleatSeq, 0x1C * 2 ^ 58, by unfold cleatAt; decide⟩

theorem test_meets_CleatWaitsAndActionsComplete_12 :
    ∃ (s : State) (d : Die) (q : Fin 8) (x : Seq) (w : Nat), cleatAt s d q.val 0x1D x w :=
  ⟨(cleatState (0x1D * 2 ^ 58) 0), 0, 0, cleatSeq, 0x1D * 2 ^ 58, by unfold cleatAt; decide⟩

theorem test_meets_CleatWaitsAndActionsComplete_13 :
    ∃ (s : State) (t : State) (d : Die) (q : Fin 8) (a : FiredAction), s.takeAction d 7 (some q.val) = some (a, t) :=
  ⟨(firedWith 7 0), _, 0, 0, _, rfl⟩

theorem test_meets_CleatWaitsAndActionsComplete_14 :
    ∃ (s : State) (d : Die) (w : Writer) (q : Fin 8) (l : List Nat), mayReach w (seqSecure q.val) (seqRole q.val) = true ∧
      l.length ≤ 2048 ∧ (s.seqr d q.val).state = .idle :=
  ⟨State.reset, 0, wF, 0, [], by decide, by decide, by decide⟩

theorem test_meets_CleatWaitsAndActionsComplete_15 :
    ∃ (s : State) (d : Die) (w : Writer) (q : Fin 8), mayReach w (seqSecure q.val) (seqRole q.val) = true :=
  ⟨State.reset, 0, wF, 0, by decide⟩

theorem test_meets_TraceCommandsComplete_1 :
    ∃ (s : State) (u : State) (v : State) (x : State) (d : Die) (n : Fin 256) (c : Nat) (t : TrcWord), u = s.setTsrc d n.val
      { s.tsrc d n.val with cyc := (s.tsrc d n.val).cyc + c, addr := t.addr, sec := t.sec, priv := t.priv } ∧ u.excluded d n.val
      = false ∧ v = u.setTsrc d n.val { u.tsrc d n.val with clear := t.addr } ∧ ((∀ a, a < 16 → sourceNamed (v.rd (.staris d)
      (O.ACMP_SOURCE_3420 a)) n.val = false ∨ v.rd (.staris d) (O.ACMP_ADDR_3420 a) ≠ t.addr)) ∧ x = v.retrace d n.val ∧ (x.tsrc
      d n.val).quiet = false :=
  ⟨State.reset, _, _, _, 0, 0, 0, { addr := 4, aux := 0, opc := 0, sec := false, priv := false }, rfl, by decide, rfl,
    by decide, rfl, by decide⟩

theorem test_meets_TraceCommandsComplete_2 :
    ∃ (s : State) (d : Die) (n : Fin 256), (s.tsrc d n.val).traced = true ∧ (s.tsrc d n.val).quiet = false :=
  ⟨(dieWith fun x => { x with trace := { sources := [(0, { traced := true })] } }), 0, 0, by decide, by decide⟩

theorem test_meets_TraceCommandsComplete_3 :
    ∃ (s : State) (d : Die), s.rd (.staris d) O.PENNANT_MODE_3400 = 1 ∧ s.allIdle d = false :=
  ⟨((dieWith fun x => { x with trace := { cfgs := [(0, .active)] } }).wr (.staris 0) O.PENNANT_MODE_3400 1), 0, by decide,
    by decide⟩

theorem test_meets_TraceCommandsComplete_4 :
    ∃ (s : State) (u : State) (d : Die) (n : Fin 256) (c : Nat), (s.tsrc d n.val).traced = false ∧ u = s.setTsrc d n.val
      { s.tsrc d n.val with cyc := (s.tsrc d n.val).cyc + c } :=
  ⟨State.reset, _, 0, 0, 0, by decide, rfl⟩

theorem test_meets_TraceCommandsComplete_5 :
    ∃ (s : State) (u : State) (v : State) (d : Die) (n : Fin 256) (c : Nat), (s.tsrc d n.val).traced = true ∧ (s.tsrc d
      n.val).quiet = false ∧ u = s.setTsrc d n.val { s.tsrc d n.val with cyc := (s.tsrc d n.val).cyc + c } ∧ v =
      (u.emitAfterAtoms d n.val fun cyc => lpEntryWord cyc n.val).1 :=
  ⟨(dieWith fun x => { x with trace := { sources := [(0, { traced := true })] } }), _, _, 0, 0, 0, by decide, by decide, rfl,
    rfl⟩

theorem test_meets_TraceCommandsComplete_6 :
    ∃ (s : State) (u : State) (d : Die) (n : Fin 256), (s.tsrc d n.val).traced = true ∧ (s.tsrc d n.val).lowPower = true ∧
      (s.tsrc d n.val).inReset = false ∧ u = (s.setTsrc d n.val { s.tsrc d n.val with lowPower := false, cyc := 0 }).setObit
      (.staris d) O.SRC_LOW_POWER_3401 n.val false :=
  ⟨(dieWith fun x => { x with trace := { sources := [(0, { traced := true, lowPower := true })] } }), _, 0, 0, by decide,
    by decide, by decide, rfl⟩

theorem test_meets_TraceCommandsComplete_7 :
    ∃ (s : State) (t : State) (d : Die) (c : Fin 4) (a : FiredAction), s.takeAction d 4 (some c.val) = some (a, t) :=
  ⟨(firedWith 4 0), _, 0, 0, _, rfl⟩

theorem test_meets_TraceCommandsComplete_8 :
    ∃ (s : State) (t : State) (d : Die) (c : Fin 4) (a : FiredAction), s.takeAction d 5 (some c.val) = some (a, t) :=
  ⟨(firedWith 5 0), _, 0, 0, _, rfl⟩

theorem test_meets_TraceCommandsComplete_9 :
    ∃ (s : State) (d : Die) (w : Writer) (c : Fin 4), mayReach w false .operator = true :=
  ⟨State.reset, 0, wF, 0, by decide⟩

theorem test_meets_TraceCommandsComplete_10 :
    ∃ (s : State) (d : Die) (w : Writer) (v : Nat), mayReach w false .operator = true ∧ v ≤ 1 ∧ s.allIdle d = true :=
  ⟨State.reset, 0, wF, 0, by decide, by decide, by decide⟩

theorem test_meets_TraceCommandsComplete_11 :
    ∃ (s : State) (d : Die) (w : Writer) (v : Nat), mayReach w false .operator = true ∧ v ≤ 2 ∧ ((s.tr d).unit = .idle ∨ (s.tr
      d).unit = .frozen) :=
  ⟨State.reset, 0, wF, 0, by decide, by decide, by decide⟩

theorem test_meets_TraceCommandsComplete_12 :
    ∃ (s : State) (d : Die) (w : Writer) (b : Bool), mayReach w false .operator = true :=
  ⟨State.reset, 0, wF, false, by decide⟩

theorem test_meets_TraceSinkCommandsComplete_1 :
    ∃ (s : State) (d : Die), (s.tr d).queue = [] :=
  ⟨State.reset, 0, by decide⟩

theorem test_meets_TraceSinkCommandsComplete_2 :
    ∃ (s : State) (u : State) (d : Die) (g : TGran) (q : List TGran), (s.tr d).queue = g :: q ∧ 4 ≤ g.words.length ∧ s.rd
      (.staris d) O.SINK_FAULT_3400 ≠ 1 ∧ (s.tr d).freezing = false ∧ s.sinkTakes d = true ∧ s.sinkPut d g = some u :=
  ⟨(dieWith fun x => { x with trace := { queue := [{ words := [0, 0, 0, 0] }] } }), _, 0, _, _, rfl, by decide, by decide,
    by decide, by decide, rfl⟩

theorem test_meets_TraceSinkCommandsComplete_3 :
    ∃ (s : State) (u : State) (d : Die) (w : Writer), mayReach w false .operator = true ∧ (s.tr d).unit = .frozen ∧ u =
      [O.WRITE_PTR_3450, O.WRAPPED_3450, O.SINK_FAULT_3400, O.TRIG_STATUS_3460, O.TRIG_TIME_3460, O.TRIG_OFFSET_3460,
      O.TRIG_PRE_BYTES_3460, O.TRIG_ARM_3460, O.WORDS_WRITTEN_3400].foldl (fun s k => s.wr (.staris d) k 0) (s.setTr d
      { s.tr d with unit := .idle, written := 0, post := none, trigAt := none, freezing := false }) :=
  ⟨(dieWith fun x => { x with trace := { unit := .frozen } }), _, 0, wF, by decide, by decide, rfl⟩

theorem test_meets_TraceSinkCommandsComplete_4 :
    ∃ (s : State) (p : Die) (g : Nat) (b : Bool), s.rd .vager (O.SLICE_BYTES_3590 p.val) ≤ s.rd .vager (O.SLICE_WPTR_3590 p.val)
      :=
  ⟨State.reset, 0, 0, false, by decide⟩

theorem test_meets_TraceSinkCommandsComplete_5 :
    ∃ (s : State) (u : State) (v : State) (p : Die) (g : Nat) (b : Bool), s.rd .vager (O.SLICE_WPTR_3590 p.val) + 32 < s.rd
      .vager (O.SLICE_BYTES_3590 p.val) ∧ u = (if b = true then s.countPort O.TRACE_POISON_5080 p.val else s) ∧ v = (u.setHbm
      (u.sliceBase p + s.rd .vager (O.SLICE_WPTR_3590 p.val) / 32) { data := g % 2 ^ 256, poison := b }).bump .vager
      (O.SLICE_GRANULES_3590 p.val) 64 :=
  ⟨(State.reset.wr .vager (O.SLICE_BYTES_3590 0) 64), _, _, 0, 0, false, by decide, rfl, rfl⟩

theorem test_meets_TraceSinkCommandsComplete_6 :
    ∃ (s : State) (d : Die), ((s.tr d).unit = .running ∨ (s.tr d).unit = .triggered) :=
  ⟨(dieWith fun x => { x with trace := { unit := .running } }), 0, by decide⟩

theorem test_meets_TraceSinkCommandsComplete_7 :
    ∃ (s : State) (p : Die) (w : Writer) (a : Nat) (n : Nat), mayReach w false .operator = true ∧ a % 4096 = 0 ∧ n % 4096 = 0 ∧
      a + n ≤ s.rd .vager O.TRACE_REGION_BYTES_3580 ∧ s.rd (.staris p) O.SINK_SELECT_3450 ≠ 2 ∧ ((∀ q, q < 16 → q ≠ p.val →
      slicesMeet a n (s.rd .vager (O.SLICE_OFFSET_3590 q)) (s.rd .vager (O.SLICE_BYTES_3590 q)) = false)) :=
  ⟨State.reset, 0, wF, 0, 0, by decide, by decide, by decide, by decide, by decide, by decide⟩

theorem test_meets_TraceSinkCommandsComplete_8 :
    ∃ (s : State) (p : Die) (w : Writer), mayReach w false .operator = true :=
  ⟨State.reset, 0, wF, by decide⟩

theorem test_meets_TraceSinkCommandsComplete_9 :
    ∃ (s : State) (u : State) (v : State) (x : State) (d : Die) (c : CdtWord), u = (s.setElem (.staris d) O.ENGINE_CONTEXT_3001
      8 c.slot (contextEntry c)).endDescriptor d c ∧ v = u.setCap d
      { u.cap d with descs := (u.cap d).descs ++ [{ slot := c.slot, dseq := c.dseq, base := c.base, bytes := c.bytes, tag := c.tag, step := c.step, epoch := c.epoch, since := (u.die d).ticks }] }
      ∧ x = (v.tearDumps d c.base c.bytes).cutTorn d c :=
  ⟨State.reset, _, _, _, 0, cdt0, rfl, rfl, rfl⟩

theorem test_meets_TraceSinkCommandsComplete_10 :
    ∃ (s : State) (u : State) (d : Die) (c : CdtWord), u = (s.endDescriptor d c).slotDone d c.slot :=
  ⟨State.reset, _, 0, cdt0, rfl⟩

theorem test_meets_LinkTrainingCommandsComplete_1 :
    ∃ (s : State) (v : Bool) (p : Die), s.linkState v p = 0 ∧ (v = false ∨ s.portBegins p = true) :=
  ⟨(linkWith false 0 {}), false, 0, by decide, by decide⟩

theorem test_meets_LinkTrainingCommandsComplete_2 :
    ∃ (s : State) (p : Die) (good : Nat), s.linkState false p = 1 ∧ 7 ≤ (lanesOf (laneMask ((List.range 9).filter fun i => bitAt
      good i))).length :=
  ⟨(linkWith false 1 {}), 0, 511, by decide, by decide⟩

theorem test_meets_LinkTrainingCommandsComplete_3 :
    ∃ (s : State) (v : Bool) (p : Die), s.linkState v p = 2 :=
  ⟨(linkWith false 2 {}), false, 0, by decide⟩

theorem test_meets_LinkTrainingCommandsComplete_4 :
    ∃ (s : State) (v : Bool) (p : Die), s.linkState v p ≠ 2 :=
  ⟨State.reset, false, 0, by decide⟩

theorem test_meets_LinkTrainingCommandsComplete_5 :
    ∃ (s : State) (v : Bool) (p : Die) (item : Nat), s.linkState v p = 2 ∧ (readItem item).code = ctlInit ∧ (s.link v
      p).keepState = true :=
  ⟨(linkWith false 2 { keepState := true }), false, 0, 1, by decide, by decide, by decide⟩

theorem test_meets_LinkTrainingCommandsComplete_6 :
    ∃ (s : State) (u : State) (p : Die) (item : Nat), s.linkState false p = 2 ∧ (readItem item).code = ctlInitAck ∧ (s.link
      false p).initDone = false ∧ u = s.dropItem false p (readItem item).seq ∧ (u.link false p).keepState = false :=
  ⟨(linkWith false 2 {}), _, 0, 2, by decide, by decide, by decide, rfl, by decide⟩

theorem test_meets_LinkTrainingCommandsComplete_7 :
    ∃ (s : State) (u : State) (p : Die) (item : Nat) (d : List Nat), s.linkState true p = 2 ∧ (readItem item).code =
      ctlPairHello ∧ (s.link true p).lastHello ≠ some (readItem item).seq ∧ d.length = 48 ∧ u = s.setLink true p
      { s.link true p with lastHello := some (readItem item).seq, hello := d, linkups := ((s.link true p).linkups + 1) % 2 ^ 32 }
      :=
  ⟨(linkWith true 2 {}), _, 0, 3, List.replicate 48 0, by decide, by decide, by decide, by decide, rfl⟩

theorem test_meets_LinkTrainingCommandsComplete_8 :
    ∃ (s : State) (u : State) (p : Die) (w : Writer), mayReach w true .fleet = true ∧ s.rd .vager (O.PAIR_STATUS_3810 p.val) = 2
      ∧ u = (s.setBytes .vager (O.PAIRED_DIGEST_3810 p.val) 0 (s.link true p).hello).wr .vager (O.PAIR_STATUS_3810 p.val) 1 :=
  ⟨(State.reset.wr .vager (O.PAIR_STATUS_3810 0) 2), _, 0, wF, by decide, by decide, rfl⟩

theorem test_meets_LinkTrainingCommandsComplete_9 :
    ∃ (s : State) (p : Die), s.linkState false p = 5 :=
  ⟨(linkWith false 5 {}), 0, by decide⟩

theorem test_meets_LinkTrainingCommandsComplete_10 :
    ∃ (s : State) (v : Bool) (p : Die), s.linkState v p = 5 :=
  ⟨(linkWith false 5 {}), false, 0, by decide⟩

theorem test_meets_LinkTrainingCommandsComplete_11 :
    ∃ (s : State) (d : Die), s.linkState false d = 6 :=
  ⟨(linkWith false 6 {}), 0, by decide⟩

theorem test_meets_LinkTrainingCommandsComplete_12 :
    ∃ (s : State) (p : Die) (w : Writer), mayReach w true .fleet = true :=
  ⟨State.reset, 0, wF, by decide⟩

theorem test_meets_LaneCommandsComplete_1 :
    ∃ (s : State) (p : Die) (i : Nat), (readItem i).code = ctlLaneSwap :=
  ⟨State.reset, 0, 4, by decide⟩

theorem test_meets_LaneCommandsComplete_2 :
    ∃ (s : State) (p : Die) (i : Nat), (readItem i).code = ctlLaneDrop :=
  ⟨State.reset, 0, 5, by decide⟩

theorem test_meets_LaneCommandsComplete_3 :
    ∃ (s : State) (p : Die) (i : Nat) (c : LaneChange), (readItem i).code = ctlLaneCancel ∧ s.codewords false p < (readItem
      i).cw ∧ (s.link false p).change = some c ∧ c.seq = (readItem i).seq :=
  ⟨(linkWith false 3 { change := some {} }), 0, 9 + 2 ^ 32 * 5000, _, by decide, by decide, rfl, by decide⟩

theorem test_meets_LaneCommandsComplete_4 :
    ∃ (s : State) (u : State) (p : Die) (i : Nat) (c : LaneChange), (s.link true p).change = some c ∧ (readItem i).code =
      ctlLaneAck ∧ c.seq = (readItem i).seq ∧ c.cancelling = false ∧ u = s.dropItem true p (readItem i).seq :=
  ⟨(linkWith true 3 { change := some {} }), _, 0, 6, _, rfl, by decide, by decide, by decide, rfl⟩

theorem test_meets_LaneCommandsComplete_5 :
    ∃ (s : State) (p : Die) (c : LaneChange), (s.link true p).change = some c ∧ c.acked = false ∧ c.cancelling = false ∧ c.cw ≤
      s.codewords true p + 1024 :=
  ⟨(linkWith true 3 { change := some {} }), 0, _, rfl, by decide, by decide, by decide⟩

theorem test_meets_LaneCommandsComplete_6 :
    ∃ (s : State) (p : Die) (c : LaneChange), (s.link true p).change = some c ∧ c.cancelling = true :=
  ⟨(linkWith true 3 { change := some { cancelling := true } }), 0, _, rfl, by decide⟩

theorem test_meets_LaneCommandsComplete_7 :
    ∃ (s : State) (u : State) (p : Die) (c : LaneChange), s.changeDue false p false = some c ∧ u = s.setLink false p
      { s.link false p with change := none } :=
  ⟨(linkWith false 3 { change := some {} }), _, 0, {}, by decide, rfl⟩

theorem test_meets_LaneCommandsComplete_8 :
    ∃ (s : State) (u : State) (p : Die) (c : LaneChange), s.changeDue false p true = some c ∧ u = s.setLink false p
      { s.link false p with change := none, deskew := true } :=
  ⟨(linkWith false 3 { change := some { drop := true } }), _, 0, { drop := true }, by decide, rfl⟩

theorem test_meets_LaneCommandsComplete_9 :
    ∃ (s : State) (u : State) (p : Die), (s.link false p).deskew = true ∧ u = s.setLink false p
      { s.link false p with deskew := false } ∧ u.linkState false p = 3 :=
  ⟨(linkWith false 3 { deskew := true }), _, 0, by decide, rfl, by decide⟩

theorem test_meets_LaneCommandsComplete_10 :
    ∃ (s : State) (u : State) (p : Die), 3 ≤ s.linkState false p ∧ s.linkState false p ≤ 5 ∧ u = s.setLink false p
      { s.link false p with window := [] } :=
  ⟨(linkWith false 3 {}), _, 0, by decide, by decide, rfl⟩

theorem test_meets_LaneCommandsComplete_11 :
    ∃ (s : State) (u : State) (p : Die) (i : Nat), (readItem i).code = ctlLaneReport ∧ (s.link true p).lastReport ≠ some
      (readItem i).seq ∧ u = s.setLink true p { s.link true p with lastReport := some (readItem i).seq } :=
  ⟨State.reset, _, 0, 7, by decide, by decide, rfl⟩

theorem test_meets_LaneCommandsComplete_12 :
    ∃ (s : State) (u : State) (v : Bool) (p : Die) (m : Nat), s.linkState v p = 3 ∧ u = s.setLink v p
      { s.link v p with spareDead := decide (s.lrd v p kSpare < 9) && !bitAt m (s.lrd v p kSpare) } ∧ ((lanesOf (s.lrd v p
      kLanes)).filter fun i => !bitAt m i).length = 1 :=
  ⟨(((linkWith false 3 {}).wr (.staris 0) O.LANES_ACTIVE_3800 255).wr (.staris 0) O.SPARE_LANE_3800 9), _, false, 0, 127,
    by decide, rfl, by decide⟩

theorem test_meets_LaneCommandsComplete_13 :
    ∃ (s : State) (v : Bool) (p : Die) (k : Nat), (s.link v p).ctl.findIdx? (fun i => i.code != 2 && i.code != 6) = some k :=
  ⟨(linkWith false 3 { ctl := [{ code := 1 }] }), false, 0, _, rfl⟩

theorem test_meets_FlitAndMergeCommandsComplete_1 :
    ∃ (s : State) (t : State) (v : Bool) (p : Die), 2 ≤ s.linkState v p ∧ s.linkState v p ≤ 5 ∧ s.sendCtl v p = some t :=
  ⟨(linkWith false 2 { ctl := [{ code := 1 }], ctlGap := 2 }), _, false, 0, by decide, by decide, rfl⟩

theorem test_meets_FlitAndMergeCommandsComplete_2 :
    ∃ (s : State) (t : State) (v : Bool) (p : Die), s.carriesData v p = true ∧ 2 ≤ s.linkState v p ∧ s.linkState v p ≤ 5 ∧
      s.sendCtl v p = none ∧ s.sendReplay v p = some t :=
  ⟨(linkWith false 3 { resend := [0] }), _, false, 0, by decide, by decide, by decide, by decide, rfl⟩

theorem test_meets_FlitAndMergeCommandsComplete_3 :
    ∃ (s : State) (t : State) (v : Bool) (p : Die), s.carriesData v p = true ∧ 2 ≤ s.linkState v p ∧ s.linkState v p ≤ 5 ∧
      s.sendCtl v p = none ∧ s.sendReplay v p = none ∧ s.sendData v p = some t :=
  ⟨(linkWith false 3 { timeWords := [1], credit := [(6, 1)] }), _, false, 0, by decide, by decide, by decide, by decide,
    by decide, rfl⟩

theorem test_meets_FlitAndMergeCommandsComplete_4 :
    ∃ (s : State) (v : Bool) (p : Die), 2 ≤ s.linkState v p ∧ s.linkState v p ≤ 5 ∧ s.sendCtl v p = none ∧ (s.carriesData v p =
      false ∨ (s.sendReplay v p = none ∧ s.sendData v p = none)) :=
  ⟨(linkWith false 3 {}), false, 0, by decide, by decide, by decide, by decide⟩

theorem test_meets_FlitAndMergeCommandsComplete_5 :
    ∃ (s : State) (v : Bool) (p : Die) (f : FlitIn), 2 ≤ s.linkState v p ∧ s.linkState v p ≤ 5 ∧ ((s.takeWords v p f).link v
      p).nextFlit = none :=
  ⟨(linkWith false 3 {}), false, 0, { flit0 with overrun := true }, by decide, by decide, by decide⟩

theorem test_meets_FlitAndMergeCommandsComplete_6 :
    ∃ (s : State) (u : State) (v : Bool) (p : Die) (f : FlitIn) (cws : List Nat) (ok : Bool) (rest : List RxWord), 2 ≤
      s.linkState v p ∧ s.linkState v p ≤ 5 ∧ u = s.takeWords v p f ∧ (u.link v p).nextFlit = some (cws, ok, rest) :=
  ⟨(linkWith false 3 { rxWords := [{ bits := 0, left := 4608, ok := true }] }), _, false, 0, flit0, List.replicate 16 0, true,
    [], by decide, by decide, rfl, by decide +kernel⟩

theorem test_meets_FlitAndMergeCommandsComplete_7 :
    ∃ (s : State) (v : Bool) (p : Die) (f : SentFlit) (l : List SentFlit), (s.link v p).replay = f :: l ∧ s.carriesData v p =
      true :=
  ⟨(linkWith false 3 { replay := [{ seq := 0, payload := [] }] }), false, 0, { seq := 0, payload := [] }, _, rfl, by decide⟩

theorem test_meets_FlitAndMergeCommandsComplete_8 :
    ∃ (s : State) (m : CtlMsg), s.vager.merge.find? (fun m => s.mustGo m) = some m :=
  ⟨(vagerWith fun v => { v with merge := [{}] }), _, rfl⟩

theorem test_meets_FlitAndMergeCommandsComplete_9 :
    ∃ (s : State) (u : State) (m : CtlMsg), s.vager.merge.find? (fun m => s.mustGo m) = none ∧ s.mergeHead = some m ∧
      s.marksReach m = true ∧ u = s.setVager { s.vager with merge := s.vager.merge.erase m, lastRelease := some m.qtime } :=
  ⟨((vagerWith fun v => { v with merge := [{}], links := [(0, { counted := true })] }).wr .vager (linkStateKey true 0) 3), _, _,
    by decide, rfl, by decide, rfl⟩

theorem test_meets_FlitAndMergeCommandsComplete_10 :
    ∃ (s : State) (u : State) (v : State) (p : Die), u = s.setLink true p { s.link true p with counted := false } ∧ v =
      u.setVager { u.vager with merge := u.vager.merge.filter fun m => !(m.port == p.val && !u.pairing m.port) } :=
  ⟨((vagerWith fun v => { v with merge := [{}], links := [(0, { counted := true })] }).wr .vager (linkStateKey true 0) 3), _, _,
    0, rfl, rfl⟩

theorem test_meets_StreamAndRoundCommandsComplete_1 :
    ∃ (s : State) (u : State) (p : Die) (g : Nat) (l : List (Nat × HbmError)), u = (s.readBuilders l).2 ∧ bits g 127 0 % 16 ≠ 15
      ∧ bits g 255 128 % 16 = 15 ∧ u.claimed (bits (bits g 127 0) 31 16) = false :=
  ⟨State.reset, _, 0, 15 * 2 ^ 128, [], rfl, by decide, by decide, by decide +kernel⟩

theorem test_meets_StreamAndRoundCommandsComplete_2 :
    ∃ (s : State) (w : Writer), mayReach w false .operator = true :=
  ⟨State.reset, wF, by decide⟩

theorem test_meets_StreamAndRoundCommandsComplete_3 :
    ∃ (s : State) (x : Fin 64) (g : Fin 16) (k : Nat) (r : Round), s.round (16 * x.val + g.val) k = some r ∧ (s.group (16 *
      x.val + g.val)).deadline r ≤ s.extNow :=
  ⟨(vagerWith fun v => { v with groups := [(0, { rounds := [{ key := 0, first := 0 }] })] }), 0, 0, 0, _, rfl, by decide⟩

theorem test_meets_StreamAndRoundCommandsComplete_4 :
    ∃ (s : State) (x : Fin 64) (g : Fin 16) (k : Nat) (r : Round), s.round (16 * x.val + g.val) k = some r ∧ s.complete (16 *
      x.val + g.val) r = true :=
  ⟨(vagerWith fun v => { v with groups := [(0, { rounds := [{ key := 0, first := 0, ownClosed := true }] })] }), 0, 0, 0, _,
    rfl, by decide⟩

theorem test_meets_StreamAndRoundCommandsComplete_5 :
    ∃ (s : State) (u : State) (m : TreeMsg) (k : Nat) (x : Nat), treeComes s m 0x11 ∧ s.kidOf m.src = some k ∧ u = s.sendTree
      m.src 0x12 m.round m.epoch 0 0 0 m.group m.standing false [] ∧ u.ctxOf m.epoch = some x ∧ grpEnable (u.group (16 * x +
      m.group % 16)).cfg = true ∧ m.standing = false :=
  ⟨(portUp ((((vagerWith fun v => { v with tree := { kids := [(0, 0, 0)] }, groups := [(0, { cfg := 128 })] }).wr .vager
    (O.CHILD_STATE_4310 0) 1).wr .vager (O.CTX_STATE_4100 0) 2).wr .vager (O.CTX_EPOCH_4100 0) 7)), _,
    { tree0 with type := 0x11, epoch := 7 }, 0, 0, by unfold treeComes; decide, by decide, rfl, by decide, by decide, by decide⟩

theorem test_meets_StreamAndRoundCommandsComplete_6 :
    ∃ (s : State) (m : TreeMsg), treeComes s m 0x11 ∧ s.kidOf m.src = none :=
  ⟨(portUp State.reset), { tree0 with type := 0x11 }, by unfold treeComes; decide, by decide⟩

theorem test_meets_StreamAndRoundCommandsComplete_7 :
    ∃ (s : State) (m : TreeMsg), treeComes s m 0x12 ∧ s.treeUp = some m.src ∧ s.vager.tree.up.filter (fun u => u.epoch ==
      m.epoch && u.group == m.group && u.round == m.round) = [] :=
  ⟨(portUp ((vagerWith fun v => { v with tree := { fallback := 0 } }).wr .vager O.TREE_STATE_4300 3)),
    { tree0 with type := 0x12 }, by unfold treeComes; decide, by decide, by decide⟩

theorem test_meets_StreamAndRoundCommandsComplete_8 :
    ∃ (s : State) (x : Fin 64), s.ctxState x.val = 2 ∧ s.rd .vager (O.CTX_CLOSE_TIME_4100 x.val) ≠ 0 ∧ s.rd .vager
      (O.CTX_CLOSE_TIME_4100 x.val) ≤ s.extNow :=
  ⟨(((vagerWith fun v => { v with time := { counter := 2000 * 2 ^ 32 } }).wr .vager (O.CTX_STATE_4100 0) 2).wr .vager
    (O.CTX_CLOSE_TIME_4100 0) 1), 0, by decide, by decide, by decide⟩

theorem test_meets_StreamAndRoundCommandsComplete_9 :
    ∃ (s : State) (x : Fin 64), s.ctxState x.val = 3 ∧ s.rd .vager (O.CTX_CLOSE_TIME_4100 x.val) + 1000 * s.rd .vager
      O.DRAIN_LIMIT_4140 ≤ s.extNow :=
  ⟨((State.reset.wr .vager (O.CTX_STATE_4100 0) 3).wr .vager O.DRAIN_LIMIT_4140 0), 0, by decide, by decide⟩

theorem test_meets_StreamAndRoundCommandsComplete_10 :
    ∃ (s : State) (w : Writer) (x : Fin 64), mayReach w true .fleet = true :=
  ⟨((State.reset.wr .vager (O.CTX_STATE_4100 0) 3).wr .vager O.DRAIN_LIMIT_4140 0), wF, 0, by decide⟩

theorem test_meets_StreamAndRoundCommandsComplete_11 :
    ∃ (s : State) (w : Writer) (j : Fin 4) (n : Nat), mayReach w true .host = true ∧ n % 32 = 0 ∧ n ≤ 67108864 :=
  ⟨State.reset, wF, 0, 0, by decide, by decide, by decide⟩

theorem test_meets_StreamAndRoundCommandsComplete_12 :
    ∃ (s : State) (j : Nat), (List.range 4).find? (fun j => s.rd .vager (O.PLAN_STATE_4360 j) == 1) = some j :=
  ⟨(State.reset.wr .vager (O.PLAN_STATE_4360 0) 1), 0, by decide⟩

theorem test_meets_PodTreeCommandsComplete_1 :
    ∃ (s : State) (m : TreeMsg), treeComes s m 0x21 ∧ s.treeUp = none :=
  ⟨(portUp State.reset), { tree0 with type := 0x21 }, by unfold treeComes; decide, by decide⟩

theorem test_meets_PodTreeCommandsComplete_2 :
    ∃ (s : State) (u : State) (m : TreeMsg) (k : Nat), treeComes s m 0x22 ∧ s.kidOf m.src = some k ∧ 64 ≤ k ∧ u = s.wr .vager
      (O.ADOPT_LAST_BACK_4370 (k - 64)) m.bseq ∧ u.vager.tree.bcasts.find? (fun b => b.bseq == m.bseq) = none :=
  ⟨(portUp ((State.reset.wr .vager (O.ADOPT_STATE_4370 0) 1).wr .vager (O.ADOPT_TRAY_4370 0) 0)), _,
    { tree0 with type := 0x22 }, 64, by unfold treeComes; decide, by decide, by decide, rfl, by decide⟩

theorem test_meets_PodTreeCommandsComplete_3 :
    ∃ (s : State) (m : TreeMsg), treeComes s m 0x31 ∧ s.treeUp = some m.src :=
  ⟨(portUp ((vagerWith fun v => { v with tree := { fallback := 0 } }).wr .vager O.TREE_STATE_4300 3)),
    { tree0 with type := 0x31 }, by unfold treeComes; decide, by decide⟩

theorem test_meets_PodTreeCommandsComplete_4 :
    ∃ (s : State) (m : TreeMsg), treeComes s m 0x31 ∧ s.treeUp ≠ some m.src ∧ s.kidOf m.src = none :=
  ⟨(portUp State.reset), { tree0 with type := 0x31 }, by unfold treeComes; decide, by decide, by decide⟩

theorem test_meets_PodTreeCommandsComplete_5 :
    ∃ (s : State) (m : TreeMsg) (k : Nat), treeComes s m 0x32 ∧ s.deadKids.any (fun k => s.kidTray k == m.src) = false ∧ s.kidOf
      m.src = none ∧ (List.range 96).find? (fun k => s.kidState k == 0) = some k :=
  ⟨(portUp State.reset), { tree0 with type := 0x32 }, 0, by unfold treeComes; decide, by decide, by decide, by decide⟩

theorem test_meets_PodTreeCommandsComplete_6 :
    ∃ (s : State) (m : TreeMsg), treeComes s m 0x32 ∧ s.deadKids.any (fun k => s.kidTray k == m.src) = false ∧ s.kidOf m.src =
      none ∧ (List.range 96).find? (fun k => s.kidState k == 0) = none :=
  ⟨(portUp ((List.range 32).foldl (fun s k => s.wr .vager (O.ADOPT_STATE_4370 k) 2) ((List.range 64).foldl (fun s k => s.wr
    .vager (O.CHILD_STATE_4310 k) 2) State.reset))), { tree0 with type := 0x32 }, by (unfold treeComes; decide +kernel),
    by decide +kernel, by decide +kernel, by decide +kernel⟩

theorem test_meets_PodTreeCommandsComplete_7 :
    ∃ (s : State) (m : TreeMsg), treeComes s m 0x33 ∧ s.rd .vager O.TREE_STATE_4300 = 2 ∧ m.src = s.vager.tree.fallback :=
  ⟨(portUp (State.reset.wr .vager O.TREE_STATE_4300 2)), { tree0 with type := 0x33, src := 0xFFFF },
    by unfold treeComes; decide, by decide, by decide⟩

theorem test_meets_PodTreeCommandsComplete_8 :
    ∃ (s : State) (m : TreeMsg), treeComes s m 0x34 ∧ s.rd .vager O.TREE_STATE_4300 = 2 ∧ m.src = s.vager.tree.fallback :=
  ⟨(portUp (State.reset.wr .vager O.TREE_STATE_4300 2)), { tree0 with type := 0x34, src := 0xFFFF },
    by unfold treeComes; decide, by decide, by decide⟩

theorem test_meets_PodTreeCommandsComplete_9 :
    ∃ (s : State) (t : State) (u : State) (v : State) (tray : Nat), s.treeUp = some tray ∧ t = s.sendTree tray 0x31 0 0 0 0 0 0
      false false [] ∧ u = (t.liveKids.map t.kidTray).foldl (fun s t => s.sendTree t 0x31 0 0 0 0 0 0 false false []) t ∧ u.rd
      .vager O.TREE_STATE_4300 ≠ 2 ∧ v = u.vager.tree.up.foldl (fun s x => s.sendTreeUp x true) u ∧ v.vager.tree.bcasts = [] :=
  ⟨((vagerWith fun v => { v with tree := { parent := 0 } }).wr .vager O.TREE_STATE_4300 1), _, _, _, _, rfl, rfl, rfl,
    by decide, rfl, by decide⟩

theorem test_meets_PodTreeCommandsComplete_10 :
    ∃ (s : State) (tray : Nat), s.treeUp = some tray ∧ s.rd .vager O.TREE_STATE_4300 ≠ 3 :=
  ⟨((vagerWith fun v => { v with tree := { parent := 0 } }).wr .vager O.TREE_STATE_4300 1), _, rfl, by decide⟩

theorem test_meets_PodTreeCommandsComplete_11 :
    ∃ (s : State) (tray : Nat) (k : Nat), s.treeUp ≠ some tray ∧ s.kidOf tray = some k :=
  ⟨((vagerWith fun v => { v with tree := { kids := [(0, 0, 0)] } }).wr .vager (O.CHILD_STATE_4310 0) 1), 0, 0, by decide,
    by decide⟩

theorem test_meets_PodTreeCommandsComplete_12 :
    ∃ (s : State) (k : Fin 96), s.vager.tree.awaiting.contains k.val = true :=
  ⟨(vagerWith fun v => { v with tree := { awaiting := [0] } }), 0, by decide⟩

theorem test_meets_PodTreeCommandsComplete_13 :
    ∃ (s : State), s.rd .vager O.TREE_STATE_4300 = 2 :=
  ⟨(State.reset|>.wr .vager O.TREE_STATE_4300 2), by decide⟩

theorem test_meets_PodTreeCommandsComplete_14 :
    ∃ (s : State) (w : Writer), mayReach w true .fleet = true :=
  ⟨State.reset, wF, by decide⟩

theorem test_meets_PodTreeCommandsComplete_15 :
    ∃ (s : State) (w : Writer) (h : Nat) (b : List Nat), mayReach w true .fleet = true :=
  ⟨((vagerWith fun v => { v with tree := { fallback := 0 } }).wr .vager O.TREE_STATE_4300 3), wF, 0, [], by decide⟩

theorem test_meets_PodTreeCommandsComplete_16 :
    ∃ (s : State) (m : TreeMsg), treeComes s m 0x21 ∧ s.treeUp = some m.src ∧ reached (s.rd .vager O.TREE_LAST_BSEQ_4300) m.bseq
      = false ∧ m.bseq = (s.rd .vager O.TREE_LAST_BSEQ_4300 + 1) % 2 ^ 32 :=
  ⟨(portUp ((vagerWith fun v => { v with tree := { fallback := 0 } }).wr .vager O.TREE_STATE_4300 3)),
    { tree0 with type := 0x21, bseq := 1 }, by unfold treeComes; decide, by decide, by decide, by decide⟩

theorem test_meets_PodTreeCommandsComplete_17 :
    ∃ (s : State) (x : Fin 64), s.ctxState x.val = 1 ∧ s.rd .vager (O.CTX_OPEN_TIME_4100 x.val) ≤ s.extNow :=
  ⟨(State.reset.wr .vager (O.CTX_STATE_4100 0) 1), 0, by decide, by decide⟩

theorem test_meets_BuilderCommandsComplete_1 :
    ∃ (s : State) (w : Writer) (l : List Nat) (n : Nat), mayReach w true .operator = true ∧ l.length ≤ 32 ∧ n = s.rd .vager
      O.BLD_SELECT_4830 % 2 ^ 22 ∧ s.builderRefusal n (ofBytes l) = 0 :=
  ⟨State.reset, wF, [], _, by decide, by decide, rfl, by decide⟩

theorem test_meets_BuilderCommandsComplete_2 :
    ∃ (s : State) (w : Writer) (l : List Nat) (n : Nat), mayReach w true .operator = true ∧ l.length ≤ 32 ∧ n = s.rd .vager
      O.BLD_SELECT_4830 % 2 ^ 22 ∧ s.builderRefusal n (ofBytes l) ≠ 0 :=
  ⟨State.reset, wF, [0, 0, 0, 0, 40], _, by decide, by decide, rfl, by decide⟩

theorem test_meets_BuilderCommandsComplete_3 :
    ∃ (s : State) (w : Writer) (n : Nat), mayReach w true .operator = true ∧ n = s.rd .vager O.BLD_SELECT_4830 % 2 ^ 22 :=
  ⟨State.reset, wF, _, by decide, rfl⟩

theorem test_meets_BuilderCommandsComplete_4 :
    ∃ (s : State) (w : Writer) (v : Nat) (r : Nat), mayReach w true .operator = true ∧ r = s.rd .vager O.ENT_SELECT_4810 % 2 ^
      20 ∧ bits (fld 24 8 (v / 2 ^ 24) + v % 2 ^ 16) 31 28 ≤ 5 ∧ (s.enabledBuilders.any fun e => bldRow e.2.cfg == r) = false :=
  ⟨State.reset, wF, 0, _, by decide, rfl, by decide, by decide⟩

theorem test_meets_BuilderCommandsComplete_5 :
    ∃ (s : State) (w : Writer) (r : Nat), mayReach w true .operator = true ∧ r = s.rd .vager O.ENT_SELECT_4810 % 2 ^ 20 :=
  ⟨State.reset, wF, _, by decide, rfl⟩

theorem test_meets_BuilderCommandsComplete_6 :
    ∃ (s : State) (w : Writer) (v : Nat), mayReach w true .operator = true ∧ 1000 ≤ v ∧ v ≤ 3600000000 :=
  ⟨State.reset, wF, 1000, by decide, by decide, by decide⟩

theorem test_meets_BuilderCommandsComplete_7 :
    ∃ (s : State) (w : Writer) (v : Int) (r : Nat), mayReach w true .operator = true ∧ r = s.rd .vager O.REF_SELECT_4840 ∧
      (s.refReg r).source % 2 ^ 16 = 0xFFFF :=
  ⟨State.reset, wF, 0, _, by decide, rfl, by decide⟩

theorem test_meets_BuilderCommandsComplete_8 :
    ∃ (s : State) (n : Nat) (er : Option HbmError), s.ttOn = true ∧ bldEnable (s.builder n).cfg = true ∧ (s.builder n).fault =
      false :=
  ⟨((vagerWith fun v =>
    { v with time := { counter := 2000 * 2 ^ 32 }, builders := [(0, { cfg := 2 ^ 64 + 2 ^ 65, primed := true })] }).wr .vager
    O.TT_ENABLE_4800 1), 0, none, by decide, by decide, by decide⟩

theorem test_meets_TellTaleCommandsComplete_1 :
    ∃ (s : State) (m : Fin 64) (t : Nat), s.dueStart m.val = some t :=
  ⟨State.reset, 0, _, rfl⟩

theorem test_meets_TellTaleCommandsComplete_2 :
    ∃ (s : State) (u : State) (m : Fin 64) (row : Nat) (lane : Fin 17) (hit : Bool) (f : Option (Fin 64 × Bool)) (er : List (Nat
      × HbmError)) (p : Pass) (y : Model) (g : Nat), (s.mslot m.val).pass = some p ∧ (s.mslot m.val).model = some y ∧
      p.todo.find? (fun e => e.2 == row) = some (g, row) ∧ s.ttOn = true ∧ ((s.mslot m.val).phys.any fun b => b.1 / 64 == g &&
      (s.laneGroup g).filling.contains b.2) = false ∧ (s.laneGroup g).active.contains lane.val = true ∧ s.inLane g m.val row =
      true ∧ p.barred.contains (row, 17 * g + lane.val) = false ∧ (s.frow row).kind ≠ 0 ∧ u = s.readRow row hit f er :=
  ⟨((vagerWith fun v =>
    { v with rows := [(0, { desc := 2 ^ 28 })], models := [(0, { model := some {}, pass := some { start := 0, triggered := false, todo := [(0, 0)] } })] }).wr
    .vager O.TT_ENABLE_4800 1), _, 0, 0, 0, false, none, [], _, _, 0, rfl, rfl, by decide, by decide +kernel, by decide +kernel,
    by decide +kernel, by decide +kernel, by decide +kernel, by decide +kernel, rfl⟩

theorem test_meets_TellTaleCommandsComplete_3 :
    ∃ (s : State) (m : Fin 64) (p : Pass) (y : Model), (s.mslot m.val).pass = some p ∧ (s.mslot m.val).model = some y ∧ s.ttOn =
      true ∧ p.todo = [] ∧ p.probing = [] :=
  ⟨(vagerWith fun v => { v with models := [(0, { model := some {}, pass := some { start := 0, triggered := false } })] }), 0, _,
    _, rfl, rfl, by decide, by decide, by decide⟩

theorem test_meets_TellTaleCommandsComplete_4 :
    ∃ (s : State) (u : State) (g : Fin 4) (lane : Fin 17), (s.laneGroup g.val).idleProbe.contains lane.val = true ∧ u =
      s.setLaneGroup g.val { s.laneGroup g.val with idleProbe := (s.laneGroup g.val).idleProbe.erase lane.val } :=
  ⟨(vagerWith fun v => { v with laneGroups := [(0, { idleProbe := [0] })] }), _, 0, 0, by decide, rfl⟩

theorem test_meets_TellTaleCommandsComplete_5 :
    ∃ (s : State) (g : Fin 4) (lane : Fin 17), (s.laneGroup g.val).active.contains lane.val = true ∧ s.ttOn = true ∧ s.laneIdle
      g.val lane.val = true ∧ (s.laneGroup g.val).idleProbe.contains lane.val = false :=
  ⟨(State.reset.wr .vager O.TT_ENABLE_4800 1), 0, 0, by decide, by decide, by decide +kernel, by decide⟩

theorem test_meets_TellTaleCommandsComplete_6 :
    ∃ (s : State) (w : Writer) (m : Fin 64), mayReach w true .operator = true ∧ s.mdlState m.val = 0 :=
  ⟨State.reset, wF, 0, by decide, by decide⟩

theorem test_meets_TellTaleCommandsComplete_7 :
    ∃ (s : State) (m : Fin 64) (gs : List Nat) (code : Nat), s.mdlState m.val = 1 ∧ gs = (List.range 4).filter (fun g => bitAt
      (s.rd .vager (O.MDL_PLACE_4880 m.val)) g) ∧ code = s.loadError m.val (parseImage (s.mslot m.val).image) gs ∧ code = 0 :=
  ⟨((((vagerWith fun v => { v with models := [(0, { image := image0 })] }).wr .vager (O.MDL_STATE_4880 0) 1).wr .vager
    (O.MDL_PLACE_4880 0) 1).wr .vager (O.MDL_REPLACES_4880 0) 0xFF), 0, _, _, by decide, rfl, rfl, by decide +kernel⟩

theorem test_meets_TellTaleCommandsComplete_8 :
    ∃ (s : State) (m : Fin 64) (gs : List Nat) (code : Nat), s.mdlState m.val = 1 ∧ gs = (List.range 4).filter (fun g => bitAt
      (s.rd .vager (O.MDL_PLACE_4880 m.val)) g) ∧ code = s.loadError m.val (parseImage (s.mslot m.val).image) gs ∧ code ≠ 0 :=
  ⟨(State.reset.wr .vager (O.MDL_STATE_4880 0) 1), 0, _, _, by decide, rfl, rfl, by decide⟩

theorem test_meets_TellTaleCommandsComplete_9 :
    ∃ (s : State) (w : Writer) (m : Fin 64), mayReach w true .operator = true ∧ (s.mdlState m.val = 2 ∨ s.mdlState m.val = 5 ∨
      s.mdlState m.val = 6) :=
  ⟨(State.reset.wr .vager (O.MDL_STATE_4880 0) 2), wF, 0, by decide, by decide⟩

theorem test_meets_TellTaleCommandsComplete_10 :
    ∃ (s : State) (w : Writer) (m : Fin 64), mayReach w true .operator = true ∧ s.mdlState m.val = 3 :=
  ⟨(State.reset.wr .vager (O.MDL_STATE_4880 0) 3), wF, 0, by decide, by decide⟩

theorem test_meets_DigestCommandsComplete_1 :
    ∃ (s : State) (d : Die) (h : Nat) (l : List Nat) (po : Bool) (late : Bool) (ev : Nat → Nat), s.dieDomain d 3 = 0 ∧ ev = (fun
      x => eventGranule (bits h 191 160) (bits h 159 128) (bits h 127 96) (s.ns (.staris d)) x 0 (bits h 71 64) 0 1) ∧ bitAt
      (s.rd (.staris d) O.DT_ENABLE_5000) 0 = false :=
  ⟨(State.reset.wr (.staris 0) O.DT_ENABLE_5000 0), 0, 0, [], false, false, _, by decide, rfl, by decide⟩

theorem test_meets_DigestCommandsComplete_2 :
    ∃ (s : State) (d : Die) (h : Nat) (n : Nat) (c : Nat) (l : List Nat) (po : Bool) (late : Bool) (ev : Nat → Nat), s.dieDomain
      d 3 = 0 ∧ ev = (fun x => eventGranule (bits h 191 160) (bits h 159 128) (bits h 127 96) (s.ns (.staris d)) x 0 (bits h 71
      64) 0 1) ∧ bitAt (s.rd (.staris d) O.DT_ENABLE_5000) 0 = true ∧ bits h 191 160 ≠ 0 ∧ n = bits h 95 72 ∧ c = crc64 (((l ++
      List.replicate n 0).take n).flatMap (toBytes 32)) (bits h 191 160) ∧ (po = true ∨ bits h 255 192 = Nat.xor c crcPoison) :=
  ⟨State.reset, 0, 2 ^ 160, _, _, [], true, false, _, by decide, rfl, by decide, by decide, rfl, rfl, by decide⟩

theorem test_meets_DigestCommandsComplete_3 :
    ∃ (s : State) (d : Die) (h : Nat) (n : Nat) (c : Nat) (l : List Nat) (po : Bool) (late : Bool) (ev : Nat → Nat), s.dieDomain
      d 3 = 0 ∧ ev = (fun x => eventGranule (bits h 191 160) (bits h 159 128) (bits h 127 96) (s.ns (.staris d)) x 0 (bits h 71
      64) 0 1) ∧ bitAt (s.rd (.staris d) O.DT_ENABLE_5000) 0 = true ∧ bits h 191 160 ≠ 0 ∧ n = bits h 95 72 ∧ c = crc64 (((l ++
      List.replicate n 0).take n).flatMap (toBytes 32)) (bits h 191 160) ∧ po = false ∧ bits h 255 192 ≠ Nat.xor c crcPoison ∧
      bits h 255 192 = c :=
  ⟨State.reset, 0, crc64 [] 1 * 2 ^ 192 + 2 ^ 160, _, _, [], _, false, _, by decide, rfl, by decide, by decide, rfl, rfl, rfl,
    by decide, by decide⟩

theorem test_meets_DigestCommandsComplete_4 :
    ∃ (s : State) (d : Die) (h : Nat) (n : Nat) (c : Nat) (l : List Nat) (po : Bool) (late : Bool) (ev : Nat → Nat), s.dieDomain
      d 3 = 0 ∧ ev = (fun x => eventGranule (bits h 191 160) (bits h 159 128) (bits h 127 96) (s.ns (.staris d)) x 0 (bits h 71
      64) 0 1) ∧ bitAt (s.rd (.staris d) O.DT_ENABLE_5000) 0 = true ∧ bits h 191 160 ≠ 0 ∧ n = bits h 95 72 ∧ c = crc64 (((l ++
      List.replicate n 0).take n).flatMap (toBytes 32)) (bits h 191 160) ∧ po = false ∧ bits h 255 192 ≠ Nat.xor c crcPoison ∧
      bits h 255 192 ≠ c :=
  ⟨State.reset, 0, 2 ^ 160, _, _, [], _, false, _, by decide, rfl, by decide, by decide, rfl, rfl, rfl, by decide, by decide⟩

theorem test_meets_DigestCommandsComplete_5 :
    ∃ (s : State) (d : Die) (h : Nat) (a : Nat) (l : List Nat) (po : Bool) (late : Bool), s.dieDomain d 3 = 0 ∧ s.keySlot d
      (bits h 191 160) = none ∧ bits h 111 110 = 1 :=
  ⟨State.reset, 0, 2 ^ 110, 0, [], false, false, by decide, by decide, by decide⟩

theorem test_meets_DigestCommandsComplete_6 :
    ∃ (s : State) (d : Die) (code : Nat) (n : Nat) (g : Nat), Tbl.find (s.ck d).windows code = some (n, g) ∧ n ≠ 0 :=
  ⟨(dieWith fun x => { x with checks := { windows := [(0, 1, 0)] } }), 0, 0, 1, _, rfl, by decide⟩

theorem test_meets_DigestCommandsComplete_7 :
    ∃ (s : State) (d : Die) (slot : Nat) (tag : Nat) (step : Nat) (k : Nat), (s.slotContext d slot).1 ≠ 0 ∧ s.keySlot d
      (s.slotContext d slot).1 = some k :=
  ⟨(((State.reset.setElem (.staris 0) O.ENGINE_CONTEXT_3001 8 0 (2 ^ 63 + 5)).wr (.staris 0) (O.KEY_STATE_5010 0) 2).wr (.staris
    0) (O.KEY_EPOCH_5010 0) 5), 0, 0, 0, 0, 0, by decide +kernel, by decide +kernel⟩

theorem test_meets_DigestCommandsComplete_8 :
    ∃ (s : State) (d : Die) (w : Writer) (k : Fin 4) (v : Nat), mayReach w true .fleet = true ∧ v ≠ 0 ∧ v < 2 ^ 32 ∧ s.rd
      (.staris d) (O.KEY_STATE_5010 k.val) = 0 ∧ ((List.range 4).any fun i => s.rd (.staris d) (O.KEY_STATE_5010 i) != 0 && s.rd
      (.staris d) (O.KEY_EPOCH_5010 i) == v) = false :=
  ⟨(State.reset|>.wr (.staris (0 : Die)) (O.KEY_STATE_5010 (0 : Fin 4).val) 0), 0, wF, 0, 1, by decide, by decide, by decide,
    by decide, by decide⟩

theorem test_meets_DigestCommandsComplete_9 :
    ∃ (s : State) (d : Die) (w : Writer) (k : Fin 4) (v : List Nat) (y : List Nat), mayReach w true .fleet = true ∧ v.length =
      32 ∧ s.rd (.staris d) (O.KEY_STATE_5010 k.val) = 1 ∧ y = kmac128 v (toBytes 4 (s.rd (.staris d) (O.KEY_EPOCH_5010 k.val)))
      nameFp :=
  ⟨(State.reset|>.wr (.staris (0 : Die)) (O.KEY_STATE_5010 (0 : Fin 4).val) 1), 0, wF, 0, List.replicate 32 0, _, by decide,
    by decide, by decide, rfl⟩

theorem test_meets_DigestCommandsComplete_10 :
    ∃ (s : State) (u : State) (v : State) (d : Die) (w : Writer) (k : Fin 4), mayReach w true .fleet = true ∧ u = s.abandonAll d
      (fun x => x.slot == k.val) ∧ v = ((u.setCk d { u.ck d with keys := Tbl.erase (u.ck d).keys k.val }).wr (.staris d)
      (O.KEY_EPOCH_5010 k.val) 0).wr (.staris d) (O.KEY_STATE_5010 k.val) 0 :=
  ⟨State.reset, _, _, 0, wF, 0, by decide, rfl, rfl⟩

theorem test_meets_ShroudSampleCommandsComplete_1 :
    ∃ (s : State) (d : Die) (sid : Nat) (off : Nat) (n : Nat) (l : List (Nat × Bool)) (y : ShSel), (s.shd d).sels.find? (fun y
      => y.sid == sid) = some y ∧ (s.setShd d { s.shd d with sels := (s.shd d).sels.erase y }).linkUp false d = true ∧ n ≤
      (s.setShd d { s.shd d with sels := (s.shd d).sels.erase y }).rd (.staris d) O.SH_MAX_SAMPLE_5400 ∧ ringFits (s.shd d).ring
      ((s.setShd d { s.shd d with sels := (s.shd d).sels.erase y }).rd (.staris d) O.SH_RING_BYTES_5400) off n = true :=
  ⟨((dieWith fun x => { x with shroud := { sels := [sel0] } }).wr (.staris 0) (linkStateKey false 0) 3), 0, 0, 0, 0, [], _, rfl,
    by decide, by decide, by decide⟩

theorem test_meets_ShroudSampleCommandsComplete_2 :
    ∃ (s : State) (d : Die) (sid : Nat) (code : Nat) (y : ShSel), (s.shd d).sels.find? (fun y => y.sid == sid) = some y :=
  ⟨(dieWith fun x => { x with shroud := { sels := [sel0] } }), 0, 0, 0, _, rfl⟩

theorem test_meets_ShroudSampleCommandsComplete_3 :
    ∃ (s : State) (d : Die) (sid : Nat) (l : List (Nat × Bool)) (e : ShEntry), s.heldEntry d sid = some e :=
  ⟨(dieWith fun x => { x with shroud := { ring := [entR0] } }), 0, 0, [], _, rfl⟩

theorem test_meets_ShroudSampleCommandsComplete_4 :
    ∃ (s : State) (d : Die) (a : ShSel) (t : List ShSel) (b : Bool), (s.shd d).asks = a :: t :=
  ⟨(dieWith fun x => { x with shroud := { asks := [sel0] } }), 0, _, _, false, rfl⟩

theorem test_meets_ShroudSampleCommandsComplete_5 :
    ∃ (s : State) (d : Die) (g : Nat) (e : ShEntry), s.heldEntry d (bits g 255 224) = some e :=
  ⟨(dieWith fun x => { x with shroud := { ring := [entR0] } }), 0, 0, _, rfl⟩

theorem test_meets_ShroudSampleCommandsComplete_6 :
    ∃ (s : State) (d : Die) (g : Nat) (e : ShEntry), s.heldEntry d (bits g 255 224) = some e :=
  ⟨(dieWith fun x => { x with shroud := { ring := [entR0] } }), 0, 0, _, rfl⟩

theorem test_meets_ShroudSampleCommandsComplete_7 :
    ∃ (s : State) (d : Die) (g : Nat) (e : ShEntry), s.heldEntry d (bits g 255 224) = some e :=
  ⟨(dieWith fun x => { x with shroud := { ring := [entR0] } }), 0, 0, _, rfl⟩

theorem test_meets_ShroudSampleCommandsComplete_8 :
    ∃ (s : State) (u : State) (v : State) (p : Die) (m : List (Nat × Bool)) (x : Sample), u = (s.tapPoison p m).noteSid p (bits
      (m.headD (0, false)).1 159 128) ∧ x =
      { port := p.val, sid := bits (m.headD (0, false)).1 159 128, msg := if u.poolFull m.length then m.take 1 else m } ∧ v =
      (u.setSh { u.sh with pool := u.sh.pool ++ [x] }).poolChanged :=
  ⟨State.reset, _, _, 0, [], _, rfl, rfl, rfl⟩

theorem test_meets_ShroudSampleCommandsComplete_9 :
    ∃ (s : State) (u : State) (p : Die) (g : Nat) (x : Sample), 1 ≤ bits g 47 40 ∧ bits g 47 40 ≤ 4 ∧ u = s.noteSid p (bits g
      159 128) ∧ x =
      { port := p.val, sid := bits g 159 128, msg := [(fld 128 128 (g / 2 ^ 128) + fld 49 8 (bits g 63 56) + 0x51, false)] } :=
  ⟨State.reset, _, 0, 2 ^ 40, _, by decide, by decide, rfl, rfl⟩

theorem test_meets_ShroudSampleCommandsComplete_10 :
    ∃ (s : State) (u : State) (p : Die) (m : List (Nat × Bool)) (x : Sample) (e : List Nat), u = s.tapPoison p m ∧ u.sample
      p.val (bits (m.headD (0, false)).1 159 128) = some x ∧ x.phase = .waitE ∧ goodE x.operands m = some e ∧ differing
      (resultOf x.operands x.operands.d) e = [] :=
  ⟨(poolWith { port := 0, sid := 0, phase := .waitE }), _, 0, [(0, false), (0, false)], _, _, rfl, rfl, by decide, rfl,
    by decide⟩

theorem test_meets_ShroudSampleCommandsComplete_11 :
    ∃ (s : State) (p : Die) (sid : Nat) (x : Sample), s.sample p.val sid = some x ∧ x.phase = .waitE :=
  ⟨(poolWith { port := 0, sid := 0, phase := .waitE }), 0, 0, _, rfl, by decide⟩

theorem test_meets_ShroudClusterCommandsComplete_1 :
    ∃ (s : State) (c : Fin 18) (port : Nat) (sid : Nat) (wr : Option (List Nat)), (s.cluster c.val).job = some (port, sid) :=
  ⟨(vagerWith fun v => { v with shroud := { clusters := [(0, { job := some (0, 0) })] } }), 0, _, _, none, rfl⟩

theorem test_meets_ShroudClusterCommandsComplete_2 :
    ∃ (s : State) (p : Die) (sid : Nat) (x : Sample) (y : Sample), s.sample p.val sid = some x ∧ x.phase = .reverify ∧ y =
      { x with steps := setBit x.steps 0 true } :=
  ⟨(poolWith { port := 0, sid := 0, phase := .reverify }), 0, 0, _, _, rfl, by decide, rfl⟩

theorem test_meets_ShroudClusterCommandsComplete_3 :
    ∃ (s : State) (c : Fin 18), s.clState c.val = 1 ∧ (s.cluster c.val).testing = false ∧ s.rd .vager O.KAT_SAMPLES_5440 ≤
      (s.cluster c.val).samples :=
  ⟨(vagerWith fun v => { v with shroud := { clusters := [(0, { samples := 10 ^ 18 })] } }), 0, by decide, by decide, by decide⟩

theorem test_meets_ShroudClusterCommandsComplete_4 :
    ∃ (s : State) (u : State) (v : State) (c : Fin 18), (s.cluster c.val).testing = true ∧ u = s.setCluster c.val
      { s.cluster c.val with testing := false, samples := 0, work := 0 } ∧ v = u.setSh
      { u.sh with pool := u.sh.pool.map fun x => { x with wait := x.wait.filter fun e => !(e.1 == c.val && e.2) } } :=
  ⟨(vagerWith fun v => { v with shroud := { clusters := [(0, { testing := true })] } }), _, _, 0, by decide, rfl, rfl⟩

theorem test_meets_ShroudClusterCommandsComplete_5 :
    ∃ (s : State) (c : Fin 18), (s.cluster c.val).testing = true :=
  ⟨(vagerWith fun v => { v with shroud := { clusters := [(0, { testing := true })] } }), 0, by decide⟩

theorem test_meets_ShroudClusterCommandsComplete_6 :
    ∃ (s : State) (p : Die) (sid : Nat) (code : Nat) (x : Sample), s.sample p.val sid = some x ∧ x.verdict = some code ∧ x.wait
      = [] :=
  ⟨(poolWith { port := 0, sid := 0, verdict := some 1 }), 0, 0, _, _, rfl, rfl, by decide⟩

theorem test_meets_ShroudClusterCommandsComplete_7 :
    ∃ (s : State) (u : State) (v : State) (w : Writer) (j : Fin 16) (l : List Nat), mayReach w true .fleet = true ∧ l.length ≤
      64 ∧ profCode (ofBytes l) = 0 ∧ s.profBusy j.val = false ∧ u = s.writeOctets .vager (O.PROF_DATA_5450 j.val) 64 l ∧ v =
      u.setBytes .vager (O.PROF_DIGEST_5450 j.val) 0 (sha256 (u.bytesAt .vager (O.PROF_DATA_5450 j.val) 0 64)) :=
  ⟨State.reset, _, _, wF, 0, [], by decide, by decide, by decide, by decide, rfl, rfl⟩

theorem test_meets_ShroudClusterCommandsComplete_8 :
    ∃ (s : State) (w : Writer) (j : Fin 16) (l : List Nat), mayReach w true .fleet = true ∧ l.length ≤ 64 ∧ profCode (ofBytes l)
      ≠ 0 :=
  ⟨State.reset, wF, 0, [1], by decide, by decide, by decide⟩

theorem test_meets_ShroudClusterCommandsComplete_9 :
    ∃ (s : State) (w : Writer) (j : Fin 16), mayReach w true .fleet = true ∧ s.profBusy j.val = false :=
  ⟨State.reset, wF, 0, by decide, by decide⟩

theorem test_meets_ShroudClusterCommandsComplete_10 :
    ∃ (s : State) (w : Writer) (x : Sample), mayReach w true .operator = true ∧ s.heldSample = some x ∧ (s.sh.pool.filter fun y
      => y.pinned).length < 16 :=
  ⟨(poolWith { port := 0, sid := 0 }), wF, _, by decide, rfl, by decide⟩

theorem test_meets_ShroudClusterCommandsComplete_11 :
    ∃ (s : State) (w : Writer) (x : Sample), mayReach w true .operator = true ∧ s.heldSample = some x ∧ x.released = true :=
  ⟨(poolWith { port := 0, sid := 0, released := true }), wF, _, by decide, rfl, by decide⟩

theorem test_meets_ShroudClusterCommandsComplete_12 :
    ∃ (s : State) (w : Writer) (c : Nat), mayReach w true .operator = true ∧ s.rd .vager O.REPLAY_STATE_5480 ≠ 1 ∧
      s.replayCluster = some c ∧ s.replaySample.operands.reserved = false ∧ s.rd .vager O.REPLAY_BYTES_5480 ≠ 0 :=
  ⟨(((State.reset.wr .vager O.REPLAY_CLUSTER_5480 0xFF).wr .vager O.REPLAY_BYTES_5480 32).setElem .vager O.REPLAY_DATA_5480 32 0
    (2 ^ 72 + 2 ^ 68)), wF, _, by decide, by decide, rfl, by decide, by decide⟩

theorem test_meets_ShroudClusterCommandsComplete_13 :
    ∃ (s : State) (c : Nat) (wr : Option (List Nat)), s.sh.replay = some c ∧ s.clState c = 1 ∧ (s.cluster c).job = none ∧
      (s.cluster c).testing = false :=
  ⟨(vagerWith fun v => { v with shroud := { replay := some 0 } }), _, none, rfl, by decide, by decide, by decide⟩

theorem test_meets_CutAbsorptionCommandsComplete_1 :
    ∃ (s : State) (w : Writer) (a : Nat), mayReach w true .fleet = true ∧ s.armCode a = 0 :=
  ⟨((State.reset.wr .vager (O.TGT_KIND_5888 0) 1).wr .vager (linkStateKey true 0) 3), wF, 1 + 2 ^ 32 + 2 ^ 128, by decide,
    by decide⟩

theorem test_meets_CutAbsorptionCommandsComplete_2 :
    ∃ (s : State) (w : Writer) (a : Nat), mayReach w true .fleet = true ∧ s.armCode a ≠ 0 :=
  ⟨State.reset, wF, 0, by decide, by decide⟩

theorem test_meets_CutAbsorptionCommandsComplete_3 :
    ∃ (s : State) (v : State) (d : Die) (h : Nat), s.rd (.staris d) O.STAY_STATE_5800 < 2 ∧ v = (((s.wr (.staris d)
      O.ARM_CUT_5800 (bits h 191 160)).wr (.staris d) O.ARM_STEP_5800 (bits h 159 128)).wr (.staris d) O.ARM_EPOCH_5800 (bits h
      127 96)).wr (.staris d) O.STAY_STATE_5800 1 ∧ v.slotsNeeded d ≤ bits h 95 80 :=
  ⟨State.reset, _, 0, 0, by decide, rfl, by decide⟩

theorem test_meets_CutAbsorptionCommandsComplete_4 :
    ∃ (s : State) (u : State) (d : Die) (step : Nat), s.rd (.staris d) O.STAY_STATE_5800 = 1 ∧ u = s.wr (.staris d)
      O.LAST_READY_5800 (s.ns (.staris d)) ∧ step % 2 ^ 32 = u.rd (.staris d) O.ARM_STEP_5800 :=
  ⟨(State.reset|>.wr (.staris (0 : Die)) O.STAY_STATE_5800 1), _, 0, 0, by decide, rfl, by decide⟩

theorem test_meets_CutAbsorptionCommandsComplete_5 :
    ∃ (s : State) (u : State) (d : Die) (step : Nat), s.rd (.staris d) O.STAY_STATE_5800 = 1 ∧ u = s.wr (.staris d)
      O.LAST_READY_5800 (s.ns (.staris d)) ∧ step % 2 ^ 32 ≠ u.rd (.staris d) O.ARM_STEP_5800 :=
  ⟨(State.reset|>.wr (.staris (0 : Die)) O.STAY_STATE_5800 1), _, 0, 1, by decide, rfl, by decide⟩

theorem test_meets_CutAbsorptionCommandsComplete_6 :
    ∃ (s : State) (d : Die), s.rd (.staris d) O.STAY_STATE_5800 = 1 :=
  ⟨(State.reset|>.wr (.staris (0 : Die)) O.STAY_STATE_5800 1), 0, by decide⟩

theorem test_meets_CutAbsorptionCommandsComplete_7 :
    ∃ (s : State) (d : Die) (l : List (List (Nat × Bool))), s.rd (.staris d) O.STAY_STATE_5800 = 2 ∧ s.dmaState (.staris d) 2 =
      3 :=
  ⟨((State.reset.wr (.staris 0) O.STAY_STATE_5800 2).wr (.staris 0) (O.DMA_STATE 0x6802) 3), 0, [], by decide, by decide⟩

theorem test_meets_CutAbsorptionCommandsComplete_8 :
    ∃ (s : State) (p : Die) (h : Nat) (r : Nat) (c : Nat) (b : Bool) (l : List (Nat × Bool)), r = bits h 79 74 ∧ c = bits h 127
      104 ∧ (s.cutState = 1 ∨ s.cutState = 2) ∧ bits h 191 160 = armCut s.arm ∧ bitAt (armMask s.arm) p.val = true ∧ c <
      s.regChunks p r ∧ s.regFirst p r + c < s.rd .vager O.CHUNK_SLOTS_5880 :=
  ⟨(((((State.reset.wr .vager O.CUT_STATE_5880 1).wr .vager O.CHUNK_SLOTS_5880 8).wr (.staris 0) (O.REG_FLAGS_5810 0) 1).wr
    (.staris 0) (O.REG_BYTES_5810 0) 32).setElem .vager O.CUT_PARAMS_5880 32 0 (2 ^ 128)), 0, 0, _, _, false, [], rfl, rfl,
    by decide, by decide, by decide, by decide, by decide⟩

theorem test_meets_CutAbsorptionCommandsComplete_9 :
    ∃ (s : State) (p : Die) (h : Nat) (r : Nat) (c : Nat) (b : Bool) (l : List (Nat × Bool)), r = bits h 79 74 ∧ c = bits h 127
      104 ∧ (s.cutState = 1 ∨ s.cutState = 2) ∧ bits h 191 160 ≠ armCut s.arm :=
  ⟨(State.reset.wr .vager O.CUT_STATE_5880 1), 0, 2 ^ 160, _, _, false, [], rfl, rfl, by decide, by decide⟩

theorem test_meets_CutAbsorptionCommandsComplete_10 :
    ∃ (s : State) (u : State) (n : Nat) (er : List (Nat × HbmError)), s.cutState = 2 ∧ (Tbl.find s.stay.chunks n).isSome = true
      ∧ (s.chunk n).digest = none ∧ u = s.readSlot n 0 (er.filter fun e => decide (e.1 < (s.chunk n).len)) ∧ ((u.slotData n
      (s.chunk n).len).any fun g => g.poison) = false :=
  ⟨((vagerWith fun v => { v with stay := { chunks := [(0, {})] } }).wr .vager O.CUT_STATE_5880 2), _, 0, [], by decide,
    by decide, by decide, rfl, by decide⟩

theorem test_meets_CutAbsorptionCommandsComplete_11 :
    ∃ (s : State) (p : Die) (g : Nat), (s.cutState = 1 ∨ s.cutState = 2) ∧ bits g 191 160 = armCut s.arm ∧ bitAt (armMask s.arm)
      p.val = true ∧ bits g 71 64 = 0 :=
  ⟨((State.reset.wr .vager O.CUT_STATE_5880 1).setElem .vager O.CUT_PARAMS_5880 32 0 (2 ^ 128)), 0, 0, by decide, by decide,
    by decide, by decide⟩

theorem test_meets_CutAbsorptionCommandsComplete_12 :
    ∃ (s : State) (p : Die) (g : Nat), (s.cutState = 1 ∨ s.cutState = 2) ∧ bits g 191 160 = armCut s.arm ∧ bitAt (armMask s.arm)
      p.val = true ∧ bits g 71 64 ≠ 0 :=
  ⟨((State.reset.wr .vager O.CUT_STATE_5880 1).setElem .vager O.CUT_PARAMS_5880 32 0 (2 ^ 128)), 0, 2 ^ 64, by decide,
    by decide, by decide, by decide⟩

theorem test_meets_CutAbsorptionCommandsComplete_13 :
    ∃ (s : State) (w : Writer), mayReach w true .fleet = true ∧ 1 ≤ s.cutState ∧ s.cutState ≤ 5 :=
  ⟨(State.reset.wr .vager O.CUT_STATE_5880 1), wF, by decide, by decide, by decide⟩

theorem test_meets_CutAbsorptionCommandsComplete_14 :
    ∃ (s : State) (w : Writer) (n : Nat), mayReach w true .fleet = true ∧ n % 4096 = 0 ∧ n ≤ 512000000000 ∧ n + s.rd .vager
      O.TRACE_REGION_BYTES_3580 ≤ 572000000000 ∧ s.cutIdle = true ∧ s.rstState = 0 ∧ ((List.range 16).any fun r => s.rd .vager
      (O.HREG_ENABLE_7448 r) == 1 && (decide (s.rd .vager (O.HREG_BASE_7448 r) < 576000000000 - n) || decide (576000000000 <
      s.rd .vager (O.HREG_BASE_7448 r) + s.rd .vager (O.HREG_BYTES_7448 r)))) = false :=
  ⟨State.reset, wF, 0, by decide, by decide, by decide, by decide, by decide, by decide, by decide⟩

theorem test_meets_CutStorageCommandsComplete_1 :
    ∃ (s : State) (u : State) (h : Nat) (n : Nat) (b : List Nat) (l : PeerList), s.smHere h 1 3 = true ∧ s.stayPeers.contains
      (smSrc h) = true ∧ (s.peerList (smSrc h)).segs.contains (smArg0 h) = false ∧ l = ⟨smArg0 h :: (s.peerList (smSrc h)).segs,
      if smLast h then some (smArg0 h) else (s.peerList (smSrc h)).last, (s.peerList (smSrc h)).entries ++ readEntries b⟩ ∧ n =
      smSrc h ∧ u = s.setStay { s.stay with peers := Tbl.insert s.stay.peers n l } :=
  ⟨((State.reset.wr .vager O.CUT_STATE_5880 1).wr .vager O.PEER_COUNT_5884 1), _, 0, _, [], _, by decide, by decide, by decide,
    rfl, rfl, rfl⟩

theorem test_meets_CutStorageCommandsComplete_2 :
    ∃ (s : State), s.cutState = 3 :=
  ⟨(State.reset.wr .vager O.CUT_STATE_5880 3), by decide⟩

theorem test_meets_CutStorageCommandsComplete_3 :
    ∃ (s : State) (u : State) (t : Fin 8) (cid : Nat) (x : DrainWrite), s.stay.writes.find? (fun x => x.cid == cid && x.tgt ==
      t.val && x.stage == .outstanding) = some x ∧ u = s.setStay
      { s.stay with writes := s.stay.writes.filter fun y => y.cid != cid } :=
  ⟨(vagerWith fun v =>
    { v with stay := { writes := [{ cid := 0, tgt := 0, item := .chunk 0, first := 0, count := 0, stage := .outstanding }] } }),
    _, 0, 0, _, rfl, rfl⟩

theorem test_meets_CutStorageCommandsComplete_4 :
    ∃ (s : State) (u : State) (t : Fin 8) (cid : Nat) (tag : Nat) (off : Nat) (len : Nat) (n : Nat) (k : Nat) (er : List (Nat ×
      HbmError)) (x : DrainWrite), s.stay.writes.find? (fun x => x.cid == cid && x.tgt == t.val && x.stage == .outstanding) =
      some x ∧ x.item = .chunk k ∧ n = min (granulesOf len) (x.count - off / 32) ∧ u = s.readSlot k (x.first + off / 32)
      (er.filter fun e => decide (e.1 < n)) ∧ ((((u.itemData x.item).drop (x.first + off / 32)).take n).any fun g => g.poison) =
      true :=
  ⟨(vagerWith fun v =>
    { v with stay := { writes := [{ cid := 0, tgt := 0, item := .chunk 0, first := 0, count := 1, stage := .outstanding }], chunks := [(0, { len := 1 })] } }),
    _, 0, 0, 0, 0, 32, _, 0, [], _, rfl, by decide, rfl, rfl, by decide⟩

theorem test_meets_CutStorageCommandsComplete_5 :
    ∃ (s : State) (t : Fin 8) (cid : Nat) (tag : Nat) (off : Nat) (len : Nat) (n : Nat) (most : Nat) (er : List (Nat ×
      HbmError)) (x : DrainWrite), s.stay.writes.find? (fun x => x.cid == cid && x.tgt == t.val && x.stage == .outstanding) =
      some x ∧ x.item = .manifest ∧ n = min (granulesOf len) (x.count - off / 32) ∧ most = (if (s.conn t.val x.queue).most = 0
      then len else (s.conn t.val x.queue).most) :=
  ⟨(vagerWith fun v =>
    { v with stay := { writes := [{ cid := 0, tgt := 0, item := .manifest, first := 0, count := 0, stage := .outstanding }] } }),
    0, 0, 0, 0, 0, _, _, [], _, rfl, by decide, rfl, rfl⟩

theorem test_meets_CutStorageCommandsComplete_6 :
    ∃ (s : State) (u : State) (v : State) (t : Fin 8) (hd : Bool) (dd : Bool) (most : Nat), (s.target t.val).stage = 1 ∧ u =
      (s.setTarget t.val
      { s.target t.val with stage := 2, conns := Tbl.insert (s.target t.val).conns 0 { hdgst := hd, ddgst := dd, most := most } }).fabricsConnect
      t.val 0 ∧ v = (u.sendCmd t.val 0 (sqePropertySet 1) []).sendCmd t.val 0 (sqePropertyGet 2) [] :=
  ⟨(vagerWith fun v => { v with stay := { targets := [(0, { stage := 1 })] } }), _, _, 0, false, false, 0, by decide, rfl, rfl⟩

theorem test_meets_CutStorageCommandsComplete_7 :
    ∃ (s : State) (t : Fin 8) (lba : Nat) (meta_ : Nat) (mdts : Nat), (s.target t.val).stage = 2 ∧ ((lba = 512 ∨ lba = 4096) ∧
      meta_ = 0) :=
  ⟨(vagerWith fun v => { v with stay := { targets := [(0, { stage := 2 })] } }), 0, 512, 0, 0, by decide, by decide⟩

theorem test_meets_CutStorageCommandsComplete_8 :
    ∃ (s : State) (t : Fin 8) (lba : Nat) (meta_ : Nat) (mdts : Nat), (s.target t.val).stage = 2 ∧ (¬((lba = 512 ∨ lba = 4096) ∧
      meta_ = 0)) :=
  ⟨(vagerWith fun v => { v with stay := { targets := [(0, { stage := 2 })] } }), 0, 0, 0, 0, by decide, by decide⟩

theorem test_meets_CutStorageCommandsComplete_9 :
    ∃ (s : State) (t : Fin 8), (s.target t.val).stage ≠ 0 :=
  ⟨(vagerWith fun v => { v with stay := { targets := [(0, { stage := 1 })] } }), 0, by decide⟩

theorem test_meets_CutStorageCommandsComplete_10 :
    ∃ (s : State) (t : Fin 8) (cid : Nat) (x : DrainWrite), s.stay.writes.find? (fun x => x.cid == cid && x.tgt == t.val &&
      x.stage == .backoff) = some x :=
  ⟨(vagerWith fun v =>
    { v with stay := { writes := [{ cid := 0, tgt := 0, item := .chunk 0, first := 0, count := 0, stage := .backoff }] } }), 0,
    0, _, rfl⟩

theorem test_meets_CutStorageCommandsComplete_11 :
    ∃ (s : State) (u : State) (w : Writer) (v : Nat) (old : Nat) (gone : List (DrainItem × Nat)) (left : List (DrainItem ×
      Nat)), mayReach w false .host = true ∧ old = s.rd .vager O.HOST_ACK_5898 ∧ subMod 64 v old ≤ subMod 64 (s.rd .vager
      O.HOST_WRITE_5898) old ∧ u = s.wr .vager O.HOST_ACK_5898 (v % 2 ^ 64) ∧ u.stay.hostRecs.partition (fun e => decide (subMod
      64 e.2 old ≤ subMod 64 v old)) = (gone, left) :=
  ⟨((vagerWith fun v => { v with stay := { chunks := [(0, { dedup := true, owner := some 0 })] } }).wr .vager O.CUT_STATE_5880
    3), _, wF, 0, _, _, _, by decide, rfl, by decide, rfl, rfl⟩

theorem test_meets_CutStorageCommandsComplete_12 :
    ∃ (s : State) (h : Nat) (b : List Nat) (e : PeerEntry) (es : List PeerEntry), s.smHere h 3 5 = true ∧ readEntries b = e ::
      es ∧ ((s.stay.chunks.filter fun x => x.2.dedup && x.2.key == (e.rtag, e.chunk)).any fun x => x.2.owner == some (s.holderOf
      x.2) && !x.2.poison) = true :=
  ⟨((vagerWith fun v =>
    { v with stay := { chunks := [(0, { dedup := true, owner := some (podDie State.reset.vager.tree.self 0) })] } }).wr .vager
    O.CUT_STATE_5880 3), 0, [0, 0], _, _, by decide, rfl, by decide⟩

theorem test_meets_CutStorageCommandsComplete_13 :
    ∃ (s : State) (u : State) (v : State) (h : Nat) (x : Handoff), s.smHere h 4 4 = true ∧ s.handoffOf h = some x ∧ u =
      s.setStay { s.stay with handoffs := s.stay.handoffs.filter fun y => y.slot != x.slot } ∧ v = u.setChunk x.slot
      { u.chunk x.slot with owner := some x.asked, handed := true } :=
  ⟨((vagerWith fun v => { v with stay := { handoffs := [{ slot := 0, asked := 0, left := [], since := 0 }] } }).wr .vager
    O.CUT_STATE_5880 4), _, _, 0, _, by decide, rfl, rfl, rfl⟩

theorem test_meets_CutStorageCommandsComplete_14 :
    ∃ (s : State) (h : Nat) (x : Handoff), s.smHere h 4 4 = true ∧ s.handoffOf h = some x :=
  ⟨((vagerWith fun v => { v with stay := { handoffs := [{ slot := 0, asked := 0, left := [], since := 0 }] } }).wr .vager
    O.CUT_STATE_5880 4), 0, _, by decide, rfl⟩

theorem test_meets_CutCommitCommandsComplete_1 :
    ∃ (s : State) (h : Nat) (g : Nat), s.smHere h 1 6 = true ∧ armLo s.arm ≤ smSrc h ∧ smArg0 h = armStep s.arm :=
  ⟨(State.reset.wr .vager O.CUT_STATE_5880 1), 0, 0, by decide, by decide, by decide⟩

theorem test_meets_CutCommitCommandsComplete_2 :
    ∃ (s : State) (h : Nat), s.smHere h 1 8 = true :=
  ⟨(State.reset.wr .vager O.CUT_STATE_5880 1), 0, by decide⟩

theorem test_meets_CutCommitCommandsComplete_3 :
    ∃ (s : State) (h : Nat) (g : Nat), s.smHere h 5 6 = true :=
  ⟨(State.reset.wr .vager O.CUT_STATE_5880 5), 0, 0, by decide⟩

theorem test_meets_CutCommitCommandsComplete_4 :
    ∃ (s : State) (h : Nat), s.smHere h 1 8 = true ∧ s.rd .vager O.COORD_STATE_58A0 = 2 ∧ smSrc h ∉ s.stay.coord.acks :=
  ⟨((State.reset.wr .vager O.CUT_STATE_5880 1).wr .vager O.COORD_STATE_58A0 2), 0, by decide, by decide, by decide⟩

theorem test_meets_CutCommitCommandsComplete_5 :
    ∃ (s : State) (h : Nat), s.smHere h 1 5 = true :=
  ⟨(State.reset.wr .vager O.CUT_STATE_5880 1), 0, by decide⟩

theorem test_meets_CutCommitCommandsComplete_6 :
    ∃ (s : State) (u : State), s.cutState = 5 ∧ u = s.sendPrepared true ∧ u.rd .vager O.COORD_STATE_58A0 ≠ 2 ∧
      u.stay.coord.aborting = none ∧ u.stay.handoffs = [] :=
  ⟨(State.reset.wr .vager O.CUT_STATE_5880 5), _, by decide, rfl, by decide, by decide, by decide⟩

theorem test_meets_CutCommitCommandsComplete_7 :
    ∃ (s : State), s.rd .vager O.COORD_STATE_58A0 = 1 ∧ 4 ≤ s.cutState ∧ s.cutState ≤ 6 :=
  ⟨((State.reset.wr .vager O.CUT_STATE_5880 4).wr .vager O.COORD_STATE_58A0 1), by decide, by decide, by decide⟩

theorem test_meets_CutCommitCommandsComplete_8 :
    ∃ (s : State) (w : Writer) (v : Nat), mayReach w true .fleet = true ∧ v < 8192 ∧ v ≠ s.rd .vager O.COORD_TRAY_5880 ∧ v =
      s.vager.tree.self ∧ (s.wr .vager O.COORD_TRAY_5880 v).vager.tree.self = s.vager.tree.self ∧ 1 ≤ (s.wr .vager
      O.COORD_TRAY_5880 v).cutState ∧ (s.wr .vager O.COORD_TRAY_5880 v).cutState ≤ 6 :=
  ⟨((State.reset.wr .vager O.CUT_STATE_5880 1).wr .vager O.COORD_TRAY_5880 5), wF, _, by decide, by decide, by decide, rfl,
    by decide, by decide, by decide⟩

theorem test_meets_CutCommitCommandsComplete_9 :
    ∃ (s : State) (w : Writer) (v : Nat), mayReach w true .fleet = true ∧ v < 8192 ∧ v ≠ s.rd .vager O.COORD_TRAY_5880 ∧ v ≠
      (s.wr .vager O.COORD_TRAY_5880 v).vager.tree.self ∧ s.rd .vager O.COORD_TRAY_5880 ≠ (s.wr .vager O.COORD_TRAY_5880
      v).vager.tree.self :=
  ⟨(vagerWith fun v => { v with tree := { self := 9 } }), wF, 7, by decide, by decide, by decide, by decide, by decide⟩

theorem test_meets_CutCommitCommandsComplete_10 :
    ∃ (s : State) (w : Writer) (pos : Nat) (l : List Nat), mayReach w true .fleet = true ∧ s.rd .vager O.COORD_STATE_58A0 = 1 ∧
      pos < armHi s.arm + 1 - armLo s.arm ∧ l.length = 32 :=
  ⟨(State.reset|>.wr .vager O.COORD_STATE_58A0 1), wF, 0, List.replicate 32 0, by decide, by decide, by decide, by decide⟩

theorem test_meets_RestoreCommandsComplete_1 :
    ∃ (s : State) (w : Writer) (x : Nat), mayReach w true .fleet = true ∧ (¬(1 ≤ s.rstState ∧ s.rstState ≤ 4)) ∧ (¬(1 ≤
      s.cutState ∧ s.cutState ≤ 5)) :=
  ⟨State.reset, wF, 0, by decide, by decide, by decide⟩

theorem test_meets_RestoreCommandsComplete_2 :
    ∃ (s : State) (w : Writer), mayReach w true .host = true ∧ s.rstState = 1 ∧ s.loadedCode = 0 :=
  ⟨loaded0, wF, by decide, by decide +kernel, by decide +kernel⟩

theorem test_meets_RestoreCommandsComplete_3 :
    ∃ (s : State) (w : Writer), mayReach w true .host = true ∧ s.rstState = 1 ∧ s.loadedCode ≠ 0 :=
  ⟨(State.reset.wr .vager O.RST_STATE_58B0 1), wF, by decide, by decide, by decide +kernel⟩

theorem test_meets_RestoreCommandsComplete_4 :
    ∃ (s : State), s.rstState = 1 :=
  ⟨(State.reset.wr .vager O.RST_STATE_58B0 1), by decide⟩

theorem test_meets_RestoreCommandsComplete_5 :
    ∃ (s : State) (w : Writer) (cut : Nat), mayReach w true .fleet = true ∧ s.rstState = 2 ∧ cut % 2 ^ 32 = propCut
      s.rst.proposal ∧ s.lacksSource (manMask [s.rst.params]) = false ∧ ((List.range 16).any fun i => s.ob .vager
      O.RST_PLAN_58B0 i == 2) = true :=
  ⟨((State.reset.wr .vager O.RST_STATE_58B0 2).setOb .vager O.RST_PLAN_58B0 0 2), wF, 0, by decide, by decide, by decide,
    by decide, by decide⟩

theorem test_meets_RestoreCommandsComplete_6 :
    ∃ (s : State) (w : Writer) (cut : Nat), mayReach w true .fleet = true ∧ s.rstState = 2 ∧ cut % 2 ^ 32 = propCut
      s.rst.proposal ∧ s.lacksSource (manMask [s.rst.params]) = false ∧ s.ob .vager O.RST_PLAN_58B0 0 ≠ 2 ∧ ((List.range 16).any
      fun i => s.ob .vager O.RST_PLAN_58B0 i == 2) = false :=
  ⟨(State.reset.wr .vager O.RST_STATE_58B0 2), wF, 0, by decide, by decide, by decide, by decide, by decide, by decide⟩

theorem test_meets_RestoreCommandsComplete_7 :
    ∃ (s : State) (w : Writer) (v : Nat) (n : Nat), mayReach w true .host = true ∧ n = bits v 31 28 * s.rd .vager
      O.CHUNK_SLOTS_5880 + bits v 12 0 ∧ s.rstState = 3 ∧ (Tbl.find s.rst.chunks n).isSome = true ∧ n ∉ s.rst.hashing :=
  ⟨((vagerWith fun v => { v with stay := { restore := { chunks := [(0, [], 0)] } } }).wr .vager O.RST_STATE_58B0 3), wF, 0, _,
    by decide, rfl, by decide, by decide, by decide⟩

theorem test_meets_RestoreCommandsComplete_8 :
    ∃ (s : State) (u : State) (n : Nat) (e : List Nat × Nat) (todo : List Nat), Tbl.find s.rst.chunks n = some e ∧ s.rstState =
      3 ∧ n ∈ s.rst.hashing ∧ s.slotGood n e = true ∧ todo = s.rst.todo.filter (fun x => x != n) ∧ u = s.setRst
      { s.rst with hashing := s.rst.hashing.filter (fun x => x != n), todo := s.rst.todo.filter (fun x => x != n) } :=
  ⟨((vagerWith fun v => { v with stay := { restore := { chunks := [(0, granulesDigest [], 0)], hashing := [0] } } }).wr .vager
    O.RST_STATE_58B0 3), _, 0, _, _, rfl, by decide, by decide, by decide +kernel, rfl, rfl⟩

theorem test_meets_RestoreCommandsComplete_9 :
    ∃ (s : State) (w : Writer) (off : Nat) (x : Nat), w.secure = true ∧ s.rstState = 3 ∧ off % 32 = 0 ∧ off + 32 ≤ s.rd .vager
      O.STAY_BYTES_5880 :=
  ⟨((State.reset.wr .vager O.RST_STATE_58B0 3).wr .vager O.STAY_BYTES_5880 32), wF, 0, 0, by decide, by decide, by decide,
    by decide⟩

theorem test_meets_RestoreCommandsComplete_10 :
    ∃ (s : State) (d : Die) (h : Nat), s.rd (.staris d) O.STAY_STATE_5800 = 0 :=
  ⟨(State.reset|>.wr (.staris (0 : Die)) O.STAY_STATE_5800 0), 0, 0, by decide⟩

theorem test_meets_RestoreCommandsComplete_11 :
    ∃ (s : State) (d : Die), s.rd (.staris d) O.STAY_STATE_5800 = 3 :=
  ⟨(State.reset.wr (.staris 0) O.STAY_STATE_5800 3), 0, by decide⟩

theorem test_meets_RestoreCommandsComplete_12 :
    ∃ (s : State) (v : State) (d : Die) (h : Nat) (r : Nat) (c : Nat) (l : List (Nat × Bool)), r = bits h 79 74 ∧ c = bits h 127
      104 ∧ s.rd (.staris d) O.STAY_STATE_5800 = 3 ∧ c < s.regChunks d r ∧ bits h 159 128 = s.rd (.staris d) (O.REG_TAG_5810 r)
      ∧ bits h 103 80 = s.chunkLen d r c ∧ l.length = s.chunkLen d r c ∧ v = ((List.range l.length).zip l).foldl (fun x e =>
      x.emit (.dieWrite d.val true (s.rd (.staris d) (O.REG_BASE_5810 r) + c * chunkBytes + 32 * e.1) (e.2.1 % 2 ^ 256) e.2.2))
      s :=
  ⟨(((State.reset.wr (.staris 0) O.STAY_STATE_5800 3).wr (.staris 0) (O.REG_FLAGS_5810 0) 1).wr (.staris 0) (O.REG_BYTES_5810 0)
    32), _, 0, 2 ^ 80, _, _, [(0, false)], rfl, rfl, by decide, by decide, by decide, by decide, by decide, rfl⟩

theorem test_meets_RestoreCommandsComplete_13 :
    ∃ (s : State) (d : Die) (g : Nat), s.rd (.staris d) O.STAY_STATE_5800 = 3 :=
  ⟨(State.reset.wr (.staris 0) O.STAY_STATE_5800 3), 0, 0, by decide⟩

theorem test_meets_RestoreCommandsComplete_14 :
    ∃ (s : State) (v : State) (p : Die) (g : Nat), s.rstState = 4 ∧ bitAt (manMask [s.rst.params]) p.val = true ∧ bits g 191 160
      = propCut s.rst.proposal ∧ bits g 71 64 = 0 ∧ v = s.wr .vager O.RST_DIES_DONE_58B0 (setBit (s.rd .vager
      O.RST_DIES_DONE_58B0) p.val true) ∧ v.rd .vager O.RST_DIES_DONE_58B0 ≠ manMask [s.rst.params] :=
  ⟨((vagerWith fun v => { v with stay := { restore := { params := 2 ^ 60 + 2 ^ 61 } } }).wr .vager O.RST_STATE_58B0 4), _, 0, 0,
    by decide, by decide, by decide, by decide, rfl, by decide⟩

theorem test_meets_EnergyAndGateCommandsComplete_1 :
    ∃ (s : State) (d : Die) (w : Writer) (ctx : Nat) (r : Nat) (e : Nat), opRefusal (s.en d) 1 ctx r = none :=
  ⟨State.reset, 0, wF, 1, 1, 0, by decide⟩

theorem test_meets_EnergyAndGateCommandsComplete_2 :
    ∃ (s : State) (d : Die) (w : Writer) (ctx : Nat) (r : Nat) (e : Nat), opRefusal (s.en d) 2 ctx r = none :=
  ⟨State.reset, 0, wF, 1, 0, 0, by decide⟩

theorem test_meets_EnergyAndGateCommandsComplete_3 :
    ∃ (s : State) (d : Die) (w : Writer) (ctx : Nat) (r : Nat) (e : Nat) (c : _), opRefusal (s.en d) 1 ctx r = some c :=
  ⟨State.reset, 0, wF, 0, 0, 0, _, rfl⟩

theorem test_meets_EnergyAndGateCommandsComplete_4 :
    ∃ (s : State) (u : State) (d : Die) (l : List (Fin 16)), u = ((l.foldl (fun s r => s.fillSample d r.val) s).creditSlice
      d).clearTotals d ∧ (u.en d).ops = [] ∧ ((u.segmentBoundary d).en d).ops = [] :=
  ⟨State.reset, _, 0, [], rfl, by decide +kernel, by decide +kernel⟩

theorem test_meets_EnergyAndGateCommandsComplete_5 :
    ∃ (s : State) (d : Die) (w : Writer), mayReach w true .fleet = true :=
  ⟨State.reset, 0, wF, by decide⟩

theorem test_meets_EnergyAndGateCommandsComplete_6 :
    ∃ (s : State) (w : Writer) (n : Nat), mayReach w false .host = true :=
  ⟨State.reset, wF, 0, by decide⟩

theorem test_meets_EnergyAndGateCommandsComplete_7 :
    ∃ (s : State) (u : State) (q : Fin 2) (t : Nat) (i : Nat), (s.gate q.val).entryEnd = some t ∧ t ≤ s.extNow ∧ u = s.accrue
      q.val ∧ i = u.rd .vager (O.OPER_ENTRY_6420 q.val) + 1 ∧ i < u.rd .vager (O.OPER_LENGTH_6420 q.val) :=
  ⟨((vagerWith fun v => { v with gates := [(0, { entryEnd := some 0 })] }).wr .vager (O.OPER_LENGTH_6420 0) 5), _, 0, _, _, rfl,
    by decide, rfl, rfl, by decide⟩

theorem test_meets_EnergyAndGateCommandsComplete_8 :
    ∃ (s : State) (u : State) (q : Fin 2) (t : Nat) (i : Nat), (s.gate q.val).entryEnd = some t ∧ t ≤ s.extNow ∧ u = s.accrue
      q.val ∧ i = u.rd .vager (O.OPER_ENTRY_6420 q.val) + 1 ∧ u.rd .vager (O.OPER_LENGTH_6420 q.val) ≤ i ∧ u.stepping q.val =
      false :=
  ⟨(vagerWith fun v => { v with gates := [(0, { entryEnd := some 0 })] }), _, 0, _, _, rfl, by decide, rfl, rfl, by decide,
    by decide⟩

theorem test_meets_EnergyAndGateCommandsComplete_9 :
    ∃ (s : State) (u : State) (q : Fin 2) (t : Nat) (i : Nat), (s.gate q.val).entryEnd = some t ∧ t ≤ s.extNow ∧ u = s.accrue
      q.val ∧ i = u.rd .vager (O.OPER_ENTRY_6420 q.val) + 1 ∧ u.rd .vager (O.OPER_LENGTH_6420 q.val) ≤ i ∧ u.stepping q.val =
      true :=
  ⟨((vagerWith fun v => { v with gates := [(0, { entryEnd := some 0 })] }).wr .vager (O.OPER_MODE_6420 0) 1), _, 0, _, _, rfl,
    by decide, rfl, rfl, by decide, by decide⟩

theorem test_meets_EnergyAndGateCommandsComplete_10 :
    ∃ (s : State) (a : State) (b : State) (u : State) (v : State) (q : Fin 2) (t : Nat), (s.gate q.val).anchorAt = some t ∧ t ≤
      s.extNow ∧ a = s.accrue q.val ∧ b = a.takeoverBy q.val t ∧ u = b.setGate q.val { b.gate q.val with anchorAt := none } ∧
      bitAt (u.rd .vager (O.OPER_MODE_6420 q.val)) 0 = true ∧ v = ((u.bump .vager (O.ANCHORS_6420 q.val) 32).wr .vager
      (O.ANCHOR_FREE_6420 q.val) 0).enterEntry q.val 0 t :=
  ⟨((vagerWith fun v => { v with gates := [(0, { anchorAt := some 0 })] }).wr .vager (O.OPER_MODE_6420 0) 1), _, _, _, _, 0, _,
    rfl, by decide, rfl, rfl, rfl, by decide, rfl⟩

theorem test_meets_EnergyAndGateCommandsComplete_11 :
    ∃ (s : State) (q : Fin 2), s.stepping q.val = true ∧ (s.gate q.val).lastAnchor + 1000 * s.rd .vager (O.ANCHOR_LOSS_6420
      q.val) ≤ s.extNow :=
  ⟨((State.reset.wr .vager (O.OPER_MODE_6420 0) 1).wr .vager (O.ANCHOR_LOSS_6420 0) 0), 0, by decide, by decide⟩

theorem test_meets_EnergyAndGateCommandsComplete_12 :
    ∃ (s : State) (w : Writer) (q : Fin 2), mayReach w true .operator = true ∧ s.changeRefusal q.val = 0 :=
  ⟨(((State.reset.wr .vager (O.ADMIN_LENGTH_6420 0) 1).wr .vager (O.CHANGE_TIME_6420 0) 2000000).setElem .vager
    (O.ADMIN_LIST_6420 0) 8 0 (1000 * 2 ^ 8 + 255)), wF, 0, by decide, by decide⟩

theorem test_meets_EnergyAndGateCommandsComplete_13 :
    ∃ (s : State) (w : Writer) (q : Fin 2), mayReach w true .operator = true ∧ 2 ≤ s.changeRefusal q.val :=
  ⟨State.reset, wF, 0, by decide, by decide⟩

theorem test_meets_EnergyAndGateCommandsComplete_14 :
    ∃ (s : State) (w : Writer) (q : Fin 2), mayReach w true .operator = true ∧ s.rd .vager (O.CHANGE_STATE_6420 q.val) = 1 :=
  ⟨(State.reset|>.wr .vager (O.CHANGE_STATE_6420 (0 : Fin 2).val) 1), wF, 0, by decide, by decide⟩

theorem test_meets_EnergyAndGateCommandsComplete_15 :
    ∃ (s : State) (q : Fin 2) (t : Nat), t = s.rd .vager (O.CHANGE_TIME_6420 q.val) ∧ s.rd .vager (O.CHANGE_STATE_6420 q.val) =
      1 ∧ t ≤ s.extNow :=
  ⟨(State.reset|>.wr .vager (O.CHANGE_STATE_6420 (0 : Fin 2).val) 1), 0, _, rfl, by decide, by decide⟩

theorem test_meets_FabricAndShaperCommandsComplete_1 :
    ∃ (s : State) (k : Fin 6) (q : Fin 2) (dst : Nat) (n : Nat), n ≤ 9000 ∧ k = 0 :=
  ⟨State.reset, _, 0, 0, 0, by decide, rfl⟩

theorem test_meets_FabricAndShaperCommandsComplete_2 :
    ∃ (s : State) (k : Fin 6) (q : Fin 2) (dst : Nat) (n : Nat) (p : _) (hop : _), n ≤ 9000 ∧ k ≠ 0 ∧ s.route dst = some (p,
      hop) :=
  ⟨(State.reset.setBytes .vager (O.PORT_ADDR_6410 0) 0 (List.replicate 15 0 ++ [1])), 1, 0, 0, 0, 0, 0, by decide, by decide,
    by decide⟩

theorem test_meets_FabricAndShaperCommandsComplete_3 :
    ∃ (s : State) (u : State) (q : Fin 2), u = (s.accrue q.val).endFrame q.val :=
  ⟨State.reset, _, 0, rfl⟩

theorem test_meets_FabricAndShaperCommandsComplete_4 :
    ∃ (s : State) (w : Writer) (l : List Nat), mayReach w true .fleet = true ∧ l.length ≤ 8 ∧ ((l.take 6).any fun c => decide (7
      < c)) = false ∧ ([0, 1].any fun q => s.gateEnabled q && s.starves (s.operList q) (bitAt (s.rd .vager (O.OPER_MODE_6420 q))
      0) l) = false :=
  ⟨State.reset, wF, [], by decide, by decide, by decide, by decide⟩

theorem test_meets_FabricAndShaperCommandsComplete_5 :
    ∃ (s : State) (w : Writer) (l : List Nat), mayReach w true .fleet = true ∧ l.length ≤ 8 ∧ ((l.take 6).any fun c => decide (7
      < c)) = false ∧ ([0, 1].any fun q => s.gateEnabled q && s.starves (s.operList q) (bitAt (s.rd .vager (O.OPER_MODE_6420 q))
      0) l) = true :=
  ⟨(State.reset.wr .vager (O.OPER_MODE_6420 0) 2), wF, [], by decide, by decide, by decide, by decide⟩

theorem test_meets_FabricAndShaperCommandsComplete_6 :
    ∃ (s : State) (u : State) (w : Writer) (q : Fin 2) (c : Fin 8) (v : Int), mayReach w true .operator = true ∧ 0 ≤ v ∧ v < 2 ^
      63 ∧ u = (s.accrue q.val).wr .vager (O.CBS_ENABLE_6440 (cbsIndex q.val c.val) + 2) (ofSigned 64 v) :=
  ⟨State.reset, _, wF, 0, 0, 0, by decide, by decide, by decide, rfl⟩

theorem test_meets_FabricAndShaperCommandsComplete_7 :
    ∃ (s : State) (w : Writer) (q : Fin 2) (c : Fin 8) (v : Int), mayReach w true .operator = true ∧ -(2 ^ 63) ≤ v ∧ v < 0 :=
  ⟨State.reset, wF, 0, 0, -1, by decide, by decide, by decide⟩

theorem test_meets_DmaCommandsComplete_1 :
    ∃ (s : State) (p : Part) (n : Fin 16) (w : Writer) (x : Nat), n.val < dmaCount p ∧ mayReach w (s.dmaSecure p n) .host = true
      ∧ s.rd p (O.DMA_SHADOW_VALID (dmaIndex p n)) = 0 :=
  ⟨(State.reset|>.wr (.vager : Part) (O.DMA_SHADOW_VALID (dmaIndex (.vager : Part) (0 : Fin 16))) 0), .vager, 0, wF, 0,
    by decide, by decide, by decide⟩

theorem test_meets_DmaCommandsComplete_2 :
    ∃ (s : State) (p : Part) (n : Fin 16) (w : Writer) (x : Nat), n.val < dmaCount p ∧ mayReach w (s.dmaSecure p n) .host = true
      ∧ s.rd p (O.DMA_SHADOW_VALID (dmaIndex p n)) = 1 :=
  ⟨(State.reset|>.wr (.vager : Part) (O.DMA_SHADOW_VALID (dmaIndex (.vager : Part) (0 : Fin 16))) 1), .vager, 0, wF, 0,
    by decide, by decide, by decide⟩

theorem test_meets_DmaCommandsComplete_3 :
    ∃ (s : State) (u : State) (p : Part) (n : Fin 16) (w : Writer), n.val < dmaCount p ∧ mayReach w (s.dmaSecure p n) .host =
      true ∧ s.dmaState p n = 3 :=
  ⟨(State.reset.wr .vager (O.DMA_STATE 0x6840) 3), State.reset, .vager, 0, wF, by decide, by decide, by decide⟩

theorem test_meets_DmaCommandsComplete_4 :
    ∃ (s : State) (u : State) (p : Part) (n : Fin 16) (w : Writer), n.val < dmaCount p ∧ mayReach w (s.dmaSecure p n) .host =
      true ∧ s.dmaState p n = 0 ∧ s.rd p (O.DMA_SHADOW_VALID (dmaIndex p n)) = 0 ∧ u = s.wr p (O.DMA_SHADOW_VALID (dmaIndex p
      n)) 1 ∧ u.dmaState p n = 0 :=
  ⟨(State.reset|>.wr (.vager : Part) (O.DMA_SHADOW_VALID (dmaIndex (.vager : Part) (0 : Fin 16))) 0), _, .vager, 0, wF,
    by decide, by decide, by decide, by decide, rfl, by decide⟩

theorem test_meets_DmaCommandsComplete_5 :
    ∃ (s : State) (u : State) (p : Part) (n : Fin 16) (w : Writer), n.val < dmaCount p ∧ mayReach w (s.dmaSecure p n) .host =
      true ∧ s.dmaState p n = 1 ∧ (s.dmaCh p n).live = true ∧ (s.dmaCh p n).moved < descTotal (s.dmaActive p n) ∧ (s.dmaCh p
      n).stopAt = none :=
  ⟨((vagerWith fun v => { v with dma := [(0, { live := true })] }).wr .vager (O.DMA_STATE 0x6840) 1), State.reset, .vager, 0,
    wF, by decide, by decide, by decide, by decide, by decide +kernel, by decide⟩

theorem test_meets_DmaCommandsComplete_6 :
    ∃ (s : State) (u : State) (p : Part) (n : Fin 16) (w : Writer), n.val < dmaCount p ∧ mayReach w (s.dmaSecure p n) .host =
      true ∧ s.dmaState p n = 2 :=
  ⟨(State.reset.wr .vager (O.DMA_STATE 0x6840) 2), State.reset, .vager, 0, wF, by decide, by decide, by decide⟩

theorem test_meets_DmaCommandsComplete_7 :
    ∃ (s : State) (u : State) (p : Part) (n : Fin 16) (w : Writer), n.val < dmaCount p ∧ mayReach w (s.dmaSecure p n) .host =
      true ∧ s.dmaState p n ≠ 2 :=
  ⟨State.reset, State.reset, .vager, 0, wF, by decide, by decide, by decide⟩

theorem test_meets_DmaCommandsComplete_8 :
    ∃ (s : State) (p : Part) (n : Fin 16), n.val < dmaCount p ∧ s.dmaState p n = 1 ∧ (s.dmaCh p n).live = false ∧ descFault p
      (s.dmaActive p n) = none :=
  ⟨(State.reset.wr .vager (O.DMA_STATE 0x6840) 1), .vager, 0, by decide, by decide, by decide, by decide +kernel⟩

theorem test_meets_DmaCommandsComplete_9 :
    ∃ (s : State) (p : Part) (n : Fin 16) (code : _) (a : _), n.val < dmaCount p ∧ s.dmaState p n = 1 ∧ (s.dmaCh p n).live =
      false ∧ descFault p (s.dmaActive p n) = some (code, a) :=
  ⟨((State.reset.wr .vager (O.DMA_STATE 0x6840) 1).setElem .vager (O.DMA_ACTIVE_DESC 0x6840) 64 0 (2 ^ 384)), .vager, 0, 1, 1,
    by decide, by decide, by decide, by decide +kernel⟩

theorem test_meets_DmaCommandsComplete_10 :
    ∃ (s : State) (d : Die) (n : Fin 16) (a : DmaAccess), s.dmaState (.staris d) n = 1 ∧ (s.dmaCh (.staris d) n).live = true ∧
      (s.dmaCh (.staris d) n).moved < s.dmaEnd (.staris d) n :=
  ⟨((dieWith fun x => { x with dma := [(0, { live := true })] }).wr (.staris 0) (O.DMA_STATE 0x6800) 1), 0, 0, dma0, by decide,
    by decide, by decide +kernel⟩

theorem test_meets_DmaCommandsComplete_11 :
    ∃ (s : State) (n : Fin 16) (a : DmaAccess), s.dmaState .vager n = 1 ∧ (s.dmaCh .vager n).live = true ∧ (s.dmaCh .vager
      n).moved < s.dmaEnd .vager n ∧ bits (s.rd .vager O.PCIE_STATE_7C40) 1 0 = 0 :=
  ⟨((vagerWith fun v => { v with dma := [(0, { live := true })] }).wr .vager (O.DMA_STATE 0x6840) 1), 0, dma0, by decide,
    by decide, by decide +kernel, by decide⟩

theorem test_meets_DmaCommandsComplete_12 :
    ∃ (s : State) (p : Part) (n : Fin 16) (b : Bool) (u : _), s.dmaState p n = 1 ∧ (s.dmaCh p n).live = true ∧ descTotal
      (s.dmaActive p n) ≤ (s.dmaCh p n).moved ∧ u = s.dmaSignal p n (s.dmaActive p n) 0 0 (32 * (s.dmaCh p n).moved) (s.dmaCh p
      n).poison b ∧ bits (u.rd p (O.DMA_LAST_STATUS (dmaIndex p n))) 7 0 ≠ 2 :=
  ⟨((vagerWith fun v => { v with dma := [(0, { live := true, moved := 1 })] }).wr .vager (O.DMA_STATE 0x6840) 1), .vager, 0,
    false, _, by decide, by decide, by decide +kernel, rfl, by decide +kernel⟩

theorem test_meets_DmaCommandsComplete_13 :
    ∃ (s : State) (p : Part) (n : Fin 16) (b : Bool) (u : _), s.dmaState p n = 1 ∧ (s.dmaCh p n).live = true ∧ descTotal
      (s.dmaActive p n) ≤ (s.dmaCh p n).moved ∧ u = s.dmaSignal p n (s.dmaActive p n) 0 0 (32 * (s.dmaCh p n).moved) (s.dmaCh p
      n).poison b ∧ bits (u.rd p (O.DMA_LAST_STATUS (dmaIndex p n))) 7 0 = 2 :=
  ⟨(((vagerWith fun v => { v with dma := [(0, { live := true, moved := 1 })] }).wr .vager (O.DMA_STATE 0x6840) 1).setElem .vager
    (O.DMA_ACTIVE_DESC 0x6840) 64 0 (2 ^ 21)), .vager, 0, false, _, by decide, by decide, by decide +kernel, rfl,
    by decide +kernel⟩

theorem test_meets_DmaCommandsComplete_14 :
    ∃ (s : State) (p : Part) (n : Fin 16), s.dmaHeld p n = true :=
  ⟨((State.reset.wr (.staris 0) (O.DUMP_MODE_3070 0) 4).wr (.staris 0) (O.DUMP_ARM_3070 0) 1), (.staris 0), 1, by decide⟩

theorem test_meets_DmaCommandsComplete_15 :
    ∃ (s : State) (p : Part) (n : Fin 16), s.dmaHeld p n = false :=
  ⟨State.reset, .vager, 0, by decide⟩

theorem test_meets_HangCommandsComplete_1 :
    ∃ (s : State) (d : Die) (i : Fin 16), s.rd (.staris d) (O.DOM_WATCHDOG_EN_7010 i.val) = 1 :=
  ⟨(State.reset|>.wr (.staris (0 : Die)) (O.DOM_WATCHDOG_EN_7010 (0 : Fin 16).val) 1), 0, 0, by decide⟩

theorem test_meets_HangCommandsComplete_2 :
    ∃ (s : State) (d : Die) (i : Fin 16), s.windowOver d i.val = true :=
  ⟨(((dieWith fun x =>
    { x with ticks := 2000, cap := { descs := [{ slot := 0, dseq := 0, base := 0, bytes := 0, tag := 0, step := 0, epoch := 0 }] } }).wr
    (.staris 0) (O.DOM_HANG_WINDOW_7010 0) 1).setObit (.staris 0) (O.DOM_SLOTS_7010 0) 0 true), 0, 0, by decide⟩

theorem test_meets_HangCommandsComplete_3 :
    ∃ (s : State) (d : Die) (w : Writer) (i : Fin 16), mayReach w true .operator = true ∧ (s.domState d i.val = 4 ∨ s.domState d
      i.val = 6) :=
  ⟨(State.reset.wr (.staris 0) (O.DOM_STATE_7010 0) 4), 0, wF, 0, by decide, by decide⟩

theorem test_meets_HangCommandsComplete_4 :
    ∃ (s : State) (d : Die) (w : Writer) (i : Fin 16), mayReach w true .operator = true ∧ s.domState d i.val = 0 :=
  ⟨State.reset, 0, wF, 0, by decide, by decide⟩

theorem test_meets_HangCommandsComplete_5 :
    ∃ (s : State) (d : Die) (w : Writer) (i : Fin 16), mayReach w true .operator = true ∧ s.domState d i.val = 4 :=
  ⟨(State.reset.wr (.staris 0) (O.DOM_STATE_7010 0) 4), 0, wF, 0, by decide, by decide⟩

theorem test_meets_HangCommandsComplete_6 :
    ∃ (s : State) (d : Die) (w : Writer) (i : Fin 16), mayReach w true .operator = true ∧ s.domState d i.val ≠ 4 :=
  ⟨State.reset, 0, wF, 0, by decide, by decide⟩

theorem test_meets_HangCommandsComplete_7 :
    ∃ (s : State) (u : State) (v : State) (d : Die) (i : Fin 16) (l : List (Nat × Bool)), s.domState d i.val = 2 ∧ s.linkUp
      false d = false ∧ (s.fd d).sampling.head? ≠ some i.val ∧ u = s.setFd d
      { s.fd d with sampling := (s.fd d).sampling.erase i.val } ∧ v = u.setDom d i.val
      { s.dom d i.val with flags := setBit (s.dom d i.val).flags 3 true } :=
  ⟨(State.reset.wr (.staris 0) (O.DOM_STATE_7010 0) 2), _, _, 0, 0, [], by decide, by decide, by decide, rfl, rfl⟩

theorem test_meets_HangCommandsComplete_8 :
    ∃ (s : State) (d : Die) (i : Fin 16), s.domState d i.val = 3 ∧ (s.dom d i.val).asserted = true :=
  ⟨((dieWith fun x => { x with faults := { domains := [(0, { asserted := true })] } }).wr (.staris 0) (O.DOM_STATE_7010 0) 3),
    0, 0, by decide, by decide⟩

theorem test_meets_HangCommandsComplete_9 :
    ∃ (s : State) (d : Die) (i : Fin 16), s.domState d i.val = 3 ∧ (s.dom d i.val).asserted = false :=
  ⟨(State.reset.wr (.staris 0) (O.DOM_STATE_7010 0) 3), 0, 0, by decide, by decide⟩

theorem test_meets_HangCommandsComplete_10 :
    ∃ (s : State) (u : State) (d : Die) (i : Fin 16) (kept : Nat) (f : Nat), s.domState d i.val = 3 ∧ (s.dom d i.val).asserted =
      false ∧ f = setFld (s.dom d i.val).flags 0 2 kept ∧ u = (s.setDom d i.val { s.dom d i.val with flags := f }).flagHistory d
      i.val f ∧ bitAt kept 1 = true :=
  ⟨(State.reset.wr (.staris 0) (O.DOM_STATE_7010 0) 3), _, 0, 0, 2, _, by decide, by decide, rfl, rfl, by decide⟩

theorem test_meets_HangCommandsComplete_11 :
    ∃ (s : State) (u : State) (d : Die) (i : Fin 16) (kept : Nat) (f : Nat), s.domState d i.val = 3 ∧ (s.dom d i.val).asserted =
      false ∧ f = setFld (s.dom d i.val).flags 0 2 kept ∧ u = (s.setDom d i.val { s.dom d i.val with flags := f }).flagHistory d
      i.val f ∧ bitAt kept 1 = false :=
  ⟨(State.reset.wr (.staris 0) (O.DOM_STATE_7010 0) 3), _, 0, 0, 0, _, by decide, by decide, rfl, rfl, by decide⟩

theorem test_meets_HangCommandsComplete_12 :
    ∃ (s : State) (d : Die) (w : Writer), mayReach w true .fleet = true :=
  ⟨State.reset, 0, wF, by decide⟩

theorem test_meets_HangCommandsComplete_13 :
    ∃ (s : State) (u : State) (v : State) (p : Die) (l : List (Nat × Bool)), u = s.tapPoison p l ∧ u.rd .vager
      (O.HANG_SAMPLE_STATE_70C0 p.val) = 2 :=
  ⟨(State.reset.wr .vager (O.HANG_SAMPLE_STATE_70C0 0) 2), _, State.reset, 0, [], rfl, by decide⟩

theorem test_meets_HangCommandsComplete_14 :
    ∃ (s : State) (u : State) (v : State) (p : Die) (l : List (Nat × Bool)), u = s.tapPoison p l ∧ u.rd .vager
      (O.HANG_SAMPLE_STATE_70C0 p.val) ≠ 2 ∧ v = u.setClf { u.clf with hangs := Tbl.set (fun _ => []) u.clf.hangs p.val l } :=
  ⟨State.reset, _, _, 0, [], rfl, by decide, rfl⟩

theorem test_meets_HangCommandsComplete_15 :
    ∃ (s : State) (w : Writer) (p : Die), mayReach w false .operator = true :=
  ⟨State.reset, wF, 0, by decide⟩

theorem test_meets_ResetAndClassifierCommandsComplete_1 :
    ∃ (s : State) (u : State) (l : List MemError), u = l.foldl (fun s e => s.memError .vager e) s :=
  ⟨(vagerWith fun v => { v with classifier := { repairs := [(0, 0)] } }), _, [], rfl⟩

theorem test_meets_ResetAndClassifierCommandsComplete_2 :
    ∃ (s : State) (u : State) (d : Die) (l : List MemError), u = l.foldl (fun s e => s.memError (.staris d) e) s :=
  ⟨State.reset, _, 0, [], rfl⟩

theorem test_meets_ResetAndClassifierCommandsComplete_3 :
    ∃ (s : State) (pc : Nat) (r : Nat) (t : List (Nat × Nat)), s.clf.repairs = (pc, r) :: t :=
  ⟨(vagerWith fun v => { v with classifier := { repairs := [(0, 0)] } }), 0, 0, [], by decide⟩

theorem test_meets_ResetAndClassifierCommandsComplete_4 :
    ∃ (s : State) (w : Writer) (n : Nat), mayReach w true .fleet = true ∧ n = s.rd .vager O.INST_SELECT_70A0 :=
  ⟨State.reset, wF, _, by decide, rfl⟩

theorem test_meets_ResetAndClassifierCommandsComplete_5 :
    ∃ (s : State) (u : State) (w : Writer) (p : Die), mayReach w true .fleet = true ∧ u = ((s.wr .vager (O.PORT_SERVICE_70C0
      p.val) 0).setBytes .vager (O.PORT_OOS_DIGEST_70C0 p.val) 0 (List.replicate 48 0)).answer stOk ∧ u.withheld w p = true :=
  ⟨(State.reset.wr .vager O.PAIR_WITHHELD_7480 1), _, wF, 0, by decide, rfl, by decide⟩

theorem test_meets_ResetAndClassifierCommandsComplete_6 :
    ∃ (s : State) (d : Die) (w : Writer), mayReach w true .fleet = true :=
  ⟨State.reset, 0, wF, by decide⟩

theorem test_meets_ResetAndClassifierCommandsComplete_7 :
    ∃ (s : State) (w : Writer), mayReach w true .fleet = true :=
  ⟨State.reset, wF, by decide⟩

theorem test_meets_ResetAndClassifierCommandsComplete_8 :
    ∃ (s : State) (u : State), u = s.wr .vager O.PCIE_STATE_7C40 (setFld (s.rd .vager O.PCIE_STATE_7C40) 0 2 0) :=
  ⟨State.reset, _, rfl⟩

theorem test_meets_ResetAndClassifierCommandsComplete_9 :
    ∃ (s : State) (n : Nat), (n % 4 = 0 ∨ n % 4 = 3) ∧ n / 4 % 4 ≠ 3 :=
  ⟨State.reset, 0, by decide, by decide⟩

theorem test_meets_ResetAndClassifierCommandsComplete_10 :
    ∃ (s : State) (r : Recorder), r = (if s.rd .vager O.REC_STATE_7840 = 2 then s.rcd.erased.cleared else s.rcd.erased).program
      :=
  ⟨State.reset, _, rfl⟩

theorem test_meets_WorldAndKeyCommandsComplete_1 :
    ∃ (s : State) (d : Die) (w : Writer) (v : Bool), mayReach w true .operator = true :=
  ⟨State.reset, 0, wF, false, by decide⟩

theorem test_meets_WorldAndKeyCommandsComplete_2 :
    ∃ (s : State) (d : Die) (w : Writer) (v : Bool), mayReach w true .fleet = true :=
  ⟨State.reset, 0, wF, false, by decide⟩

theorem test_meets_WorldAndKeyCommandsComplete_3 :
    ∃ (s : State) (d : Die) (sec : Bool), (if sec then (s.die d).auth.sec else (s.die d).auth.nsPriv) ≤ (s.die d).ticks :=
  ⟨(State.reset.wr .vager O.DEBUG_FUSE_7441 1), 0, false, by decide⟩

theorem test_meets_WorldAndKeyCommandsComplete_4 :
    ∃ (s : State) (u : State) (w : Writer), mayReach w true .fleet = true ∧ bitAt (s.rd .vager O.DEBUG_FUSE_7441) 0 = true :=
  ⟨(State.reset.wr .vager O.DEBUG_FUSE_7441 1), State.reset, wF, by decide, by decide⟩

theorem test_meets_WorldAndKeyCommandsComplete_5 :
    ∃ (s : State) (u : State) (w : Writer), mayReach w true .fleet = true ∧ bitAt (s.rd .vager O.DEBUG_FUSE_7441) 0 = false ∧
      s.rd .vager O.DBG_GRANT_7442 ≠ 1 ∧ u = s.setVager
      { s.vager with dbgUntil := s.vager.ticks + 10 ^ 9 * s.rd .vager O.DBG_DURATION_7442 } :=
  ⟨State.reset, _, wF, by decide, by decide, by decide, rfl⟩

theorem test_meets_WorldAndKeyCommandsComplete_6 :
    ∃ (s : State), s.vager.dbgUntil ≤ s.vager.ticks :=
  ⟨State.reset, by decide⟩

theorem test_meets_WorldAndKeyCommandsComplete_7 :
    ∃ (s : State) (u : State) (v : State) (t : State) (d : Die) (l : List Nat) (a : Nat) (k : Nat), s.keyWaits d = false ∧
      s.takeNat = (a, u) ∧ u.takeNat = (k, v) ∧ t = (v.writeOctets (.staris d) O.LK_OFFER_7401 192 (v.linkOffer d
      l)).writeOctets (.staris d) O.LK_ANSWER_7401 256 (toBytes 225 a) :=
  ⟨(((dieWith fun x => { x with link := { newKey := some 1 } }).setLink true 0 { lastHello := some 0 }).wr .vager (linkStateKey
    true 0) 2), _, _, _, 0, [], _, _, by decide, rfl, rfl, rfl⟩

theorem test_meets_WorldAndKeyCommandsComplete_8 :
    ∃ (s : State) (d : Die) (w : Writer) (l : List Nat), mayReach w true .fleet = true :=
  ⟨State.reset, 0, wF, [], by decide⟩

theorem test_meets_WorldAndKeyCommandsComplete_9 :
    ∃ (s : State) (p : Die) (k : Nat), s.linkState true p = 2 ∧ (s.link true p).lastHello.isNone = false ∧ (s.link false
      p).newKey = some k :=
  ⟨(((dieWith fun x => { x with link := { newKey := some 1 } }).setLink true 0 { lastHello := some 0 }).wr .vager (linkStateKey
    true 0) 2), 0, _, by decide, by decide, rfl⟩

theorem test_meets_WorldAndKeyCommandsComplete_10 :
    ∃ (s : State) (p : Die), s.rd (.staris p) O.LK_STATE_7401 = 3 ∧ s.keyWaits p = false :=
  ⟨(State.reset|>.wr (.staris (0 : Die)) O.LK_STATE_7401 3), 0, by decide, by decide⟩

theorem test_meets_WorldAndKeyCommandsComplete_11 :
    ∃ (s : State) (h : Handshake), h.peer = none :=
  ⟨State.reset, hand0, by decide⟩

theorem test_meets_WorldAndKeyCommandsComplete_12 :
    ∃ (s : State) (h : Handshake) (t : _), h.peer = some t :=
  ⟨State.reset, { hand0 with peer := some 1 }, 1, by decide⟩

theorem test_meets_WorldAndKeyCommandsComplete_13 :
    ∃ (s : State) (w : Writer) (a : Fin 8) (n : Nat) (ok : Bool), mayReach (s.anchorWriter w (0x7460 + a.val)) true .fleet =
      true ∧ 0 < n ∧ n ≤ 2048 :=
  ⟨State.reset, wF, 0, 1, false, by decide, by decide, by decide⟩

theorem test_meets_WorldAndKeyCommandsComplete_14 :
    ∃ (s : State) (w : Writer) (n : Nat) (m : Bool) (e : Bool), mayReach (s.anchorWriter w 0x7470) true .fleet = true ∧ 0 < n :=
  ⟨State.reset, wF, 1, false, false, by decide, by decide⟩

theorem test_meets_WorldAndKeyCommandsComplete_15 :
    ∃ (s : State) (u : State) (l : List Nat) (a : Nat × List Nat), bitAt (s.rd .vager O.SPDM_PATHS_7490) 0 = true ∧ s.spdmAnswer
      l = (a, u) :=
  ⟨State.reset, _, [], _, by decide, rfl⟩

theorem test_meets_SheetRequestsComplete_1 :
    ∃ (s : State) (id : Nat) (r : SheetReq) (x : Session) (k : Nat × SheetResp), s.vager.sessions.find? (fun x => x.id == id) =
      some x ∧ x.kept.find? (fun k => k.1 == r.tid) = some k ∧ r.op = 1 :=
  ⟨(sessWith [(0, resp0)]), 0, { req0 with op := 1 }, _, _, rfl, rfl, by decide⟩

theorem test_meets_SheetRequestsComplete_2 :
    ∃ (s : State) (id : Nat) (r : SheetReq) (x : Session) (k : Nat × SheetResp), s.vager.sessions.find? (fun x => x.id == id) =
      some x ∧ x.kept.find? (fun k => k.1 == r.tid) = some k ∧ r.op = 2 :=
  ⟨(sessWith [(0, resp0)]), 0, { req0 with op := 2 }, _, _, rfl, rfl, by decide⟩

theorem test_meets_SheetRequestsComplete_3 :
    ∃ (s : State) (id : Nat) (r : SheetReq) (x : Session) (k : Nat × SheetResp), s.vager.sessions.find? (fun x => x.id == id) =
      some x ∧ x.kept.find? (fun k => k.1 == r.tid) = some k ∧ r.op = 3 :=
  ⟨(sessWith [(0, resp0)]), 0, { req0 with op := 3 }, _, _, rfl, rfl, by decide⟩

theorem test_meets_SheetRequestsComplete_4 :
    ∃ (s : State) (id : Nat) (r : SheetReq) (x : Session) (k : Nat × SheetResp), s.vager.sessions.find? (fun x => x.id == id) =
      some x ∧ x.kept.find? (fun k => k.1 == r.tid) = some k ∧ r.op = 4 :=
  ⟨(sessWith [(0, resp0)]), 0, { req0 with op := 4 }, _, _, rfl, rfl, by decide⟩

theorem test_meets_SheetRequestsComplete_5 :
    ∃ (s : State) (id : Nat) (r : SheetReq) (x : Session) (k : Nat × SheetResp), s.vager.sessions.find? (fun x => x.id == id) =
      some x ∧ x.kept.find? (fun k => k.1 == r.tid) = some k ∧ r.op = 5 :=
  ⟨(sessWith [(0, resp0)]), 0, { req0 with op := 5 }, _, _, rfl, rfl, by decide⟩

theorem test_meets_SheetRequestsComplete_6 :
    ∃ (s : State) (id : Nat) (r : SheetReq) (x : Session) (k : Nat × SheetResp), s.vager.sessions.find? (fun x => x.id == id) =
      some x ∧ x.kept.find? (fun k => k.1 == r.tid) = some k ∧ r.op = 6 :=
  ⟨(sessWith [(0, resp0)]), 0, { req0 with op := 6 }, _, _, rfl, rfl, by decide⟩

theorem test_meets_SheetRequestsComplete_7 :
    ∃ (s : State) (id : Nat) (r : SheetReq) (x : Session) (k : Nat × SheetResp), s.vager.sessions.find? (fun x => x.id == id) =
      some x ∧ x.kept.find? (fun k => k.1 == r.tid) = some k ∧ r.op = 7 :=
  ⟨(sessWith [(0, resp0)]), 0, { req0 with op := 7 }, _, _, rfl, rfl, by decide⟩

theorem test_meets_SheetRequestsComplete_8 :
    ∃ (s : State) (id : Nat) (r : SheetReq) (x : Session) (k : Nat × SheetResp), s.vager.sessions.find? (fun x => x.id == id) =
      some x ∧ x.kept.find? (fun k => k.1 == r.tid) = some k ∧ r.op = 9 :=
  ⟨(sessWith [(0, resp0)]), 0, { req0 with op := 9 }, _, _, rfl, rfl, by decide⟩

theorem test_meets_SheetRequestsComplete_9 :
    ∃ (s : State) (id : Nat) (r : SheetReq) (x : Session) (k : Nat × SheetResp), s.vager.sessions.find? (fun x => x.id == id) =
      some x ∧ x.kept.find? (fun k => k.1 == r.tid) = some k ∧ r.op = 10 :=
  ⟨(sessWith [(0, resp0)]), 0, { req0 with op := 10 }, _, _, rfl, rfl, by decide⟩

theorem test_meets_SheetRequestsComplete_10 :
    ∃ (s : State) (id : Nat) (r : SheetReq) (x : Session), s.vager.sessions.find? (fun x => x.id == id) = some x ∧ x.kept.find?
      (fun k => k.1 == r.tid) = none ∧ mstatusOf r = 0 ∧ r.op = 1 :=
  ⟨(sessWith []), 0, { req0 with op := 1 }, _, rfl, by decide, by decide, by decide⟩

theorem test_meets_SheetRequestsComplete_11 :
    ∃ (s : State) (id : Nat) (r : SheetReq) (x : Session), s.vager.sessions.find? (fun x => x.id == id) = some x ∧ x.kept.find?
      (fun k => k.1 == r.tid) = none ∧ mstatusOf r = 0 ∧ r.op = 2 :=
  ⟨(sessWith []), 0, { req0 with op := 2 }, _, rfl, by decide, by decide, by decide⟩

theorem test_meets_SheetRequestsComplete_12 :
    ∃ (s : State) (id : Nat) (r : SheetReq) (x : Session), s.vager.sessions.find? (fun x => x.id == id) = some x ∧ x.kept.find?
      (fun k => k.1 == r.tid) = none ∧ mstatusOf r = 0 ∧ r.op = 3 :=
  ⟨(sessWith []), 0, { req0 with op := 3, entries := [stageEntry0] }, _, rfl, by decide, by decide, by decide⟩

theorem test_meets_SheetRequestsComplete_13 :
    ∃ (s : State) (id : Nat) (r : SheetReq) (x : Session), s.vager.sessions.find? (fun x => x.id == id) = some x ∧ x.kept.find?
      (fun k => k.1 == r.tid) = none ∧ mstatusOf r = 0 ∧ r.op = 4 :=
  ⟨(sessWith []), 0, { req0 with op := 4 }, _, rfl, by decide, by decide, by decide⟩

theorem test_meets_SheetRequestsComplete_14 :
    ∃ (s : State) (id : Nat) (r : SheetReq) (x : Session), s.vager.sessions.find? (fun x => x.id == id) = some x ∧ x.kept.find?
      (fun k => k.1 == r.tid) = none ∧ mstatusOf r = 0 ∧ r.op = 5 :=
  ⟨(sessWith []), 0, { req0 with op := 5 }, _, rfl, by decide, by decide, by decide⟩

theorem test_meets_SheetRequestsComplete_15 :
    ∃ (s : State) (id : Nat) (r : SheetReq) (x : Session), s.vager.sessions.find? (fun x => x.id == id) = some x ∧ x.kept.find?
      (fun k => k.1 == r.tid) = none ∧ mstatusOf r = 0 ∧ r.op = 6 :=
  ⟨(sessWith []), 0, { req0 with op := 6 }, _, rfl, by decide, by decide, by decide⟩

theorem test_meets_SheetRequestsComplete_16 :
    ∃ (s : State) (id : Nat) (r : SheetReq) (x : Session), s.vager.sessions.find? (fun x => x.id == id) = some x ∧ x.kept.find?
      (fun k => k.1 == r.tid) = none ∧ mstatusOf r = 0 ∧ r.op = 7 :=
  ⟨(sessWith []), 0, { req0 with op := 7 }, _, rfl, by decide, by decide, by decide⟩

theorem test_meets_SheetRequestsComplete_17 :
    ∃ (s : State) (id : Nat) (r : SheetReq) (x : Session), s.vager.sessions.find? (fun x => x.id == id) = some x ∧ x.kept.find?
      (fun k => k.1 == r.tid) = none ∧ mstatusOf r = 0 ∧ r.op = 9 :=
  ⟨(sessWith []), 0, { req0 with op := 9 }, _, rfl, by decide, by decide, by decide⟩

theorem test_meets_SheetRequestsComplete_18 :
    ∃ (s : State) (id : Nat) (r : SheetReq) (x : Session), s.vager.sessions.find? (fun x => x.id == id) = some x ∧ x.kept.find?
      (fun k => k.1 == r.tid) = none ∧ mstatusOf r = 0 ∧ r.op = 10 :=
  ⟨(sessWith []), 0, { req0 with op := 10 }, _, rfl, by decide, by decide, by decide⟩

theorem test_meets_SheetRequestsComplete_19 :
    ∃ (s : State) (id : Nat) (r : SheetReq) (x : Session), s.vager.sessions.find? (fun x => x.id == id) = some x ∧ x.kept.find?
      (fun k => k.1 == r.tid) = none ∧ mstatusOf r ≠ 0 ∧ r.op = 1 :=
  ⟨(sessWith []), 0, { req0 with op := 1, version := 2 }, _, rfl, by decide, by decide, by decide⟩

theorem test_meets_SheetRequestsComplete_20 :
    ∃ (s : State) (id : Nat) (r : SheetReq) (x : Session), s.vager.sessions.find? (fun x => x.id == id) = some x ∧ x.kept.find?
      (fun k => k.1 == r.tid) = none ∧ mstatusOf r ≠ 0 ∧ r.op = 2 :=
  ⟨(sessWith []), 0, { req0 with op := 2, version := 2 }, _, rfl, by decide, by decide, by decide⟩

theorem test_meets_SheetRequestsComplete_21 :
    ∃ (s : State) (id : Nat) (r : SheetReq) (x : Session), s.vager.sessions.find? (fun x => x.id == id) = some x ∧ x.kept.find?
      (fun k => k.1 == r.tid) = none ∧ mstatusOf r ≠ 0 ∧ r.op = 3 :=
  ⟨(sessWith []), 0, { req0 with op := 3, version := 2 }, _, rfl, by decide, by decide, by decide⟩

theorem test_meets_SheetRequestsComplete_22 :
    ∃ (s : State) (id : Nat) (r : SheetReq) (x : Session), s.vager.sessions.find? (fun x => x.id == id) = some x ∧ x.kept.find?
      (fun k => k.1 == r.tid) = none ∧ mstatusOf r ≠ 0 ∧ r.op = 4 :=
  ⟨(sessWith []), 0, { req0 with op := 4, version := 2 }, _, rfl, by decide, by decide, by decide⟩

theorem test_meets_SheetRequestsComplete_23 :
    ∃ (s : State) (id : Nat) (r : SheetReq) (x : Session), s.vager.sessions.find? (fun x => x.id == id) = some x ∧ x.kept.find?
      (fun k => k.1 == r.tid) = none ∧ mstatusOf r ≠ 0 ∧ r.op = 5 :=
  ⟨(sessWith []), 0, { req0 with op := 5, version := 2 }, _, rfl, by decide, by decide, by decide⟩

theorem test_meets_SheetRequestsComplete_24 :
    ∃ (s : State) (id : Nat) (r : SheetReq) (x : Session), s.vager.sessions.find? (fun x => x.id == id) = some x ∧ x.kept.find?
      (fun k => k.1 == r.tid) = none ∧ mstatusOf r ≠ 0 ∧ r.op = 6 :=
  ⟨(sessWith []), 0, { req0 with op := 6, version := 2 }, _, rfl, by decide, by decide, by decide⟩

theorem test_meets_SheetRequestsComplete_25 :
    ∃ (s : State) (id : Nat) (r : SheetReq) (x : Session), s.vager.sessions.find? (fun x => x.id == id) = some x ∧ x.kept.find?
      (fun k => k.1 == r.tid) = none ∧ mstatusOf r ≠ 0 ∧ r.op = 7 :=
  ⟨(sessWith []), 0, { req0 with op := 7, version := 2 }, _, rfl, by decide, by decide, by decide⟩

theorem test_meets_SheetRequestsComplete_26 :
    ∃ (s : State) (id : Nat) (r : SheetReq) (x : Session), s.vager.sessions.find? (fun x => x.id == id) = some x ∧ x.kept.find?
      (fun k => k.1 == r.tid) = none ∧ mstatusOf r ≠ 0 ∧ r.op = 9 :=
  ⟨(sessWith []), 0, { req0 with op := 9, version := 2 }, _, rfl, by decide, by decide, by decide⟩

theorem test_meets_SheetRequestsComplete_27 :
    ∃ (s : State) (id : Nat) (r : SheetReq) (x : Session), s.vager.sessions.find? (fun x => x.id == id) = some x ∧ x.kept.find?
      (fun k => k.1 == r.tid) = none ∧ mstatusOf r ≠ 0 ∧ r.op = 10 :=
  ⟨(sessWith []), 0, { req0 with op := 10, version := 2 }, _, rfl, by decide, by decide, by decide⟩

theorem test_meets_SheetRequestsComplete_28 :
    ∃ (s : State) (id : Nat) (r : SheetReq), s.vager.sessions.find? (fun x => x.id == id) = none ∧ r.op = 1 :=
  ⟨State.reset, 0, { req0 with op := 1 }, by decide, by decide⟩

theorem test_meets_SheetRequestsComplete_29 :
    ∃ (s : State) (id : Nat) (r : SheetReq), s.vager.sessions.find? (fun x => x.id == id) = none ∧ r.op = 2 :=
  ⟨State.reset, 0, { req0 with op := 2 }, by decide, by decide⟩

theorem test_meets_SheetRequestsComplete_30 :
    ∃ (s : State) (id : Nat) (r : SheetReq), s.vager.sessions.find? (fun x => x.id == id) = none ∧ r.op = 3 :=
  ⟨State.reset, 0, { req0 with op := 3 }, by decide, by decide⟩

theorem test_meets_SheetRequestsComplete_31 :
    ∃ (s : State) (id : Nat) (r : SheetReq), s.vager.sessions.find? (fun x => x.id == id) = none ∧ r.op = 4 :=
  ⟨State.reset, 0, { req0 with op := 4 }, by decide, by decide⟩

theorem test_meets_SheetRequestsComplete_32 :
    ∃ (s : State) (id : Nat) (r : SheetReq), s.vager.sessions.find? (fun x => x.id == id) = none ∧ r.op = 5 :=
  ⟨State.reset, 0, { req0 with op := 5 }, by decide, by decide⟩

theorem test_meets_SheetRequestsComplete_33 :
    ∃ (s : State) (id : Nat) (r : SheetReq), s.vager.sessions.find? (fun x => x.id == id) = none ∧ r.op = 6 :=
  ⟨State.reset, 0, { req0 with op := 6 }, by decide, by decide⟩

theorem test_meets_SheetRequestsComplete_34 :
    ∃ (s : State) (id : Nat) (r : SheetReq), s.vager.sessions.find? (fun x => x.id == id) = none ∧ r.op = 7 :=
  ⟨State.reset, 0, { req0 with op := 7 }, by decide, by decide⟩

theorem test_meets_SheetRequestsComplete_35 :
    ∃ (s : State) (id : Nat) (r : SheetReq), s.vager.sessions.find? (fun x => x.id == id) = none ∧ r.op = 9 :=
  ⟨State.reset, 0, { req0 with op := 9 }, by decide, by decide⟩

theorem test_meets_SheetRequestsComplete_36 :
    ∃ (s : State) (id : Nat) (r : SheetReq), s.vager.sessions.find? (fun x => x.id == id) = none ∧ r.op = 10 :=
  ⟨State.reset, 0, { req0 with op := 10 }, by decide, by decide⟩

theorem test_meets_StagingAndProxyCommandsComplete_1 :
    ∃ (s : State) (n : Nat) (g : SGroup), (s.staging .vager).groups.find? (fun g => g.group == n) = some g ∧ g.kind = 2 ∧
      g.forwarded = false ∧ g.made + 10 ^ 9 * s.rd .vager O.STAGE_EPOCH_LIFE_1101 ≤ s.extNow :=
  ⟨((vagerWith fun v =>
    { v with sheet := { staging := { groups := [{ group := 0, kind := 2, time := 0, w := wF, entries := [] }] } } }).wr .vager
    O.STAGE_EPOCH_LIFE_1101 0), 0, _, rfl, by decide, by decide, by decide⟩

theorem test_meets_StagingAndProxyCommandsComplete_2 :
    ∃ (s : State) (u : State) (n : Nat) (t : Nat) (g : SGroup), (s.staging .vager).groups.find? (fun g => g.group == n && g.node
      != 0 && !g.forwarded) = some g ∧ s.heldInstant g = some t ∧ t ≤ s.extNow + 10 ^ 9 ∧ s.withheld g.w (nodeDie g.node) = true
      :=
  ⟨((vagerWith fun v =>
    { v with sheet := { staging := { groups := [{ group := 0, node := 1, kind := 1, time := 0, w := wF, entries := [] }] } } }).wr
    .vager O.PAIR_WITHHELD_7480 1), State.reset, 0, _, _, rfl, rfl, by decide, by decide⟩

theorem test_meets_StagingAndProxyCommandsComplete_3 :
    ∃ (s : State) (u : State) (n : Nat) (t : Nat) (g : SGroup), (s.staging .vager).groups.find? (fun g => g.group == n && g.node
      != 0 && !g.forwarded) = some g ∧ s.heldInstant g = some t ∧ t ≤ s.extNow + 10 ^ 9 ∧ s.withheld g.w (nodeDie g.node) =
      false ∧ u = s.setStaging .vager
      { s.staging .vager with groups := (s.staging .vager).groups.map fun y => if y.group = n then { y with forwarded := true } else y }
      :=
  ⟨(vagerWith fun v =>
    { v with sheet := { staging := { groups := [{ group := 0, node := 1, kind := 1, time := 0, w := wF, entries := [] }] } } }),
    _, 0, _, _, rfl, rfl, by decide, by decide, rfl⟩

theorem test_meets_StagingAndProxyCommandsComplete_4 :
    ∃ (s : State) (v : State) (d : Die) (w : Writer) (r : SheetReq) (a : SheetResp), s.starisAnswer d w r = (a, v) :=
  ⟨State.reset, _, 0, wF, req0, _, rfl⟩

theorem test_meets_StagingAndProxyCommandsComplete_5 :
    ∃ (s : State) (u : State) (p : Die) (i : ProxyItem) (t : List ProxyItem), (s.proxy p.val).outstanding = i :: t ∧ i.sent +
      1000 * s.rd .vager O.PROXY_TIMEOUT_1101 ≤ s.extNow ∧ u = (s.setProxy p.val { s.proxy p.val with outstanding := t }).bump
      .vager (O.PROXY_TIMEOUTS_1030 p.val) 32 :=
  ⟨((vagerWith fun v => { v with sheet := { proxies := [(0, { outstanding := [{ tid := 0, w := wF, req := req0 }] })] } }).wr
    .vager O.PROXY_TIMEOUT_1101 0), _, 0, _, _, rfl, by decide, rfl⟩

theorem test_meets_StagingAndProxyCommandsComplete_6 :
    ∃ (s : State) (a : Aperture) (b : Bool) (n : Nat) (r : SheetReq), (s.apertureOpen a b = false ∨ (s.mailbox a).state = 1) :=
  ⟨(vagerWith fun v => { v with sheet := { bar0 := { state := 1 } } }), .bar0, false, 0, req0, by decide⟩

theorem test_meets_StagingAndProxyCommandsComplete_7 :
    ∃ (s : State) (a : Aperture) (b : Bool) (n : Nat) (r : SheetReq), s.apertureOpen a b = true ∧ (s.mailbox a).state ≠ 1 ∧
      aperturePart a = .vager :=
  ⟨State.reset, .bar0, false, 0, req0, by decide, by decide, by decide⟩

theorem test_meets_StagingAndProxyCommandsComplete_8 :
    ∃ (s : State) (w : Writer), mayReach w true .fleet = true :=
  ⟨State.reset, wF, by decide⟩

theorem test_meets_StagingAndProxyCommandsComplete_9 :
    ∃ (s : State) (u : State) (p : Part) (w : Writer) (i : Nat) (j : Nat) (st : Nat) (m : Bool) (l : List Nat), s.writeObject p
      w 0 false i j l = ((st, m), u) :=
  ⟨State.reset, _, .vager, wF, 0, 0, _, _, [], rfl⟩

theorem test_meets_CrowsNestCommandsComplete_1 :
    ∃ (s : State) (w : Writer), mayReach w true .fleet = true :=
  ⟨State.reset, wF, by decide⟩

theorem test_meets_CrowsNestCommandsComplete_2 :
    ∃ (s : State), s.crow.kickAt + 10 ^ 6 * s.rd .vager O.CN_WD_PERIOD_7848 ≤ s.vager.ticks :=
  ⟨(vagerWith fun v => { v with ticks := 10 ^ 18 }), by decide⟩

theorem test_meets_CrowsNestCommandsComplete_3 :
    ∃ (s : State), s.rd .vager O.CN_STATE_7848 = 2 :=
  ⟨(State.reset|>.wr .vager O.CN_STATE_7848 2), by decide⟩

theorem test_meets_CrowsNestCommandsComplete_4 :
    ∃ (s : State), s.rd .vager O.CN_STATE_7848 = 3 :=
  ⟨(State.reset|>.wr .vager O.CN_STATE_7848 3), by decide⟩

theorem test_meets_CrowsNestCommandsComplete_5 :
    ∃ (s : State) (u : State) (a : Bool) (b : Bool), s.rd .vager O.CN_STATE_7848 = 0 ∧ s.bootFallback.bootSlot a b = none ∧ u =
      s.bootFallback.setElem .vager O.BOOT_TIMES_7C40 8 4 s.bootFallback.vager.ticks :=
  ⟨(State.reset|>.wr .vager O.CN_STATE_7848 0), _, false, false, by decide, by decide, rfl⟩

theorem test_meets_CrowsNestCommandsComplete_6 :
    ∃ (s : State) (u : State) (a : Bool) (b : Bool) (i : _) (t : _) (v : _), s.rd .vager O.CN_STATE_7848 = 0 ∧
      s.bootFallback.bootSlot a b = some i ∧ u = (s.bootFallback.setOb .vager O.FW_ACTIVE_7860 0 i).wr .vager O.CN_STATE_7848 1
      ∧ t = u.setCrow { u.crow with bootAt := u.vager.ticks, kickAt := u.vager.ticks } ∧ v = (t.showImage .vager (t.slotImage
      i)).newSigningKey ∧ v.rd .vager O.BOOT_STAGE_7C40 ≠ 5 :=
  ⟨(State.reset|>.wr .vager O.CN_STATE_7848 0), _, true, false, 0, _, _, by decide, by decide, rfl, rfl, rfl,
    by (rw [newSigningKey_boot]; decide)⟩

theorem test_meets_CrowsNestCommandsComplete_7 :
    ∃ (s : State) (u : State) (v : State) (l : List Int) (m : List Nat), u = ((l.take 24).mapIdx fun i x => (i, x)).foldl (fun s
      e => s.takeSensor e.1 e.2) s ∧ v = ((m.take 12).mapIdx fun i x => (i, x)).foldl (fun s e => s.setElem .vager O.RAILS_7850
      2 e.1 (e.2 % 2 ^ 16)) u :=
  ⟨State.reset, _, _, [], [], rfl, rfl⟩

theorem test_meets_CrowsNestCommandsComplete_8 :
    ∃ (s : State) (w : Writer) (n : Nat), mayReach w true .fleet = true :=
  ⟨(((State.reset.wr .vager O.FW_STAGE_STATE_7860 1).wr .vager O.FW_STAGE_BYTES_7860 256).setBytes .vager O.FW_STAGE_DATA_7860 0
    firmware0), wF, 0, by decide +kernel⟩

theorem test_meets_CrowsNestCommandsComplete_9 :
    ∃ (s : State) (sg : Bool) (wt : Bool) (img : List Nat) (e : Nat), s.rd .vager O.FW_STAGE_STATE_7860 = 1 ∧ img = s.bytesAt
      .vager O.FW_STAGE_DATA_7860 0 (min (s.rd .vager O.FW_STAGE_BYTES_7860) 16777216) ∧ e = s.stageError img sg wt ∧ e = 0 :=
  ⟨(((State.reset.wr .vager O.FW_STAGE_STATE_7860 1).wr .vager O.FW_STAGE_BYTES_7860 256).setBytes .vager O.FW_STAGE_DATA_7860 0
    firmware0), true, true, _, _, by decide +kernel, rfl, rfl, by decide +kernel⟩

theorem test_meets_CrowsNestCommandsComplete_10 :
    ∃ (s : State) (sg : Bool) (wt : Bool) (img : List Nat) (e : Nat), s.rd .vager O.FW_STAGE_STATE_7860 = 1 ∧ img = s.bytesAt
      .vager O.FW_STAGE_DATA_7860 0 (min (s.rd .vager O.FW_STAGE_BYTES_7860) 16777216) ∧ e = s.stageError img sg wt ∧ e ≠ 0 :=
  ⟨(State.reset|>.wr .vager O.FW_STAGE_STATE_7860 1), false, false, _, _, by decide, rfl, rfl, by decide⟩

theorem test_meets_CrowsNestCommandsComplete_11 :
    ∃ (s : State) (w : Writer), mayReach w true .fleet = true ∧ ((List.range 64).all fun x => s.ctxState x == 0) = true ∧
      s.cutIdle = true ∧ s.rstState = 0 :=
  ⟨State.reset, wF, by decide, by decide, by decide, by decide⟩

theorem test_meets_CrowsNestCommandsComplete_12 :
    ∃ (s : State) (w : Writer), mayReach w true .fleet = true ∧ s.cutIdle = false :=
  ⟨(State.reset.wr .vager O.CUT_STATE_5880 1), wF, by decide, by decide⟩

theorem test_meets_CrowsNestCommandsComplete_13 :
    ∃ (s : State) (w : Writer) (i : Nat), mayReach w true .fleet = true ∧ s.stagedSlot 1 = some i :=
  ⟨((vagerWith fun v => { v with nor := { staged := [1] } }).wr .vager O.MAINT_STOP_7860 1), wF, 1, by decide, by decide⟩

theorem test_meets_CrowsNestCommandsComplete_14 :
    ∃ (s : State) (w : Writer) (i : Nat), mayReach w true .fleet = true ∧ s.stagedSlot 2 = some i :=
  ⟨((vagerWith fun v => { v with nor := { staged := [3] } }).wr .vager O.MAINT_STOP_7860 1), wF, 3, by decide, by decide⟩

theorem test_meets_CrowsNestCommandsComplete_15 :
    ∃ (s : State) (w : Writer) (i : Nat), mayReach w true .fleet = true ∧ i = s.activeSlot 1 ∧ s.slotState i = 2 ∧
      s.crow.fallback = false ∧ (s.setOb .vager O.FW_SLOT_STATE_7860 i 1).rd .vager O.FW_SVN_LOCK_7860 ≠ 1 :=
  ⟨(State.reset.setOb .vager O.FW_SLOT_STATE_7860 0 2), wF, _, by decide, rfl, by decide, by decide, by decide⟩

theorem test_meets_CrowsNestCommandsComplete_16 :
    ∃ (s : State), s.trialOver = true :=
  ⟨(((vagerWith fun v => { v with ticks := 10 ^ 18 }).wr .vager O.CN_STATE_7848 1).setOb .vager O.FW_SLOT_STATE_7860 0 2),
    by decide⟩

theorem test_meets_RecorderAndPowerCommandsComplete_1 :
    ∃ (s : State) (u : State) (w : Writer), mayReach w false .operator = true ∧ s.rd .vager O.REC_FREEZE_7840 ≠ 1 ∧ u =
      (s.setRcd { s.rcd with frozenAt := s.vager.ticks }).wr .vager O.REC_FREEZE_7840 1 ∧ u.rd .vager O.REC_STATE_7840 = 0 :=
  ⟨State.reset, _, wF, by decide, by decide, rfl, by decide⟩

theorem test_meets_RecorderAndPowerCommandsComplete_2 :
    ∃ (s : State) (u : State) (w : Writer), mayReach w false .operator = true ∧ s.rd .vager O.REC_FREEZE_7840 ≠ 1 ∧ u =
      (s.setRcd { s.rcd with frozenAt := s.vager.ticks }).wr .vager O.REC_FREEZE_7840 1 ∧ u.rd .vager O.REC_STATE_7840 ≠ 0 :=
  ⟨(State.reset.wr .vager O.REC_STATE_7840 1), _, wF, by decide, by decide, rfl, by decide⟩

theorem test_meets_RecorderAndPowerCommandsComplete_3 :
    ∃ (s : State), s.rcd.frozenAt + 10 ^ 9 * s.rd .vager O.REC_FREEZE_LIMIT_7840 ≤ s.vager.ticks :=
  ⟨(vagerWith fun v => { v with ticks := 10 ^ 18 }), by decide⟩

theorem test_meets_RecorderAndPowerCommandsComplete_4 :
    ∃ (s : State) (w : Writer) (n : Nat), mayReach w true .fleet = true ∧ s.rd .vager O.REC_STATE_7840 = 0 :=
  ⟨(State.reset|>.wr .vager O.REC_STATE_7840 0), wF, 0, by decide, by decide⟩

theorem test_meets_RecorderAndPowerCommandsComplete_5 :
    ∃ (s : State) (w : Writer) (n : Nat), mayReach w true .fleet = true ∧ s.rd .vager O.REC_STATE_7840 ≠ 0 :=
  ⟨(State.reset|>.wr .vager O.REC_STATE_7840 1), wF, 0, by decide, by decide⟩

theorem test_meets_RecorderAndPowerCommandsComplete_6 :
    ∃ (s : State) (u : State), s.rd .vager O.REC_STATE_7840 = 2 ∧ u = s.setRcd s.rcd.cleared :=
  ⟨(State.reset.wr .vager O.REC_STATE_7840 2), _, by decide, rfl⟩

theorem test_meets_RecorderAndPowerCommandsComplete_7 :
    ∃ (s : State), hourLength ≤ s.vager.hourTicks :=
  ⟨(vagerWith fun v => { v with hourTicks := 3600 * 10 ^ 9 }), by decide⟩

theorem test_meets_RecorderAndPowerCommandsComplete_8 :
    ∃ (s : State) (i : Fin 32), s.domainState .vager i.val = 5 :=
  ⟨(State.reset.wr .vager (O.DOM_STATE_7C60 0) 5), 0, by decide⟩

theorem test_meets_RecorderAndPowerCommandsComplete_9 :
    ∃ (s : State) (d : Die) (i : Fin 32), i.val < 4 ∧ s.domainState (.staris d) i.val = 5 :=
  ⟨(State.reset.setOb (.staris 0) O.DOMAIN_STATE_7C00 0 5), 0, 0, by decide, by decide⟩

theorem test_meets_RecorderAndPowerCommandsComplete_10 :
    ∃ (s : State) (p : Part) (w : Writer) (f : Fin 3), mayReach w false .host = true :=
  ⟨State.reset, .vager, wF, 0, by decide⟩

theorem test_meets_RecorderAndPowerCommandsComplete_11 :
    ∃ (s : State) (p : Part) (f : Fin 3) (t : Nat), Tbl.find (s.power p).holds f.val = some t ∧ t ≤ s.ticksOf p :=
  ⟨(vagerWith fun v => { v with power := { holds := [(0, 0)] } }), .vager, 0, 0, by decide, by decide⟩

theorem test_meets_RecorderAndPowerCommandsComplete_12 :
    ∃ (s : State) (d : Die) (a : Fin 256) (b : Fin 256) (k : Fin 4), bitAt k.val 0 = true :=
  ⟨State.reset, 0, 0, 0, 1, by decide⟩

theorem test_meets_RecorderAndPowerCommandsComplete_13 :
    ∃ (s : State) (d : Die) (a : Fin 256) (b : Fin 256) (k : Fin 4), bitAt k.val 0 = false :=
  ⟨State.reset, 0, 0, 0, 0, by decide⟩

theorem test_meets_CommandsLeaveTheQueue_1 :
    ∃ (c : Instr) (s : State) (t : State), exec c s = .next t :=
  ⟨.nop 0 0, State.reset, _, rfl⟩

theorem test_meets_StepServesTheQueueInOrder_1 :
    ∃ (s : State) (t : State) (c : Instr) (rest : List Instr), s.pending = c :: rest ∧ step s = .next t :=
  ⟨{ State.reset with pending := [.nop 0 0] }, _, _, _, rfl, rfl⟩

theorem test_meets_StepServesTheQueueInOrder_2 :
    ∃ (s : State) (t : State), s.pending = [] ∧ step s = .next t :=
  ⟨State.reset, _, by decide, rfl⟩

theorem test_meets_QueueWellFormedKept_1 :
    ∃ (s : State) (t : State), s.queueWf = true ∧ step s = .next t :=
  ⟨State.reset, _, by decide, rfl⟩

theorem test_meets_WritesBelowFleetChangeNothing_1 :
    ∃ (s : State) (w : Writer) (d : Die) (k : Fin 4) (value : Nat), mayReach w true .fleet = false :=
  ⟨State.reset, wH, 0, 0, 0, by decide⟩

theorem test_meets_WritesBelowTheRoleChangeNothing_1 :
    ∃ (s : State) (w : Writer) (config : List Nat), mayReach w true .operator = false :=
  ⟨State.reset, wH, [], by decide⟩

theorem test_meets_WritesBelowTheRoleChangeNothing_2 :
    ∃ (s : State) (w : Writer) (value : Nat), mayReach w true .operator = false :=
  ⟨State.reset, wH, 0, by decide⟩

theorem test_meets_WritesBelowTheRoleChangeNothing_3 :
    ∃ (s : State) (w : Writer) (value : Int), mayReach w true .operator = false :=
  ⟨State.reset, wH, 0, by decide⟩

theorem test_meets_WritesBelowTheRoleChangeNothing_4 :
    ∃ (s : State) (w : Writer) (d : Die) (polarity : List Nat), mayReach w true .operator = false :=
  ⟨State.reset, wH, 0, [], by decide⟩

theorem test_meets_WritesBelowTheRoleChangeNothing_5 :
    ∃ (s : State) (w : Writer) (d : Die) (mask : List Nat), mayReach w true .operator = false :=
  ⟨State.reset, wH, 0, [], by decide⟩

theorem test_meets_WritesBelowTheRoleChangeNothing_6 :
    ∃ (s : State) (w : Writer) (d : Die), mayReach w true .operator = false :=
  ⟨State.reset, wH, 0, by decide⟩

theorem test_meets_WritesBelowTheRoleChangeNothing_7 :
    ∃ (s : State) (w : Writer) (d : Die) (codes : List Nat), mayReach w true .operator = false :=
  ⟨State.reset, wH, 0, [], by decide⟩

theorem test_meets_WritesBelowTheRoleChangeNothing_8 :
    ∃ (s : State) (w : Writer) (q : Fin 2), mayReach w true .operator = false :=
  ⟨State.reset, wH, 0, by decide⟩

theorem test_meets_WritesBelowTheRoleChangeNothing_9 :
    ∃ (s : State) (w : Writer) (q : Fin 2) (c : Fin 8) (field : Fin 5) (value : Int), mayReach w true .operator = false :=
  ⟨State.reset, wH, 0, 0, 0, 0, by decide⟩

theorem test_meets_WritesBelowTheRoleChangeNothing_10 :
    ∃ (s : State) (w : Writer) (d : Die) (dom : Fin 16), mayReach w true .operator = false :=
  ⟨State.reset, wH, 0, 0, by decide⟩

theorem test_meets_WritesBelowTheRoleChangeNothing_11 :
    ∃ (s : State) (w : Writer) (value : Bool), mayReach w true .operator = false :=
  ⟨State.reset, wH, false, by decide⟩

theorem test_meets_WritesBelowTheRoleChangeNothing_12 :
    ∃ (s : State) (w : Writer) (m : Fin 64), mayReach w true .operator = false :=
  ⟨State.reset, wH, 0, by decide⟩

theorem test_meets_WritesBelowTheRoleChangeNothing_13 :
    ∃ (s : State) (w : Writer) (d : Die) (value : Bool), mayReach w true .operator = false :=
  ⟨State.reset, wH, 0, false, by decide⟩

theorem test_meets_WritesBelowTheRoleChangeNothing_14 :
    ∃ (s : State) (d : Die) (w : Writer) (q : Fin 8) (program : List Nat), mayReach w (seqSecure q.val) (seqRole q.val) = false
      :=
  ⟨State.reset, 0, wH, 7, [], by decide⟩

theorem test_meets_WritesBelowTheRoleChangeNothing_15 :
    ∃ (s : State) (d : Die) (w : Writer) (q : Fin 8), mayReach w (seqSecure q.val) (seqRole q.val) = false :=
  ⟨State.reset, 0, wH, 7, by decide⟩

theorem test_meets_WritesBelowTheRoleChangeNothing_16 :
    ∃ (s : State) (d : Die) (w : Writer) (q : Fin 8), mayReach w (seqSecure q.val) (seqRole q.val) = false :=
  ⟨State.reset, 0, wH, 7, by decide⟩

theorem test_meets_WritesBelowTheRoleChangeNothing_17 :
    ∃ (s : State) (w : Writer) (p : Die), mayReach w false .operator = false :=
  ⟨State.reset, wH, 0, by decide⟩

theorem test_meets_WritesBelowTheRoleChangeNothing_18 :
    ∃ (s : State) (w : Writer) (d : Die) (value : Nat), mayReach w false .operator = false :=
  ⟨State.reset, wH, 0, 0, by decide⟩

theorem test_meets_WritesBelowTheRoleChangeNothing_19 :
    ∃ (s : State) (w : Writer) (d : Die), mayReach w false .operator = false :=
  ⟨State.reset, wH, 0, by decide⟩

theorem test_meets_WritesBelowTheRoleChangeNothing_20 :
    ∃ (s : State) (w : Writer) (d : Die) (value : Bool), mayReach w false .operator = false :=
  ⟨State.reset, wH, 0, false, by decide⟩

theorem test_meets_WritesBelowTheRoleChangeNothing_21 :
    ∃ (s : State) (w : Writer) (p : Die) (offset : Nat) (bytes : Nat), mayReach w false .operator = false :=
  ⟨State.reset, wH, 0, 0, 0, by decide⟩

theorem test_meets_WritesBelowTheRoleChangeNothing_22 :
    ∃ (s : State) (w : Writer) (value : Nat), mayReach w true .host = false :=
  ⟨State.reset, wH, 0, by decide⟩

theorem test_meets_WritesBelowTheRoleChangeNothing_23 :
    ∃ (s : State) (w : Writer) (j : Fin 4) (bytes : Nat), mayReach w true .host = false :=
  ⟨State.reset, wH, 0, 0, by decide⟩

theorem test_meets_WritesBelowTheRoleChangeNothing_24 :
    ∃ (s : State) (d : Die) (n : Fin 32) (w : Writer), mayReach w (cmpSecure n.val) (cmpRole n.val) = false :=
  ⟨State.reset, 0, 31, wH, by decide⟩

theorem test_meets_WritesBelowTheRoleChangeNothing_25 :
    ∃ (s : State) (d : Die) (n : Fin 32) (w : Writer), mayReach w (cmpSecure n.val) (cmpRole n.val) = false :=
  ⟨State.reset, 0, 31, wH, by decide⟩

theorem test_meets_WritesBelowTheRoleChangeNothing_26 :
    ∃ (s : State) (w : Writer) (a : Fin 8) (value : Nat) (valid : Bool), mayReach (s.anchorWriter w (0x7460 + a.val)) true
      .fleet = false :=
  ⟨State.reset, wH, 0, 0, false, by decide⟩

theorem test_meets_WritesBelowTheRoleChangeNothing_27 :
    ∃ (s : State) (w : Writer) (value : Nat) (matching : Bool) (expired : Bool), mayReach (s.anchorWriter w 0x7470) true .fleet
      = false :=
  ⟨State.reset, wH, 0, false, false, by decide⟩

theorem test_meets_WritesBelowTheRoleChangeNothing_28 :
    ∃ (s : State) (p : Part) (n : Fin 16) (w : Writer), n.val < dmaCount p ∧ mayReach w (s.dmaSecure p n) .host = false :=
  ⟨(State.reset.wr .vager (O.DMA_CH_WORLD 0x6840) 0), .vager, 0, wH, by decide, by decide⟩

theorem test_meets_ObjectWritesAreFramed_1 :
    ∃ (s : State) (p : Part) (q : Part) (k : Nat) (i : Nat) (v : Nat) (j : Nat) (n : Nat), i < 2 ^ 40 ∧ n < 2 ^ 40 :=
  ⟨State.reset, .vager, .vager, 0, 0, 0, 0, 0, by decide, by decide⟩

theorem test_meets_ObjectWritesAreFramed_2 :
    ∃ (s : State) (d : Die) (e : Die) (k : Nat) (v : Nat), e ≠ d :=
  ⟨State.reset, 0, 1, 0, 0, by decide⟩

theorem test_meets_ObjectWritesAreFramed_3 :
    ∃ (s : State) (d : Die) (e : Die) (k : Nat) (i : Nat) (v : Nat), e ≠ d :=
  ⟨State.reset, 0, 1, 0, 0, 0, by decide⟩

theorem test_meets_OctetWritesFillWithZeros_1 :
    ∃ (s : State) (p : Part) (q : Part) (k : Nat) (n : Nat) (j : Nat) (i : Nat) (l : List Nat), l.length ≤ n ∧ n ≤ 2 ^ 40 ∧ i <
      2 ^ 40 :=
  ⟨State.reset, .vager, .vager, 0, 0, 0, 0, [], by decide, by decide, by decide⟩

theorem test_meets_HbmGranulesAreReadAsWritten_1 :
    ∃ (s : State) (a : Nat) (x : Gran), Memory.wf s = true :=
  ⟨State.reset, 0, {}, by decide⟩

theorem test_meets_ObjectTablesKeepTheirForm_1 :
    ∃ (s : State), s.tablesWf = true :=
  ⟨State.reset, by decide⟩

theorem test_meets_TraceModeNeedsEveryConfigurationIdle_1 :
    ∃ (s : State) (d : Die) (w : Writer) (v : Nat), mayReach w false .operator = true ∧ s.allIdle d = false :=
  ⟨(dieWith fun x => { x with trace := { cfgs := [(0, .active)] } }), 0, wF, 0, by decide, by decide⟩

theorem test_meets_TraceModeNeedsEveryConfigurationIdle_2 :
    ∃ (s : State) (d : Die) (w : Writer) (v : Nat), mayReach w false .operator = true ∧ s.allIdle d = true ∧ v ≤ 1 :=
  ⟨State.reset, 0, wF, 0, by decide, by decide, by decide⟩

theorem test_meets_TimestampQueueHoldsSixtyFourEntries_1 :
    ∃ (s : State) (seq : Nat) (type : Nat) (domain : Nat), s.vager.time.tsq.length = 64 :=
  ⟨(vagerWith fun v => { v with time := { tsq := List.replicate 64 ⟨0, 0, 0, 0⟩ } }), 0, 0, 0, by decide⟩

theorem test_meets_TimestampQueueHoldsSixtyFourEntries_2 :
    ∃ (s : State) (w : Writer), mayReach w false .host = true :=
  ⟨State.reset, wF, by decide⟩

theorem test_meets_TimestampsQueueInTransmitOrder_1 :
    ∃ (s : State) (seq : Nat) (type : Nat) (domain : Nat), s.vager.time.tsq.length < 64 :=
  ⟨State.reset, 0, 0, 0, by decide⟩

theorem test_meets_TimestampsQueueInTransmitOrder_2 :
    ∃ (s : State) (w : Writer), mayReach w false .host = true :=
  ⟨State.reset, wF, by decide⟩

theorem test_meets_ComparatorFiresAtItsTarget_1 :
    ∃ (s : State) (d : Die) (n : Fin 32), (s.rd (.staris d) (O.CMP_ARM_2010 n.val) = 1 ∧ s.tstate (.staris d) ≠ 5 ∧ subMod 32
      (s.ns (.staris d)) (s.rd (.staris d) (O.CMP_TARGET_2010 n.val)) < 2 ^ 31) :=
  ⟨(State.reset|>.wr (.staris (0 : Die)) (O.CMP_ARM_2010 (0 : Fin 32).val) 1), 0, 0, by decide⟩

theorem test_meets_ComparatorFiresAtItsTarget_2 :
    ∃ (s : State) (d : Die) (n : Fin 32), (¬(s.rd (.staris d) (O.CMP_ARM_2010 n.val) = 1 ∧ s.tstate (.staris d) ≠ 5 ∧ subMod 32
      (s.ns (.staris d)) (s.rd (.staris d) (O.CMP_TARGET_2010 n.val)) < 2 ^ 31)) :=
  ⟨State.reset, 0, 0, by decide⟩

theorem test_meets_SessionsStayWithinTheirLimit_1 :
    ∃ (s : State) (h : Handshake), h.peer = none ∧ s.rd .vager O.MAX_SESSIONS_7478 ≤ s.vager.sessions.length :=
  ⟨(State.reset.wr .vager O.MAX_SESSIONS_7478 0), hand0, by decide, by decide⟩

theorem test_meets_SessionsStayWithinTheirLimit_2 :
    ∃ (s : State) (h : Handshake), s.vager.sessions.length ≤ s.rd .vager O.MAX_SESSIONS_7478 :=
  ⟨State.reset, hand0, by decide⟩

theorem test_meets_SessionsStayWithinTheirLimit_3 :
    ∃ (s : State) (h : Handshake) (p : Nat), h.peer = some p :=
  ⟨State.reset, { hand0 with peer := some 1 }, _, rfl⟩

theorem test_meets_HangSamplesAreHeldPerPort_1 :
    ∃ (s : State) (p : Die) (l : List (Nat × Bool)), s.rd .vager (O.HANG_SAMPLE_STATE_70C0 p.val) = 2 :=
  ⟨(State.reset|>.wr .vager (O.HANG_SAMPLE_STATE_70C0 (0 : Die).val) 2), 0, [], by decide⟩

theorem test_meets_HangSamplesAreHeldPerPort_2 :
    ∃ (s : State) (p : Die) (q : Die) (l : List (Nat × Bool)), s.rd .vager (O.HANG_SAMPLE_STATE_70C0 p.val) ≠ 2 :=
  ⟨State.reset, 0, 0, [], by decide⟩

theorem test_meets_HangSamplesAreHeldPerPort_3 :
    ∃ (s : State) (w : Writer) (p : Die) (q : Die), mayReach w false .operator = true :=
  ⟨State.reset, wF, 0, 0, by decide⟩

theorem test_meets_GranulesDecodeToWhatWasEncoded_1 :
    ∃ (g : Nat), g < 2 ^ 256 :=
  ⟨0, by decide⟩

theorem test_meets_PoisonIsNeverDelivered_1 :
    ∃ (g : Nat) (k : Nat) (e : Nat), g < 2 ^ 256 ∧ k < 36 ∧ 1 ≤ e ∧ e < 256 :=
  ⟨0, 35, 255, by decide, by decide, by decide, by decide⟩

theorem test_meets_OneSymbolErrorIsCorrected_1 :
    ∃ (g : Nat) (k : Nat) (e : Nat), g < 2 ^ 256 ∧ k < 36 ∧ 1 ≤ e ∧ e < 256 :=
  ⟨0, 35, 255, by decide, by decide, by decide, by decide⟩

end Sys2Proof.Tests
end

section
/-! The queue of commands (log entry 1): no meaning touches it, and a step takes its front. -/

namespace Sys2Proof.Machine
open Sys2Proof

/-- Each command runs its own meaning (`exec_…`), and each meaning has its lemma on the queue (`exec…_queue`). -/
theorem exec_queue (c : Instr) (s : State) : outQueue (exec c s) = s.queue := by
  cases c <;> simp

theorem pending_of_outQueue {r : Result} {s t : State} (hq : outQueue r = s.queue) (h : r = .next t) : t.pending = s.pending := by
  rwa [h] at hq

theorem pending_of_exec {c : Instr} {s t : State} (h : exec c s = .next t) : t.pending = s.pending :=
  pending_of_outQueue (exec_queue c s) h

theorem step_cons {s : State} {c : Instr} {rest : List Instr} (h : s.pending = c :: rest) :
    step s = exec c { s with pending := rest } := by
  cases s
  cases h
  rfl

theorem step_nil {s : State} (h : s.pending = []) : step s = .next s.tick := by
  cases s
  cases h
  rfl

theorem pending_of_step_cons {s t : State} {c : Instr} {rest : List Instr} (hs : s.pending = c :: rest)
    (h : step s = .next t) : t.pending = rest :=
  pending_of_exec ((step_cons hs).symm.trans h)

theorem pending_of_step_nil {s t : State} (hs : s.pending = []) (h : step s = .next t) : t.pending = [] := by
  have hq : outQueue (.next s.tick) = s.queue := (outQueue_next _).trans (State.tick_queue s)
  rw [pending_of_outQueue hq ((step_nil hs).symm.trans h), hs]

/-- Settles O38: the queue law of every meaning, read at the state that the command answers. -/
theorem commandsLeaveTheQueue : Obligations.CommandsLeaveTheQueue := fun _ _ _ h => pending_of_exec h

/-- Settles O39: a step runs the front command on the rest of the queue, or ticks where none waits. -/
theorem stepServesTheQueueInOrder : Obligations.StepServesTheQueueInOrder :=
  ⟨fun _ _ _ _ hs h => pending_of_step_cons hs h, fun _ _ hs h => pending_of_step_nil hs h⟩

/-- Settles O40: what waits after a step waited before it. -/
theorem queueWellFormedKept : Obligations.QueueWellFormedKept := by
  intro s t hw h
  change s.pending.all Instr.wellFormed = true at hw
  change t.pending.all Instr.wellFormed = true
  cases hs : s.pending with
  | nil => rw [pending_of_step_nil hs h]; rfl
  | cons c rest =>
    rw [hs, List.all_cons, Bool.and_eq_true] at hw
    rw [pending_of_step_cons hs h]
    exact hw.2

/-- Settles O41: no command waits at reset (log entries 1 and 141). -/
theorem queueWellFormedAtReset : Obligations.QueueWellFormedAtReset := ⟨rfl, rfl⟩

end Sys2Proof.Machine
end

section
/-! Every command answers a next state: its meaning tests and distinguishes cases, and answers in each. -/

namespace Sys2Proof.Machine
open Sys2Proof

/-- A test between two answers. -/
theorem isNext_ite {c : Prop} [Decidable c] {a b : Result} (ha : isNext a = true) (hb : isNext b = true) :
    isNext (if c then a else b) = true := by split <;> assumption

/-! ### The commands that distinguish cases behind a test or within a case -/

@[simp] theorem execSinkGranuleWrite_isNext (d : Die) (s : State) : isNext (execSinkGranuleWrite d s) = true := by
  unfold execSinkGranuleWrite
  dsimp only
  split
  · refine isNext_ite rfl ?_
    split <;> rfl
  · rfl

@[simp] theorem execSidebandBlock_isNext (d : Die) (header attached : Nat) (data : List Nat) (poison late : Bool)
    (s : State) : isNext (execSidebandBlock d header attached data poison late s) = true := by
  unfold execSidebandBlock
  refine isNext_ite rfl ?_
  dsimp only
  split
  · rfl
  · exact isNext_ite rfl (isNext_ite rfl (isNext_ite rfl (isNext_ite rfl rfl)))

@[simp] theorem execCounterWrap_isNext (p : Part) (s : State) : isNext (execCounterWrap p s) = true := by
  unfold execCounterWrap
  refine isNext_ite ?_ rfl
  split <;> rfl

@[simp] theorem execUpWordRx_isNext (p : Die) (word : Nat) (poison : Bool) (s : State) :
    isNext (execUpWordRx p word poison s) = true := by
  unfold execUpWordRx
  refine isNext_ite rfl ?_
  dsimp only
  split
  · rfl
  · exact isNext_ite rfl rfl

@[simp] theorem execPtpMessageRx_isNext (m : PtpMessage) (s : State) : isNext (execPtpMessageRx m s) = true := by
  unfold execPtpMessageRx
  dsimp only
  split
  · exact isNext_ite rfl rfl
  · exact isNext_ite (isNext_ite rfl rfl) rfl
  · split
    · exact isNext_ite rfl rfl
    · rfl
  · exact isNext_ite rfl rfl
  · split
    · exact isNext_ite rfl rfl
    · rfl
  · exact isNext_ite rfl rfl
  · split
    · exact isNext_ite (isNext_ite rfl rfl) rfl
    · rfl
  · split
    · exact isNext_ite rfl rfl
    · rfl
  · rfl

@[simp] theorem execPpsInEdge_isNext (s : State) : isNext (execPpsInEdge s) = true := by
  unfold execPpsInEdge
  refine isNext_ite ?_ (isNext_ite (isNext_ite rfl rfl) rfl)
  split
  · rfl
  · exact isNext_ite rfl rfl

@[simp] theorem execPllRelock_isNext (p : Part) (s : State) : isNext (execPllRelock p s) = true := by
  unfold execPllRelock
  refine isNext_ite ?_ rfl
  split
  · exact isNext_ite rfl (isNext_ite rfl rfl)
  · exact isNext_ite rfl rfl

@[simp] theorem execFrameEnqueue_isNext (kind : Fin 6) (q : Fin 2) (dst len : Nat) (s : State) :
    isNext (execFrameEnqueue kind q dst len s) = true := by
  unfold execFrameEnqueue
  refine isNext_ite rfl (isNext_ite rfl ?_)
  split <;> rfl

@[simp] theorem execDmaTransferStart_isNext (p : Part) (n : Fin 16) (s : State) :
    isNext (execDmaTransferStart p n s) = true := by
  unfold execDmaTransferStart
  refine isNext_ite ?_ rfl
  split <;> rfl

@[simp] theorem execDmaAccessDone_isNext (p : Part) (n : Fin 16) (a : DmaAccess) (s : State) :
    isNext (execDmaAccessDone p n a s) = true := by
  unfold execDmaAccessDone
  refine isNext_ite (isNext_ite rfl rfl) ?_
  split
  · exact isNext_ite rfl rfl
  · rfl

@[simp] theorem execShroudNoticeRx_isNext (p : Die) (granule : Nat) (s : State) :
    isNext (execShroudNoticeRx p granule s) = true := by
  unfold execShroudNoticeRx
  refine isNext_ite rfl (isNext_ite ?_ rfl)
  split <;> rfl

@[simp] theorem execShroudRecomputeRx_isNext (p : Die) (msg : List (Nat × Bool)) (s : State) :
    isNext (execShroudRecomputeRx p msg s) = true := by
  unfold execShroudRecomputeRx
  dsimp only
  split
  · rfl
  · refine isNext_ite rfl ?_
    split
    · rfl
    · exact isNext_ite rfl (isNext_ite rfl rfl)

@[simp] theorem execVerdictRelease_isNext (p : Die) (sid : Nat) (s : State) :
    isNext (execVerdictRelease p sid s) = true := by
  unfold execVerdictRelease
  split
  · rfl
  · split
    · rfl
    · exact isNext_ite rfl rfl

@[simp] theorem execControlMergeRelease_isNext (s : State) : isNext (execControlMergeRelease s) = true := by
  unfold execControlMergeRelease
  split
  · rfl
  · split
    · rfl
    · exact isNext_ite rfl rfl

@[simp] theorem execFlitTransmit_isNext (v : Bool) (p : Die) (s : State) : isNext (execFlitTransmit v p s) = true := by
  unfold execFlitTransmit
  refine isNext_ite rfl ?_
  dsimp only
  split
  · rfl
  · refine isNext_ite rfl ?_
    split <;> rfl

@[simp] theorem execFlitRx_isNext (v : Bool) (p : Die) (f : FlitIn) (s : State) : isNext (execFlitRx v p f s) = true := by
  unfold execFlitRx
  refine isNext_ite rfl ?_
  dsimp only
  split
  · rfl
  · exact isNext_ite rfl rfl

@[simp] theorem execWorkItemDone_isNext (m : Fin 64) (row : Nat) (lane : Fin 17) (cacheHit : Bool)
    (bank : Option (Fin 64 × Bool)) (errors : List (Nat × HbmError)) (node : Option (Nat × Bool)) (s : State) :
    isNext (execWorkItemDone m row lane cacheHit bank errors node s) = true := by
  unfold execWorkItemDone
  dsimp only
  split
  · split
    · rfl
    · exact isNext_ite rfl (isNext_ite rfl rfl)
  · rfl

@[simp] theorem execNvmeR2tRx_isNext (t : Fin 8) (cid ttag offset length : Nat) (errors : List (Nat × HbmError))
    (s : State) : isNext (execNvmeR2tRx t cid ttag offset length errors s) = true := by
  unfold execNvmeR2tRx
  split
  · rfl
  · dsimp only
    split <;> rfl

@[simp] theorem execNvmeC2hDataRx_isNext (t : Fin 8) (id : NvmeIdentify) (s : State) :
    isNext (execNvmeC2hDataRx t id s) = true := by
  unfold execNvmeC2hDataRx
  refine isNext_ite ?_ rfl
  split
  · rfl
  · exact isNext_ite rfl rfl

@[simp] theorem execHandoffRx_isNext (header : Nat) (body : List Nat) (s : State) :
    isNext (execHandoffRx header body s) = true := by
  unfold execHandoffRx
  refine isNext_ite ?_ rfl
  dsimp only
  split
  · rfl
  · refine isNext_ite rfl ?_
    split
    · exact isNext_ite rfl rfl
    · rfl

@[simp] theorem execHandoffAckRx_isNext (header : Nat) (s : State) : isNext (execHandoffAckRx header s) = true := by
  unfold execHandoffAckRx
  refine isNext_ite ?_ rfl
  split <;> rfl

@[simp] theorem execHandoffNakRx_isNext (header : Nat) (s : State) : isNext (execHandoffNakRx header s) = true := by
  unfold execHandoffNakRx
  refine isNext_ite ?_ rfl
  split <;> rfl

@[simp] theorem execNeighbourDead_isNext (tray : Nat) (s : State) : isNext (execNeighbourDead tray s) = true := by
  unfold execNeighbourDead
  refine isNext_ite (isNext_ite rfl rfl) ?_
  split <;> rfl

@[simp] theorem execCnBootVerifyDone_isNext (slot0 slot1 : Bool) (s : State) :
    isNext (execCnBootVerifyDone slot0 slot1 s) = true := by
  unfold execCnBootVerifyDone
  refine isNext_ite rfl ?_
  dsimp only
  split <;> rfl

@[simp] theorem execLinkKeyEstablished_isNext (p : Die) (failed : Option Nat) (s : State) :
    isNext (execLinkKeyEstablished p failed s) = true := by
  unfold execLinkKeyEstablished
  refine isNext_ite rfl ?_
  split <;> rfl

@[simp] theorem execStagedGroupForward_isNext (group : Nat) (s : State) :
    isNext (execStagedGroupForward group s) = true := by
  unfold execStagedGroupForward
  dsimp only
  split
  · rfl
  · split
    · rfl
    · exact isNext_ite rfl (isNext_ite rfl rfl)

@[simp] theorem execMbGo_isNext (a : Aperture) (sec : Bool) (vector : Nat) (r : SheetReq) (s : State) :
    isNext (execMbGo a sec vector r s) = true := by
  unfold execMbGo
  refine isNext_ite rfl ?_
  dsimp only
  split <;> rfl

/-- Of the commands without a lemma above, those listed second distinguish cases and may test within each; the rest only test, or
have one answer. -/
theorem exec_isNext (c : Instr) (s : State) : isNext (exec c s) = true := by
  cases c with
  | sinkGranuleWrite | sidebandBlock | counterWrap | upWordRx | ptpMessageRx | ppsInEdge | pllRelock | frameEnqueue |
    dmaTransferStart | dmaAccessDone | shroudNoticeRx | shroudRecomputeRx | verdictRelease | controlMergeRelease |
    flitTransmit | flitRx | workItemDone | nvmeR2tRx | nvmeC2hDataRx | handoffRx | handoffAckRx | handoffNakRx |
    neighbourDead | cnBootVerifyDone | linkKeyEstablished | stagedGroupForward | mbGo =>
    simp
  | traceConfigStart | traceConfigStop | freeze | converterResult | railConverterRephase | converterSequenceStart |
    marginPassStart | marginDwellEnd | dumpTrigger | dumpCopyEnd | dumpHoldExpiry | coalesceWindowEnd | secondsSetStep |
    pllLossOfLock | cleatSignalAction | gateEntryEnd | anchorInstant | trayPartialClose | mergedRoundClose | classifierLeak
    | hbmRowRepairDone | sampleNotice | sampleSkip | recomputeAnswer | poisonRequestAnswer | verdictCommand |
    recomputeCommand | clusterRunDone | arbitrationReverifyDone | recomputeTimeout | replayDone | laneAckRx |
    laneAckDeadline | laneCancelTimeout | laneSwitch | laneDropSwitch | linkCtlAbandon | replayTimeout | passStart |
    passRelease | powerRevisit | domainWakeDone | wakeHoldExpiry | nvmeCapsuleRespRx | nvmeWriteRetry | fillVerifyDone |
    treeAdoptWaitExpiry | planDigestDone | lkOfferWrite | dtlsHandshake | stageEpochExpiry | proxyTimeout =>
    delta exec
    simp only [execTraceConfigStart, execTraceConfigStop, execFreeze, execConverterResult, execRailConverterRephase,
      execConverterSequenceStart, execMarginPassStart, execMarginDwellEnd, execDumpTrigger, execDumpCopyEnd,
      execDumpHoldExpiry, execCoalesceWindowEnd, execSecondsSetStep, execPllLossOfLock, execCleatSignalAction,
      execGateEntryEnd, execAnchorInstant, execTrayPartialClose, execMergedRoundClose, execClassifierLeak,
      execHbmRowRepairDone, execSampleNotice, execSampleSkip, execRecomputeAnswer, execPoisonRequestAnswer,
      execVerdictCommand, execRecomputeCommand, execClusterRunDone, execArbitrationReverifyDone, execRecomputeTimeout,
      execReplayDone, execLaneAckRx, execLaneAckDeadline, execLaneCancelTimeout, execLaneSwitch, execLaneDropSwitch,
      execLinkCtlAbandon, execReplayTimeout, execPassStart, execPassRelease, execPowerRevisit, execDomainWakeDone,
      execWakeHoldExpiry, execNvmeCapsuleRespRx, execNvmeWriteRetry, execFillVerifyDone, execTreeAdoptWaitExpiry,
      execPlanDigestDone, execLkOfferWrite, execDtlsHandshake, execStageEpochExpiry, execProxyTimeout]
    split <;> (repeat' refine isNext_ite ?_ ?_) <;> rfl
  | _ => (repeat' refine isNext_ite ?_ ?_) <;> rfl

/-- Settles O37: no branch of any meaning raises a fault or refuses its command. -/
theorem everyCommandCompletes : Obligations.EveryCommandCompletes := by
  intro c s
  have h : isNext (exec c s) = true := exec_isNext c s
  cases hr : exec c s with
  | next t => exact ⟨t, rfl⟩
  | fault r => rw [hr] at h; cases h
  | refused r => rw [hr] at h; cases h

end Sys2Proof.Machine
end

section
/-! Access control (R17, R475, R476): a command that is one write of an object, from a writer that may not reach it. -/

namespace Sys2Proof.Machine
open Sys2Proof

theorem mayReach_secure_fleet_eq_false (w : Writer) :
    mayReach w true .fleet = false ↔ w.secure = false ∨ w.role ≠ .fleet := by
  obtain ⟨secure, role⟩ := w
  cases secure <;> cases role <;> decide

/-- A meaning that is one write of an object which the writer may not reach (R475). -/
theorem access_of_writeBy {r : Result} {s : State} {w : Writer} {secure : Bool} {role : Role} {k : State → State}
    (h : mayReach w secure role = false) (hr : r = .next (s.writeBy w secure role k)) : r = .next (s.answer stAccess) := by
  rw [hr, s.writeBy_refused w secure role k h]

/-- A command of a DMA channel of a world that the writer may not reach (R476). -/
theorem State.dmaBy_refused {s : State} {p : Part} {n : Nat} {w : Writer} (k : State → State) (hn : n < dmaCount p)
    (h : mayReach w (s.dmaSecure p n) .host = false) : s.dmaBy p n w k = s.answer stAccess :=
  (if_pos hn).trans (s.writeBy_refused w _ _ k h)

theorem access_of_dmaBy {r : Result} {s : State} {p : Part} {n : Nat} {w : Writer} {k : State → State} (hn : n < dmaCount p)
    (h : mayReach w (s.dmaSecure p n) .host = false) (hr : r = .next (s.dmaBy p n w k)) : r = .next (s.answer stAccess) := by
  rw [hr, State.dmaBy_refused k hn h]

/-- Settles O43: each of these commands is one write of a secure object of the fleet role. -/
theorem writesBelowFleetChangeNothing : Obligations.WritesBelowFleetChangeNothing := by
  refine ⟨mayReach_secure_fleet_eq_false, fun s w h => ?_⟩
  and_intros
  all_goals intros; exact access_of_writeBy h rfl

/-- Settles O44: each of these commands is one write of an object of the role and world that its hypothesis names; an anchor or a
certificate is written by `State.anchorWriter`, and a DMA channel through `State.dmaBy`. -/
theorem writesBelowTheRoleChangeNothing : Obligations.WritesBelowTheRoleChangeNothing := by
  refine ⟨fun s w h => ?_, fun s d w q program h => access_of_writeBy h rfl, fun s d w q h => access_of_writeBy h rfl,
    fun s d w q h => access_of_writeBy h rfl, fun s w h => ?_, fun s w h => ?_, fun s d n w h => access_of_writeBy h rfl,
    fun s d n w h => access_of_writeBy h rfl, fun s w a value valid h => access_of_writeBy h rfl,
    fun s w value hm he h => access_of_writeBy h rfl, fun s p n w hn h => ?_⟩
  · and_intros
    all_goals intros; exact access_of_writeBy h rfl
  · and_intros
    all_goals intros; exact access_of_writeBy h rfl
  · and_intros
    all_goals intros; exact access_of_writeBy h rfl
  · and_intros
    all_goals intros; exact access_of_dmaBy hn h rfl

end Sys2Proof.Machine
end

section
/-! The object tables (R15, R16): what a write of an object, a byte or octets does and leaves, their canonical form, and what they
hold at reset (R9). -/

namespace Sys2Proof.Machine
open Sys2Proof

section
variable (s : State)

/-- An octet object has fewer than 2^40 bytes, so the key of a byte tells the object and the byte. -/
theorem octKey_inj {k j i n : Nat} (hi : i < 2 ^ 40) (hn : n < 2 ^ 40) : octKey j n = octKey k i ↔ j = k ∧ n = i := by
  unfold octKey
  omega

theorem State.ob_setOb (p q : Part) (k i v j n : Nat) (hi : i < 2 ^ 40) (hn : n < 2 ^ 40) :
    (s.setOb p k i v).ob q j n = if q = p ∧ j = k ∧ n = i then v % 256 else s.ob q j n := by
  unfold State.setOb State.ob
  by_cases hp : q = p
  · subst hp
    rw [State.setOcts_octs_same]
    by_cases hk : j = k ∧ n = i
    · obtain ⟨rfl, rfl⟩ := hk
      simp
    · rw [Tbl.get_set_ne _ _ _ (mt (octKey_inj hi hn).mp hk)]
      simp [hk]
  · rw [State.setOcts_octs_ne _ _ hp]
    simp [hp]

theorem State.ob_setBytes (p q : Part) (k i : Nat) (l : List Nat) (j n : Nat) (hi : i + l.length ≤ 2 ^ 40) (hn : n < 2 ^ 40) :
    (s.setBytes p k i l).ob q j n =
      if q = p ∧ j = k ∧ i ≤ n ∧ n < i + l.length then l.getD (n - i) 0 % 256 else s.ob q j n := by
  induction l generalizing s i with
  | nil => simp [State.setBytes]
  | cons b l ih =>
    rw [List.length_cons] at hi ⊢
    rw [State.setBytes, ih _ _ (by omega), State.ob_setOb _ _ _ _ _ _ _ _ (by omega) hn]
    by_cases ho : q = p ∧ j = k
    · obtain ⟨rfl, rfl⟩ := ho
      rcases Nat.lt_trichotomy n i with h | rfl | h
      · simp [show ¬ i + 1 ≤ n by omega, show ¬ i ≤ n by omega, show n ≠ i by omega]
      · simp
      · have hd : n - i = n - (i + 1) + 1 := by omega
        have hl : n < i + 1 + l.length ↔ n < i + (l.length + 1) := by omega
        simp [hd, hl, show i + 1 ≤ n by omega, show i ≤ n by omega, show n ≠ i by omega]
    · have hno : ∀ P : Prop, ¬ (q = p ∧ j = k ∧ P) := fun P h => ho ⟨h.1, h.2.1⟩
      simp only [hno, if_false]

theorem keptBytes_length (k i : Nat) (l : List Nat) : (keptBytes k i l).length = l.length :=
  List.length_mapIdx

theorem keptBytes_getD (k i : Nat) (l : List Nat) (n : Nat) :
    (keptBytes k i l).getD n 0 = l.getD n 0 % 256 &&& octetKeep k (i + n) := by
  unfold keptBytes
  by_cases h : n < l.length
  · simp [h]
  · simp [Nat.le_of_not_lt h]

/-- The bytes that a write of `l` to an octet object puts there: `l` without its reserved bits (R8), then zeros (R502). -/
theorem keptBytes_append_zeros_getD (k m n : Nat) (l : List Nat) :
    (keptBytes k 0 l ++ List.replicate m 0).getD n 0 = l.getD n 0 % 256 &&& octetKeep k n := by
  by_cases h : n < l.length
  · rw [List.getD_append _ _ _ _ (by rwa [keptBytes_length]), keptBytes_getD, Nat.zero_add]
  · have hn : (keptBytes k 0 l).length ≤ n := by rw [keptBytes_length]; omega
    rw [List.getD_append_right _ _ _ _ hn, List.getD_eq_default l 0 (by omega)]
    simp

theorem State.ob_writeOctets (p q : Part) (k n j i : Nat) (l : List Nat) (hl : l.length ≤ n) (hn : n ≤ 2 ^ 40)
    (hi : i < 2 ^ 40) : (s.writeOctets p k n l).ob q j i =
      if q = p ∧ j = k ∧ i < n then l.getD i 0 % 256 &&& octetKeep k i else s.ob q j i := by
  have hlen : (keptBytes k 0 l ++ List.replicate (n - l.length) 0).length = n := by
    rw [List.length_append, keptBytes_length, List.length_replicate]
    omega
  have hbyte : (l.getD i 0 % 256 &&& octetKeep k i) % 256 = l.getD i 0 % 256 &&& octetKeep k i :=
    Nat.mod_eq_of_lt (Nat.lt_of_le_of_lt Nat.and_le_left (Nat.mod_lt _ (by decide)))
  unfold State.writeOctets
  rw [List.take_of_length_le hl, State.ob_setBytes _ _ _ _ _ _ _ _ (by omega) hi, hlen, Nat.sub_zero,
    keptBytes_append_zeros_getD, hbyte]
  simp only [Nat.zero_le, true_and, Nat.zero_add]

/-! ### What a write of an object leaves as it was -/

theorem State.wr_vager_frame (k v : Nat) :
    (s.wr .vager k v).vager = { s.vager with obj := (s.wr .vager k v).vager.obj } ∧ (s.wr .vager k v).dies = s.dies :=
  ⟨rfl, rfl⟩

theorem State.setOb_vager_frame (k i v : Nat) :
    (s.setOb .vager k i v).vager = { s.vager with oct := (s.setOb .vager k i v).vager.oct } ∧
      (s.setOb .vager k i v).dies = s.dies :=
  ⟨rfl, rfl⟩

theorem State.wr_staris_frame (d e : Die) (k v : Nat) : (s.wr (.staris d) k v).vager = s.vager ∧
    (s.wr (.staris d) k v).die d = { s.die d with obj := ((s.wr (.staris d) k v).die d).obj } ∧
    (e ≠ d → (s.wr (.staris d) k v).die e = s.die e) := by
  simp only [State.wr, State.setObjs, State.setDie_vager, State.setDie_die_same, true_and]
  exact fun h => State.setDie_die_ne s _ h

theorem State.setOb_staris_frame (d e : Die) (k i v : Nat) : (s.setOb (.staris d) k i v).vager = s.vager ∧
    (s.setOb (.staris d) k i v).die d = { s.die d with oct := ((s.setOb (.staris d) k i v).die d).oct } ∧
    (e ≠ d → (s.setOb (.staris d) k i v).die e = s.die e) := by
  simp only [State.setOb, State.setOcts, State.setDie_vager, State.setDie_die_same, true_and]
  exact fun h => State.setDie_die_ne s _ h

@[simp] theorem State.setObjs_fresh (p : Part) (t : Tbl Nat) : (s.setObjs p t).fresh = s.fresh := by cases p <;> rfl
@[simp] theorem State.setOcts_fresh (p : Part) (t : Tbl Nat) : (s.setOcts p t).fresh = s.fresh := by cases p <;> rfl

/-! ### The canonical form of the tables -/

theorem State.tablesWf_iff :
    s.tablesWf = true ↔ ∀ p, Tbl.wf (objDefault p) (s.objs p) = true ∧ Tbl.wf octDefaultAt (s.octs p) = true := by
  simp only [State.tablesWf, Bool.and_eq_true, List.all_eq_true]
  constructor
  · rintro ⟨hv, hd⟩ (_ | d)
    · exact hv
    · exact hd d (List.mem_finRange d)
  · exact fun h => ⟨h .vager, fun d _ => h (.staris d)⟩

variable {s}

theorem State.tablesWf_wr (h : s.tablesWf = true) (p : Part) (k v : Nat) : (s.wr p k v).tablesWf = true := by
  rw [State.tablesWf_iff] at h ⊢
  intro q
  unfold State.wr
  rw [State.setObjs_octs]
  by_cases hp : q = p
  · subst hp
    rw [State.setObjs_objs_same]
    exact ⟨Tbl.wf_set _ _ _ _ (h q).1, (h q).2⟩
  · rw [State.setObjs_objs_ne _ _ hp]
    exact h q

theorem State.tablesWf_setOb (h : s.tablesWf = true) (p : Part) (k i v : Nat) : (s.setOb p k i v).tablesWf = true := by
  rw [State.tablesWf_iff] at h ⊢
  intro q
  unfold State.setOb
  rw [State.setOcts_objs]
  by_cases hp : q = p
  · subst hp
    rw [State.setOcts_octs_same]
    exact ⟨(h q).1, Tbl.wf_set _ _ _ _ (h q).2⟩
  · rw [State.setOcts_octs_ne _ _ hp]
    exact h q

theorem State.tablesWf_setBytes (h : s.tablesWf = true) (p : Part) (k i : Nat) (l : List Nat) :
    (s.setBytes p k i l).tablesWf = true := by
  induction l generalizing s i with
  | nil => exact h
  | cons b l ih => exact ih (State.tablesWf_setOb h p k i b) (i + 1)

end

/-! ### Reset -/

theorem State.reset_die (d : Die) : State.reset.die d = Staris.reset := Vector.getElem_replicate d.isLt

@[simp] theorem State.reset_objs (p : Part) : State.reset.objs p = [] := by
  cases p with
  | vager => rfl
  | staris d => exact congrArg (fun x => x.obj) (State.reset_die d)

@[simp] theorem State.reset_octs (p : Part) : State.reset.octs p = [] := by
  cases p with
  | vager => rfl
  | staris d => exact congrArg (fun x => x.oct) (State.reset_die d)

theorem State.reset_counter (p : Part) : State.reset.counter p = 0 := by
  cases p with
  | vager => rfl
  | staris d => exact congrArg (fun x => x.time.counter) (State.reset_die d)

theorem State.reset_tablesWf : State.reset.tablesWf = true := by
  rw [State.tablesWf_iff]
  intro p
  rw [State.reset_objs, State.reset_octs]
  exact ⟨rfl, rfl⟩

theorem State.reset_rd (p : Part) (k : Nat) : State.reset.rd p k = objDefault p k := by
  unfold State.rd
  rw [State.reset_objs, Tbl.get_nil]

theorem State.reset_ob (p : Part) (k i : Nat) : State.reset.ob p k i = octDefaultAt (octKey k i) :=
  State.ob_nil State.reset p (State.reset_octs p) k i

/-- R309: clusters 0 to 15 are ACTIVE and 16 and 17 are SPARE. -/
theorem State.reset_clState (c : Fin 18) : State.reset.clState c.val = if c.val < 16 then 1 else 2 := by
  unfold State.clState
  rw [State.reset_ob]
  revert c
  decide

/-- Settles O46: reads after a write by the keys of the tables, and one frame lemma per part. -/
theorem objectWritesAreFramed : Obligations.ObjectWritesAreFramed :=
  ⟨State.rd_wr, fun s p q k j v i => s.ob_wr p q k v j i, State.ob_setOb, State.rd_setOb, State.wr_vager_frame,
    State.wr_staris_frame, State.setOb_vager_frame, State.setOb_staris_frame, fun s p k i v => by simp [State.wr, State.setOb]⟩

/-- Settles O47: the bytes kept (R8), then zeros (R502), written from byte 0 on. -/
theorem octetWritesFillWithZeros : Obligations.OctetWritesFillWithZeros := fun s p q k n j i l hl hn hi =>
  ⟨s.ob_writeOctets p q k n j i l hl hn hi, s.rd_writeOctets p q k n l j⟩

/-- Settles O49: every part's tables at once (`State.tablesWf_iff`); outputs and free values stand in no table. -/
theorem objectTablesKeepTheirForm : Obligations.ObjectTablesKeepTheirForm :=
  ⟨State.reset_tablesWf, fun _ h => ⟨State.tablesWf_wr h, State.tablesWf_setOb h, State.tablesWf_setBytes h, fun _ => h, h⟩⟩

/-- Settles O42: the tables of every part are empty at reset, so each key reads as its power-on value (log entries 2 and 141). -/
theorem resetLeavesTheDefaults : Obligations.ResetLeavesTheDefaults :=
  ⟨State.reset_rd, State.reset_ob, State.reset_counter, rfl,
    fun d => congrArg (fun x => x.time.inc) (State.reset_die d), rfl, rfl, rfl, State.reset_clState, rfl, rfl, rfl⟩

end Sys2Proof.Machine
end

section
/-! The K288 code (R30 to R34): its field, its syndromes, and how a codeword decodes clean, poisoned and with one symbol error. -/

namespace Sys2Proof.Machine
open Sys2Proof

/-! ### The field GF(2^8) (R30) -/

theorem two_mul_xor (a b : Nat) : 2 * (a ^^^ b) = 2 * a ^^^ 2 * b := by
  simpa [Nat.shiftLeft_eq, Nat.mul_comm] using Nat.shiftLeft_xor_distrib (i := 1) (a := a) (b := b)

theorem xor_lt_256 {a b : Nat} (ha : a < 256) (hb : b < 256) : a ^^^ b < 256 := Nat.xor_lt_two_pow (n := 8) ha hb

theorem xor_lt_128_iff {a b : Nat} (ha : a < 256) (hb : b < 256) : a ^^^ b < 128 ↔ (a < 128 ↔ b < 128) := by
  have h : (a ^^^ b) / 128 = a / 128 ^^^ b / 128 := Nat.xor_div_two_pow (n := 7)
  have hx := xor_lt_256 ha hb
  obtain h1 | h1 : a / 128 = 0 ∨ a / 128 = 1 := by omega
  all_goals
    obtain h2 | h2 : b / 128 = 0 ∨ b / 128 = 1 := by omega
    all_goals rw [h1, h2] at h; norm_num at h; omega

/-- A map of symbols that is additive and commutes with the product by α, so the product by one symbol
(`GfLinear.apply_eq_gfMul`). -/
def GfLinear (L : Nat → Nat) : Prop :=
  (∀ a < 256, L a < 256) ∧ (∀ a < 256, ∀ b < 256, L (a ^^^ b) = L a ^^^ L b) ∧ ∀ a < 256, L (gfX a) = gfX (L a)

theorem GfLinear.intro {L : Nat → Nat} (lt : ∀ {a}, a < 256 → L a < 256)
    (xor : ∀ {a b}, a < 256 → b < 256 → L (a ^^^ b) = L a ^^^ L b) (shift : ∀ {a}, a < 256 → L (gfX a) = gfX (L a)) :
    GfLinear L :=
  ⟨fun _ => lt, fun _ ha _ hb => xor ha hb, fun _ => shift⟩

theorem gfX_of_lt {a : Nat} (h : a < 128) : gfX a = 2 * a := if_pos h

theorem gfX_of_ge {a : Nat} (h : 128 ≤ a) : gfX a = 2 * a ^^^ 0x11D := if_neg (Nat.not_lt.2 h)

theorem gfX_lt {a : Nat} (ha : a < 256) : gfX a < 256 := by
  rcases Nat.lt_or_ge a 128 with h | h
  · rw [gfX_of_lt h]
    omega
  · have hdiv : (2 * a ^^^ 0x11D) / 256 = 2 * a / 256 ^^^ 0x11D / 256 := Nat.xor_div_two_pow (n := 8)
    have htop : 2 * a / 256 = 1 := by omega
    rw [htop, show 1 ^^^ 0x11D / 256 = 0 from rfl] at hdiv
    rw [gfX_of_ge h]
    omega

theorem gfX_xor {a b : Nat} (ha : a < 256) (hb : b < 256) : gfX (a ^^^ b) = gfX a ^^^ gfX b := by
  have hlt := xor_lt_128_iff ha hb
  rcases Nat.lt_or_ge a 128 with h1 | h1 <;> rcases Nat.lt_or_ge b 128 with h2 | h2
  · rw [gfX_of_lt h1, gfX_of_lt h2, gfX_of_lt (by omega), two_mul_xor]
  · rw [gfX_of_lt h1, gfX_of_ge h2, gfX_of_ge (by omega), two_mul_xor, Nat.xor_assoc]
  · rw [gfX_of_ge h1, gfX_of_lt h2, gfX_of_ge (by omega), two_mul_xor, Nat.xor_right_comm]
  · rw [gfX_of_ge h1, gfX_of_ge h2, gfX_of_lt (by omega), two_mul_xor, Nat.xor_comm (2 * b) 0x11D, ← Nat.xor_assoc,
      Nat.xor_xor_cancel_right]

theorem gfLinear_gfX : GfLinear gfX := .intro gfX_lt gfX_xor fun _ => rfl

namespace GfLinear
variable {L M : Nat → Nat}

theorem lt (hL : GfLinear L) {a : Nat} (ha : a < 256) : L a < 256 := hL.1 a ha

theorem xor (hL : GfLinear L) {a b : Nat} (ha : a < 256) (hb : b < 256) : L (a ^^^ b) = L a ^^^ L b := hL.2.1 a ha b hb

theorem shift (hL : GfLinear L) {a : Nat} (ha : a < 256) : L (gfX a) = gfX (L a) := hL.2.2 a ha

theorem map_zero (hL : GfLinear L) : L 0 = 0 := by
  have h := hL.xor (a := 0) (b := 0) (by decide) (by decide)
  rwa [Nat.xor_self (L 0)] at h

theorem zero : GfLinear fun _ => 0 := .intro (fun _ => by decide) (fun _ _ => rfl) fun _ => rfl

theorem id : GfLinear fun a => a := .intro (fun h => h) (fun _ _ => rfl) fun _ => rfl

theorem comp (hL : GfLinear L) (hM : GfLinear M) : GfLinear fun a => L (M a) :=
  .intro (fun ha => hL.lt (hM.lt ha)) (fun ha hb => by rw [hM.xor ha hb, hL.xor (hM.lt ha) (hM.lt hb)])
    fun ha => by rw [hM.shift ha, hL.shift (hM.lt ha)]

theorem add (hL : GfLinear L) (hM : GfLinear M) : GfLinear fun a => L a ^^^ M a :=
  .intro (fun ha => xor_lt_256 (hL.lt ha) (hM.lt ha)) (fun ha hb => by rw [hL.xor ha hb, hM.xor ha hb]; ac_rfl)
    fun ha => by rw [hL.shift ha, hM.shift ha, gfX_xor (hL.lt ha) (hM.lt ha)]

theorem iterate (hL : GfLinear L) (n : Nat) : GfLinear L^[n] := by
  induction n with
  | zero => exact GfLinear.id
  | succ n ih => exact ih.comp hL

end GfLinear

theorem gfMulN_succ (n a b : Nat) :
    gfMulN (n + 1) a b = (if b % 2 = 1 then a else 0) ^^^ gfMulN n (gfX a) (b / 2) := rfl

theorem gfMulN_lt (n : Nat) {a : Nat} (b : Nat) (ha : a < 256) : gfMulN n a b < 256 := by
  induction n generalizing a b with
  | zero => exact (by decide : 0 < 256)
  | succ n ih =>
    refine xor_lt_256 ?_ (ih _ (gfX_lt ha))
    split
    · exact ha
    · decide

/-- A linear map acts on a product through its first factor. -/
theorem GfLinear.map_gfMulN {L : Nat → Nat} (hL : GfLinear L) (n : Nat) {a : Nat} (b : Nat) (ha : a < 256) :
    L (gfMulN n a b) = gfMulN n (L a) b := by
  induction n generalizing a b with
  | zero => exact hL.map_zero
  | succ n ih =>
    rw [gfMulN_succ, gfMulN_succ, hL.xor (by split <;> omega) (gfMulN_lt n _ (gfX_lt ha)), ih _ (gfX_lt ha), hL.shift ha,
      apply_ite L, hL.map_zero]

theorem gfMulN_xor (n : Nat) {a b : Nat} (c : Nat) (ha : a < 256) (hb : b < 256) :
    gfMulN n (a ^^^ b) c = gfMulN n a c ^^^ gfMulN n b c := by
  induction n generalizing a b c with
  | zero => exact (Nat.xor_self 0).symm
  | succ n ih =>
    rw [gfMulN_succ, gfMulN_succ, gfMulN_succ, gfX_xor ha hb, ih _ (gfX_lt ha) (gfX_lt hb)]
    split
    · ac_rfl
    · simp only [Nat.zero_xor]

theorem gfLinear_gfMul (c : Nat) : GfLinear fun a => gfMul a c :=
  .intro (gfMulN_lt 8 c) (gfMulN_xor 8 c) fun ha => (gfLinear_gfX.map_gfMulN 8 c ha).symm

theorem one_gfMul {a : Nat} (ha : a < 256) : gfMul 1 a = a := by
  have h : ∀ m n : Fin 16, gfMul 1 (16 * m + n) = 16 * m + n := by decide
  have hmn := h ⟨a / 16, by omega⟩ ⟨a % 16, by omega⟩
  rwa [Nat.div_add_mod] at hmn

/-- A linear map is the product by its value at 1. -/
theorem GfLinear.apply_eq_gfMul {L : Nat → Nat} (hL : GfLinear L) {a : Nat} (ha : a < 256) : L a = gfMul (L 1) a := by
  have h := hL.map_gfMulN 8 a (by decide : 1 < 256)
  rwa [show gfMulN 8 1 a = a from one_gfMul ha] at h

theorem GfLinear.eq_of_one {L M : Nat → Nat} (hL : GfLinear L) (hM : GfLinear M) (h : L 1 = M 1) {a : Nat} (ha : a < 256) :
    L a = M a := by rw [hL.apply_eq_gfMul ha, hM.apply_eq_gfMul ha, h]

theorem gfMul_comm {a b : Nat} (ha : a < 256) (hb : b < 256) : gfMul a b = gfMul b a := by
  rw [(gfLinear_gfMul b).apply_eq_gfMul ha, one_gfMul hb]

theorem gfPow_eq_iterate (n : Nat) : gfPow n = gfX^[n] 1 := by
  induction n with
  | zero => rfl
  | succ n ih => exact (congrArg gfX ih).trans (Function.iterate_succ_apply' gfX n 1).symm

/-- The product by α to the `n` is `n` products by α. -/
theorem gfMul_gfPow {a : Nat} (n : Nat) (ha : a < 256) : gfMul a (gfPow n) = gfX^[n] a := by
  have hn := gfLinear_gfX.iterate n
  rw [hn.apply_eq_gfMul ha, gfPow_eq_iterate, gfMul_comm ha (hn.lt (by decide))]

theorem gfX_ne_zero {a : Nat} (h : a ≠ 0) : gfX a ≠ 0 := by
  rcases Nat.lt_or_ge a 128 with hlt | hge
  · rw [gfX_of_lt hlt]
    omega
  · have hodd : (2 * a ^^^ 0x11D) % 2 = (2 * a + 0x11D) % 2 := Nat.xor_mod_two_eq
    rw [gfX_of_ge hge]
    omega

theorem gfX_iterate_ne_zero {a : Nat} (n : Nat) (h : a ≠ 0) : gfX^[n] a ≠ 0 := by
  induction n generalizing a with
  | zero => exact h
  | succ n ih => exact ih (gfX_ne_zero h)

theorem gfX_iterate_cancel {a b : Nat} (n : Nat) (ha : a < 256) (hb : b < 256) (h : gfX^[n] a = gfX^[n] b) : a = b := by
  by_contra hab
  refine gfX_iterate_ne_zero n (Nat.xor_ne_zero_iff.2 hab) ?_
  rw [(gfLinear_gfX.iterate n).xor ha hb, h, Nat.xor_self]

theorem gfX_iterate_add_one (m n : Nat) : gfX^[m + n] 1 = gfMul (gfX^[m] 1) (gfX^[n] 1) := by
  rw [Function.iterate_add_apply]
  exact (gfLinear_gfX.iterate m).apply_eq_gfMul ((gfLinear_gfX.iterate n).lt (by decide))

/-- The order of α divides 255. -/
theorem gfX_iterate_255 {a : Nat} (ha : a < 256) : gfX^[255] a = a := by
  have h30 : gfX^[30] 1 = 96 := by decide
  have h60 : gfX^[30 + 30] 1 = 185 := by rw [gfX_iterate_add_one, h30]; decide
  have h120 : gfX^[60 + 60] 1 = 59 := by rw [gfX_iterate_add_one, h60]; decide
  have h240 : gfX^[120 + 120] 1 = 44 := by rw [gfX_iterate_add_one, h120]; decide
  have h255 : gfX^[240 + 15] 1 = 1 := by rw [gfX_iterate_add_one, h240]; decide
  exact (gfLinear_gfX.iterate 255).eq_of_one GfLinear.id h255 ha

/-- Where the sum of 1 and α to the `n` has an inverse, that power moves every non-zero symbol. -/
theorem gfX_iterate_ne_self_of_inverse {n c a : Nat} (hc : gfMul (gfX^[n] 1 ^^^ 1) c = 1) (ha : a < 256) (h : a ≠ 0) :
    gfX^[n] a ≠ a := by
  intro hn
  have hL := (gfLinear_gfMul c).comp ((gfLinear_gfX.iterate n).add GfLinear.id)
  have hinv : gfMul (gfX^[n] a ^^^ a) c = a := hL.eq_of_one GfLinear.id hc ha
  rw [hn, Nat.xor_self, (gfLinear_gfMul c).map_zero] at hinv
  exact h hinv.symm

/-- A power of α below the 36th moves every non-zero symbol: the common divisors of its exponent and 255 divide 15 or 17. -/
theorem gfX_iterate_ne_self {a d : Nat} (ha : a < 256) (h : a ≠ 0) (hd : d ≠ 0) (hd' : d < 36) : gfX^[d] a ≠ a := by
  intro he
  have hgcd : ∀ d : Fin 36, d.val ≠ 0 → d.val.gcd 255 ∣ 15 ∨ d.val.gcd 255 ∣ 17 := by decide
  have hper : Function.IsPeriodicPt gfX (d.gcd 255) a := Function.IsPeriodicPt.gcd he (gfX_iterate_255 ha)
  cases hgcd ⟨d, hd'⟩ hd with
  | inl h15 => exact gfX_iterate_ne_self_of_inverse (n := 15) (c := 138) (by decide) ha h (hper.trans_dvd h15)
  | inr h17 => exact gfX_iterate_ne_self_of_inverse (n := 17) (c := 220) (by decide) ha h (hper.trans_dvd h17)

theorem gfX_iterate_ne_of_lt {a m n : Nat} (ha : a < 256) (h : a ≠ 0) (hmn : m < n) (hn : n < 36) :
    gfX^[m] a ≠ gfX^[n] a := by
  intro he
  refine gfX_iterate_ne_self ha h (d := n - m) (by omega) (by omega) ?_
  refine gfX_iterate_cancel m ((gfLinear_gfX.iterate (n - m)).lt ha) ha ?_
  rw [← Function.iterate_add_apply, Nat.add_sub_cancel' (Nat.le_of_lt hmn), he]

/-- The first 36 powers of α differ, so do their products by one non-zero symbol. -/
theorem gfX_iterate_inj {a m n : Nat} (ha : a < 256) (h : a ≠ 0) (hm : m < 36) (hn : n < 36) (he : gfX^[m] a = gfX^[n] a) :
    m = n := by
  rcases Nat.lt_trichotomy m n with hlt | heq | hgt
  · exact absurd he (gfX_iterate_ne_of_lt ha h hlt hn)
  · exact heq
  · exact absurd he.symm (gfX_iterate_ne_of_lt ha h hgt hm)

/-! ### Bytes and symbols (R10, R31) -/

theorem pow_256 (k : Nat) : 2 ^ (8 * k) = 256 ^ k := Nat.pow_mul 2 8 k

theorem toBytes_succ (n x : Nat) : toBytes (n + 1) x = x % 256 :: toBytes n (x / 256) := rfl

theorem ofBytes_cons (b : Nat) (l : List Nat) : ofBytes (b :: l) = b % 256 + 256 * ofBytes l := rfl

theorem toBytes_length (n x : Nat) : (toBytes n x).length = n := by
  induction n generalizing x with
  | zero => rfl
  | succ n ih => rw [toBytes_succ, List.length_cons, ih]

theorem toBytes_lt (n x : Nat) : ∀ b ∈ toBytes n x, b < 256 := by
  induction n generalizing x with
  | zero => exact fun _ h => absurd h List.not_mem_nil
  | succ n ih => exact List.forall_mem_cons.2 ⟨Nat.mod_lt _ (by decide), ih _⟩

theorem toBytes_append (m n x : Nat) : toBytes (m + n) x = toBytes m x ++ toBytes n (x / 256 ^ m) := by
  induction m generalizing x with
  | zero => rw [Nat.zero_add, Nat.pow_zero, Nat.div_one]; rfl
  | succ m ih => rw [Nat.succ_add, toBytes_succ, toBytes_succ, ih, Nat.div_div_eq_div_mul, ← Nat.pow_succ', List.cons_append]

theorem toBytes_mod (n x : Nat) : toBytes n (x % 256 ^ n) = toBytes n x := by
  induction n generalizing x with
  | zero => rfl
  | succ n ih =>
    rw [toBytes_succ, toBytes_succ, ← ih (x / 256), Nat.pow_succ', Nat.mod_mul_right_div_self, Nat.mod_mul_right_mod]

theorem ofBytes_toBytes (n x : Nat) : ofBytes (toBytes n x) = x % 256 ^ n := by
  induction n generalizing x with
  | zero => exact (Nat.mod_one x).symm
  | succ n ih => rw [toBytes_succ, ofBytes_cons, ih, Nat.pow_succ', Nat.mod_mul, Nat.mod_mod]

theorem toBytes_ofBytes (l : List Nat) (h : ∀ b ∈ l, b < 256) : toBytes l.length (ofBytes l) = l := by
  induction l with
  | nil => rfl
  | cons b l ih =>
    obtain ⟨hb, hl⟩ := List.forall_mem_cons.1 h
    have hmod : (b % 256 + 256 * ofBytes l) % 256 = b := by omega
    have hdiv : (b % 256 + 256 * ofBytes l) / 256 = ofBytes l := by omega
    rw [List.length_cons, toBytes_succ, ofBytes_cons, hmod, hdiv, ih hl]

theorem ofBytes_lt (l : List Nat) : ofBytes l < 256 ^ l.length := by
  induction l with
  | nil => exact Nat.one_pos
  | cons b l ih =>
    rw [ofBytes_cons, List.length_cons, Nat.pow_succ']
    omega

theorem toBytes_xor (n x y : Nat) : toBytes n (x ^^^ y) = List.zipWith Nat.xor (toBytes n x) (toBytes n y) := by
  induction n generalizing x y with
  | zero => rfl
  | succ n ih =>
    have h : (x ^^^ y) % 256 = x % 256 ^^^ y % 256 := Nat.xor_mod_two_pow (n := 8)
    have h' : (x ^^^ y) / 256 = x / 256 ^^^ y / 256 := Nat.xor_div_two_pow (n := 8)
    rw [toBytes_succ, toBytes_succ, toBytes_succ, List.zipWith_cons_cons, h, h', ih, Nat.xor_eq]

/-- The number with byte `k` changed by `e` has the bytes of `x` with that byte changed. -/
theorem toBytes_xor_symbol (n x k e : Nat) (he : e < 256) :
    (toBytes n x).set k (Nat.xor ((toBytes n x).getD k 0) e) = toBytes n (x ^^^ e * 256 ^ k) := by
  induction n generalizing x k with
  | zero => rfl
  | succ n ih =>
    have h : (x ^^^ e * 256 ^ k) % 256 = x % 256 ^^^ e * 256 ^ k % 256 := Nat.xor_mod_two_pow (n := 8)
    have h' : (x ^^^ e * 256 ^ k) / 256 = x / 256 ^^^ e * 256 ^ k / 256 := Nat.xor_div_two_pow (n := 8)
    rw [toBytes_succ, toBytes_succ, h, h']
    cases k with
    | zero =>
      rw [Nat.pow_zero, Nat.mul_one, Nat.mod_eq_of_lt he, Nat.div_eq_of_lt he, Nat.xor_zero]
      rfl
    | succ k =>
      rw [Nat.pow_succ', Nat.mul_left_comm, Nat.mul_mod_right, Nat.mul_div_right _ (by decide), Nat.xor_zero, List.set_cons_succ,
        List.getD_cons_succ, ih]

/-! ### Horner's rule and the syndrome (R33) -/

/-- Horner's rule for symbols, highest coefficient first, from the value `a`: `T` is the product by the point. -/
def gfHorner (T : Nat → Nat) (a : Nat) (cs : List Nat) : Nat := cs.foldl (fun a c => T a ^^^ c) a

theorem gfHorner_cons (T : Nat → Nat) (a c : Nat) (cs : List Nat) :
    gfHorner T a (c :: cs) = gfHorner T (T a ^^^ c) cs := rfl

theorem gfHorner_append (T : Nat → Nat) (a : Nat) (cs ds : List Nat) :
    gfHorner T a (cs ++ ds) = gfHorner T (gfHorner T a cs) ds := List.foldl_append

/-- The product by α to the `i`, a root of the generator. -/
def timesRoot (i a : Nat) : Nat := gfMul a (gfPow i)

theorem timesRoot_eq {a : Nat} (i : Nat) (ha : a < 256) : timesRoot i a = gfX^[i] a := gfMul_gfPow i ha

theorem gfLinear_timesRoot (i : Nat) : GfLinear (timesRoot i) := gfLinear_gfMul (gfPow i)

theorem gfEval_eq_gfHorner (i : Nat) (cs : List Nat) : gfEval i cs = gfHorner (timesRoot i) 0 cs := rfl

section
variable {T : Nat → Nat}

/-- Horner's rule is additive. -/
theorem gfHorner_zipWith (hT : GfLinear T) {a b : Nat} (ha : a < 256) (hb : b < 256) {cs ds : List Nat}
    (hcs : ∀ c ∈ cs, c < 256) (hds : ∀ d ∈ ds, d < 256) (hl : cs.length = ds.length) :
    gfHorner T (a ^^^ b) (List.zipWith Nat.xor cs ds) = gfHorner T a cs ^^^ gfHorner T b ds := by
  induction cs generalizing a b ds with
  | nil => cases ds with
    | nil => rfl
    | cons d ds => simp at hl
  | cons c cs ih => cases ds with
    | nil => simp at hl
    | cons d ds =>
      obtain ⟨hc, hcs⟩ := List.forall_mem_cons.1 hcs
      obtain ⟨hd, hds⟩ := List.forall_mem_cons.1 hds
      have hacc : T (a ^^^ b) ^^^ (c ^^^ d) = (T a ^^^ c) ^^^ (T b ^^^ d) := by
        rw [hT.xor ha hb]
        ac_rfl
      rw [List.zipWith_cons_cons, gfHorner_cons, gfHorner_cons, gfHorner_cons, Nat.xor_eq, hacc]
      exact ih (xor_lt_256 (hT.lt ha) hc) (xor_lt_256 (hT.lt hb) hd) hcs hds (Nat.succ.inj hl)

theorem gfHorner_toBytes_zero (a n : Nat) : gfHorner T a (toBytes n 0) = T^[n] a := by
  induction n generalizing a with
  | zero => rfl
  | succ n ih =>
    rw [toBytes_succ, gfHorner_cons, Nat.zero_mod, Nat.xor_zero, Nat.zero_div, ih]
    rfl

theorem gfHorner_replicate_zero (hT : GfLinear T) (n : Nat) : gfHorner T 0 (List.replicate n 0) = 0 := by
  induction n with
  | zero => rfl
  | succ n ih => rw [List.replicate_succ, gfHorner_cons, hT.map_zero, Nat.xor_self, ih]

/-- A single symbol is multiplied by the point once for each symbol after it. -/
theorem gfHorner_symbol (hT : GfLinear T) {e k n : Nat} (he : e < 256) (hk : k < n) :
    gfHorner T 0 (toBytes n (e * 256 ^ k)) = T^[n - 1 - k] e := by
  induction k generalizing n with
  | zero => cases n with
    | zero => omega
    | succ n =>
      rw [Nat.pow_zero, Nat.mul_one, toBytes_succ, gfHorner_cons, hT.map_zero, Nat.zero_xor, Nat.mod_eq_of_lt he,
        Nat.div_eq_of_lt he, gfHorner_toBytes_zero]
      rfl
  | succ k ih => cases n with
    | zero => omega
    | succ n =>
      have hi : n - 1 - k = n + 1 - 1 - (k + 1) := by omega
      rw [Nat.pow_succ', Nat.mul_left_comm, toBytes_succ, gfHorner_cons, hT.map_zero, Nat.zero_xor, Nat.mul_mod_right,
        Nat.mul_div_right _ (by decide), ih (by omega), hi]

end

/-- α^0 to α^3 are roots of the generator: its product by any symbol has the value 0 there (R30). -/
theorem gfHorner_generator {i f : Nat} (hi : i < 4) (hf : f < 256) :
    gfHorner (timesRoot i) f [gfMul f 15, gfMul f 54, gfMul f 120, gfMul f 64] = 0 := by
  have hT := gfLinear_timesRoot i
  have hL := (hT.comp ((hT.comp ((hT.comp (hT.add (gfLinear_gfMul 15))).add (gfLinear_gfMul 54))).add
    (gfLinear_gfMul 120))).add (gfLinear_gfMul 64)
  have h1 : ∀ i : Fin 4, gfHorner (timesRoot i) 1 [gfMul 1 15, gfMul 1 54, gfMul 1 120, gfMul 1 64] = 0 := by
    decide
  exact hL.eq_of_one GfLinear.zero (h1 ⟨i, hi⟩) hf

/-- A list of `n` symbols of GF(2^8). -/
def Symbols (n : Nat) (l : List Nat) : Prop := l.length = n ∧ ∀ b ∈ l, b < 256

theorem symbols_toBytes (n x : Nat) : Symbols n (toBytes n x) := ⟨toBytes_length n x, toBytes_lt n x⟩

/-- The four symbols of a remainder. -/
theorem symbols_four {r : List Nat} (hr : Symbols 4 r) :
    ∃ r0 r1 r2 r3, r = [r0, r1, r2, r3] ∧ r0 < 256 ∧ r1 < 256 ∧ r2 < 256 ∧ r3 < 256 := by
  obtain ⟨r0, r1, r2, r3, rfl⟩ := List.length_eq_four.1 hr.1
  exact ⟨r0, r1, r2, r3, rfl, hr.2 r0 (by simp), hr.2 r1 (by simp), hr.2 r2 (by simp), hr.2 r3 (by simp)⟩

theorem Symbols.zipWith_xor {n : Nat} {l k : List Nat} (hl : Symbols n l) (hk : Symbols n k) :
    Symbols n (List.zipWith Nat.xor l k) := by
  refine ⟨by rw [List.length_zipWith, hl.1, hk.1, Nat.min_self], fun b hb => ?_⟩
  obtain ⟨i, hi, rfl⟩ := List.mem_iff_getElem.1 hb
  rw [List.getElem_zipWith]
  exact xor_lt_256 (hl.2 _ (List.getElem_mem _)) (hk.2 _ (List.getElem_mem _))

theorem syndrome_eq (bs : List Nat) : syndrome bs = [gfEval 0 bs, gfEval 1 bs, gfEval 2 bs, gfEval 3 bs] := rfl

theorem syndrome_zipWith {n : Nat} {cs ds : List Nat} (hcs : Symbols n cs) (hds : Symbols n ds) :
    syndrome (List.zipWith Nat.xor cs ds) = List.zipWith Nat.xor (syndrome cs) (syndrome ds) := by
  have h (i : Nat) : gfEval i (List.zipWith Nat.xor cs ds) = Nat.xor (gfEval i cs) (gfEval i ds) :=
    gfHorner_zipWith (gfLinear_timesRoot i) (a := 0) (b := 0) (by decide) (by decide) hcs.2 hds.2 (hcs.1.trans hds.1.symm)
  rw [syndrome_eq, h, h, h, h]
  rfl

/-- The syndrome of one symbol (R33). -/
theorem syndrome_symbol {k e : Nat} (he : e < 256) (hk : k < 36) : syndrome (toBytes 36 (e * 256 ^ k)) = singleSyndrome k e := by
  refine List.map_congr_left fun i _ => ?_
  have hT := gfLinear_timesRoot i
  have hp (n : Nat) : (timesRoot i)^[n] e = gfX^[i * n] e := by
    induction n with
    | zero => rfl
    | succ n ih =>
      rw [Function.iterate_succ_apply', ih, timesRoot_eq i ((gfLinear_gfX.iterate _).lt he),
        ← Function.iterate_add_apply, Nat.mul_succ, Nat.add_comm]
  rw [gfEval_eq_gfHorner, gfHorner_symbol hT he hk, hp, gfMul_gfPow _ he]

/-! ### The codeword of a granule (R31, R32) -/

theorem k288Step_eq (r0 r1 r2 r3 b : Nat) : k288Step [r0, r1, r2, r3] b =
    [r1 ^^^ gfMul (b ^^^ r0) 15, r2 ^^^ gfMul (b ^^^ r0) 54, r3 ^^^ gfMul (b ^^^ r0) 120, gfMul (b ^^^ r0) 64] := rfl

theorem symbols_k288Step {r : List Nat} {b : Nat} (hr : Symbols 4 r) (hb : b < 256) : Symbols 4 (k288Step r b) := by
  obtain ⟨r0, r1, r2, r3, rfl, h0, h1, h2, h3⟩ := symbols_four hr
  have hm (c : Nat) : gfMul (b ^^^ r0) c < 256 := gfMulN_lt 8 c (xor_lt_256 hb h0)
  have hx (c : Nat) {r : Nat} (hr : r < 256) : r ^^^ gfMul (b ^^^ r0) c < 256 := xor_lt_256 hr (hm c)
  rw [k288Step_eq]
  exact ⟨rfl, by simp [hx, h1, h2, h3, hm]⟩

/-- A step of the division keeps the root: the data read so far, followed by the remainder, has the value 0. -/
theorem gfHorner_k288Step {i a b : Nat} {r : List Nat} (hi : i < 4) (ha : a < 256) (hb : b < 256) (hr : Symbols 4 r)
    (h : gfHorner (timesRoot i) a r = 0) :
    gfHorner (timesRoot i) (timesRoot i a ^^^ b) (k288Step r b) = 0 := by
  obtain ⟨r0, r1, r2, r3, rfl, h0, h1, h2, h3⟩ := symbols_four hr
  have hT := gfLinear_timesRoot i
  have hf : b ^^^ r0 < 256 := xor_lt_256 hb h0
  have hm (c : Nat) : gfMul (b ^^^ r0) c < 256 := gfMulN_lt 8 c hf
  have hold : gfHorner (timesRoot i) (timesRoot i a ^^^ r0) [r1, r2, r3, 0] = 0 := by
    have happ := gfHorner_append (timesRoot i) a [r0, r1, r2, r3] [0]
    rw [h, gfHorner_cons (timesRoot i) 0, hT.map_zero] at happ
    exact happ
  have hstep : k288Step [r0, r1, r2, r3] b = List.zipWith Nat.xor [r1, r2, r3, 0]
      [gfMul (b ^^^ r0) 15, gfMul (b ^^^ r0) 54, gfMul (b ^^^ r0) 120, gfMul (b ^^^ r0) 64] := by
    rw [k288Step_eq]
    simp
  have hacc : timesRoot i a ^^^ b = (timesRoot i a ^^^ r0) ^^^ (b ^^^ r0) := by
    rw [Nat.xor_comm b, Nat.xor_assoc, Nat.xor_xor_cancel_left]
  rw [hstep, hacc, gfHorner_zipWith hT (xor_lt_256 (hT.lt ha) h0) hf ?_ ?_ (by rfl), hold, gfHorner_generator hi hf, Nat.xor_self]
  · simp [h1, h2, h3]
  · simp [hm]

theorem symbols_k288Check {n : Nat} {data : List Nat} (h : Symbols n data) : Symbols 4 (k288Check data) :=
  List.foldlRecOn data k288Step ⟨rfl, by decide⟩ fun _ hr b hb => symbols_k288Step hr (h.2 b hb)

theorem gfHorner_foldl_k288Step {i a : Nat} {data r : List Nat} (hi : i < 4) (ha : a < 256) (hd : ∀ b ∈ data, b < 256)
    (hr : Symbols 4 r) (h : gfHorner (timesRoot i) a r = 0) :
    gfHorner (timesRoot i) a (data ++ data.foldl k288Step r) = 0 := by
  induction data generalizing a r with
  | nil => exact h
  | cons b data ih =>
    obtain ⟨hb, hd⟩ := List.forall_mem_cons.1 hd
    exact ih (xor_lt_256 ((gfLinear_timesRoot i).lt ha) hb) hd (symbols_k288Step hr hb) (gfHorner_k288Step hi ha hb hr h)

/-- Data and its check symbols have the syndrome 0. -/
theorem syndrome_k288Check {data : List Nat} (hd : ∀ b ∈ data, b < 256) : syndrome (data ++ k288Check data) = [0, 0, 0, 0] := by
  have h {i : Nat} (hi : i < 4) : gfEval i (data ++ k288Check data) = 0 :=
    gfHorner_foldl_k288Step hi (by decide) hd ⟨rfl, by decide⟩
      (gfHorner_replicate_zero (gfLinear_timesRoot _) 4)
  exact List.map_congr_left (g := fun _ => 0) fun i hi => h (List.mem_range.1 hi)

theorem fld_eq (lo w v : Nat) : fld lo w v = v % 2 ^ w * 2 ^ lo := rfl

/-- A codeword's bytes: those of the data, then the check symbols. -/
theorem toBytes_codeword (g : Nat) {c : List Nat} (hc : Symbols 4 c) :
    toBytes 36 (fld 256 32 (ofBytes c) + g % 2 ^ 256) = toBytes 32 g ++ c := by
  have hlt : ofBytes c < 256 ^ 4 := hc.1 ▸ ofBytes_lt c
  have hcheck : toBytes 4 (ofBytes c) = c := by
    have h := toBytes_ofBytes c hc.2
    rwa [hc.1] at h
  have hpow : 2 ^ 256 = 256 ^ 32 := pow_256 32
  have hpos : 0 < 256 ^ 32 := Nat.pow_pos (by decide)
  have hg : g % 256 ^ 32 < 256 ^ 32 := Nat.mod_lt _ hpos
  have hfld : fld 256 32 (ofBytes c) = 256 ^ 32 * ofBytes c := by
    rw [fld_eq, Nat.mod_eq_of_lt (by exact hlt), Nat.mul_comm, hpow]
  rw [hfld, hpow, show 36 = 32 + 4 from rfl, toBytes_append, ← toBytes_mod 32 (_ + _), Nat.mul_add_mod, Nat.mod_mod, toBytes_mod,
    Nat.mul_add_div hpos, Nat.div_eq_of_lt hg, Nat.add_zero, hcheck]

/-- The word that poison adds to a codeword (R32). -/
def poisonWord : List Nat := List.replicate 32 0 ++ poisonPattern

theorem poisonWord_eq : poisonWord = List.replicate 32 0 ++ poisonPattern := rfl

theorem symbols_poisonPattern : Symbols 4 poisonPattern := ⟨rfl, by decide⟩

theorem symbols_poisonWord : Symbols 36 poisonWord := ⟨rfl, by decide⟩

theorem toBytes_k288Encode_false (g : Nat) : toBytes 36 (k288Encode g false) = toBytes 32 g ++ k288Check (toBytes 32 g) :=
  toBytes_codeword g (symbols_k288Check (symbols_toBytes 32 g))

theorem zipWith_xor_zeros (l : List Nat) : List.zipWith Nat.xor l (List.replicate l.length 0) = l := by
  induction l with
  | nil => rfl
  | cons b l ih => rw [List.length_cons, List.replicate_succ, List.zipWith_cons_cons, ih, Nat.xor_eq, Nat.xor_zero]

theorem toBytes_k288Encode_true (g : Nat) :
    toBytes 36 (k288Encode g true) = List.zipWith Nat.xor (toBytes 36 (k288Encode g false)) poisonWord := by
  have hc := symbols_k288Check (symbols_toBytes 32 g)
  have hz := zipWith_xor_zeros (toBytes 32 g)
  rw [toBytes_length] at hz
  rw [toBytes_k288Encode_false, poisonWord_eq, List.zipWith_append (by rw [toBytes_length, List.length_replicate]), hz]
  exact toBytes_codeword g (hc.zipWith_xor symbols_poisonPattern)

theorem k288Encode_mod (g : Nat) (poison : Bool) : k288Encode g poison % 2 ^ 256 = g % 2 ^ 256 := by
  have h (v : Nat) : (fld 256 32 v + g % 2 ^ 256) % 2 ^ 256 = g % 2 ^ 256 := by
    rw [fld_eq, Nat.mul_comm, Nat.mul_add_mod, Nat.mod_mod]
  exact h _

/-- The syndrome of the poison pattern. -/
theorem syndrome_poisonWord : syndrome poisonWord = [0, 57, 15, 149] := by
  have h (i : Nat) : gfEval i poisonWord = gfEval i poisonPattern := by
    rw [gfEval_eq_gfHorner, poisonWord_eq, gfHorner_append,
      gfHorner_replicate_zero (gfLinear_timesRoot i), gfEval_eq_gfHorner]
  have hp : syndrome poisonPattern = [0, 57, 15, 149] := by decide
  rw [← hp]
  exact List.map_congr_left fun i _ => h i

theorem syndrome_k288Encode_false (g : Nat) : syndrome (toBytes 36 (k288Encode g false)) = [0, 0, 0, 0] := by
  rw [toBytes_k288Encode_false]
  exact syndrome_k288Check (toBytes_lt 32 g)

theorem syndrome_k288Encode_true (g : Nat) : syndrome (toBytes 36 (k288Encode g true)) = [0, 57, 15, 149] := by
  rw [toBytes_k288Encode_true, syndrome_zipWith (symbols_toBytes 36 _) symbols_poisonWord, syndrome_k288Encode_false,
    syndrome_poisonWord]
  rfl

theorem syndrome_symbol_error (cw : Nat) {k e : Nat} (hk : k < 36) (he : e < 256) :
    syndrome (toBytes 36 (cw ^^^ e * 256 ^ k)) = List.zipWith Nat.xor (syndrome (toBytes 36 cw)) (singleSyndrome k e) := by
  rw [toBytes_xor, syndrome_zipWith (symbols_toBytes 36 _) (symbols_toBytes 36 _), syndrome_symbol he hk]

/-! ### Which syndromes one symbol error has (R32 to R34) -/

theorem singleSyndrome_eq {k e : Nat} (he : e < 256) : singleSyndrome k e =
    [e, gfX^[35 - k] e, gfX^[2 * (35 - k)] e, gfX^[3 * (35 - k)] e] := by
  have h : singleSyndrome k e = [gfMul e (gfPow (0 * (35 - k))), gfMul e (gfPow (1 * (35 - k))),
      gfMul e (gfPow (2 * (35 - k))), gfMul e (gfPow (3 * (35 - k)))] := rfl
  rw [h, gfMul_gfPow _ he, gfMul_gfPow _ he, gfMul_gfPow _ he, gfMul_gfPow _ he, Nat.zero_mul, Nat.one_mul]
  rfl

theorem singleError_eq_find {s : List Nat} (h : s.getD 0 0 ≠ 0) :
    singleError s = (List.range 36).find? fun k => singleSyndrome k (s.getD 0 0) == s := if_neg h

/-- A symbol error is found where it stands. -/
theorem singleError_singleSyndrome {k e : Nat} (hk : k < 36) (h1 : 1 ≤ e) (he : e < 256) :
    singleError (singleSyndrome k e) = some k := by
  have hs : (singleSyndrome k e).getD 0 0 = e := by rw [singleSyndrome_eq he]; rfl
  have hinj {j : Nat} (hj : j < 36) (h : singleSyndrome j e = singleSyndrome k e) : j = k := by
    rw [singleSyndrome_eq he, singleSyndrome_eq he] at h
    have hα := (List.cons.inj (List.cons.inj h).2).1
    have hjk : 35 - j = 35 - k := gfX_iterate_inj he (by omega) (by omega) (by omega) hα
    omega
  rw [singleError_eq_find (by omega), hs]
  cases hf : (List.range 36).find? fun j => singleSyndrome j e == singleSyndrome k e with
  | none => exact absurd (List.find?_eq_none.1 hf k (List.mem_range.2 hk)) (not_not.2 (beq_self_eq_true _))
  | some j =>
    have hj := List.mem_range.1 (List.mem_of_find?_eq_some hf)
    have hb := List.find?_some hf
    rw [hinj hj (eq_of_beq hb)]

/-- Two symbol errors of one value do not give 57 at α and 15 at α²: 57 times the sum of their two powers of α would then be 15,
and it is for no two symbols. -/
theorem gfX_iterate_pair_ne {m n e : Nat} (hm : m < 36) (hn : n < 36) (he : e < 256) (h : gfX^[m] e ^^^ gfX^[n] e = 57) :
    gfX^[2 * m] e ^^^ gfX^[2 * n] e ≠ 15 := by
  have hpair : ∀ m n : Fin 36, gfX^[m.val] 57 ^^^ gfX^[n.val] 57 ≠ 15 := by decide
  have hM := gfLinear_gfX.iterate m
  have hN := gfLinear_gfX.iterate n
  have hsum : gfX^[m] 57 ^^^ gfX^[n] 57 = gfX^[2 * m] e ^^^ gfX^[2 * n] e := by
    rw [← h, hM.xor (hM.lt he) (hN.lt he), hN.xor (hM.lt he) (hN.lt he)]
    simp only [← Function.iterate_add_apply, Nat.two_mul, Nat.add_comm n m]
    rw [Nat.xor_assoc, Nat.xor_xor_cancel_left]
  exact hsum ▸ hpair ⟨m, hm⟩ ⟨n, hn⟩

/-- The syndrome of poison and a symbol error. -/
theorem zipWith_poison_singleSyndrome {k e : Nat} (he : e < 256) : List.zipWith Nat.xor [0, 57, 15, 149] (singleSyndrome k e) =
    [e, 57 ^^^ gfX^[35 - k] e, 15 ^^^ gfX^[2 * (35 - k)] e, 149 ^^^ gfX^[3 * (35 - k)] e] := by
  rw [singleSyndrome_eq he]
  simp

/-- R32: no symbol error has the syndrome of poison and another symbol error. -/
theorem singleError_singleSyndrome_poison {k e : Nat} (hk : k < 36) (h1 : 1 ≤ e) (he : e < 256) :
    singleError (List.zipWith Nat.xor [0, 57, 15, 149] (singleSyndrome k e)) = none := by
  have hne {j : Nat} (hj : j < 36) :
      singleSyndrome j e ≠ List.zipWith Nat.xor [0, 57, 15, 149] (singleSyndrome k e) := by
    intro h
    rw [singleSyndrome_eq he, zipWith_poison_singleSyndrome he] at h
    obtain ⟨-, h⟩ := List.cons.inj h
    obtain ⟨h57, h⟩ := List.cons.inj h
    obtain ⟨h15, -⟩ := List.cons.inj h
    refine gfX_iterate_pair_ne (m := 35 - j) (n := 35 - k) (by omega) (by omega) he ?_ ?_
    · rw [h57, Nat.xor_xor_cancel_right]
    · rw [h15, Nat.xor_xor_cancel_right]
  have hs : (List.zipWith Nat.xor [0, 57, 15, 149] (singleSyndrome k e)).getD 0 0 = e := by
    rw [zipWith_poison_singleSyndrome he]
    rfl
  rw [singleError_eq_find (by omega), hs]
  exact List.find?_eq_none.2 fun j hj hb => hne (List.mem_range.1 hj) (eq_of_beq hb)

/-! ### The classification (R33, R34) -/

/-- The first symbol of the poison pattern's syndrome is 0, as that of a clean codeword's. -/
theorem ne_zero_cons {s l : List Nat} (h : s.getD 0 0 ≠ 0) : s ≠ 0 :: l := by
  rintro rfl
  exact h rfl

/-- Order 1 of R33. -/
theorem k288Decode_good {cw : Nat} (h : syndrome (toBytes 36 cw) = [0, 0, 0, 0]) : k288Decode cw = .good (cw % 2 ^ 256) :=
  if_pos h

/-- Order 2 of R33. -/
theorem k288Decode_poison {cw : Nat} (h : syndrome (toBytes 36 cw) = [0, 57, 15, 149]) :
    k288Decode cw = .poison (cw % 2 ^ 256) :=
  (if_neg (by rw [h]; decide)).trans (if_pos (h.trans syndrome_poisonWord.symm))

/-- Order 3 of R33: another symbol error beside the poison pattern. -/
theorem k288Decode_uncorrectable {cw : Nat} (h0 : syndrome (toBytes 36 cw) ≠ [0, 0, 0, 0])
    (h1 : syndrome (toBytes 36 cw) ≠ [0, 57, 15, 149])
    (h2 : (singleError (List.zipWith Nat.xor (syndrome (toBytes 36 cw)) [0, 57, 15, 149])).isSome = true) :
    k288Decode cw = .uncorrectable := by
  rw [← syndrome_poisonWord] at h1 h2
  exact (if_neg h0).trans ((if_neg h1).trans (if_pos h2))

/-- Order 4 of R33: a symbol error alone. -/
theorem k288Decode_corrected {cw k : Nat} (h0 : syndrome (toBytes 36 cw) ≠ [0, 0, 0, 0])
    (h1 : syndrome (toBytes 36 cw) ≠ [0, 57, 15, 149])
    (h2 : singleError (List.zipWith Nat.xor (syndrome (toBytes 36 cw)) [0, 57, 15, 149]) = none)
    (h3 : singleError (syndrome (toBytes 36 cw)) = some k) :
    k288Decode cw = .corrected (ofBytes (((toBytes 36 cw).set k
      (Nat.xor ((toBytes 36 cw).getD k 0) ((syndrome (toBytes 36 cw)).getD 0 0))).take 32)) := by
  rw [← syndrome_poisonWord] at h1 h2
  have h2' : ¬ (singleError (List.zipWith Nat.xor (syndrome (toBytes 36 cw)) (syndrome poisonWord))).isSome = true := by
    rw [h2]
    exact Bool.false_ne_true
  refine (if_neg h0).trans ((if_neg h1).trans ((if_neg h2').trans ?_))
  rw [h3]

/-! ### The statements -/

/-- Settles O57: the syndrome of a codeword is 0, and that of a poisoned one is the poison pattern's. -/
theorem granulesDecodeToWhatWasEncoded : Obligations.GranulesDecodeToWhatWasEncoded := by
  intro g hg
  rw [k288Decode_good (syndrome_k288Encode_false g), k288Decode_poison (syndrome_k288Encode_true g), k288Encode_mod,
    k288Encode_mod, Nat.mod_eq_of_lt hg]
  exact ⟨rfl, rfl⟩

/-- Settles O58: without the poison pattern's syndrome, that of the symbol error is left, so order 3 of R33 applies (R34). -/
theorem poisonIsNeverDelivered : Obligations.PoisonIsNeverDelivered := by
  intro g k e hg hk h1 he
  have hs : syndrome (toBytes 36 (Nat.xor (k288Encode g true) (e * 2 ^ (8 * k)))) =
      List.zipWith Nat.xor [0, 57, 15, 149] (singleSyndrome k e) := by
    rw [pow_256, Nat.xor_eq, syndrome_symbol_error _ hk he, syndrome_k288Encode_true]
  have hx : List.zipWith Nat.xor (List.zipWith Nat.xor [0, 57, 15, 149] (singleSyndrome k e)) [0, 57, 15, 149] =
      singleSyndrome k e := by
    rw [zipWith_poison_singleSyndrome he, singleSyndrome_eq he]
    simp [Nat.xor_comm _ (gfX^[_] e)]
  have h0 : (List.zipWith Nat.xor [0, 57, 15, 149] (singleSyndrome k e)).getD 0 0 ≠ 0 := by
    rw [zipWith_poison_singleSyndrome he]
    exact Nat.one_le_iff_ne_zero.1 h1
  rw [← hs] at h0
  refine k288Decode_uncorrectable (ne_zero_cons h0) (ne_zero_cons h0) ?_
  rw [hs, hx, singleError_singleSyndrome hk h1 he]
  rfl

/-- Settles O59: the symbol error's own syndrome is left, which finds it, and it is never one of order 3 of R33. -/
theorem oneSymbolErrorIsCorrected : Obligations.OneSymbolErrorIsCorrected := by
  intro g k e hg hk h1 he
  have hs : syndrome (toBytes 36 (Nat.xor (k288Encode g false) (e * 2 ^ (8 * k)))) = singleSyndrome k e := by
    rw [pow_256, Nat.xor_eq, syndrome_symbol_error _ hk he, syndrome_k288Encode_false, singleSyndrome_eq he]
    simp
  have hx : List.zipWith Nat.xor (singleSyndrome k e) [0, 57, 15, 149] =
      List.zipWith Nat.xor [0, 57, 15, 149] (singleSyndrome k e) := List.zipWith_comm_of_comm Nat.xor_comm
  have he0 : (syndrome (toBytes 36 (Nat.xor (k288Encode g false) (e * 2 ^ (8 * k))))).getD 0 0 = e := by
    rw [hs, singleSyndrome_eq he]
    rfl
  have h0 := he0.trans_ne (Nat.one_le_iff_ne_zero.1 h1)
  rw [k288Decode_corrected (k := k) (ne_zero_cons h0) (ne_zero_cons h0), he0, toBytes_xor_symbol _ _ _ _ he, pow_256, Nat.xor_eq,
    Nat.xor_xor_cancel_right, toBytes_k288Encode_false, List.take_left' (toBytes_length 32 g), ofBytes_toBytes, Nat.mod_eq_of_lt]
  · exact hg.trans_eq (pow_256 32)
  · rw [hs, hx, singleError_singleSyndrome_poison hk h1 he]
  · rw [hs, singleError_singleSyndrome hk h1 he]

end Sys2Proof.Machine
end

section
/-! HBM (R36, R450): a granule read after a write, and the canonical form of the memory. -/

namespace Sys2Proof.Machine
open Sys2Proof

theorem State.hbmAt_setHbm (s : State) (a b : Nat) (x : Gran) : (s.setHbm a x).hbmAt b =
    if s.vager.classifier.dead.contains (b / 128) then { poison := true } else if b = a then x else s.hbmAt b := by
  by_cases hd : s.vager.classifier.dead.contains (b / 128) = true
  · exact (if_pos hd).trans (if_pos hd).symm
  · rw [if_neg hd]
    refine (if_neg hd).trans ?_
    by_cases h : b = a
    · rw [if_pos h, h]
      exact Tbl.get_set_same _ _ _ _
    · rw [if_neg h]
      exact (Tbl.get_set_ne _ _ x h).trans (if_neg hd).symm

theorem State.setHbm_frame (s : State) (a : Nat) (x : Gran) :
    (s.setHbm a x).vager = { s.vager with hbm := (s.setHbm a x).vager.hbm } ∧
      (s.setHbm a x).dies = s.dies ∧ (s.setHbm a x).out = s.out :=
  ⟨rfl, s.setVager_dies _, s.setVager_out _⟩

theorem Memory.wf_setHbm {s : State} (a : Nat) (x : Gran) (h : Memory.wf s = true) : Memory.wf (s.setHbm a x) = true :=
  Tbl.wf_set (fun _ => ({ poison := true } : Gran)) s.vager.hbm a x h

/-- Settles O48: a table's reads after a write and its canonical form; at reset the table is empty (log entry 144). -/
theorem hbmGranulesAreReadAsWritten : Obligations.HbmGranulesAreReadAsWritten :=
  ⟨State.hbmAt_setHbm, State.setHbm_frame, fun _ => Memory.wf_setHbm, rfl⟩

end Sys2Proof.Machine
end

section
/-! The cut up to its absorption (R346 to R357): each command's meaning, an equation per case. -/

namespace Sys2Proof.Machine
open Sys2Proof

variable {s : State}

/-! ### Arming (R349, R350) -/

theorem execCutArmWrite_accepted {w : Writer} {a : Nat} (hw : mayReach w true .fleet = true) (h : s.armCode a = 0) :
    execCutArmWrite w a s = .next ((s.startCut a).answer stOk) :=
  congrArg Host.Outcome.next ((s.writeBy_allowed w _ _ _ hw).trans (if_neg (not_not.2 h)))

theorem execCutArmWrite_refused {w : Writer} {a : Nat} (hw : mayReach w true .fleet = true) (h : s.armCode a ≠ 0) :
    execCutArmWrite w a s = .next ((s.wr .vager O.CUT_REFUSE_5880 (s.armCode a)).answer stRefused) :=
  congrArg Host.Outcome.next ((s.writeBy_allowed w _ _ _ hw).trans (if_pos h))

/-! ### A Staris (R351 to R354) -/

theorem execCutArmCommand_armed {v : State} {d : Die} {h : Nat} (hs : s.rd (.staris d) O.STAY_STATE_5800 < 2)
    (hv : v = (((s.wr (.staris d) O.ARM_CUT_5800 (bits h 191 160)).wr (.staris d) O.ARM_STEP_5800 (bits h 159 128)).wr (.staris d)
      O.ARM_EPOCH_5800 (bits h 127 96)).wr (.staris d) O.STAY_STATE_5800 1) (hn : v.slotsNeeded d ≤ bits h 95 80) :
    execCutArmCommand d h s = .next (v.emit (.cutArmed d.val (bits h 159 128))) := by
  subst hv
  exact (if_neg (Nat.not_le.2 hs)).trans (if_neg (Nat.not_lt.2 hn))

theorem execCutReady_absorbs {u : State} {d : Die} {step : Nat} (hs : s.rd (.staris d) O.STAY_STATE_5800 = 1)
    (hu : u = s.wr (.staris d) O.LAST_READY_5800 (s.ns (.staris d))) (h : step % 2 ^ 32 = u.rd (.staris d) O.ARM_STEP_5800) :
    execCutReady d step s = .next (((u.setStd d { u.std d with
      tReady := u.ns (.staris d) }).wr (.staris d) O.STAY_STATE_5800 2).dmaSettle (.staris d) 2) := by
  subst hu
  exact (if_pos hs).trans (if_neg (not_not.2 h))

theorem execCutReady_mismatch {u : State} {d : Die} {step : Nat} (hs : s.rd (.staris d) O.STAY_STATE_5800 = 1)
    (hu : u = s.wr (.staris d) O.LAST_READY_5800 (s.ns (.staris d))) (h : step % 2 ^ 32 ≠ u.rd (.staris d) O.ARM_STEP_5800) :
    execCutReady d step s = .next (u.stopCut d 2) := by
  subst hu
  exact (if_pos hs).trans (if_pos h)

theorem execReadyTimeout_armed {d : Die} (hs : s.rd (.staris d) O.STAY_STATE_5800 = 1) :
    execReadyTimeout d s = .next (s.stopCut d 1) := if_pos hs

theorem execAbsorptionComplete_sends {d : Die} (l : List (List (Nat × Bool))) (hs : s.rd (.staris d) O.STAY_STATE_5800 = 2)
    (hd : s.dmaState (.staris d) 2 = 3) :
    execAbsorptionComplete d l s = .next (((((List.range (s.slotOrder d).length).zip (s.slotOrder d)).foldl
      (fun s e => s.sendChunk d e.2.1 e.2.2 (l.getD e.1 [])) s).endCut d (s.slotOrder d).length 0).shroudResume d) :=
  if_pos ⟨hs, hd⟩

/-! ### Vager's absorption (R355 to R357) -/

theorem execStayChunkRx_lands {p : Die} {h : Nat} (b : Bool) (l : List (Nat × Bool)) (hs : s.cutState = 1 ∨ s.cutState = 2)
    (hcut : bits h 191 160 = armCut s.arm) (hdie : bitAt (armMask s.arm) p.val = true)
    (hchunk : bits h 127 104 < s.regChunks p (bits h 79 74))
    (hslot : s.regFirst p (bits h 79 74) + bits h 127 104 < s.rd .vager O.CHUNK_SLOTS_5880) :
    execStayChunkRx p h b l s = .next (s.landChunk p h b l) := by
  have hok : ¬(bits h 191 160 ≠ armCut s.arm ∨ bitAt (armMask s.arm) p.val = false ∨
      s.regChunks p (bits h 79 74) ≤ bits h 127 104 ∨
      s.rd .vager O.CHUNK_SLOTS_5880 ≤ s.regFirst p (bits h 79 74) + bits h 127 104) := by
    simp [hcut, hdie, hchunk, hslot]
  exact (if_pos hs).trans (if_neg hok)

theorem execStayChunkRx_otherCut {p : Die} {h : Nat} (b : Bool) (l : List (Nat × Bool)) (hs : s.cutState = 1 ∨ s.cutState = 2)
    (hcut : bits h 191 160 ≠ armCut s.arm) : execStayChunkRx p h b l s = .next (s.discardCut 7) :=
  (if_pos hs).trans (if_pos (Or.inl hcut))

theorem execChunkDigestDone_taken {u : State} {n : Nat} {er : List (Nat × HbmError)} (hs : s.cutState = 2)
    (hn : (Tbl.find s.stay.chunks n).isSome = true) (hd : (s.chunk n).digest = none)
    (hu : u = s.readSlot n 0 (er.filter fun e => decide (e.1 < (s.chunk n).len)))
    (hp : ((u.slotData n (s.chunk n).len).any fun g => g.poison) = false) :
    execChunkDigestDone n er s = .next ((u.setChunk n { s.chunk n with
      digest := some (granulesDigest ((u.slotData n (s.chunk n).len).map fun g => g.data)) }).checkAbsorbed) := by
  subst hu
  exact (if_pos ⟨hs, hn, hd⟩).trans (if_neg (Bool.eq_false_iff.1 hp))

theorem execStayEndRx_recorded {p : Die} {g : Nat} (hs : s.cutState = 1 ∨ s.cutState = 2)
    (hcut : bits g 191 160 = armCut s.arm) (hdie : bitAt (armMask s.arm) p.val = true) (h : bits g 71 64 = 0) :
    execStayEndRx p g s = .next ((s.setStay { s.stay with
      ends := Tbl.insert s.stay.ends p.val (s.extend (bits g 159 128), s.extend (bits g 127 96)) }).checkAbsorbed) :=
  (if_pos ⟨hs, hcut, hdie⟩).trans (if_neg (not_not.2 h))

theorem execStayEndRx_discards {p : Die} {g : Nat} (hs : s.cutState = 1 ∨ s.cutState = 2)
    (hcut : bits g 191 160 = armCut s.arm) (hdie : bitAt (armMask s.arm) p.val = true) (h : bits g 71 64 ≠ 0) :
    execStayEndRx p g s = .next (s.discardCut (bits g 71 64)) :=
  (if_pos ⟨hs, hcut, hdie⟩).trans (if_pos h)

/-! ### Fleet writes (R25, R346, R357, R384) -/

theorem execCutAbandon_abandons {w : Writer} (hw : mayReach w true .fleet = true) (h1 : 1 ≤ s.cutState) (h5 : s.cutState ≤ 5) :
    execCutAbandon w s = .next ((s.abandonCut 10).answer stOk) :=
  congrArg Host.Outcome.next ((s.writeBy_allowed w _ _ _ hw).trans (if_pos ⟨h1, h5⟩))

theorem execStayBytesWrite_set {w : Writer} {n : Nat} (hw : mayReach w true .fleet = true) (halign : n % 4096 = 0)
    (hmax : n ≤ 512000000000) (htrace : n + s.rd .vager O.TRACE_REGION_BYTES_3580 ≤ 572000000000) (hcut : s.cutIdle = true)
    (hrst : s.rstState = 0)
    (hreg : ((List.range 16).any fun r => s.rd .vager (O.HREG_ENABLE_7448 r) == 1 &&
      (decide (s.rd .vager (O.HREG_BASE_7448 r) < 576000000000 - n) ||
        decide (576000000000 < s.rd .vager (O.HREG_BASE_7448 r) + s.rd .vager (O.HREG_BYTES_7448 r)))) = false) :
    execStayBytesWrite w n s =
      .next (((s.wr .vager O.STAY_BYTES_5880 n).wr .vager O.CHUNK_SLOTS_5880 (n / 67108864)).answer stOk) := by
  refine congrArg Host.Outcome.next ((s.writeBy_allowed w _ _ _ hw).trans (if_neg ?_))
  rw [hreg]
  simp [halign, hmax, htrace, hcut, hrst]

/-- Settles O23: each clause is one case of its command. -/
theorem cutAbsorptionCommandsComplete : Obligations.CutAbsorptionCommandsComplete := by
  refine ⟨fun s w a hw => ⟨fun h => ?_, fun h => ?_⟩, fun s v d h hs hv hn => ?_, fun s d => exec_cutCancelCommand d s,
    fun s u d step hs hu => ⟨fun h => ?_, fun h => ?_⟩, fun s d hs => ?_, fun s d l hs hd => ?_, ?_,
    fun s u n er hs hn hd hu hp => ?_, fun s p g hs hcut hdie => ⟨fun h => ?_, fun h => ?_⟩, fun s w hw h1 h5 => ?_,
    fun s w n hw halign hmax htrace hcut hrst hreg => ?_⟩
  · rw [exec_cutArmWrite, execCutArmWrite_accepted hw h]
  · rw [exec_cutArmWrite, execCutArmWrite_refused hw h]
  · rw [exec_cutArmCommand, execCutArmCommand_armed hs hv hn]
  · rw [exec_cutReady, execCutReady_absorbs hs hu h]
  · rw [exec_cutReady, execCutReady_mismatch hs hu h]
  · rw [exec_readyTimeout, execReadyTimeout_armed hs]
  · rw [exec_absorptionComplete, execAbsorptionComplete_sends l hs hd]
  · rintro s p h _ _ b l rfl rfl hs
    rw [exec_stayChunkRx]
    exact ⟨execStayChunkRx_lands b l hs, execStayChunkRx_otherCut b l hs⟩
  · rw [exec_chunkDigestDone, execChunkDigestDone_taken hs hn hd hu hp]
  · rw [exec_stayEndRx, execStayEndRx_recorded hs hcut hdie h]
  · rw [exec_stayEndRx, execStayEndRx_discards hs hcut hdie h]
  · rw [exec_cutAbandon, execCutAbandon_abandons hw h1 h5]
  · rw [exec_stayBytesWrite, execStayBytesWrite_set hw halign hmax htrace hcut hrst hreg]

end Sys2Proof.Machine
end

section
/-! The time islands (R40, R44): what an object reads as beside a write of another index, and what a tick does to each part. -/

namespace Sys2Proof.Machine
open Sys2Proof

section
variable (s : State)

/-! ### Objects and islands -/

theorem State.rd_wr_ne {p q : Part} {k j : Nat} (v : Nat) (h : j ≠ k) : (s.wr p k v).rd q j = s.rd q j :=
  (s.rd_wr p q k j v).trans (if_neg fun e => h e.2)

/-- A write of an object of another index leaves an object as it was. -/
theorem State.rd_wr_index {p q : Part} {k j : Nat} (v : Nat) (h : j / 256 ≠ k / 256) : (s.wr p k v).rd q j = s.rd q j :=
  s.rd_wr_ne v fun e => h (congrArg (· / 256) e)

theorem State.rd_bump_index {p q : Part} {k j : Nat} (w n : Nat) (h : j / 256 ≠ k / 256) : (s.bump p k w n).rd q j = s.rd q j :=
  s.rd_wr_index _ h

theorem State.rd_bump (p q : Part) (k j w n : Nat) :
    (s.bump p k w n).rd q j = if q = p ∧ j = k then (s.rd p k + n) % 2 ^ w else s.rd q j := s.rd_wr p q k j _

@[simp] theorem State.rd_setVt (t : VTime) (p : Part) (k : Nat) : (s.setVt t).rd p k = s.rd p k := by cases p <;> rfl

/-- An object that both branches of a test leave alike. -/
theorem State.rd_ite {c : Prop} [Decidable c] {a b : State} {p : Part} {k v : Nat} (ha : a.rd p k = v) (hb : b.rd p k = v) :
    (if c then a else b).rd p k = v := by split <;> assumption

end

/-! ### A tick (R40, R44) -/

/-- A Staris after one tick of its time island (R40); one in FAULT stays (R599). -/
def Staris.ticked (x : Staris) : Staris :=
  if Tbl.get starisDefault x.obj O.TIME_STATE_2002 = 5 then x
  else { x with
    time := { x.time with
      counter := (x.time.counter + x.time.inc) % 2 ^ 64
      wraps := if 2 ^ 64 ≤ x.time.counter + x.time.inc then x.time.wraps + 1 else x.time.wraps }
    ticks := x.ticks + 1 }

theorem Staris.ticked_fault {x : Staris} (h : Tbl.get starisDefault x.obj O.TIME_STATE_2002 = 5) : x.ticked = x := if_pos h

theorem Staris.ticked_counter {x : Staris} (h : Tbl.get starisDefault x.obj O.TIME_STATE_2002 ≠ 5) :
    x.ticked.time.counter = (x.time.counter + x.time.inc) % 2 ^ 64 := congrArg (fun y : Staris => y.time.counter) (if_neg h)

theorem State.setDie_die_self (s : State) (d : Die) : s.setDie d (s.die d) = s :=
  congrArg (fun v => { s with dies := v }) (Vector.set_getElem_self d.isLt)

/-- A die's tick is one write of the die. -/
theorem State.tickStaris_eq (s : State) (d : Die) : s.tickStaris d = s.setDie d (s.die d).ticked := by
  by_cases h : s.tstate (.staris d) = 5
  · rw [Staris.ticked_fault h, State.setDie_die_self]
    exact if_pos h
  · exact (if_neg h).trans (congrArg (s.setDie d) (if_neg h).symm)

theorem State.tickStaris_die_same (s : State) (d : Die) : (s.tickStaris d).die d = (s.die d).ticked := by
  rw [State.tickStaris_eq, State.setDie_die_same]

theorem State.tickStaris_die_ne (s : State) {d e : Die} (h : e ≠ d) : (s.tickStaris d).die e = s.die e := by
  rw [State.tickStaris_eq, State.setDie_die_ne _ _ h]

theorem State.tickStaris_vager (s : State) (d : Die) : (s.tickStaris d).vager = s.vager := by
  rw [State.tickStaris_eq, State.setDie_vager]

theorem State.foldl_tickStaris_vager (l : List Die) (s : State) : (l.foldl State.tickStaris s).vager = s.vager := by
  induction l generalizing s with
  | nil => rfl
  | cons d l ih => rw [List.foldl_cons, ih, State.tickStaris_vager]

/-- Each die of a list without repetition ticks once. -/
theorem State.foldl_tickStaris_die (l : List Die) (hl : l.Nodup) (s : State) (e : Die) :
    (l.foldl State.tickStaris s).die e = if e ∈ l then (s.die e).ticked else s.die e := by
  induction l generalizing s with
  | nil => rfl
  | cons d l ih =>
    obtain ⟨hd, hl⟩ := List.nodup_cons.1 hl
    rw [List.foldl_cons, ih hl]
    by_cases he : e = d
    · subst he
      rw [if_neg hd, if_pos List.mem_cons_self, State.tickStaris_die_same]
    · rw [State.tickStaris_die_ne s he]
      simp only [List.mem_cons, he, false_or]

theorem State.tickVager_die (s : State) (d : Die) : s.tickVager.die d = s.die d := by
  unfold State.tickVager
  dsimp only
  split
  · rfl
  · split <;> rfl

theorem State.tickVager_fault {s : State} (h : s.tstate .vager = 5) : s.tickVager = s := if_pos h

theorem State.tickVager_counter {s : State} (h : s.tstate .vager ≠ 5) :
    s.tickVager.vager.time.counter = (s.vager.time.counter + s.vager.time.inc) % 2 ^ 64 := by
  unfold State.tickVager
  rw [if_neg h]
  dsimp only
  split <;> rfl

theorem State.tick_vager (s : State) : s.tick.vager = s.tickVager.vager := State.foldl_tickStaris_vager allDies s.tickVager

theorem State.tick_die (s : State) (d : Die) : s.tick.die d = (s.die d).ticked := by
  unfold State.tick allDies
  rw [State.foldl_tickStaris_die _ (List.nodup_finRange 16), if_pos (List.mem_finRange d), State.tickVager_die]

/-- Settles O2: a tick of Vager, then one of each die; a die's tick touches no other part. -/
theorem emptyQueueTicks : Obligations.EmptyQueueTicks := by
  intro s h
  refine ⟨s.tick, step_nil h, pending_of_step_nil h (step_nil h), fun hv => ?_, fun hv => ?_, fun d => ?_⟩
  · rw [State.tick_vager, State.tickVager_counter hv]
  · rw [State.tick_vager, State.tickVager_fault hv]
  · rw [State.tick_die]
    split
    next hd => exact Staris.ticked_fault hd
    next hd => exact Staris.ticked_counter hd

end Sys2Proof.Machine
end

section
/-! The transmit timestamp queue (R64 to R66): what an event message, a pop and a clear do and leave. -/

namespace Sys2Proof.Machine
open Sys2Proof

section
variable (s : State)

/-! ### The objects that show the queue -/

/-- Beside the fill level, the queue shows its head entry. -/
theorem State.rd_showTsq {k : Nat} (p : Part) (hseq : k ≠ O.TSQ_HEAD_SEQ_2105) (htype : k ≠ O.TSQ_HEAD_TYPE_2105)
    (htime : k ≠ O.TSQ_HEAD_TIME_2105) (hdomain : k ≠ O.TSQ_HEAD_DOMAIN_2105) :
    s.showTsq.rd p k = (s.wr .vager O.TSQ_FILL_2105 s.vager.time.tsq.length).rd p k :=
  (State.rd_wr_ne _ _ hdomain).trans ((State.rd_wr_ne _ _ htime).trans ((State.rd_wr_ne _ _ htype).trans
    (State.rd_wr_ne _ _ hseq)))

theorem State.rd_showTsq_fill : s.showTsq.rd .vager O.TSQ_FILL_2105 = s.vager.time.tsq.length :=
  (s.rd_showTsq _ (by decide) (by decide) (by decide) (by decide)).trans (s.rd_wr_same ..)

theorem State.rd_showTsq_overflow : s.showTsq.rd .vager O.TSQ_OVERFLOW_2105 = s.rd .vager O.TSQ_OVERFLOW_2105 :=
  (s.rd_showTsq _ (by decide) (by decide) (by decide) (by decide)).trans (s.rd_wr_ne _ (by decide))

theorem State.rd_showTsq_index {k : Nat} (p : Part) (h : k / 256 ≠ 0x2105) : s.showTsq.rd p k = s.rd p k := by
  have hk : ∀ j, j / 256 = 0x2105 → k ≠ j := fun j hj e => h (e ▸ hj)
  exact (s.rd_showTsq p (hk _ rfl) (hk _ rfl) (hk _ rfl) (hk _ rfl)).trans (s.rd_wr_ne _ (hk _ rfl))

/-! ### What is kept for the answer to a request (R47) -/

/-- A Delay_Req or Pdelay_Req that has left is kept for its answer, with what is known of its timestamp. -/
def State.keepAsked (type : Nat) (asked : Option (Nat × Int)) : State :=
  s.setVt { s.vager.time with ptp :=
    if type = 1 ∨ type = 2 then { s.vager.time.ptp with asked := asked, answered := none } else s.vager.time.ptp }

variable (type : Nat) (asked : Option (Nat × Int))

theorem State.keepAsked_eq : s.keepAsked type asked = if type = 1 ∨ type = 2 then
    s.setVt { s.vager.time with ptp := { s.vager.time.ptp with asked := asked, answered := none } } else s := by
  unfold State.keepAsked
  split <;> rfl

theorem State.keepAsked_event (h : type = 0) : s.keepAsked type asked = s := by subst h; rfl

@[simp] theorem State.rd_keepAsked (p : Part) (k : Nat) : (s.keepAsked type asked).rd p k = s.rd p k := s.rd_setVt _ p k
@[simp] theorem State.keepAsked_out : (s.keepAsked type asked).out = s.out := rfl

/-! ### Who runs the port, and the extended time -/

variable {s}

theorem State.ownStack_congr {t : State} (ht : t.vager.time.stackOwner = s.vager.time.stackOwner)
    (hr : t.rd .vager O.CN_STATE_7848 = s.rd .vager O.CN_STATE_7848) : t.ownStack = s.ownStack := by
  unfold State.ownStack
  rw [ht, hr]

theorem State.extNow_congr {t : State} (ht : t.vager.time.counter = s.vager.time.counter)
    (hr : t.rd .vager O.WRAP_WORD_2100 = s.rd .vager O.WRAP_WORD_2100) : t.extNow = s.extNow := by
  unfold State.extNow State.ns State.counter
  rw [ht, hr]

/-! ### An event message that is timestamped (R64) -/

/-- The event message's entry behind those of the queue. -/
def State.joined (s : State) (q m n : Nat) : State :=
  (s.setVt { s.vager.time with tsq := s.vager.time.tsq ++
    [{ seqId := q % 2 ^ 16, msgType := m % 16, domain := n % 256, time := s.extNow }] }).showTsq

/-- The message has left, with its entry in the queue. -/
def State.eventSent (s : State) (q m n : Nat) : State :=
  ((s.joined q m n).emit (.ptp (m % 16) (q % 2 ^ 16) none none)).keepAsked (m % 16) (some (q % 2 ^ 16, s.stamp))

section
variable (s) (q m n : Nat)

theorem State.eventSent_tsq : (s.eventSent q m n).vager.time.tsq = s.vager.time.tsq ++
    [{ seqId := q % 2 ^ 16, msgType := m % 16, domain := n % 256, time := s.extNow }] := rfl

theorem State.eventSent_dies : (s.eventSent q m n).dies = s.dies := rfl

theorem State.eventSent_out : (s.eventSent q m n).out = s.out ++ [Out.ptp (m % 16) (q % 2 ^ 16) none none] := rfl

theorem State.rd_eventSent (k : Nat) : (s.eventSent q m n).rd .vager k = (s.joined q m n).rd .vager k :=
  (State.rd_keepAsked ..).trans (State.rd_emit ..)

theorem State.rd_eventSent_fill : (s.eventSent q m n).rd .vager O.TSQ_FILL_2105 = s.vager.time.tsq.length + 1 :=
  (s.rd_eventSent q m n _).trans ((State.rd_showTsq_fill _).trans List.length_append)

theorem State.rd_eventSent_overflow :
    (s.eventSent q m n).rd .vager O.TSQ_OVERFLOW_2105 = s.rd .vager O.TSQ_OVERFLOW_2105 :=
  (s.rd_eventSent q m n _).trans (State.rd_showTsq_overflow _)

theorem State.rd_eventSent_index {k : Nat} (h : k / 256 ≠ 0x2105) : (s.eventSent q m n).rd .vager k = s.rd .vager k :=
  (s.rd_eventSent q m n _).trans (State.rd_showTsq_index _ _ h)

theorem State.eventSent_ownStack : (s.eventSent q m n).ownStack = s.ownStack :=
  State.ownStack_congr rfl (s.rd_eventSent_index q m n (by decide))

theorem State.eventSent_extNow : (s.eventSent q m n).extNow = s.extNow :=
  State.extNow_congr rfl (s.rd_eventSent_index q m n (by decide))

end

/-! ### The commands -/

/-- An event message leaves in `u`, with or without its timestamp; the stack of Crow's Nest follows up a Sync or a
Pdelay_Resp that has one (R66; log entry 182). -/
theorem execPtpEventTx_leaves (q m n : Nat) {u v : State} {asked : Option (Nat × Int)} (hv : s.queueStamp q m n = v)
    (ha : (if decide (s.vager.time.tsq.length < 64) then some (q % 2 ^ 16, s.stamp) else none) = asked)
    (hu : u = (v.emit (.ptp (m % 16) (q % 2 ^ 16) none none)).keepAsked (m % 16) asked) : execPtpEventTx q m n s =
      .next (if (m % 16 = 0 ∨ m % 16 = 3) ∧ decide (s.vager.time.tsq.length < 64) = true ∧ u.ownStack = true then
        u.emit (.ptp (8 + m % 16 / 3 * 2) (q % 2 ^ 16) none (some u.extNow)) else u) := by
  rw [State.keepAsked_eq] at hu
  subst hv ha hu
  exact (apply_ite Host.Outcome.next _ _ _).symm

theorem execPtpEventTx_full (q m n : Nat) (h : 64 ≤ s.vager.time.tsq.length) : execPtpEventTx q m n s =
    .next (((s.bump .vager O.TSQ_OVERFLOW_2105 32).emit (.ptp (m % 16) (q % 2 ^ 16) none none)).keepAsked (m % 16) none) := by
  have hs : ¬ decide (s.vager.time.tsq.length < 64) = true := by simpa using h
  exact (execPtpEventTx_leaves q m n (if_neg (Nat.not_lt.2 h)) (if_neg hs) rfl).trans
    (congrArg Host.Outcome.next (if_neg fun hf => hs hf.2.1))

theorem execPtpEventTx_room (q m n : Nat) (h : s.vager.time.tsq.length < 64) : execPtpEventTx q m n s =
    .next (if (m % 16 = 0 ∨ m % 16 = 3) ∧ s.ownStack = true then
      (s.eventSent q m n).emit (.ptp (8 + m % 16 / 3 * 2) (q % 2 ^ 16) none (some s.extNow)) else s.eventSent q m n) := by
  have hs : decide (s.vager.time.tsq.length < 64) = true := decide_eq_true h
  have hleaves := execPtpEventTx_leaves q m n (u := s.eventSent q m n) (if_pos h) (if_pos hs) rfl
  simpa only [hs, true_and, State.eventSent_ownStack, State.eventSent_extNow] using hleaves

theorem execTsqPop_allowed {w : Writer} (hw : mayReach w false .host = true) : execTsqPop w s =
    .next ((s.setVt { s.vager.time with tsq := s.vager.time.tsq.tail }).showTsq.answer stOk) :=
  congrArg Host.Outcome.next (s.writeBy_allowed w _ _ _ hw)

theorem execTsqOverflowClear_allowed {w : Writer} (hw : mayReach w false .host = true) :
    execTsqOverflowClear w s = .next ((s.wr .vager O.TSQ_OVERFLOW_2105 0).answer stOk) :=
  congrArg Host.Outcome.next (s.writeBy_allowed w _ _ _ hw)

end

/-- Settles O51: a full queue only counts, and the clear is one write. -/
theorem timestampQueueHoldsSixtyFourEntries : Obligations.TimestampQueueHoldsSixtyFourEntries := by
  refine ⟨fun s q m n h => ⟨_, (exec_ptpEventTx ..).trans (execPtpEventTx_full q m n h.ge), rfl, rfl, ?_, fun p k => ?_⟩,
    fun s w hw => ⟨_, (exec_tsqOverflowClear ..).trans (execTsqOverflowClear_allowed hw), rfl, rfl, rfl, fun p k => ?_⟩⟩
  · rw [State.keepAsked_out, State.emit_out, State.bump_out]
  · exact (State.rd_keepAsked ..).trans ((State.rd_emit ..).trans (State.rd_bump ..))
  · exact (State.rd_answer ..).trans (State.rd_wr ..)

/-- Settles O52: the entry joins the end, the follow-up of log entry 182 leaves behind the message, and a pop takes the head. -/
theorem timestampsQueueInTransmitOrder : Obligations.TimestampsQueueInTransmitOrder := by
  refine ⟨fun s q m n h => ⟨_, (exec_ptpEventTx ..).trans (execPtpEventTx_room q m n h), ?_⟩,
    fun s w hw => ⟨_, (exec_tsqPop ..).trans (execTsqPop_allowed hw), rfl, ?_, rfl, rfl⟩⟩
  · split
    · exact ⟨s.eventSent_tsq q m n, (State.rd_emit ..).trans (s.rd_eventSent_fill q m n), s.eventSent_dies q m n,
        (congrArg (· ++ _) (s.eventSent_out q m n)).trans (List.append_assoc ..),
        (State.rd_emit ..).trans (s.rd_eventSent_overflow q m n)⟩
    · exact ⟨s.eventSent_tsq q m n, s.rd_eventSent_fill q m n, s.eventSent_dies q m n, s.eventSent_out q m n,
        s.rd_eventSent_overflow q m n⟩
  · exact (State.rd_answer ..).trans ((State.rd_showTsq_fill _).trans List.length_tail)

end Sys2Proof.Machine
end

section
/-! The objects of 1PPS in (0x2104) through what Vager's servo does (R51, R53, R60, R68, R602). -/

namespace Sys2Proof.Machine
open Sys2Proof

theorem foldl_rd {α : Type} {p : Part} {k : Nat} (f : State → α → State) (h : ∀ s a, (f s a).rd p k = s.rd p k)
    (l : List α) (s : State) : (l.foldl f s).rd p k = s.rd p k := by
  induction l generalizing s with
  | nil => rfl
  | cons a l ih => rw [List.foldl_cons, ih, h]

section
variable {k : Nat} (hk : k / 256 = 0x2104) (s : State)

@[simp] theorem State.rd_closeSessions (p : Part) (j : Nat) (f : Session → Bool) : (s.closeSessions f).rd p j = s.rd p j := by
  unfold State.closeSessions
  refine (foldl_rd _ (fun t x => t.rd_emit _ p j) _ _).trans ?_
  cases p <;> rfl

@[simp] theorem State.rd_checkSessions (p : Part) (j : Nat) : s.checkSessions.rd p j = s.rd p j := by
  have e : ∀ (t : State) (x : List Session), (t.setVager { t.vager with sessions := x }).rd p j = t.rd p j := by
    intro t x
    cases p <;> rfl
  exact (e _ _).trans (s.rd_closeSessions p j _)

include hk

/-- A write of an object of another index than 0x2104. -/
theorem State.rd_wr_ne_2104 {j : Nat} (v : Nat) (hj : j / 256 ≠ 0x2104) : (s.wr .vager j v).rd .vager k = s.rd .vager k :=
  s.rd_wr_index v (by rw [hk]; exact hj.symm)

theorem State.rd_pushRecord_2104 (r : Record) : (s.pushRecord r).rd .vager k = s.rd .vager k :=
  State.rd_ite rfl (State.rd_wr_ne_2104 hk _ _ (by decide))

theorem State.rd_recordV_2104 (code value detail severity : Nat) :
    (s.recordV code value detail severity).rd .vager k = s.rd .vager k :=
  (State.rd_pushRecord_2104 hk _ _).trans (State.rd_ite (State.rd_pushRecord_2104 hk _ _) rfl)

theorem State.rd_goVager_2104 (new cause : Nat) : (s.goVager new cause).rd .vager k = s.rd .vager k := by
  have hstate : ∀ t : State, (t.wr .vager O.TIME_STATE_2101 new).rd .vager k = t.rd .vager k :=
    fun t => State.rd_wr_ne_2104 hk t _ (by decide)
  have hsince : ∀ (t : State) v, (t.wr .vager O.HOLDOVER_SINCE_2101 v).rd .vager k = t.rd .vager k :=
    fun t v => State.rd_wr_ne_2104 hk t v (by decide)
  refine State.rd_ite rfl (State.rd_ite ((State.rd_checkSessions ..).trans ?_) ?_)
  all_goals exact (State.rd_recordV_2104 hk ..).trans (State.rd_ite ((hsince ..).trans (hstate _)) (hstate _))

theorem State.rd_sourceQualifies_2104 : s.sourceQualifies.rd .vager k = s.rd .vager k :=
  State.rd_ite (State.rd_goVager_2104 hk s 1 0) rfl

theorem State.rd_sendDown_2104 (p : Die) : (s.sendDown p).rd .vager k = s.rd .vager k := by
  have hinc : O.PORT_INC_SENT_2110 p.val / 256 ≠ 0x2104 := by unfold O.PORT_INC_SENT_2110; omega
  refine State.rd_ite ?_ rfl
  dsimp only
  split
  · exact State.rd_wr_ne_2104 hk s _ hinc
  · rfl

theorem State.rd_vagerStep_2104 (delta : Int) : (s.vagerStep delta).rd .vager k = s.rd .vager k := by
  unfold State.vagerStep
  dsimp only
  rw [foldl_rd]
  · rw [State.bump, State.rd_wr_ne_2104 hk _ _ (by decide), State.rd_setVt, State.setExt, State.rd_wr_ne_2104 hk _ _ (by decide),
      State.rd_setVt]
  · exact fun t p => State.rd_sendDown_2104 hk _ p

theorem State.rd_servo_2104 (offset : Int) : (s.servo offset).rd .vager k = s.rd .vager k := by
  have hoffset : ∀ (t : State) v, (t.wr .vager O.OFFSET_FROM_MASTER_2101 v).rd .vager k = t.rd .vager k :=
    fun t v => State.rd_wr_ne_2104 hk t v (by decide)
  exact State.rd_ite (State.rd_vagerStep_2104 hk s _) (State.rd_ite (State.rd_ite
    ((State.rd_goVager_2104 hk ..).trans (hoffset ..)) (hoffset ..)) rfl)

theorem State.rd_servoFrom_2104 (offset now : Int) : (s.servoFrom offset now).rd .vager k = s.rd .vager k :=
  State.rd_ite ((State.rd_wr_ne_2104 hk _ _ (by decide)).trans (State.rd_servo_2104 hk s offset))
    (State.rd_servo_2104 hk s offset)

end

/-! ### A 1PPS edge -/

/-- Every edge is timestamped and counted, before any source uses it (R68). -/
def State.ppsStamped (s : State) : State :=
  (s.wr .vager O.PPS_IN_EDGE_2104 s.extNow).bump .vager O.PPS_IN_COUNT_2104 32

/-- The command completes, and the objects of 0x2104 but the count of rejected edges are as the stamp left them. -/
def KeepsStamp (s : State) (r : Result) : Prop := ∃ t, r = .next t ∧
  ∀ k, k / 256 = 0x2104 → k ≠ O.PPS_IN_REJECTED_2104 → t.rd .vager k = s.ppsStamped.rd .vager k

theorem ite_keepsStamp {c : Prop} [Decidable c] {s : State} {a b : Result} (ha : KeepsStamp s a) (hb : KeepsStamp s b) :
    KeepsStamp s (if c then a else b) := by split <;> assumption

/-- An edge is rejected and counted, or used: neither touches another object of 0x2104. -/
theorem keepsStamp_of_judged {c : Prop} [Decidable c] {s u v : State}
    (hu : ∀ k, k / 256 = 0x2104 → u.rd .vager k = s.ppsStamped.rd .vager k)
    (hv : ∀ k, k / 256 = 0x2104 → v.rd .vager k = u.rd .vager k) :
    KeepsStamp s (if c then .next (u.bump .vager O.PPS_IN_REJECTED_2104 32) else .next v) := by
  split
  · exact ⟨_, rfl, fun k hk hr => (u.rd_wr_key _ hr).trans (hu k hk)⟩
  · exact ⟨_, rfl, fun k hk _ => (hv k hk).trans (hu k hk)⟩

theorem execPpsInEdge_keepsStamp (s : State) : KeepsStamp s (execPpsInEdge s) := by
  unfold execPpsInEdge
  refine ite_keepsStamp ?_ (ite_keepsStamp ?_ ⟨_, rfl, fun _ _ _ => rfl⟩)
  · dsimp only
    split
    · exact ⟨_, rfl, fun _ _ _ => rfl⟩
    · exact keepsStamp_of_judged (fun k hk => State.rd_ite (State.rd_sourceQualifies_2104 hk _) rfl)
        fun k hk => State.rd_servoFrom_2104 hk _ _ _
  · exact keepsStamp_of_judged (fun k hk => State.rd_sourceQualifies_2104 hk _) fun k hk => State.rd_servo_2104 hk _ _

/-- Settles O53: the stamp comes first, and nothing after it writes the two objects. -/
theorem everyPpsEdgeIsTimestamped : Obligations.EveryPpsEdgeIsTimestamped := by
  intro s
  obtain ⟨t, ht, hk⟩ := execPpsInEdge_keepsStamp s
  refine ⟨t, (exec_ppsInEdge s).trans ht, ?_, ?_⟩
  · rw [hk _ (by decide) (by decide), State.ppsStamped, State.rd_bump, if_neg (by decide), State.rd_wr_same]
  · rw [hk _ (by decide) (by decide), State.ppsStamped, State.rd_bump_same, State.rd_wr_key _ _ (by decide)]

end Sys2Proof.Machine
end

section
/-! The time comparators of a Staris (R69, R73, R599): what firing writes, and that its internal event leaves it. -/

namespace Sys2Proof.Machine
open Sys2Proof

section
variable (s : State)

theorem State.rd_setDie {d : Die} {x : Staris} (h : x.obj = (s.die d).obj) (p : Part) (k : Nat) :
    (s.setDie d x).rd p k = s.rd p k := by
  cases p with
  | vager => rfl
  | staris e =>
    have ho : ((s.setDie d x).die e).obj = (s.die e).obj := by
      by_cases he : e = d
      · subst he
        rw [State.setDie_die_same, h]
      · rw [s.setDie_die_ne x he]
    exact congrArg (fun t => Tbl.get starisDefault t k) ho

@[simp] theorem State.rd_setSt (d : Die) (t : STime) (p : Part) (k : Nat) : (s.setSt d t).rd p k = s.rd p k :=
  s.rd_setDie (by rfl) p k

@[simp] theorem State.rd_setCap (d : Die) (c : Capture) (p : Part) (k : Nat) : (s.setCap d c).rd p k = s.rd p k :=
  s.rd_setDie (by rfl) p k

@[simp] theorem State.rd_setTr (d : Die) (t : Trace) (p : Part) (k : Nat) : (s.setTr d t).rd p k = s.rd p k :=
  s.rd_setDie (by rfl) p k

/-! ### Internal events -/

/-- A trigger writes objects of the staging queue (0x3440) and of the trigger unit (0x3460) alone (R140, R141, R144). -/
theorem State.rd_trigger {k : Nat} (hq : k / 256 ≠ 0x3440) (ht : k / 256 ≠ 0x3460) (d : Die) (cause detail : Nat) (p : Part) :
    (s.trigger d cause detail).rd p k = s.rd p k := by
  have peak : ∀ (t : State) v, (t.wr (.staris d) O.STAGE_PEAK_3440 v).rd p k = t.rd p k := fun t v => t.rd_wr_index v hq
  have unit : ∀ (t : State) j v, j / 256 = 0x3460 → (t.wr (.staris d) j v).rd p k = t.rd p k :=
    fun t j v hj => t.rd_wr_index v (by rw [hj]; exact ht)
  have taken : ∀ (t : State) v, (((t.wr (.staris d) O.TRIG_TIME_3460 v).setArmed d false).setTrigBit d 1 true).rd p k =
      t.rd p k := fun t v => (unit _ _ _ rfl).trans ((unit _ _ _ rfl).trans ((unit _ _ _ rfl).trans (unit _ _ _ rfl)))
  refine State.rd_ite ((taken _ _).trans ((peak _ _).trans (s.rd_setTr ..))) (State.rd_ite ?_ (unit _ _ _ rfl))
  exact (unit _ _ _ rfl).trans ((unit _ _ _ rfl).trans (unit _ _ _ rfl))

theorem State.rd_internalEvent {k : Nat} (hq : k / 256 ≠ 0x3440) (ht : k / 256 ≠ 0x3460) (d : Die) (src : Nat) (p : Part) :
    (s.internalEvent d src).rd p k = s.rd p k := by
  have hw : ((s.countEdge d src true none).edgeForWaits d src).rd p k = s.rd p k :=
    (State.rd_setCap ..).trans (State.rd_setCap ..)
  exact State.rd_ite ((State.rd_trigger _ hq ht ..).trans hw) hw

/-! ### Firing -/

/-- STATUS after comparator `n` fires (R69): bit 1 is set, bit 0 shows whether it stays armed. -/
def State.firedStatus (d : Die) (n : Nat) (late : Bool) : Nat :=
  let p := Part.staris d
  let old := s.rd p (O.CMP_STATUS_2010 n)
  let action := s.rd p (O.CMP_ACTION_2010 n)
  let lost := decide (2 < action ∨ action = 1) && decide (32 ≤ (s.st d).fifo.length)
  fld 5 3 (s.tstate p) + fld 4 1 (ofBool (bitAt old 4)) + fld 3 1 (ofBool (lost || bitAt old 3))
    + fld 2 1 (ofBool (late || bitAt old 2)) + 2 + ofBool (decide (s.rd p (O.CMP_PERIOD_2010 n) ≠ 0))

/-- The objects of comparator `n` after it fires (R69), before its action acts. -/
def State.firedObjects (d : Die) (n : Nat) (late : Bool) : State :=
  let p := Part.staris d
  let period := s.rd p (O.CMP_PERIOD_2010 n)
  let armed := decide (period ≠ 0)
  let t := ((s.wr p (O.CMP_FIRE_TIME_2010 n) (s.st d).counter).wr p (O.CMP_STATUS_2010 n) (s.firedStatus d n late)).wr p
    (O.CMP_ARM_2010 n) (ofBool armed)
  if armed then t.wr p (O.CMP_TARGET_2010 n) ((t.rd p (O.CMP_TARGET_2010 n) + period) % 2 ^ 32) else t

/-- What the action and the internal event of a firing write lies outside the comparators' objects (R73, R140). -/
theorem State.rd_fireCmp {n j : Nat} (d : Die) (late : Bool) (hn : n < 32) (hj : j < 8) (p : Part) :
    (s.fireCmp d n late).rd p (0x201000 + j + 256 * n) = (s.firedObjects d n late).rd p (0x201000 + j + 256 * n) := by
  have hlost : (0x201000 + j + 256 * n) / 256 ≠ O.ACTIONS_LOST_2002 / 256 := by unfold O.ACTIONS_LOST_2002; omega
  exact (State.rd_internalEvent _ (by omega) (by omega) ..).trans (State.rd_ite (State.rd_bump_index _ _ _ hlost)
    (State.rd_ite rfl (State.rd_ite (State.rd_emit ..) (State.rd_setSt ..))))

theorem four_dvd_fld {lo : Nat} (h : 2 ≤ lo) (w v : Nat) : 4 ∣ fld lo w v := (Nat.pow_dvd_pow 2 h).mul_left _

theorem bitAt_one_of_four_dvd {x r : Nat} (hx : 4 ∣ x) (hr : r < 2) : bitAt (x + 2 + r) 1 = true := by
  obtain ⟨y, rfl⟩ := hx
  exact beq_iff_eq.2 (by omega)

theorem State.firedStatus_bit_one (d : Die) (n : Nat) (late : Bool) : bitAt (s.firedStatus d n late) 1 = true :=
  bitAt_one_of_four_dvd (((four_dvd_fld (by decide) ..).add (four_dvd_fld (by decide) ..)).add
    (four_dvd_fld (by decide) ..) |>.add (four_dvd_fld (by decide) ..)) (Bool.toNat_lt _)

theorem State.rd_firedObjects (d : Die) (n : Nat) (late : Bool) :
    (s.firedObjects d n late).rd (.staris d) (O.CMP_FIRE_TIME_2010 n) = (s.st d).counter ∧
    (s.firedObjects d n late).rd (.staris d) (O.CMP_STATUS_2010 n) = s.firedStatus d n late ∧
    (s.firedObjects d n late).rd (.staris d) (O.CMP_ARM_2010 n) =
      ofBool (decide (s.rd (.staris d) (O.CMP_PERIOD_2010 n) ≠ 0)) ∧
    (s.firedObjects d n late).rd (.staris d) (O.CMP_TARGET_2010 n) =
      if s.rd (.staris d) (O.CMP_PERIOD_2010 n) = 0 then s.rd (.staris d) (O.CMP_TARGET_2010 n)
      else (s.rd (.staris d) (O.CMP_TARGET_2010 n) + s.rd (.staris d) (O.CMP_PERIOD_2010 n)) % 2 ^ 32 := by
  unfold State.firedObjects
  dsimp only
  by_cases hp : s.rd (.staris d) (O.CMP_PERIOD_2010 n) = 0 <;> simp [hp, State.rd_wr]

/-- A comparator that is armed and judged has its target reached (R69, R599). -/
theorem State.cmpDue_iff (d : Die) (n ns : Nat) : s.cmpDue d n ns = true ↔ s.rd (.staris d) (O.CMP_ARM_2010 n) = 1 ∧
    s.tstate (.staris d) ≠ 5 ∧ subMod 32 ns (s.rd (.staris d) (O.CMP_TARGET_2010 n)) < 2 ^ 31 := by
  simp [State.cmpDue, reached, and_assoc]

end

theorem execComparatorFire_due {s : State} {d : Die} {n : Fin 32} (h : s.cmpDue d n.val (s.ns (.staris d)) = true) :
    execComparatorFire d n s = .next (s.fireCmp d n.val false) := if_pos h

theorem execComparatorFire_early {s : State} {d : Die} {n : Fin 32} (h : ¬ s.cmpDue d n.val (s.ns (.staris d)) = true) :
    execComparatorFire d n s = .next s := if_neg h

/-- Settles O54: the test is `State.cmpDue`, and what firing shows is `State.rd_firedObjects`. -/
theorem comparatorFiresAtItsTarget : Obligations.ComparatorFiresAtItsTarget := by
  intro s d n
  rw [← State.cmpDue_iff]
  refine ⟨fun h => ⟨_, (exec_comparatorFire ..).trans (execComparatorFire_due h), ?_⟩,
    fun h => (exec_comparatorFire ..).trans (execComparatorFire_early h)⟩
  obtain ⟨htime, hstatus, harm, htarget⟩ := s.rd_firedObjects d n.val false
  have harm := (s.rd_fireCmp (j := 5) d false n.isLt (by decide) _).trans harm
  have htarget := (s.rd_fireCmp (j := 1) d false n.isLt (by decide) _).trans htarget
  refine ⟨(s.rd_fireCmp (j := 7) d false n.isLt (by decide) _).trans htime, ?_,
    fun hp => ⟨harm.trans (congrArg ofBool (decide_eq_false (not_not.2 hp))), htarget.trans (if_pos hp)⟩,
    fun hp => ⟨harm.trans (congrArg ofBool (decide_eq_true hp)), htarget.trans (if_neg hp)⟩⟩
  exact (congrArg (bitAt · 1) ((s.rd_fireCmp (j := 6) d false n.isLt (by decide) _).trans hstatus)).trans
    (s.firedStatus_bit_one d n.val false)

end Sys2Proof.Machine
end

section
/-! Time at a Staris (R39, R41, R43, R69, R70, R603): each command's meaning, an equation per case. -/

namespace Sys2Proof.Machine
open Sys2Proof

section
variable {s : State} {d : Die} {w : Writer}

theorem execCounterWrap_staris (h : 2 ^ 64 ≤ (s.die d).time.counter + (s.die d).time.inc) :
    execCounterWrap (.staris d) s = .next (s.tickStaris d) := if_pos (decide_eq_true h)

theorem execIncrementWrite_set {v : Nat} (hw : mayReach w true .fleet = true) (hs : s.tstate (.staris d) = 4)
    (hv : incOk (v % 2 ^ 40) = true) : execIncrementWrite d w v s = .next ((s.setInc d (v % 2 ^ 40)).answer stOk) :=
  congrArg Host.Outcome.next ((s.writeBy_allowed w _ _ _ hw).trans ((if_neg (not_not.2 hs)).trans (if_pos hv)))

theorem execModeWrite_manual (hw : mayReach w true .fleet = true)
    (hs : (s.wr (.staris d) O.MODE_2001 1).tstate (.staris d) = 0) :
    execModeWrite d w 1 s = .next (((s.wr (.staris d) O.MODE_2001 1).goStaris d 4).answer stOk) :=
  congrArg Host.Outcome.next ((s.writeBy_allowed w _ _ _ hw).trans
    ((if_neg (by decide)).trans (congrArg (State.answer · stOk) (if_pos ⟨rfl, hs⟩))))

theorem execStepWrite_manual {v : Nat} (hw : mayReach w true .fleet = true) (hs : s.tstate (.staris d) = 4) :
    execStepWrite d w v s = .next ((s.stepStaris d (toSigned 32 v)).answer stOk) :=
  congrArg Host.Outcome.next ((s.writeBy_allowed w _ _ _ hw).trans (if_pos hs))

/-- R603: a Staris that holds no increment keeps the one it has in HOLDOVER. -/
theorem State.starisHoldover_noIncs {u : State} (hs : s.tstate (.staris d) = 1 ∨ s.tstate (.staris d) = 2)
    (hu : u = (s.goStaris d 3).bump (.staris d) O.HOLDOVER_ENTRIES_2002 32) (hi : (u.st d).incs = []) :
    s.starisHoldover d = u := by
  subst hu
  exact (if_pos hs).trans (if_pos (List.isEmpty_iff.2 hi))

theorem execCmpArm_armed {n : Fin 32} (hw : mayReach w (cmpSecure n.val) (cmpRole n.val) = true)
    (h : s.armRefused d n.val = false) : execCmpArm d n w s = .next
      (((s.wr (.staris d) (O.CMP_ARM_2010 n.val) 1).wr (.staris d) (O.CMP_STATUS_2010 n.val) 1).answer stOk) := by
  have ha : ¬ s.armRefused d n.val = true := Bool.eq_false_iff.1 h
  refine congrArg Host.Outcome.next ((s.writeBy_allowed w _ _ _ hw).trans ?_)
  rw [State.armCmp, if_neg ha, if_neg ha]

theorem execCmpDisarm_allowed {n : Fin 32} (hw : mayReach w (cmpSecure n.val) (cmpRole n.val) = true) :
    execCmpDisarm d n w s = .next ((s.disarmCmp d n.val).answer stOk) :=
  congrArg Host.Outcome.next (s.writeBy_allowed w _ _ _ hw)

end

/-- Settles O3: each clause is one case of its command; a tick that carries is the wrap (log entry 7). -/
theorem lanyardStarisCommandsComplete : Obligations.LanyardStarisCommandsComplete :=
  ⟨fun _ _ h => (exec_counterWrap ..).trans (execCounterWrap_staris h),
    fun _ _ _ _ hw hs hv => (exec_incrementWrite ..).trans (execIncrementWrite_set hw hs hv),
    fun _ _ _ hw hs => (exec_modeWrite ..).trans (execModeWrite_manual hw hs),
    fun _ _ _ _ hw hs => (exec_stepWrite ..).trans (execStepWrite_manual hw hs),
    fun _ _ hs ht hi =>
      (exec_starisHoldoverTimeout ..).trans (congrArg Host.Outcome.next (State.starisHoldover_noIncs hs rfl (ht ▸ hi))),
    fun _ _ _ _ hw h => (exec_cmpArm ..).trans (execCmpArm_armed hw h),
    fun _ _ _ _ hw => (exec_cmpDisarm ..).trans (execCmpDisarm_allowed hw),
    fun _ _ _ h => (exec_comparatorFire ..).trans (execComparatorFire_due h)⟩

end Sys2Proof.Machine
end

section
/-! Time at Vager (R44, R47 to R53, R64 to R68, R599): each command's meaning, an equation per case. -/

namespace Sys2Proof.Machine
open Sys2Proof

section
variable {s : State}

/-! ### PTP (R47 to R52) -/

theorem execCounterWrap_vager (h : 2 ^ 64 ≤ s.vager.time.counter + s.vager.time.inc) :
    execCounterWrap .vager s = .next s.tickVager := if_pos (decide_eq_true h)

theorem execPtpMessageRx_delayReq {h : PtpHeader} (hd : h.domain = s.rd .vager O.DOMAIN_2102)
    (ht : h.transport = s.rd .vager O.TRANSPORT_2102) (ho : s.ownStack = true) (hp : s.rd .vager O.PROFILE_2102 = 0)
    (hm : s.vager.time.port = .master) : execPtpMessageRx (.delayReq h) s =
      .next (s.emit (.ptp 9 h.seqId (some h.identity) (some s.extNow))) := by
  unfold execPtpMessageRx
  simp [hd, ht, ho, hp, hm]

theorem execPtpMessageRx_syncTwoStep {u : State} {h : PtpHeader} {g : PtpDataset} (origin : Nat) (c : Int)
    (hd : h.domain = s.rd .vager O.DOMAIN_2102) (ht : h.transport = s.rd .vager O.TRANSPORT_2102) (ho : s.ownStack = true)
    (hg : s.vager.time.gm = some g) (hi : g.identity = h.identity)
    (hu : u = s.setVt { s.vager.time with syncLog := some h.log, syncAt := s.vager.ticks }) :
    execPtpMessageRx (.sync h true origin c) s = .next (u.setVt { u.vager.time with
      ptp := { s.vager.time.ptp with sync := some (h.seqId, s.stamp, c) } }) := by
  subst hu
  unfold execPtpMessageRx
  simp [hd, ht, ho, hg, hi]

theorem execAnnounceTimeout_slaveOnly (h : s.announceLate = true) (hs : s.rd .vager O.SLAVE_ONLY_2102 = 1) :
    execAnnounceTimeout s = .next ((s.setVt { s.vager.time with
      gm := none, annCount := 0, annLog := none, syncLog := none, ptp := {}, port := .listening }).sourceLost 1) := by
  have hl : s.rd .vager O.SLAVE_ONLY_2102 ≠ 0 := by rw [hs]; decide
  rw [execAnnounceTimeout, if_pos h, State.loseGm, if_neg hl]

theorem execSyncTimeout_syncLate (h : s.syncLate = true) (ha : s.announceLate = false) :
    execSyncTimeout s = .next ((s.setVt { s.vager.time with annCount := 0 }).sourceLost 2) :=
  (if_pos h).trans (if_neg (Bool.eq_false_iff.1 ha))

/-! ### Event messages of the own stack (R47, R66; log entry 182) -/

theorem execPtpEventTx_sync {u : State} {q m n : Nat} (hm : m % 16 = 0) (h : s.vager.time.tsq.length < 64)
    (hu : u = (s.setVt { s.vager.time with tsq := s.vager.time.tsq ++
      [{ seqId := q % 2 ^ 16, msgType := 0, domain := n % 256, time := s.extNow }] }).showTsq.emit
        (.ptp 0 (q % 2 ^ 16) none none))
    (ho : u.ownStack = true) :
    execPtpEventTx q m n s = .next (u.emit (.ptp 8 (q % 2 ^ 16) none (some u.extNow))) := by
  have hv : u = s.eventSent q m n := by
    rw [State.eventSent, State.keepAsked_event _ _ _ hm, hu, State.joined, hm]
  subst hv
  have hs : s.ownStack = true := (s.eventSent_ownStack q m n).symm.trans ho
  rw [execPtpEventTx_room q m n h, if_pos ⟨Or.inl hm, hs⟩, hm, State.eventSent_extNow]

theorem execPtpEventTx_syncDropped {q m n : Nat} (hm : m % 16 = 0) (h : 64 ≤ s.vager.time.tsq.length) :
    execPtpEventTx q m n s = .next ((s.bump .vager O.TSQ_OVERFLOW_2105 32).emit (.ptp 0 (q % 2 ^ 16) none none)) := by
  rw [execPtpEventTx_full q m n h, State.keepAsked_event _ _ _ hm, hm]

/-! ### Source, seconds and 1PPS (R51, R53, R67, R68) -/

theorem execSourceWrite_freeRun {w : Writer} (hw : mayReach w true .fleet = true) (h : s.tstate .vager ≠ 5) :
    execSourceWrite w 3 s = .next (((s.wr .vager O.SOURCE_2101 3).goVager 4 0).answer stOk) :=
  congrArg Host.Outcome.next ((s.writeBy_allowed w _ _ _ hw).trans ((if_neg (by decide)).trans
    (congrArg (State.answer · stOk) ((if_neg h).trans (if_pos rfl)))))

theorem execSecondsSetWrite_scheduled {w : Writer} (n : Nat) (hw : mayReach w true .fleet = true)
    (h : s.secondsAllowed = true) : execSecondsSetWrite w n s = .next ((s.setVt { s.vager.time with
      secondsStep := some (n % 2 ^ 64, (s.extNow / 10 ^ 9 + 1) * 10 ^ 9) }).answer stOk) :=
  congrArg Host.Outcome.next ((s.writeBy_allowed w _ _ _ hw).trans (if_pos h))

theorem execSecondsSetStep_taken {u : State} {n whole : Nat} (h : s.vager.time.secondsStep = some (n, whole))
    (hn : whole ≤ s.extNow) (hu : u = s.setVt { s.vager.time with secondsStep := none }) (ha : u.secondsAllowed = true) :
    execSecondsSetStep s = .next (u.vagerStep ((n * 10 ^ 9 : Nat) - (whole : Int))) := by
  subst hu
  unfold execSecondsSetStep
  rw [h]
  exact (if_neg (Nat.not_lt.2 hn)).trans (if_pos ha)

theorem execPpsInEdge_unused (h : s.rd .vager O.SOURCE_2101 = 0 ∨ s.rd .vager O.SOURCE_2101 = 3) :
    execPpsInEdge s = .next s.ppsStamped := by
  have h1 : s.rd .vager O.SOURCE_2101 ≠ 1 := by omega
  have h2 : s.rd .vager O.SOURCE_2101 ≠ 2 := by omega
  exact (if_neg h1).trans (if_neg h2)

theorem execPpsOutEdge_atSecond {k : Nat} (he : s.rd .vager O.PPS_OUT_ENABLE_2104 = 1)
    (hw : s.rd .vager O.PPS_OUT_WHEN_2104 = 0) (hs : s.tstate .vager = 2 ∨ s.tstate .vager = 3)
    (hk : (s.extNow : Int) - toSigned 32 (s.rd .vager O.PPS_OUT_OFFSET_2104) = (k : Int) * 10 ^ 9)
    (hl : s.vager.time.ppsLast ≠ some k) : execPpsOutEdge s =
      .next ((s.setVt { s.vager.time with ppsLast := some k }).emit (.pps s.extNow (s.rd .vager O.PPS_OUT_WIDTH_2104))) := by
  have hsecond : ((k : Int) * 10 ^ 9 / 10 ^ 9).toNat = k :=
    congrArg Int.toNat (Int.mul_ediv_cancel _ (by decide))
  have hpast : ((k : Int) * 10 ^ 9 % 10 ^ 9).toNat = 0 := congrArg Int.toNat (Int.mul_emod_left ..)
  have hd : (s.tstate .vager == 2 || s.tstate .vager == 3) = true :=
    Bool.or_eq_true_iff.2 (hs.imp beq_iff_eq.2 beq_iff_eq.2)
  unfold execPpsOutEdge
  dsimp only
  rw [hk, hsecond, hpast, if_pos hw]
  exact if_pos ⟨he, hd, Nat.two_pos, hl⟩

/-! ### The time-island PLL (R599) -/

theorem execPllLossOfLock_staris {d : Die} (h : s.tstate (.staris d) ≠ 5) : execPllLossOfLock (.staris d) s =
    .next ((((s.faultDisarm d).wr (.staris d) O.STREAM_START_ARM_3060 0).setCap d
      { ((s.faultDisarm d).wr (.staris d) O.STREAM_START_ARM_3060 0).cap d with started := none }).goStaris d 5) := if_neg h

theorem execPllRelock_staris {u : State} {d : Die} (h : s.tstate (.staris d) = 5)
    (hu : u = ((s.setSt d { s.st d with counter := 0, wraps := 0, incs := [] }).setInc d incNominal).goStaris d 0)
    (hm : u.rd (.staris d) O.MODE_2001 = 0) : execPllRelock (.staris d) s = .next u := by
  subst hu
  have hm1 : (((s.setSt d { s.st d with counter := 0, wraps := 0, incs := [] }).setInc d incNominal).goStaris d 0).rd
      (.staris d) O.MODE_2001 ≠ 1 := by rw [hm]; decide
  unfold execPllRelock
  rw [if_pos h]
  exact if_neg hm1

end

/-- Settles O4: each clause is one case of its command; the wrap is log entry 7, the answers and the listening
port are log entry 182. -/
theorem lanyardVagerCommandsComplete : Obligations.LanyardVagerCommandsComplete :=
  ⟨fun _ h => (exec_counterWrap ..).trans (execCounterWrap_vager h),
    fun _ _ hd ht ho hp hm => (exec_ptpMessageRx ..).trans (execPtpMessageRx_delayReq hd ht ho hp hm),
    fun _ _ _ _ origin c hd ht ho hg hi hu =>
      (exec_ptpMessageRx ..).trans (execPtpMessageRx_syncTwoStep origin c hd ht ho hg hi hu),
    fun _ h hs => (exec_announceTimeout ..).trans (execAnnounceTimeout_slaveOnly h hs),
    fun _ h ha => (exec_syncTimeout ..).trans (execSyncTimeout_syncLate h ha),
    fun _ _ _ _ _ hm h hu ho => (exec_ptpEventTx ..).trans (execPtpEventTx_sync hm h hu ho),
    fun _ _ _ _ hm h => (exec_ptpEventTx ..).trans (execPtpEventTx_syncDropped hm h),
    fun _ _ hw => ⟨(exec_tsqPop ..).trans (execTsqPop_allowed hw),
      (exec_tsqOverflowClear ..).trans (execTsqOverflowClear_allowed hw)⟩,
    fun _ _ hw h => (exec_sourceWrite ..).trans (execSourceWrite_freeRun hw h),
    fun _ _ n hw h => (exec_secondsSetWrite ..).trans (execSecondsSetWrite_scheduled n hw h),
    fun _ _ _ _ h hn hu ha => (exec_secondsSetStep ..).trans (execSecondsSetStep_taken h hn hu ha),
    fun _ h => (exec_ppsInEdge ..).trans (execPpsInEdge_unused h),
    fun _ _ he hw hs hk hl => (exec_ppsOutEdge ..).trans (execPpsOutEdge_atSecond he hw hs hk hl),
    fun s => exec_pllLossOfLock .vager s,
    fun _ _ h => (exec_pllLossOfLock ..).trans (execPllLossOfLock_staris h),
    fun _ _ _ h hu hm => (exec_pllRelock ..).trans (execPllRelock_staris h hu hm)⟩

end Sys2Proof.Machine
end

section
/-! Time words (R55 to R58, R302, R603): each command's meaning, an equation per case. -/

namespace Sys2Proof.Machine
open Sys2Proof

section
variable {s : State} {d : Die} {word : Nat}

theorem execDownWordRx_discarded {poison : Bool} (h : bits word 7 0 ≠ 1 ∨ poison = true) :
    execDownWordRx d word poison s = .next (s.bump (.staris d) O.TW_DISCARDED_2002 32) :=
  if_pos (h.imp_right Or.inl)

theorem execDownWordRx_accepted {v : State} {l : Nat} (htype : bits word 7 0 = 1) (hl : (s.st d).lastSeq = some l)
    (hlo : 1 ≤ subMod 16 (bits word 31 16) l) (hhi : subMod 16 (bits word 31 16) l ≤ 32767)
    (hv : v = ((s.setSt d { s.st d with lastSeq := some (bits word 31 16) }).bump (.staris d) O.TW_ACCEPTED_2002 32).wr
      (.staris d) O.UPSTREAM_HOLDOVER_2002 (ofBool (bitAt word 10))) :
    execDownWordRx d word false s = .next ((((v.downTransition d (bitAt word 11)).downStep d (bitAt word 9)
      (toSigned 32 (bits word 127 96))).downInc d (bitAt word 8) (bits word 87 48)).sendUp d (s.counter (.staris d))
        (bits word 31 16)) := by
  subst hv
  unfold execDownWordRx
  rw [hl]
  simp only [htype, hlo, hhi, decide_true, Bool.and_self, ne_eq, not_true_eq_false, Bool.false_eq_true, Bool.true_eq_false,
    or_self, if_false]

theorem execUpWordRx_unanswered {p : Die} (htype : bits word 7 0 = 2) (h : (s.pt p).sent = []) :
    execUpWordRx p word false s = .next (s.wr .vager (O.PORT_STARIS_STATE_2110 p.val) (bits word 15 12)) := by
  have hpt : ((s.wr .vager (O.PORT_STARIS_STATE_2110 p.val) (bits word 15 12)).pt p).sent = [] := h
  have htaken : ¬ (bits word 7 0 ≠ 2 ∨ false = true) := by simp [htype]
  unfold execUpWordRx
  rw [if_neg htaken]
  simp only [hpt, List.find?_nil]

theorem execUpWordRx_exchange {u v : State} {p : Die} {y : SentWord} (htype : bits word 7 0 = 2) (hstate : bits word 15 12 ≠ 5)
    (hu : u = s.wr .vager (O.PORT_STARIS_STATE_2110 p.val) (bits word 15 12))
    (hy : (u.pt p).sent.find? (fun x => x.seq == bits word 47 32) = some y) (hvoid : y.void = false)
    (hv : v = u.setPt p { u.pt p with sent := (u.pt p).sent.erase y }) :
    execUpWordRx p word false s = .next (v.portExchange p
      (exchangeOffset y.tx (bits word 191 128) (bits word 255 192) (v.counter .vager)
        (toSigned 32 (v.rd .vager (O.PORT_ASYMMETRY_2110 p.val))))
      (exchangeDelay y.tx (bits word 191 128) (bits word 255 192) (v.counter .vager))) := by
  subst hu hv
  have htaken : ¬ (bits word 7 0 ≠ 2 ∨ false = true) := by simp [htype]
  unfold execUpWordRx
  rw [if_neg htaken]
  simp only [hy, hstate, hvoid, Bool.false_eq_true, or_self, if_false]

end

/-- Settles O5: each clause is one case of its command. -/
theorem timeWordsComplete : Obligations.TimeWordsComplete :=
  ⟨exec_twExchangePeriod,
    fun _ _ _ _ h => (exec_downWordRx ..).trans (execDownWordRx_discarded h),
    fun _ _ _ _ _ htype hl hlo hhi hv => (exec_downWordRx ..).trans (execDownWordRx_accepted htype hl hlo hhi hv),
    fun _ _ _ htype h => (exec_upWordRx ..).trans (execUpWordRx_unanswered htype h),
    fun _ _ _ _ _ _ htype hstate hu hy hvoid hv =>
      (exec_upWordRx ..).trans (execUpWordRx_exchange htype hstate hu hy hvoid hv)⟩

end Sys2Proof.Machine
end

section
/-! The Cleat sequencers' waits, actions and control (R100, R110 to R114): each command's meaning, an equation per case. -/

namespace Sys2Proof.Machine
open Sys2Proof

section
variable {s : State} {d : Die} {q : Fin 8} {x : Seq} {w : Nat}

/-- A RUNNING sequencer at an instruction of opcode `op` executes it (R111). -/
theorem State.runSeq_at {q op : Nat} (h : cleatAt s d q op x w) (f : Seq → Nat → State → State) :
    s.runSeq d q op f = f x w s := by
  obtain ⟨hx, hrun, hw, hop⟩ := h
  rw [State.runSeq, ← hx, ← hw]
  exact if_pos ⟨hrun, hop⟩

/-! ### Waits (R111, R112) -/

theorem execWtime_begins (h : cleatAt s d q.val 8 x w) :
    execWtime d q s = .next (s.beginWait d q.val x (.time (x.reg (iXa w)))) :=
  congrArg Host.Outcome.next (State.runSeq_at h _)

theorem execWedge_begins (h : cleatAt s d q.val 9 x w) :
    execWedge d q s = .next (s.beginWait d q.val x (.edge (iArg w) (waitLimit x w))) :=
  congrArg Host.Outcome.next (State.runSeq_at h _)

theorem execWcnt_begins (h : cleatAt s d q.val 10 x w) (hc : s.seqMayCount d q.val (iArg w) = true) :
    execWcnt d q s = .next (s.beginWait d q.val x (.count (iArg w) (x.reg (iXa w)) (waitLimit x w))) :=
  congrArg Host.Outcome.next ((State.runSeq_at h _).trans (if_pos hc))

theorem execWsig_begins (h : cleatAt s d q.val 11 x w) :
    execWsig d q s = .next (s.beginWait d q.val x (.signal (waitLimit x w))) :=
  congrArg Host.Outcome.next (State.runSeq_at h _)

theorem execWaitConditionMet_holds (hx : x = s.seqr d q.val) (hw : x.state = .waiting) (h : s.waitHolds d x = true) :
    execWaitConditionMet d q s = .next (s.setSeqr d q.val x.waitDone) := by
  subst hx
  exact if_pos ⟨hw, h⟩

theorem execWaitTimeout_expired (hx : x = s.seqr d q.val) (hw : x.state = .waiting) (he : s.waitExpired d x = true)
    (h : s.waitHolds d x = false) : execWaitTimeout d q s = .next (s.setSeqr d q.val { x with timeout := true }.next) := by
  subst hx
  rw [execWaitTimeout, if_pos ⟨hw, he⟩, if_neg (Bool.eq_false_iff.1 h)]

/-! ### Instructions that act on other units -/

theorem execAct_starts (h : cleatAt s d q.val 0x18 x w) (ha : iImm w % 256 < 8)
    (harg : actionArgOk (iImm w % 256) (iArg w) = true)
    (hsec : seqSecure q.val = true ∨ (iImm w % 256 ≠ 1 ∧ iImm w % 256 ≠ 3)) :
    execAct d q s = .next ((s.setSeqr d q.val x.next).startAction d (iImm w % 256) (iArg w)) := by
  have hok : ¬ (8 ≤ iImm w % 256 ∨ actionArgOk (iImm w % 256) (iArg w) = false) := by simp [harg, ha]
  have hworld : ¬ (seqSecure q.val = false ∧ (iImm w % 256 = 1 ∨ iImm w % 256 = 3)) := by
    rintro ⟨hs, h13⟩
    rcases hsec with h1 | ⟨h1, h3⟩
    · rw [hs] at h1; cases h1
    · exact h13.elim h1 h3
  exact congrArg Host.Outcome.next ((State.runSeq_at h _).trans ((if_neg hok).trans (if_neg hworld)))

theorem execSetcmp_arms (h : cleatAt s d q.val 0x19 x w) (hn : iArg w < 32) (hsec : cmpSecure (iArg w) = seqSecure q.val) :
    execSetcmp d q s = .next ((((s.setSeqr d q.val x.next).disarmCmp d (iArg w)).wr (.staris d) (O.CMP_TARGET_2010 (iArg w))
      (x.reg (iXa w))).armCmp d (iArg w)) :=
  congrArg Host.Outcome.next ((State.runSeq_at h _).trans ((if_neg (Nat.not_le.2 hn)).trans (if_neg (not_not.2 hsec))))

theorem execSample_takes (h : cleatAt s d q.val 0x1A x w)
    (he : ((s.setSeqr d q.val x.next).sstream d (iArg w)).enable = true) :
    execSample d q s = .next ((s.setSeqr d q.val x.next).takeRecord d (iArg w) true) :=
  congrArg Host.Outcome.next ((State.runSeq_at h _).trans (if_pos he))

theorem execEmit_takes (h : cleatAt s d q.val 0x1B x w) (hk : (s.sstream d (iArg w)).kind = 8)
    (he : (s.sstream d (iArg w)).enable = true) :
    execEmit d q s = .next (((s.setSeqr d q.val x.next).setSstream d (iArg w) { s.sstream d (iArg w) with
      emitted := x.reg (iXa w) }).takeRecord d (iArg w) true) :=
  congrArg Host.Outcome.next ((State.runSeq_at h _).trans ((if_neg (not_not.2 hk)).trans (if_pos he)))

theorem execSignal_adds (h : cleatAt s d q.val 0x1C x w) :
    execSignal d q s = .next ((s.setSeqr d q.val x.next).addSignal d (iArg w % 8)) :=
  congrArg Host.Outcome.next (State.runSeq_at h _)

theorem execEvent_records (h : cleatAt s d q.val 0x1D x w) :
    execEvent d q s = .next (((s.setSeqr d q.val x.next).recordS d 0x0030 (x.reg (iXa w)) (iImm w % 2 ^ 16)).internalEvent d
      (0x1200 + q.val)) :=
  congrArg Host.Outcome.next (State.runSeq_at h _)

theorem execCleatSignalAction_taken {t : State} {a : FiredAction} (h : s.takeAction d 7 (some q.val) = some (a, t)) :
    execCleatSignalAction d q s = .next (t.addSignal d q.val) := by
  rw [execCleatSignalAction, h]

/-! ### Control (R113, R114) -/

variable {u : Writer} (hu : mayReach u (seqSecure q.val) (seqRole q.val) = true)
include hu

theorem execCleatProgramWrite_idle {l : List Nat} (hl : l.length ≤ 2048) (hi : (s.seqr d q.val).state = .idle) :
    execCleatProgramWrite d u q l s =
      .next ((s.writeOctets (.staris d) (O.CLEAT_PROGRAM_3090 q.val) 2048 l).answer stOk) := by
  have hbusy : ¬ ((s.seqr d q.val).state = .running ∨ (s.seqr d q.val).state = .waiting) := by rw [hi]; decide
  exact congrArg Host.Outcome.next ((s.writeBy_allowed u _ _ _ hu).trans ((if_neg (Nat.not_lt.2 hl)).trans (if_neg hbusy)))

theorem execCleatStart_idle (hi : (s.seqr d q.val).state = .idle) : execCleatStart d u q s =
    .next ((s.setSeqr d q.val { state := .running, signals := (s.seqr d q.val).signals }).answer stOk) := by
  rw [execCleatStart, s.writeBy_allowed u _ _ _ hu]
  simp only [hi]

theorem execCleatStop_allowed : execCleatStop d u q s = .next ((s.setSeqr d q.val { s.seqr d q.val with
    state := .idle, signals := 0, wait := .none, fault := 0, edgeSeen := false }).answer stOk) :=
  congrArg Host.Outcome.next (s.writeBy_allowed u _ _ _ hu)

end

/-- Settles O10: each clause is one case of its command; a stop clears the fault code too (log entry 25), and a wait for an edge
begins for every SOURCE (log entry 154). -/
theorem cleatWaitsAndActionsComplete : Obligations.CleatWaitsAndActionsComplete :=
  ⟨fun _ _ _ _ _ h => (exec_wtime ..).trans (execWtime_begins h),
    fun _ _ _ _ _ h => (exec_wedge ..).trans (execWedge_begins h),
    fun _ _ _ _ _ h hc => (exec_wcnt ..).trans (execWcnt_begins h hc),
    fun _ _ _ _ _ h => (exec_wsig ..).trans (execWsig_begins h),
    fun _ _ _ _ hx hw h => (exec_waitConditionMet ..).trans (execWaitConditionMet_holds hx hw h),
    fun _ _ _ _ hx hw he h => (exec_waitTimeout ..).trans (execWaitTimeout_expired hx hw he h),
    fun _ _ _ _ _ h ha harg hsec => (exec_act ..).trans (execAct_starts h ha harg hsec),
    fun _ _ _ _ _ h hn hsec => (exec_setcmp ..).trans (execSetcmp_arms h hn hsec),
    fun _ _ _ _ _ h he => (exec_sample ..).trans (execSample_takes h he),
    fun _ _ _ _ _ h hk he => (exec_emit ..).trans (execEmit_takes h hk he),
    fun _ _ _ _ _ h => (exec_signal ..).trans (execSignal_adds h),
    fun _ _ _ _ _ h => (exec_event ..).trans (execEvent_records h),
    fun _ _ _ _ _ h => (exec_cleatSignalAction ..).trans (execCleatSignalAction_taken h),
    fun _ _ _ _ _ hu hl hi => ⟨(exec_cleatProgramWrite ..).trans (execCleatProgramWrite_idle hu hl hi),
      (exec_cleatStart ..).trans (execCleatStart_idle hu hi)⟩,
    fun _ _ _ _ hu => (exec_cleatStop ..).trans (execCleatStop_allowed hu)⟩

end Sys2Proof.Machine
end

section
/-! Staged groups, proxies, mailboxes, the management settings and register writes (R49, R475, R505 to R529): each command's
meaning, an equation per case. -/

namespace Sys2Proof.Machine
open Sys2Proof

section
variable {s : State}

/-! ### Staged groups (R514 to R520) -/

theorem execStageEpochExpiry_expires {n : Nat} {g : SGroup}
    (hg : (s.staging .vager).groups.find? (fun g => g.group == n) = some g) (hk : g.kind = 2) (hf : g.forwarded = false)
    (hlife : g.made + 10 ^ 9 * s.rd .vager O.STAGE_EPOCH_LIFE_1101 ≤ s.extNow) :
    execStageEpochExpiry n s = .next (s.groupLeaves .vager g 5 0 0 s.extNow) := by
  unfold execStageEpochExpiry
  rw [hg]
  exact if_pos ⟨hk, hf, hlife⟩

/-- A held group whose instant is at most 1 s away goes to its Staris, unless its world's writes are withheld (R487, R520). -/
theorem execStagedGroupForward_due {n t : Nat} {g : SGroup} (hg : (s.staging .vager).groups.find?
      (fun g => g.group == n && g.node != 0 && !g.forwarded) = some g) (hi : s.heldInstant g = some t)
    (ht : t ≤ s.extNow + 10 ^ 9) : execStagedGroupForward n s =
      if s.withheld g.w (nodeDie g.node) = true then
        .next ((s.bump .vager O.WITHHELD_WRITES_7480 32 g.entries.length).groupLeaves .vager g 3 0 stWithheld s.extNow)
      else .next ((s.setStaging .vager { s.staging .vager with groups := (s.staging .vager).groups.map fun y =>
        if y.group = n then { y with forwarded := true } else y }).proxySubmit (nodeDie g.node) {
          tid := 0, w := g.w, group := some n,
          req := { version := 1, op := 3, tid := 0, stop := false, resend := false, sound := true, entries :=
            { index := 0x1020, sub := 3, node := 0, len := 16, offset := 0, data := stageWord 3 0 (t % 2 ^ 32) } ::
              g.entries } }) := by
  unfold execStagedGroupForward
  simp only [hg, hi]
  exact if_neg (Nat.not_lt.2 ht)

/-! ### Requests to and from a Staris (R510, R519, R520) -/

theorem execDictReqRx_answers {v : State} {d : Die} {w : Writer} {r : SheetReq} {a : SheetResp}
    (h : s.starisAnswer d w r = (a, v)) :
    execDictReqRx d w r s = .next ((v.sendDict false d 2 (respBytes a)).applyDue (.staris d)) := by
  rw [execDictReqRx, h]

theorem execProxyTimeout_oldest {u : State} {p : Die} {i : ProxyItem} {t : List ProxyItem}
    (ho : (s.proxy p.val).outstanding = i :: t) (hsent : i.sent + 1000 * s.rd .vager O.PROXY_TIMEOUT_1101 ≤ s.extNow)
    (hu : u = (s.setProxy p.val { s.proxy p.val with outstanding := t }).bump .vager (O.PROXY_TIMEOUTS_1030 p.val) 32) :
    execProxyTimeout p s = .next (State.proxyPump 1 (u.proxyFailed i stTimeout) p) := by
  subst hu
  unfold execProxyTimeout
  simp only [ho]
  exact if_pos hsent

/-! ### Mailboxes (R524, R525) -/

variable {a : Aperture} {b : Bool} {n : Nat} {r : SheetReq}

theorem execMbGo_dropped (h : s.apertureOpen a b = false ∨ (s.mailbox a).state = 1) :
    execMbGo a b n r s = .next (s.bump (aperturePart a) O.APERTURE_DROPS_1011 32) := if_pos h

theorem execMbGo_submits (ho : s.apertureOpen a b = true) (hm : (s.mailbox a).state ≠ 1) (hp : aperturePart a = .vager) :
    execMbGo a b n r s = .next ((s.setMailbox a { s.mailbox a with
      state := 1, vector := n % 2 ^ 16, response := none }).vagerRequest (.mailbox a) (apertureWriter a) 0 r) := by
  have hfree : ¬ (s.apertureOpen a b = false ∨ (s.mailbox a).state = 1) := by simp [ho, hm]
  unfold execMbGo
  rw [if_neg hfree]
  simp only [hp]

/-! ### The management settings and registers (R49, R475, R505, R529) -/

theorem execMgmtCommit_allowed {w : Writer} {value : Bool} (hw : mayReach w true .fleet = true) :
    execMgmtCommit w value s = .next ((if value then s.commitNetwork else s).answer stOk) :=
  congrArg Host.Outcome.next (s.writeBy_allowed w _ _ _ hw)

theorem execRegisterWrite_answers {u : State} {p : Part} {w : Writer} {i j st : Nat} {m : Bool} {l : List Nat}
    (h : s.writeObject p w 0 false i j l = ((st, m), u)) : execRegisterWrite p w i j l s = .next (u.answer st) := by
  rw [execRegisterWrite, h]

end

/-- Settles O34: each clause is one case of its command; the port's state after a link change is log entry 125. -/
theorem stagingAndProxyCommandsComplete : Obligations.StagingAndProxyCommandsComplete :=
  ⟨fun s p g => exec_stagedGroupApply p g s,
    fun _ _ _ hg hk hf hlife => (exec_stageEpochExpiry ..).trans (execStageEpochExpiry_expires hg hk hf hlife),
    fun _ _ _ _ _ hg hi ht => ⟨fun hw =>
      (exec_stagedGroupForward ..).trans ((execStagedGroupForward_due hg hi ht).trans (if_pos hw)),
      fun hw hu =>
        hu ▸ (exec_stagedGroupForward ..).trans
          ((execStagedGroupForward_due hg hi ht).trans (if_neg (Bool.eq_false_iff.1 hw)))⟩,
    fun _ _ _ _ _ _ h => (exec_dictReqRx ..).trans (execDictReqRx_answers h),
    fun _ _ _ _ _ ho hsent hu => (exec_proxyTimeout ..).trans (execProxyTimeout_oldest ho hsent hu),
    fun _ _ _ _ _ => ⟨fun h => (exec_mbGo ..).trans (execMbGo_dropped h),
      fun ho hm hp => (exec_mbGo ..).trans (execMbGo_submits ho hm hp)⟩,
    fun s n => exec_mgmtLinkChange n s,
    fun _ _ hw => ⟨(exec_mgmtCommit ..).trans (execMgmtCommit_allowed hw),
      (exec_mgmtCommit ..).trans (execMgmtCommit_allowed hw)⟩,
    fun _ _ _ _ _ _ _ _ _ h => (exec_registerWrite ..).trans (execRegisterWrite_answers h)⟩

end Sys2Proof.Machine
end

section
/-! Events, event counters and snapshots (R77 to R90): each command's meaning, an equation per case. -/

namespace Sys2Proof.Machine
open Sys2Proof

section
variable {s : State} {d : Die} {w : Writer}

/-- A command that is one access-checked write (R475), from a writer that may reach the object, answers what the write makes. -/
theorem next_writeBy {u : State} {secure : Bool} {role : Role} {k : State → State} (hw : mayReach w secure role = true)
    (h : k s = u) : (.next (s.writeBy w secure role k) : Result) = .next u :=
  congrArg Host.Outcome.next ((s.writeBy_allowed w _ _ k hw).trans h)

/-! ### Event inputs (R77, R78, R80, R81) -/

/-- An edge into the active level frees no stuck input (R80); it is taken, or marks the overrun where it merged (R78). -/
theorem execEventEdge_active {u : State} {i : Fin 4096} {h : Bool} (merged : Bool)
    (hu : u = s.setCap d { s.cap d with level := Tbl.set (fun _ => false) (s.cap d).level i.val h })
    (ha : u.inputActive d i.val = true) :
    execEventEdge d i h merged s =
      if merged then .next ((u.setObit (.staris d) O.EVT_OVERRUN_3000 i.val true).markOverrun d i.val)
      else .next (u.inputEdge d i.val true) := by
  subst hu
  unfold execEventEdge
  dsimp only
  rw [if_pos (Or.inl ha), ha]

theorem execPolarityWrite_frees {u : State} {l old kept : List Nat} (hw : mayReach w true .operator = true)
    (hl : l.length ≤ 512) (hu : u = s.writeOctets (.staris d) O.EVT_POLARITY_3000 512 l)
    (ho : old = s.bytesAt (.staris d) O.EVT_STUCK_NOW_3000 0 512)
    (hk : kept = (old.zip ((s.bytesAt (.staris d) O.EVT_POLARITY_3000 0 512).zip
      (u.bytesAt (.staris d) O.EVT_POLARITY_3000 0 512))).map (fun x => Nat.land x.1 (255 - Nat.xor x.2.1 x.2.2))) :
    execPolarityWrite d w l s = .next (((((List.range 4096).filter fun i =>
      bitAt (old.getD (i / 8) 0) (i % 8) && !bitAt (kept.getD (i / 8) 0) (i % 8)).foldl (fun s i => s.markOverrun d i) u).setBytes
        (.staris d) O.EVT_STUCK_NOW_3000 0 kept).answer stOk) := by
  subst hk ho hu
  exact next_writeBy hw (if_neg (Nat.not_lt.2 hl))

/-- An input already seen stuck is marked again and recorded no more (R81). -/
theorem execStaleScan_seen {i : Nat} (hi : i < 4096) (ha : s.inputActive d i = true)
    (hseen : s.obit (.staris d) O.EVT_STUCK_SEEN_3000 i = true) :
    execStaleScan d [i] s = .next (((s.setObit (.staris d) O.EVT_STUCK_NOW_3000 i true).setObit (.staris d)
      O.EVT_STUCK_SEEN_3000 i true).markOverrun d i) := by
  have hheld : [i].filter (fun i => decide (i < 4096) && s.inputActive d i) = [i] := by simp [hi, ha]
  rw [execStaleScan, hheld]
  exact congrArg Host.Outcome.next (if_pos hseen)

theorem execEvtFlagsClear_clears {l : List Nat} (hw : mayReach w true .operator = true) (hl : l.length ≤ 512) :
    execEvtFlagsClear d w l s = .next (((s.clearBits (.staris d) O.EVT_STUCK_SEEN_3000 512 l).clearBits (.staris d)
      O.EVT_OVERRUN_3000 512 l).answer stOk) :=
  next_writeBy hw (if_neg (Nat.not_lt.2 hl))

/-! ### Counters and the bank (R83, R86, R87, R90) -/

/-- A counter that is not global, configured with a job epoch (QKIND 1), takes its word without the reserved bits (R83, R86). -/
theorem execCntConfigWrite_local {n : Fin 65536} {v : Nat} (hw : mayReach w false .host = true) (he : cfgEdge (cfgClean v) ≠ 3)
    (hq : cfgQkind (cfgClean v) = 1) (hsrc : sourceDefined (cfgSource (cfgClean v)) = true)
    (hg : (s.ctr d n.val).global = false) (hg' : cfgGlobal (cfgClean v) = false) (hb : s.bankSpent d 0 (n.val / 1024) = false) :
    execCntConfigWrite d w n v s =
      .next ((s.setCtr d n.val { s.ctr d n.val with cfg := cfgClean v, wasGlobal := false }).answer stOk) := by
  refine next_writeBy hw ?_
  have hdefined : ¬ (cfgEdge (cfgClean v) = 3 ∨ cfgQkind (cfgClean v) = 3 ∨ sourceDefined (cfgSource (cfgClean v)) = false) := by
    simp [he, hq, hsrc]
  have hrange : ¬ (cfgQkind (cfgClean v) = 0 ∧ cfgQualifier (cfgClean v) ≠ 0 ∨
      cfgQkind (cfgClean v) = 2 ∧ 2 ^ 14 ≤ cfgQualifier (cfgClean v)) := by simp [hq]
  dsimp only
  rw [if_neg (by simp [hg, hg']), if_neg (Bool.eq_false_iff.1 hb), if_neg hdefined, if_neg hrange, if_neg (by simp [hg']), hg]

theorem execCntClear_takes {n : Fin 65536} (hw : mayReach w false .host = true)
    (hsec : w.secure = true ∨ (s.ctr d n.val).global = false) : execCntClear d w n s =
      .next ((s.setCtr d n.val { s.ctr d n.val with count := 0, wrapped := false, wasGlobal := false }).answer stOk) := by
  refine next_writeBy hw (if_neg ?_)
  rintro ⟨hns, hg⟩
  simp [hns, hg] at hsec

theorem execFreeze_taken {t : State} {a : FiredAction} (h : s.takeAction d 3 none = some (a, t)) :
    execFreeze d s = .next (t.freezeCounters d a.counter a.state) := by
  rw [execFreeze, h]

theorem execSnapRelease_allowed (hw : mayReach w true .operator = true) :
    execSnapRelease d w s = .next ((s.wr (.staris d) O.SNAP_STATE_3020 0).answer stOk) :=
  next_writeBy hw rfl

end

/-- Settles O6: each clause is one case of its command. -/
theorem eventAndCounterCommandsComplete : Obligations.EventAndCounterCommandsComplete :=
  ⟨fun _ _ _ _ _ hu ha => ⟨(exec_eventEdge ..).trans (execEventEdge_active false hu ha),
      (exec_eventEdge ..).trans (execEventEdge_active true hu ha)⟩,
    fun _ _ _ _ _ hw hl hu _ _ ho hk => (exec_polarityWrite ..).trans (execPolarityWrite_frees hw hl hu ho hk),
    fun _ _ _ hi ha hseen => (exec_staleScan ..).trans (execStaleScan_seen hi ha hseen),
    fun _ _ _ _ hw hl => (exec_evtFlagsClear ..).trans (execEvtFlagsClear_clears hw hl),
    fun _ _ _ _ _ hw he hq hsrc hg hg' hb => (exec_cntConfigWrite ..).trans (execCntConfigWrite_local hw he hq hsrc hg hg' hb),
    fun _ _ _ _ hw hsec => (exec_cntClear ..).trans (execCntClear_takes hw hsec),
    fun _ _ _ _ h => (exec_freeze ..).trans (execFreeze_taken h),
    fun _ _ _ hw => (exec_snapRelease ..).trans (execSnapRelease_allowed hw)⟩

end Sys2Proof.Machine
end

section
/-! Sensors, converters and margining (R93 to R99, R387): each command's meaning, an equation per case. -/

namespace Sys2Proof.Machine
open Sys2Proof

section
variable {s : State} {d : Die} {w : Writer}

/-! ### Converters and their sequences (R93, R94, R387) -/

/-- A thermal result at or below the limit raises no event, whatever stood there before. -/
theorem execConverterResult_thermal {u : State} {n : Fin 64} {v : Int}
    (hu : u = (s.setElem (.staris d) O.THERMAL_3030 2 n.val (ofSigned 16 v)).advanceSequence d n.val)
    (hlimit : toSigned 16 (ofSigned 16 v) ≤ toSigned 32 (s.rd (.staris d) O.THERMAL_LIMIT_3030)) :
    execConverterResult d (.thermal n v) s = .next u := by
  subst hu
  exact congrArg Host.Outcome.next (if_neg fun h => Int.not_lt.2 hlimit h.2)

theorem execRailConverterRephase_taken {t : State} {c : Fin 4} {a : FiredAction}
    (h : s.takeAction d 1 (some c.val) = some (a, t)) :
    execRailConverterRephase d c s = .next (t.rephase d c.val a.counter) := by
  rw [execRailConverterRephase, h]

theorem execConverterSequenceStart_taken {t : State} {c : Fin 4} {a : FiredAction}
    (h : s.takeAction d 1 (some (4 + c.val)) = some (a, t)) :
    execConverterSequenceStart d c s = .next (t.startSequence d c.val) := by
  rw [execConverterSequenceStart, h]

theorem execSequencePeriodRestart_periodic {c : Fin 4} (h : s.rd (.staris d) (O.SEQ_PERIOD_3040 c.val) ≠ 0) :
    execSequencePeriodRestart d c s = .next (s.startSequence d c.val) := if_neg h

/-! ### Droop comparators and canaries (R96, R97, R99) -/

theorem execDroopTrip_notBorrowed {u : State} {n : Fin 128} (hm : s.marginOn d 0 = false)
    (hu : u = s.setCap d { s.cap d with streams := (s.cap d).streams.map fun e =>
      (e.1, if e.2.kind = 6 ∧ e.2.index = n.val then { e.2 with trips := e.2.trips + 1 } else e.2) }) :
    execDroopTrip d n s = .next (((u.setObit (.staris d) O.DROOP_SEEN_3031 n.val true).setElem (.staris d) O.DROOP_LAST_3031 4
      n.val (u.ns (.staris d))).internalEvent d (0x1000 + n.val)) := by
  subst hu
  exact if_neg (by simp [hm])

theorem execCanaryFail_notSwept {n : Fin 256} (h : (s.cap d).sweeping ≠ some n.val) : execCanaryFail d n s =
    .next ((s.setObit (.staris d) O.CANARY_SEEN_3032 n.val true).internalEvent d (0x1080 + n.val)) := if_neg h

theorem execCanaryCodeWrite_set {l : List Nat} (hw : mayReach w true .operator = true) (hl : l.length ≤ 256) :
    execCanaryCodeWrite d w l s = .next (((s.writeOctets (.staris d) O.CANARY_CODE_3032 256 l).writeOctets (.staris d)
      O.CANARY_SEEN_3032 32 []).answer stOk) :=
  next_writeBy hw (if_neg (Nat.not_lt.2 hl))

/-! ### Margining (R98) -/

theorem execMarginPassStart_timing (hm : s.marginOn d 1 = true) (hs : (s.cap d).sweeping = none) :
    execMarginPassStart d .timing s =
      .next (s.setCap d { s.cap d with sweeping := some 0, tSearch := { code := 128, tries := 0 } }) :=
  if_pos (by rw [hm, hs]; rfl)

/-- A dwell before the eighth halves the search and leaves the margin unwritten. -/
theorem execMarginDwellEnd_searching {r : Fin 16} {tripped : Bool} {m : MarginSearch}
    (hr : Tbl.find (s.cap d).vSearch r.val = some m) (hm : s.marginOn d 0 = true) (ht : (m.step tripped).tries < 8) :
    execMarginDwellEnd d r tripped s =
      .next (s.setCap d { s.cap d with vSearch := Tbl.insert (s.cap d).vSearch r.val (m.step tripped) }) := by
  unfold execMarginDwellEnd
  simp only [hr]
  exact (if_pos hm).trans (if_pos ht)

theorem execMarginTimingProbeDone_searching {n : Fin 256} {passed : Bool} (hn : (s.cap d).sweeping = some n.val)
    (hm : s.marginOn d 1 = true) (ht : ((s.cap d).tSearch.step passed).tries < 8) : execMarginTimingProbeDone d n passed s =
      .next (s.setCap d { s.cap d with tSearch := (s.cap d).tSearch.step passed }) :=
  (if_pos hn).trans ((if_pos hm).trans (if_pos ht))

end

/-- Settles O7: each clause is one case of its command. -/
theorem sensorAndMarginCommandsComplete : Obligations.SensorAndMarginCommandsComplete :=
  ⟨fun _ _ _ _ _ hu hlimit => (exec_converterResult ..).trans (execConverterResult_thermal hu hlimit),
    fun _ _ _ _ _ => exec_converterResult ..,
    fun _ _ _ _ _ h => (exec_railConverterRephase ..).trans (execRailConverterRephase_taken h),
    fun _ _ _ _ _ h => (exec_converterSequenceStart ..).trans (execConverterSequenceStart_taken h),
    fun _ _ _ h => (exec_sequencePeriodRestart ..).trans (execSequencePeriodRestart_periodic h),
    fun _ _ _ _ hm hu => (exec_droopTrip ..).trans (execDroopTrip_notBorrowed hm hu),
    fun _ _ _ h => (exec_canaryFail ..).trans (execCanaryFail_notSwept h),
    fun _ _ _ _ hw hl => (exec_canaryCodeWrite ..).trans (execCanaryCodeWrite_set hw hl),
    fun _ _ hm hs => (exec_marginPassStart ..).trans (execMarginPassStart_timing hm hs),
    fun _ _ _ _ _ hr hm ht => (exec_marginDwellEnd ..).trans (execMarginDwellEnd_searching hr hm ht),
    fun _ _ _ _ hn hm ht => (exec_marginTimingProbeDone ..).trans (execMarginTimingProbeDone_searching hn hm ht)⟩

end Sys2Proof.Machine
end

section
/-! Streams and tensor dumps (R100 to R108): each command's meaning, an equation per case. -/

namespace Sys2Proof.Machine
open Sys2Proof

section
variable {s : State} {d : Die} {w : Writer}

/-! ### The start of periodic sampling and its samples (R103, R104) -/

theorem execStreamStartArm_allowed {b : Bool} (hw : mayReach w false .host = true) :
    execStreamStartArm d w b s = .next ((s.wr (.staris d) O.STREAM_START_ARM_3060 (ofBool b)).answer stOk) :=
  next_writeBy hw rfl

theorem execStreamStartReached_starts {u : State} (harm : s.rd (.staris d) O.STREAM_START_ARM_3060 = 1)
    (ht : s.tstate (.staris d) ≠ 5) (hr : reached (s.ns (.staris d)) (s.rd (.staris d) O.STREAM_START_3060) = true)
    (hu : u = s.wr (.staris d) O.STREAM_START_ARM_3060 0) :
    ∃ start : Int, start = s.nsLong d - (subMod 32 (s.ns (.staris d)) (s.rd (.staris d) O.STREAM_START_3060) : Nat) ∧
      execStreamStartReached d s = .next (u.setCap d { u.cap d with
        started := some start
        streams := (u.cap d).streams.map fun e =>
          (e.1, { e.2 with next := if e.2.period = 0 then 0 else nextSample start start e.2.phase e.2.period }) }) := by
  subst hu
  exact ⟨_, rfl, if_pos ⟨harm, ht, hr⟩⟩

theorem execStreamPeriodicSample_due {u v : State} {n : Fin 65536} {x : SStream} (hx : x = s.sstream d n.val)
    (he : x.enable = true) (hp : x.period ≠ 0) (hstart : (s.cap d).started.isSome = true) (ht : s.tstate (.staris d) ≠ 5)
    (hr : reached (s.ns (.staris d)) x.next = true)
    (hu : u = if 2000 < subMod 32 (s.ns (.staris d)) x.next then s.bump (.staris d) O.STREAM_LATE_3060 32 else s)
    (hv : v = u.setSstream d n.val { x with next := (x.next + 10000 * x.period) % 2 ^ 32 }) :
    execStreamPeriodicSample d n s = .next (v.takeRecord d n.val false) := by
  subst hv hu hx
  exact if_pos ⟨he, hp, hstart, ht, hr⟩

/-! ### A stream's enable, schedule and source (R100 to R103) -/

/-- A stream that is not fast takes no place among the fast ones as it is enabled. -/
theorem execStreamEnableWrite_slow {u : State} {n : Fin 65536} {x : SStream} (hw : mayReach w false .host = true)
    (hx : x = s.sstream d n.val) (hsec : w.secure = true ∨ s.globalSource d x.source = false)
    (hfast : fastPeriod x.period = false) (hu : u = s.setSstream d n.val { x with enable := true, byNs := !w.secure }) :
    execStreamEnableWrite d w n true s = .next (((u.rebase d n.val).schedule d n.val).answer stOk) := by
  subst hu hx
  have hworld : ¬ (w.secure = false ∧ s.globalSource d (s.sstream d n.val).source = true) := by
    rintro ⟨hns, hg⟩
    simp [hns, hg] at hsec
  have hcounts : (fastPeriod (s.sstream d n.val).period && !(s.sstream d n.val).enable) = false := by simp [hfast]
  refine next_writeBy hw ((if_pos rfl).trans ((if_neg hworld).trans ?_))
  rw [hcounts]
  rfl

/-- A disabled stream counts as fast neither before nor after. -/
theorem execStreamScheduleWrite_disabled {u : State} {n : Fin 65536} {x : SStream} {period phase : Nat}
    (hw : mayReach w false .host = true) (hx : x = s.sstream d n.val) (he : x.enable = false)
    (hu : u = s.setSstream d n.val { x with period := period % 2 ^ 16, phase := phase % 2 ^ 32 }) :
    execStreamScheduleWrite d w n period phase s = .next (((u.wr (.staris d) O.STREAM_FAST_COUNT_3060
      (s.rd (.staris d) O.STREAM_FAST_COUNT_3060)).schedule d n.val).answer stOk) := by
  subst hu hx
  refine next_writeBy hw ?_
  dsimp only
  rw [he]
  rfl

theorem execStreamSourceWrite_disabled {n : Fin 65536} {x : SStream} {value src : Nat} (hw : mayReach w false .host = true)
    (hx : x = s.sstream d n.val) (he : x.enable = false) (hsrc : src = fld 28 4 (value / 2 ^ 28) + value % 2 ^ 16)
    (hkind : bits src 31 28 < 9) (hindex : indexDefined (bits src 31 28) (bits src 15 0) = true) :
    execStreamSourceWrite d w n value s =
      .next (((s.setSstream d n.val { x with source := src, trips := 0 }).rebase d n.val).answer stOk) := by
  subst hsrc hx
  have hdisabled : ¬ ((s.sstream d n.val).enable = true ∧ w.secure = false ∧
      s.globalSource d (fld 28 4 (value / 2 ^ 28) + value % 2 ^ 16) = true) := by simp [he]
  exact next_writeBy hw ((if_neg (Nat.not_le.2 hkind)).trans ((if_neg ((Bool.not_eq_false _).mpr hindex)).trans (if_neg hdisabled)))

/-! ### Dump slots (R106, R108) -/

theorem execDumpArm_arms {u : State} {n : Fin 16} (hw : mayReach w false .host = true)
    (hsec : w.secure = true ∨ s.rd (.staris d) (O.DUMP_EPOCH_3070 n.val) ≠ 0)
    (hu : u = ((s.setDslot d n.val { s.dslot d n.val with triggered := false }).wr (.staris d) (O.DUMP_STATUS_3070 n.val) 0).wr
      (.staris d) (O.DUMP_BYTES_3070 n.val) 0) :
    execDumpArm d w n true s = .next ((u.dumpArmed d n.val true).answer stOk) := by
  subst hu
  have hworld : ¬ (w.secure = false ∧ s.rd (.staris d) (O.DUMP_EPOCH_3070 n.val) = 0) := by
    rintro ⟨hns, hz⟩
    simp [hns, hz] at hsec
  exact next_writeBy hw ((if_pos rfl).trans (if_neg hworld))

theorem execDumpTrigger_taken {t : State} {n : Fin 16} {a : FiredAction}
    (h : s.takeAction d 6 (some n.val) = some (a, t)) : execDumpTrigger d n s = .next (t.triggerDump d n.val) := by
  rw [execDumpTrigger, h]

theorem execDumpHoldExpiry_held {n : Fin 16} {c : DumpCopy} (hc : (s.dslot d n.val).copy = some c) (hh : c.held = true) :
    execDumpHoldExpiry d n s =
      .next ((s.setDslot d n.val { s.dslot d n.val with copy := some { c with held := false } }).dropHold d) := by
  unfold execDumpHoldExpiry
  simp only [hc]
  exact if_pos hh

/-- A copy that ends with all its data sends the dump whole, and is done once every granule of the message is taken. -/
theorem execDumpCopyEnd_sent {n : Fin 16} {c : DumpCopy} {l : List (Nat × Bool)} (hc : (s.dslot d n.val).copy = some c)
    (hwait : s.dumpWaits d n.val = false) (hskip : bitAt (s.rd (.staris d) (O.DUMP_STATUS_3070 n.val)) 5 = false)
    (hl : l.length = granulesOf c.bytes)
    (hsent : (s.dumpSend d n.val (s.dumpMessage d n.val c l) none).2 = l.length + 2) :
    execDumpCopyEnd d n l none s =
      .next ((s.dumpSend d n.val (s.dumpMessage d n.val c l) none).1.dumpDone d n.val c l.length) := by
  have hdata : (if bitAt (s.rd (.staris d) (O.DUMP_STATUS_3070 n.val)) 5 then [] else l.take (granulesOf c.bytes)) = l :=
    (if_neg (Bool.eq_false_iff.1 hskip)).trans (List.take_of_length_le hl.le)
  unfold execDumpCopyEnd
  simp only [hc, hdata]
  exact (if_neg (Bool.eq_false_iff.1 hwait)).trans (if_pos hsent)

end

/-- Settles O8: each clause is one case of its command; the dump is sent whole as its copy ends (log entry 24), and a written
source starts its trips at 0 while an enable keeps them (log entry 148). -/
theorem streamAndDumpCommandsComplete : Obligations.StreamAndDumpCommandsComplete :=
  ⟨fun _ _ _ _ hw => (exec_streamStartArm ..).trans (execStreamStartArm_allowed hw),
    fun s _ d harm ht hr hu => exec_streamStartReached d s ▸ execStreamStartReached_starts harm ht hr hu,
    fun _ _ _ _ _ _ hx he hp hstart ht hr hu hv =>
      (exec_streamPeriodicSample ..).trans (execStreamPeriodicSample_due hx he hp hstart ht hr hu hv),
    fun _ _ _ _ _ _ hw hx hsec hfast hu =>
      (exec_streamEnableWrite ..).trans (execStreamEnableWrite_slow hw hx hsec hfast hu),
    fun _ _ _ _ _ _ _ _ hw hx he hu => (exec_streamScheduleWrite ..).trans (execStreamScheduleWrite_disabled hw hx he hu),
    fun _ _ _ _ _ _ _ hw hx he hsrc hkind hindex =>
      (exec_streamSourceWrite ..).trans (execStreamSourceWrite_disabled hw hx he hsrc hkind hindex),
    fun _ _ _ _ _ hw hsec hu => (exec_dumpArm ..).trans (execDumpArm_arms hw hsec hu),
    fun _ _ _ _ _ h => (exec_dumpTrigger ..).trans (execDumpTrigger_taken h),
    fun _ _ _ _ hc hh => (exec_dumpHoldExpiry ..).trans (execDumpHoldExpiry_held hc hh),
    fun _ _ _ _ _ hc hwait hskip hl hsent => (exec_dumpCopyEnd ..).trans (execDumpCopyEnd_sent hc hwait hskip hl hsent)⟩

end Sys2Proof.Machine
end

section
/-! The Cleat register and jump instructions (R110, R111, R113): each one's effect on its own sequencer. -/

namespace Sys2Proof.Machine
open Sys2Proof

section
variable {s : State} {d : Die} {q : Fin 8} {x : Seq} {w : Nat}

/-- An instruction that is local to its sequencer replaces the sequencer alone (R111). -/
theorem State.runLocal_at {q op : Nat} (h : cleatAt s d q op x w) (f : Seq → Nat → Seq) :
    s.runLocal d q op f = s.setSeqr d q (f x w) :=
  State.runSeq_at h _

/-- A jump whose condition `c` is decided: fault 3 on a bad target, else the target or the next instruction (R111). -/
theorem Seq.jump_decide {c : Prop} [Decidable c] {b : Bool} (x : Seq) (w : Nat) (hb : b = true ↔ c) :
    x.jump w b = if iArg w / 256 ≠ 0 then x.fail 3 else if c then { x with pc := iArg w % 256 } else x.next := by
  simp only [Seq.jump, hb]

/-! ### Registers and state -/

theorem execHalt_halts (h : cleatAt s d q.val 0 x w) :
    execHalt d q s = .next (s.setSeqr d q.val { x with state := .halted }) :=
  congrArg Host.Outcome.next (State.runLocal_at h _)

theorem execNop_next (h : cleatAt s d q.val 1 x w) : execNop d q s = .next (s.setSeqr d q.val x.next) :=
  congrArg Host.Outcome.next (State.runLocal_at h _)

theorem execLdi_loads (h : cleatAt s d q.val 2 x w) :
    execLdi d q s = .next (s.setSeqr d q.val (x.setReg (iXa w) (iImm w)).next) :=
  congrArg Host.Outcome.next (State.runLocal_at h _)

theorem execAddi_adds (h : cleatAt s d q.val 3 x w) :
    execAddi d q s = .next (s.setSeqr d q.val (x.setReg (iXa w) (x.reg (iXa w) + iImm w)).next) :=
  congrArg Host.Outcome.next (State.runLocal_at h _)

theorem execMov_copies (h : cleatAt s d q.val 4 x w) :
    execMov d q s = .next (s.setSeqr d q.val (x.setReg (iXa w) (x.reg (iXb w))).next) :=
  congrArg Host.Outcome.next (State.runLocal_at h _)

theorem execRdtime_reads (h : cleatAt s d q.val 5 x w) :
    execRdtime d q s = .next (s.setSeqr d q.val (x.setReg (iXa w) (s.ns (.staris d))).next) :=
  congrArg Host.Outcome.next (State.runSeq_at h _)

theorem execRdcnt_reads (h : cleatAt s d q.val 6 x w) (hc : s.seqMayCount d q.val (iArg w) = true) :
    execRdcnt d q s = .next (s.setSeqr d q.val (x.setReg (iXa w) (s.ctr d (iArg w)).count).next) :=
  congrArg Host.Outcome.next ((State.runSeq_at h _).trans (congrArg (s.setSeqr d q.val) (if_pos hc)))

/-! ### Jumps -/

theorem execJmp_jumps (h : cleatAt s d q.val 0x10 x w) : execJmp d q s =
    .next (s.setSeqr d q.val (if iArg w / 256 ≠ 0 then x.fail 3 else { x with pc := iArg w % 256 })) :=
  congrArg Host.Outcome.next (State.runLocal_at h _)

theorem execJnz_jumps (h : cleatAt s d q.val 0x11 x w) : execJnz d q s = .next (s.setSeqr d q.val
    (if iArg w / 256 ≠ 0 then x.fail 3 else if x.reg (iXa w) ≠ 0 then { x with pc := iArg w % 256 } else x.next)) := by
  rw [← x.jump_decide w bne_iff_ne]
  exact congrArg Host.Outcome.next (State.runLocal_at h _)

/-- A bad target leaves XA as it was (log entry 25). -/
theorem execDjnz_jumps (h : cleatAt s d q.val 0x12 x w) : execDjnz d q s = .next (s.setSeqr d q.val
    (if iArg w / 256 ≠ 0 then x.fail 3
      else (x.setReg (iXa w) (x.reg (iXa w) + (2 ^ 32 - 1))).jump w
        ((x.setReg (iXa w) (x.reg (iXa w) + (2 ^ 32 - 1))).reg (iXa w) != 0))) :=
  congrArg Host.Outcome.next (State.runLocal_at h _)

theorem execJto_jumps (h : cleatAt s d q.val 0x13 x w) : execJto d q s = .next (s.setSeqr d q.val
    (if iArg w / 256 ≠ 0 then x.fail 3 else if x.timeout = true then { x with pc := iArg w % 256 } else x.next)) :=
  congrArg Host.Outcome.next (State.runLocal_at h _)

theorem execJlt_jumps (h : cleatAt s d q.val 0x14 x w) : execJlt d q s = .next (s.setSeqr d q.val
    (if iArg w / 256 ≠ 0 then x.fail 3
      else if 2 ^ 31 ≤ subMod 32 (x.reg (iXa w)) (x.reg (iXb w)) then { x with pc := iArg w % 256 } else x.next)) := by
  rw [← x.jump_decide w decide_eq_true_iff]
  exact congrArg Host.Outcome.next (State.runLocal_at h _)

/-! ### Every other opcode -/

theorem execReservedOpcode_fails (hx : x = s.seqr d q.val) (hrun : x.state = .running)
    (hop : iOp (s.instrAt d q.val x.pc) ∉ definedOps) : execReservedOpcode d q s = .next (s.setSeqr d q.val (x.fail 1)) := by
  subst hx
  exact if_pos ⟨hrun, hop⟩

end

/-- Settles O9: each clause is one case of its command; DJNZ to a bad target leaves XA as it was (log entry 25). -/
theorem cleatInstructionsComplete : Obligations.CleatInstructionsComplete :=
  ⟨fun _ _ _ _ _ h => (exec_halt ..).trans (execHalt_halts h),
    fun _ _ _ _ _ h => (exec_nop ..).trans (execNop_next h),
    fun _ _ _ _ _ h => (exec_ldi ..).trans (execLdi_loads h),
    fun _ _ _ _ _ h => (exec_addi ..).trans (execAddi_adds h),
    fun _ _ _ _ _ h => (exec_mov ..).trans (execMov_copies h),
    fun _ _ _ _ _ h => (exec_rdtime ..).trans (execRdtime_reads h),
    fun _ _ _ _ _ h hc => (exec_rdcnt ..).trans (execRdcnt_reads h hc),
    fun _ _ _ _ _ h => (exec_jmp ..).trans (execJmp_jumps h),
    fun _ _ _ _ _ h => (exec_jnz ..).trans (execJnz_jumps h),
    fun _ _ _ _ _ h => (exec_djnz ..).trans (execDjnz_jumps h),
    fun _ _ _ _ _ h => (exec_jto ..).trans (execJto_jumps h),
    fun _ _ _ _ _ h => (exec_jlt ..).trans (execJlt_jumps h),
    fun _ _ _ _ hx hrun hop => (exec_reservedOpcode ..).trans (execReservedOpcode_fails hx hrun hop)⟩

end Sys2Proof.Machine
end

section
/-! The trace sink, Vager's slices and the descriptor taps (R82, R106, R137 to R152): each command's meaning, an equation per
case. -/

namespace Sys2Proof.Machine
open Sys2Proof

section
variable {s : State} {d : Die} {w : Writer}

/-! ### The sink of a Staris (R137, R139, R145) -/

theorem execSinkGranuleWrite_empty (hq : (s.tr d).queue = []) : execSinkGranuleWrite d s = .next s := by
  unfold execSinkGranuleWrite
  simp only [hq]

theorem execSinkGranuleWrite_put {u : State} {g : TGran} {q : List TGran} (hq : (s.tr d).queue = g :: q)
    (hlen : 4 ≤ g.words.length) (hfault : s.rd (.staris d) O.SINK_FAULT_3400 ≠ 1) (hfreeze : (s.tr d).freezing = false)
    (htakes : s.sinkTakes d = true) (hput : s.sinkPut d g = some u) :
    execSinkGranuleWrite d s = .next (u.sinkAdvance d g) := by
  have hready : ¬ (g.words.length < 4 ∨ s.rd (.staris d) O.SINK_FAULT_3400 = 1 ∨ (s.tr d).freezing = true ∨
      s.sinkTakes d = false) := by
    simp [hlen, hfault, hfreeze, htakes]
  unfold execSinkGranuleWrite
  simp only [hq, hput]
  exact if_neg hready

theorem execSinkReset_frozen {u : State} (hw : mayReach w false .operator = true) (hf : (s.tr d).unit = .frozen)
    (hu : u = [O.WRITE_PTR_3450, O.WRAPPED_3450, O.SINK_FAULT_3400, O.TRIG_STATUS_3460, O.TRIG_TIME_3460, O.TRIG_OFFSET_3460,
      O.TRIG_PRE_BYTES_3460, O.TRIG_ARM_3460, O.WORDS_WRITTEN_3400].foldl (fun s k => s.wr (.staris d) k 0)
        (s.setTr d { s.tr d with unit := .idle, written := 0, post := none, trigAt := none, freezing := false })) :
    execSinkReset d w s = .next ((u.wr (.staris d) O.STAGE_PEAK_3440 (u.tr d).queue.length).answer stOk) := by
  subst hu
  have hstopped : ¬ ((s.tr d).unit == .running || (s.tr d).unit == .triggered) = true := by rw [hf]; decide
  exact next_writeBy hw (if_neg hstopped)

theorem execTraceCtlRx_full (h : (s.tr d).unit = .running ∨ (s.tr d).unit = .triggered) :
    execTraceCtlRx d s = .next (s.sinkFull d) := by
  refine if_pos ?_
  rcases h with h | h <;> simp [h]

/-! ### Vager's slices (R139, R142, R152) -/

theorem execTraceGranuleRx_discards {p : Die} {g : Nat} {poison : Bool}
    (h : s.rd .vager (O.SLICE_BYTES_3590 p.val) ≤ s.rd .vager (O.SLICE_WPTR_3590 p.val)) :
    execTraceGranuleRx p g poison s = .next (s.bump .vager (O.SLICE_DISCARDED_3590 p.val) 32) := if_pos h

/-- A granule that is not the slice's last one only moves the write pointer on. -/
theorem execTraceGranuleRx_lands {u v : State} {p : Die} {g : Nat} {poison : Bool}
    (h : s.rd .vager (O.SLICE_WPTR_3590 p.val) + 32 < s.rd .vager (O.SLICE_BYTES_3590 p.val))
    (hu : u = if poison = true then s.countPort O.TRACE_POISON_5080 p.val else s)
    (hv : v = (u.setHbm (u.sliceBase p + s.rd .vager (O.SLICE_WPTR_3590 p.val) / 32)
      { data := g % 2 ^ 256, poison := poison }).bump .vager (O.SLICE_GRANULES_3590 p.val) 64) :
    execTraceGranuleRx p g poison s =
      .next (v.wr .vager (O.SLICE_WPTR_3590 p.val) (s.rd .vager (O.SLICE_WPTR_3590 p.val) + 32)) := by
  subst hv hu
  have hroom := Nat.not_le.2 ((Nat.le_add_right _ 32).trans_lt h)
  have hlast := Nat.not_le.2 h
  exact (if_neg hroom).trans ((if_neg fun hwrap => hlast hwrap.1).trans (congrArg Host.Outcome.next (if_neg hlast)))

theorem execSliceConfigWrite_places {p : Die} {offset bytes : Nat} (hw : mayReach w false .operator = true)
    (ho : offset % 4096 = 0) (hb : bytes % 4096 = 0) (hregion : offset + bytes ≤ s.rd .vager O.TRACE_REGION_BYTES_3580)
    (hsel : s.rd (.staris p) O.SINK_SELECT_3450 ≠ 2)
    (hapart : ∀ q, q < 16 → q ≠ p.val →
      slicesMeet offset bytes (s.rd .vager (O.SLICE_OFFSET_3590 q)) (s.rd .vager (O.SLICE_BYTES_3590 q)) = false) :
    execSliceConfigWrite p w offset bytes s = .next (((s.wr .vager (O.SLICE_OFFSET_3590 p.val) offset).wr .vager
      (O.SLICE_BYTES_3590 p.val) bytes).answer stOk) := by
  have hmeets : ((List.range 16).any fun q => q != p.val &&
      slicesMeet offset bytes (s.rd .vager (O.SLICE_OFFSET_3590 q)) (s.rd .vager (O.SLICE_BYTES_3590 q))) = false := by
    simpa using hapart
  refine next_writeBy hw (if_neg ?_)
  rw [hmeets]
  simp [ho, hb, hregion, hsel]

theorem execSliceReset_allowed {p : Die} (hw : mayReach w false .operator = true) :
    execSliceReset p w s = .next ((((s.wr .vager (O.SLICE_WPTR_3590 p.val) 0).wr .vager (O.SLICE_WRAPPED_3590 p.val) 0).wr
      .vager (O.SLICE_FROZEN_3590 p.val) 0).answer stOk) :=
  next_writeBy hw rfl

/-! ### The descriptor taps (R82, R106) -/

theorem execDescriptorStart_acknowledges {u v x : State} {c : CdtWord}
    (hu : u = (s.setElem (.staris d) O.ENGINE_CONTEXT_3001 8 c.slot (contextEntry c)).endDescriptor d c)
    (hv : v = u.setCap d { u.cap d with descs := (u.cap d).descs ++
      [{ slot := c.slot, dseq := c.dseq, base := c.base, bytes := c.bytes, tag := c.tag, step := c.step, epoch := c.epoch,
         since := (u.die d).ticks }] })
    (hx : x = (v.tearDumps d c.base c.bytes).cutTorn d c) :
    execDescriptorStart d c s = .next ((x.shroudSelect d c).2.emit (.cdtAck d.val c.slot (x.shroudSelect d c).1)) := by
  unfold execDescriptorStart
  simp only [← hu, ← hv, ← hx]

theorem execDescriptorDone_acknowledges {u : State} {c : CdtWord} (hu : u = (s.endDescriptor d c).slotDone d c.slot) :
    execDescriptorDone d c s = .next ((((List.range 16).filter fun n => u.dumpMatches d n c).foldl
      (fun s n => s.dumpStart d n c) u).emit (.cdtAck d.val c.slot false)) := by
  subst hu
  rfl

end

/-- Settles O12: each clause is one case of its command. -/
theorem traceSinkCommandsComplete : Obligations.TraceSinkCommandsComplete :=
  ⟨fun _ _ hq => (exec_sinkGranuleWrite ..).trans (execSinkGranuleWrite_empty hq),
    fun _ _ _ _ _ hq hlen hfault hfreeze htakes hput =>
      (exec_sinkGranuleWrite ..).trans (execSinkGranuleWrite_put hq hlen hfault hfreeze htakes hput),
    fun _ _ _ _ hw hf hu => (exec_sinkReset ..).trans (execSinkReset_frozen hw hf hu),
    fun _ _ _ _ h => (exec_traceGranuleRx ..).trans (execTraceGranuleRx_discards h),
    fun _ _ _ _ _ _ h hu hv => (exec_traceGranuleRx ..).trans (execTraceGranuleRx_lands h hu hv),
    fun s p => exec_traceFreezeNoticeRx p s,
    fun _ _ h => (exec_traceCtlRx ..).trans (execTraceCtlRx_full h),
    fun _ _ _ _ _ hw ho hb hregion hsel hapart =>
      (exec_sliceConfigWrite ..).trans (execSliceConfigWrite_places hw ho hb hregion hsel hapart),
    fun _ _ _ hw => (exec_sliceReset ..).trans (execSliceReset_allowed hw),
    fun _ _ _ _ _ _ hu hv hx => (exec_descriptorStart ..).trans (execDescriptorStart_acknowledges hu hv hx),
    fun s _ d c hu => ⟨(exec_descriptorDone ..).trans (execDescriptorDone_acknowledges hu), exec_descriptorAbandon d c s⟩⟩

end Sys2Proof.Machine
end

section
/-! Trace sources, configurations and the trigger unit (R120 to R131, R136, R140, R145 to R148): each command's meaning, an
equation per case. -/

namespace Sys2Proof.Machine
open Sys2Proof

section
variable {s : State} {d : Die} {w : Writer} {n : Fin 256}

/-! ### Sources (R120 to R125, R146 to R148) -/

/-- A source emits where it is traced and its boundary says neither low power nor reset (R146 to R148). -/
theorem TSource.traced_and_not_quiet {x : TSource} (htraced : x.traced = true) (hquiet : x.quiet = false) :
    (x.traced && !x.quiet) = true := by rw [htraced, hquiet]; rfl

/-- No comparator is hit, so nothing stands between the trace word and the judgement of its source. -/
theorem execTraceWord_noHit {u v x : State} {c : Nat} {t : TrcWord}
    (hu : u = s.setTsrc d n.val { s.tsrc d n.val with
      cyc := (s.tsrc d n.val).cyc + c, addr := t.addr, sec := t.sec, priv := t.priv })
    (hclear : u.excluded d n.val = false) (hv : v = u.setTsrc d n.val { u.tsrc d n.val with clear := t.addr })
    (hmiss : ∀ a, a < 16 → sourceNamed (v.rd (.staris d) (O.ACMP_SOURCE_3420 a)) n.val = false ∨
      v.rd (.staris d) (O.ACMP_ADDR_3420 a) ≠ t.addr)
    (hx : x = v.retrace d n.val) (hquiet : (x.tsrc d n.val).quiet = false) :
    execTraceWord d n c t s = .next (if (x.tsrc d n.val).traced = true
      then x.traceWordPacket d n.val (x.ob (.staris d) O.SRC_KIND_3401 n.val) (s.tsrc d n.val).addr t else x) := by
  have hhits : ((List.range 16).filter fun a => sourceNamed (v.rd (.staris d) (O.ACMP_SOURCE_3420 a)) n.val &&
      v.rd (.staris d) (O.ACMP_ADDR_3420 a) == t.addr) = [] := by
    refine List.filter_eq_nil_iff.2 fun a ha => ?_
    rcases hmiss a (List.mem_range.1 ha) with h | h <;> simp [h]
  unfold execTraceWord
  simp only [← hu, hclear, Bool.false_eq_true, if_false, ← hv, hhits, List.foldl_nil, ← hx, hquiet, Bool.not_false,
    Bool.and_true]

theorem execCycleIdleLimit_emits (htraced : (s.tsrc d n.val).traced = true) (hquiet : (s.tsrc d n.val).quiet = false) :
    execCycleIdleLimit d n s = .next (s.syncAfterAtoms d n.val 5) :=
  congrArg Host.Outcome.next (if_pos (TSource.traced_and_not_quiet htraced hquiet))

theorem execTstampInterval_due (hmode : s.rd (.staris d) O.PENNANT_MODE_3400 = 1) (hidle : s.allIdle d = false) :
    execTstampInterval d s = .next (s.tstamp d) := if_pos ⟨hmode, hidle⟩

theorem execSourceLpEntry_untraced {u : State} {c : Nat} (htraced : (s.tsrc d n.val).traced = false)
    (hu : u = s.setTsrc d n.val { s.tsrc d n.val with cyc := (s.tsrc d n.val).cyc + c }) :
    execSourceLpEntry d n c s = .next ((u.setTsrc d n.val { u.tsrc d n.val with lowPower := true }).setObit
      (.staris d) O.SRC_LOW_POWER_3401 n.val true) := by
  have hsilent : ((s.tsrc d n.val).traced && !(s.tsrc d n.val).quiet) = false := by rw [htraced]; rfl
  unfold execSourceLpEntry
  simp only [← hu, hsilent, Bool.false_eq_true, if_false]

theorem execSourceLpEntry_emits {u v : State} {c : Nat} (htraced : (s.tsrc d n.val).traced = true)
    (hquiet : (s.tsrc d n.val).quiet = false)
    (hu : u = s.setTsrc d n.val { s.tsrc d n.val with cyc := (s.tsrc d n.val).cyc + c })
    (hv : v = (u.emitAfterAtoms d n.val fun cyc => lpEntryWord cyc n.val).1) :
    execSourceLpEntry d n c s = .next ((v.setTsrc d n.val { v.tsrc d n.val with lowPower := true }).setObit
      (.staris d) O.SRC_LOW_POWER_3401 n.val true) := by
  unfold execSourceLpEntry
  simp only [← hu, TSource.traced_and_not_quiet htraced hquiet, if_true, ← hv]

theorem execSourceLpExit_emits {u : State} (htraced : (s.tsrc d n.val).traced = true)
    (hlow : (s.tsrc d n.val).lowPower = true) (hreset : (s.tsrc d n.val).inReset = false)
    (hu : u = (s.setTsrc d n.val { s.tsrc d n.val with lowPower := false, cyc := 0 }).setObit (.staris d)
      O.SRC_LOW_POWER_3401 n.val false) :
    execSourceLpExit d n s = .next (u.emitSync d n.val 3).1 := by
  subst hu
  exact congrArg Host.Outcome.next (if_pos (by rw [htraced, hlow, hreset]; rfl))

/-! ### Configurations, mode, sink and trigger unit (R126, R127, R136, R140) -/

theorem execTraceConfigStart_taken {t : State} {c : Fin 4} {a : FiredAction} (h : s.takeAction d 4 (some c.val) = some (a, t)) :
    execTraceConfigStart d none c s = .next (t.startCfg d c.val).1 := by
  simp only [execTraceConfigStart, h]

theorem execTraceConfigStop_taken {t : State} {c : Fin 4} {a : FiredAction} (h : s.takeAction d 5 (some c.val) = some (a, t)) :
    execTraceConfigStop d none c s = .next (t.stopCfg d c.val) := by
  simp only [execTraceConfigStop, h]

theorem execTraceConfigStop_written {c : Fin 4} (hw : mayReach w false .operator = true) :
    execTraceConfigStop d (some w) c s = .next ((s.stopCfg d c.val).answer stOk) :=
  next_writeBy hw rfl

theorem execPennantModeWrite_outOfRange {v : Nat} (hw : mayReach w false .operator = true) (hv : ¬ v ≤ 1) :
    execPennantModeWrite d w v s = .next (s.answer stRange) :=
  next_writeBy hw (if_pos (Nat.not_le.1 hv))

theorem execPennantModeWrite_busy {v : Nat} (hw : mayReach w false .operator = true) (hv : v ≤ 1)
    (hidle : s.allIdle d = false) : execPennantModeWrite d w v s = .next (s.answer stRefused) :=
  next_writeBy hw ((if_neg (Nat.not_lt.2 hv)).trans (if_neg (Bool.eq_false_iff.1 hidle)))

theorem execPennantModeWrite_idle {v : Nat} (hw : mayReach w false .operator = true) (hv : v ≤ 1)
    (hidle : s.allIdle d = true) :
    execPennantModeWrite d w v s = .next ((s.wr (.staris d) O.PENNANT_MODE_3400 v).answer stOk) :=
  next_writeBy hw ((if_neg (Nat.not_lt.2 hv)).trans (if_pos hidle))

theorem execSinkSelectWrite_stopped {v : Nat} (hw : mayReach w false .operator = true) (hv : v ≤ 2)
    (hunit : (s.tr d).unit = .idle ∨ (s.tr d).unit = .frozen) : execSinkSelectWrite d w v s =
      .next (((s.wr (.staris d) O.SINK_SELECT_3450 v).dmaSettle (.staris d) 3).answer stOk) := by
  have hstopped : ((s.tr d).unit == .idle || (s.tr d).unit == .frozen) = true := by
    rcases hunit with h | h <;> simp [h]
  exact next_writeBy hw ((if_neg (Nat.not_lt.2 hv)).trans (if_pos hstopped))

theorem execTrigArm_allowed {b : Bool} (hw : mayReach w false .operator = true) :
    execTrigArm d w b s = .next ((s.setArmed d b).answer stOk) :=
  next_writeBy hw rfl

theorem execTrigForce_allowed (hw : mayReach w false .operator = true) :
    execTrigForce d w s = .next ((s.trigger d 2 0).answer stOk) :=
  next_writeBy hw rfl

end

/-- Settles O50: a value out of range and a busy configuration are each answered with their error; else the write is one write of
the object (`State.rd_wr`). -/
theorem traceModeNeedsEveryConfigurationIdle : Obligations.TraceModeNeedsEveryConfigurationIdle := by
  refine fun s d w v hw => ⟨fun hidle => ?_, fun hidle hv => ?_⟩
  · by_cases hv : v ≤ 1
    · rw [if_pos hv]
      exact (exec_pennantModeWrite ..).trans (execPennantModeWrite_busy hw hv hidle)
    · rw [if_neg hv]
      exact (exec_pennantModeWrite ..).trans (execPennantModeWrite_outOfRange hw hv)
  · refine ⟨_, (exec_pennantModeWrite ..).trans (execPennantModeWrite_idle hw hv hidle), ?_, fun q k => ?_⟩
    · rw [State.answer_out, State.wr_out]
    · rw [State.rd_answer, State.rd_wr]

/-- Settles O11: each clause is one case of its command. A TSTAMP is judged under the priority of source 0 (log entry 152). -/
theorem traceCommandsComplete : Obligations.TraceCommandsComplete :=
  ⟨fun _ _ _ _ _ _ _ _ hu hclear hv hmiss hx hquiet =>
      (exec_traceWord ..).trans (execTraceWord_noHit hu hclear hv hmiss hx hquiet),
    fun _ _ _ htraced hquiet => (exec_cycleIdleLimit ..).trans (execCycleIdleLimit_emits htraced hquiet),
    fun _ _ hmode hidle => (exec_tstampInterval ..).trans (execTstampInterval_due hmode hidle),
    fun _ _ _ _ _ htraced hu => (exec_sourceLpEntry ..).trans (execSourceLpEntry_untraced htraced hu),
    fun _ _ _ _ _ _ htraced hquiet hu hv =>
      (exec_sourceLpEntry ..).trans (execSourceLpEntry_emits htraced hquiet hu hv),
    fun _ _ _ _ htraced hlow hreset hu => (exec_sourceLpExit ..).trans (execSourceLpExit_emits htraced hlow hreset hu),
    fun s d n => ⟨exec_sourceReset d n s, exec_sourceResetExit d n s⟩,
    fun _ _ _ _ _ h => (exec_traceConfigStart ..).trans (execTraceConfigStart_taken h),
    fun _ _ _ _ _ h => (exec_traceConfigStop ..).trans (execTraceConfigStop_taken h),
    fun _ _ _ _ hw => (exec_traceConfigStop ..).trans (execTraceConfigStop_written hw),
    fun _ _ _ _ hw hv hidle => (exec_pennantModeWrite ..).trans (execPennantModeWrite_idle hw hv hidle),
    fun _ _ _ _ hw hv hunit => (exec_sinkSelectWrite ..).trans (execSinkSelectWrite_stopped hw hv hunit),
    fun _ _ _ _ hw =>
      ⟨(exec_trigArm ..).trans (execTrigArm_allowed hw), (exec_trigForce ..).trans (execTrigForce_allowed hw)⟩⟩

end Sys2Proof.Machine
end

section
/-! The recorder, the power domains and a remapped core (R148, R534 to R542, R556 to R562): each command's meaning, an equation per
case. -/

namespace Sys2Proof.Machine
open Sys2Proof

section
variable {s : State} {p : Part} {d : Die} {w : Writer}

/-! ### The recorder (R536, R537, R541, R542) -/

/-- A recorder that is not frozen yet notes when it freezes. -/
theorem execRecFreeze_thawed {u : State} (hw : mayReach w false .operator = true)
    (hthawed : s.rd .vager O.REC_FREEZE_7840 ≠ 1)
    (hu : u = (s.setRcd { s.rcd with frozenAt := s.vager.ticks }).wr .vager O.REC_FREEZE_7840 1) :
    execRecFreeze w s =
      .next ((if u.rd .vager O.REC_STATE_7840 = 0 then u.wr .vager O.REC_STATE_7840 1 else u).answer stOk) := by
  refine next_writeBy hw ?_
  simp only [if_neg hthawed, ← hu]

theorem execRecThaw_allowed (hw : mayReach w false .operator = true) : execRecThaw w s = .next (s.thaw.answer stOk) :=
  next_writeBy hw rfl

theorem execRecFreezeLimitExpiry_passed
    (h : s.rcd.frozenAt + 10 ^ 9 * s.rd .vager O.REC_FREEZE_LIMIT_7840 ≤ s.vager.ticks) :
    execRecFreezeLimitExpiry s = .next s.thaw := congrArg Host.Outcome.next (if_pos h)

theorem execRecClear_idle {n : Nat} (hw : mayReach w true .fleet = true) (h : s.rd .vager O.REC_STATE_7840 = 0) :
    execRecClear w n s =
      .next (((s.wr .vager O.REC_STATE_7840 2).setRcd { s.rcd with clearSerial := n % 2 ^ 48 }).answer stOk) :=
  next_writeBy hw (if_neg (not_not.2 h))

theorem execRecClear_busy {n : Nat} (hw : mayReach w true .fleet = true) (h : s.rd .vager O.REC_STATE_7840 ≠ 0) :
    execRecClear w n s = .next (s.answer stRefused) :=
  next_writeBy hw (if_pos h)

theorem execRecClearDone_erasing {u : State} (h : s.rd .vager O.REC_STATE_7840 = 2) (hu : u = s.setRcd s.rcd.cleared) :
    execRecClearDone s = .next ((u.wr .vager O.REC_STATE_7840 (u.rd .vager O.REC_FREEZE_7840)).recordV 0x0003
      s.rcd.ring.length (fld 48 48 s.rcd.clearSerial)).recorderGo := by
  subst hu
  exact if_neg (not_not.2 h)

theorem execOpHourBoundary_passed (h : hourLength ≤ s.vager.hourTicks) : execOpHourBoundary s =
    .next ((s.setVager { s.vager with hourTicks := s.vager.hourTicks - hourLength }).bump .vager O.OP_HOURS_7841 32) :=
  if_neg (Nat.not_lt.2 h)

/-! ### The power domains (R556 to R562) -/

theorem execDomainWakeDone_vager {i : Fin 32} (h : s.domainState .vager i.val = 5) :
    execDomainWakeDone .vager i s = .next (s.moveVager i.val 0) := congrArg Host.Outcome.next (if_pos h)

theorem execDomainWakeDone_staris {i : Fin 32} (hi : i.val < 4) (h : s.domainState (.staris d) i.val = 5) :
    execDomainWakeDone (.staris d) i s = .next (s.moveDie d i.val 0) := congrArg Host.Outcome.next (if_pos ⟨hi, h⟩)

theorem execWakeWrite_allowed {f : Fin 3} (hw : mayReach w false .host = true) : execWakeWrite p w f s =
    .next (((s.setPower p { s.power p with
      holds := Tbl.insert (s.power p).holds f.val (s.ticksOf p + s.wakeHold p) }).wakeFunction p f.val).answer stOk) :=
  next_writeBy hw rfl

theorem execWakeHoldExpiry_passed {f : Fin 3} {t : Nat} (hf : Tbl.find (s.power p).holds f.val = some t)
    (ht : t ≤ s.ticksOf p) : execWakeHoldExpiry p f s =
      .next (s.setPower p { s.power p with holds := Tbl.erase (s.power p).holds f.val }) := by
  simp only [execWakeHoldExpiry, hf, if_pos ht]

/-! ### A remapped core (R148, R579) -/

theorem execSpareCoreRemap_source {a b : Fin 256} {k : Fin 4} (h : bitAt k.val 0 = true) :
    execSpareCoreRemap d a b k s = .next ((s.sourceReset d a.val).sourceResetExit d a.val) := if_pos h

theorem execSpareCoreRemap_slot {a b : Fin 256} {k : Fin 4} (h : bitAt k.val 0 = false) :
    execSpareCoreRemap d a b k s = .next s := if_neg (Bool.eq_false_iff.1 h)

end

/-- Settles O36: each clause is one case of its command. -/
theorem recorderAndPowerCommandsComplete : Obligations.RecorderAndPowerCommandsComplete := by
  refine ⟨exec_recordNorWriteDone, exec_norSectorEraseDone, fun s u w hw hthawed hu => ?_,
    fun _ h => (exec_recFreezeLimitExpiry ..).trans (execRecFreezeLimitExpiry_passed h),
    fun _ _ _ hw => ⟨fun h => (exec_recClear ..).trans (execRecClear_idle hw h),
      fun h => (exec_recClear ..).trans (execRecClear_busy hw h)⟩,
    fun _ _ h hu => (exec_recClearDone ..).trans (execRecClearDone_erasing h hu),
    fun _ h => (exec_opHourBoundary ..).trans (execOpHourBoundary_passed h),
    fun s n l => exec_powerRevisit .vager n l s, fun s d n l => exec_powerRevisit (.staris d) n l s,
    fun _ _ h => (exec_domainWakeDone ..).trans (execDomainWakeDone_vager h),
    fun _ _ _ hi h => (exec_domainWakeDone ..).trans (execDomainWakeDone_staris hi h),
    fun _ _ _ _ hw => (exec_wakeWrite ..).trans (execWakeWrite_allowed hw),
    fun _ _ _ _ hf ht => (exec_wakeHoldExpiry ..).trans (execWakeHoldExpiry_passed hf ht),
    fun _ _ _ _ _ => ⟨fun h => (exec_spareCoreRemap ..).trans (execSpareCoreRemap_source h),
      fun h => (exec_spareCoreRemap ..).trans (execSpareCoreRemap_slot h)⟩⟩
  have hfreeze := (exec_recFreeze w s).trans (execRecFreeze_thawed hw hthawed hu)
  refine ⟨fun h => ?_, fun h => ?_, (exec_recThaw ..).trans (execRecThaw_allowed hw)⟩
  · rwa [if_pos h] at hfreeze
  · rwa [if_neg h] at hfreeze

end Sys2Proof.Machine
end
